-- ==== Sys2Proof/Word.lean ====
section
/-! DEFINITION. The plain word types of the manual's fields: bytes, 32-bit register words, and the bit patterns of
IEEE 754 numbers (R8, R217). -/

namespace Sys2Proof

/-- One byte of a buffer, a carriage or a frame. -/
abbrev Byte := BitVec 8

/-- One 32-bit register word. -/
abbrev Word := BitVec 32

/-- The bits of an IEEE 754 binary32 value: REAL (R111). -/
abbrev F32 := BitVec 32

/-- The bits of an IEEE 754 binary64 value: LREAL (R111, R220). -/
abbrev F64 := BitVec 64

end Sys2Proof
end

