-- ==== Sys2Proof/Syntax.lean ====
section
/-! DEFINITION. The commands of the block: one constructor of `Instr` per row of the table of operations and events,
with the row's operands.  A host command of the catalogue names the mailbox it runs in: its payload lies in that
mailbox (R474).  An event names what arrives from outside: a pin, a frame, a measured value, a lane's result. -/

namespace Sys2Proof

/-- The three lanes (R39). -/
inductive Lane where | a | b | c
deriving DecidableEq, Repr

/-- The two logic feeds (R28). -/
inductive Feed where | a | b
deriving DecidableEq, Repr

/-- A mailbox: one of the local host's sixteen, or one of the sixteen of a TLS session (R477). -/
inductive MbxId where
  | loc (n : Fin 16)
  | tls (session : Fin 8) (n : Fin 16)
deriving DecidableEq, Repr

/-- A session: each local mailbox is one, each TLS connection is one (R477). -/
inductive SessId where
  | loc (n : Fin 16)
  | tls (session : Fin 8)
deriving DecidableEq, Repr

/-- The register spaces a register write can name: BAR0, or an internal space of R521. -/
inductive RegSpace where | bar0 | pseq | coupler | loop | field | network | time | plinth | panel
deriving DecidableEq, Repr

/-- The kinds of clock demand (R17). -/
inductive ClkDemand where
  | doorbell | drawbar | recorderBurst | firmwareBlock | programBlock | tlsRecord | start | longCommand
deriving DecidableEq, Repr

/-- What an input item of CP1 is: a discrete item, a sample of a universal channel, a count of digital channel 0-3, or
a time read (R50, R51). -/
inductive ItemSrc where
  | discrete (id : Nat)
  | uc (ch : Fin 16)
  | count (ch : Fin 4)
  | time
deriving DecidableEq, Repr

/-- A lane's proposal for one item: bytes for a discrete item, an integer for counts and times, a number for analog
channel samples. -/
inductive ItemVal where
  | bytes (v : List Byte)
  | int (v : Int)
  | real (v : F64)
deriving DecidableEq, Repr

/-- One input item at CP1 with the proposals of the lanes present (R50). -/
structure CpItem where
  src : ItemSrc
  props : List (Lane × ItemVal)
deriving DecidableEq, Repr

/-- A physical output written in an output image: a digital channel's byte, or a universal channel's command (R263,
R280), with the scope that wrote it (R53): 0xFFFF is the control scope. -/
structure OutWrite where
  scope : Nat
  digital : Bool
  chan : Nat
  value : F64
deriving DecidableEq, Repr

/-- A dirty 64-byte line of a lane at the end of Execute: the scope that wrote it, its address and its contents (R53). -/
structure DirtyLine where
  scope : Nat
  addr : BitVec 32
  bytes : List Byte
deriving DecidableEq, Repr

/-- What one lane delivers at CP2: its dirty lines, over which its commit logic forms one 128-bit signature per scope; its output
image; and, at its first CP2 on a new program, the area signature of the task's instances (R53, R199). -/
structure LaneResult where
  lane : Lane
  lines : List DirtyLine
  outs : List OutWrite
  area : Option (BitVec 128)
deriving DecidableEq, Repr

/-- A committed write of a task to one own signal, by index, with the scope that wrote it: VALUE and STATUS, and RAW_VALUE and
TIMESTAMP where the source writes them itself (R93, R129, R134). -/
structure SigWrite where
  scope : Nat
  index : Nat
  value : BitVec 64
  status : Word
  raw : Option (BitVec 64)
  stamp : Option Nat
deriving DecidableEq, Repr

/-- The loop fields a program writes (R223). -/
inductive LoopField where | sp | modeReq | manOut
deriving DecidableEq, Repr

/-- A page that a scope wrote: its number and its contents. -/
structure PageWrite where
  scope : Nat
  page : Nat
  bytes : List Byte
deriving DecidableEq, Repr

/-- The write set released at CP3 (R41, R124): signals, alarm fields, loop fields, and the retained and instance pages written, each
with the scope that wrote it. -/
structure WriteSet where
  sigs : List SigWrite
  alarms : List (Nat × Nat × BitVec 16)
  loops : List (Nat × Nat × LoopField × F64)
  retained : List PageWrite
  instPages : List PageWrite
deriving DecidableEq, Repr

/-- The contribution of a late lane, checked against what was decided without it (R44). -/
inductive LateContribution where
  | proposals (items : List (ItemSrc × ItemVal))
  | result (r : LaneResult)
  | release
deriving DecidableEq, Repr

/-- Where a publication block came from (R332). -/
inductive PubSource where | own | partner | other
deriving DecidableEq, Repr

/-- An output that the dispatch unit sends: a node telegram or a CAN message object (R173). -/
inductive OutKey where
  | telegram (node : Fin 4096) (no : Fin 256)
  | canObject (c : Fin 8) (m : Fin 128)
deriving DecidableEq, Repr

/-- A CAN frame as received (R348). -/
structure CanFrame where
  ident : BitVec 29
  extended : Bool
  fd : Bool
  remote : Bool
  data : List Byte
deriving DecidableEq, Repr

/-- How a transmission ended (R350). -/
inductive TxOutcome where | sent | lostArbitration | error
deriving DecidableEq, Repr

/-- Why a port discarded a frame (R329, R331, R342). -/
inductive DiscardWhy where | fcs | vlan | fragment | rate | checksum
deriving DecidableEq, Repr

/-- The data of an Announce message that the comparison of datasets uses (R371). -/
structure PtpDataset where
  domain : Nat
  master : BitVec 64
  priority1 : Nat
  clockClass : Nat
  clockAccuracy : Nat
  variance : Nat
  priority2 : Nat
  grandmaster : BitVec 64
  stepsRemoved : Nat
  logSyncInterval : Int
  utcOffset : Int
  utcValid : Bool
deriving DecidableEq, Repr

/-- The content of a heartbeat (R429). -/
structure Heartbeat where
  seq : Nat
  state : Nat
  owner : BitVec 16
  reach : Nat
  imageId : BitVec 64
  activeImageId : BitVec 64
  fw : Word
  protocol : Nat
  mode : Nat
  pubLinksUp : Bool
  mgmtAlive : Bool
deriving DecidableEq, Repr

/-- The content of a hello (R424, R442, R444). -/
structure Hello where
  owner : BitVec 16
  position : Bool
  protocol : Nat
  signingKey : Bool
  credential : Bool
  lifecycle : Nat
  split : Bool
  active : Bool
deriving DecidableEq, Repr

/-- What an image entry does to its signal (R136, R146, R149, R162, R167, R181). -/
inductive EntryKind where
  /-- The source delivers a value, a status, its SOURCE word and a time; without one, the merge time. -/
  | source (value : BitVec 64) (status : Word) (src : Word) (stamp : Option Nat)
  /-- The source's status is replaced; its value stays (R176, R337). -/
  | status (status : Word) (stamp : Option Nat)
  /-- The source's status gets STALE and a reason; QUALITY BAD with it (R136, R170). -/
  | stale (reason : Nat) (bad : Bool)
  /-- A publication entry of a change block or of a refresh block (R162, R165). -/
  | mirror (refresh : Bool) (value : BitVec 64) (status : Word) (stamp : Nat)
  /-- A force or simulation is set from a slot of the force table (R181). -/
  | force (simulate : Bool) (value : BitVec 64) (status : Word)
  /-- A force or simulation is removed (R181). -/
  | unforce (simulate : Bool)
  /-- The host clears UNACKNOWLEDGED (R510). -/
  | ack
  /-- The station of the signal becomes SILENT, or LOST (R167). -/
  | station (lost : Bool)
deriving DecidableEq, Repr

/-- An image entry: the signal and what is done to it. -/
structure Entry where
  /-- Station × 2^20 + index. -/
  sig : Nat
  /-- What is done. -/
  kind : EntryKind
deriving DecidableEq, Repr

/-- A signal record as a catch-up copies it (R442): signal number, RAW_VALUE and the source's status, VALUE, STATUS, TIMESTAMP,
GENERATION, SOURCE and ALARM. -/
structure SignalCopy where
  sig : Nat
  raw : BitVec 64
  srcStatus : Word
  value : BitVec 64
  status : Word
  stamp : Nat
  gen : Nat
  source : Word
  alarm : BitVec 16
deriving DecidableEq, Repr

/-- A slot of the force table as a catch-up copies it (R442). -/
structure ForceCopy where
  handle : Word
  simulate : Bool
  value : BitVec 64
  status : Word
  setTime : Nat
  safety : Bool
deriving DecidableEq, Repr

/-- A task as a catch-up copies it: its state as R508 codes it, its cycle number and its next nominal release (R442). -/
structure TaskCopy where
  task : Fin 32
  state : Nat
  cycleNo : Nat
  next : Nat
deriving DecidableEq, Repr

/-- What the phases of a catch-up bring to the standby (R442). -/
inductive CatchupCopy where
  | hello
  | configuration (recs : List (Nat × Nat × List Byte)) (configId : Nat) (log : List (List Byte)) (forces : List ForceCopy)
  | program (active : List Byte) (maquette : Option (List Byte))
  | laneState (generation : Nat) (inst : List (Nat × List Byte)) (sigs : List SignalCopy) (tasks : List TaskCopy)
  | retained (pages : List (Nat × List Byte)) (loops : List (List Byte))
  | join
deriving DecidableEq, Repr

/-- Agreed inputs from the active module: a CP1 result of a task's cycle, or an image merge's entries (R430). -/
inductive AgreedInputs where
  | cycle (task : Fin 32) (cycleNo : Nat) (items : List (ItemSrc × ItemVal))
  | merge (generation : Nat) (entries : List Entry)
deriving DecidableEq, Repr

/-- A message of the configuration and control stream (R429). -/
inductive PairControl where
  | modeChange (mode : Nat)
  | configRecord (kind index : Nat) (data : List Byte)
  | configCommitted (configId : Nat)
  | force (handle : Word) (simulate : Bool) (value : BitVec 64) (status : Word)
  | unforce (handle : Word) (simulate : Bool)
  | changeLogEntry (e : List Byte)
  | maquette (image : List Byte)
  /-- A cast point, 0 while it is not fixed, with FLAGS of the exchange record (R206); bit 3: the exchange is abandoned. -/
  | castPoint (t flags : Nat)
  | panelUpdate (panel : Fin 2) (mode x y w h : Nat) (image : List Byte)
  | panelClean (panel : Fin 2) (x y w h : Nat) (reset : Bool)
  | panelWaveform (panel : Fin 2) (set : List Byte)
  | pubSequence (seq gen : Nat)
  | ownerCount (n : BitVec 16)
  | lifecycle (st : Nat)
  | plannedHandover (t : Nat)
  | resync
  /-- A tuning write: the loop, the time from which it applies, and offset and bytes of each field (R245). -/
  | loopTune (n t : Nat) (fields : List (Nat × List Byte))
  /-- A group apply: the loop, K, the mask and the snapshot of the shadows (R245). -/
  | loopApply (n k : Nat) (mask : BitVec 3) (snap : List Byte)
  /-- A repetitive reset: the loop and the time from which it applies (R245). -/
  | loopReset (n t : Nat)
  | timeStep (delta : Int) (at_ : Nat)
  | timeSession (session : BitVec 16)
deriving DecidableEq, Repr

/-- The commands of the block, one constructor per row of the table, in the table's order. -/
inductive Instr where
  -- the host commands of the catalogue (R493 to R526), each run from the mailbox that holds it
  | identGet (m : MbxId)
  | statusGet (m : MbxId)
  | healthMapGet (m : MbxId)
  | modeSet (m : MbxId)
  | modeGet (m : MbxId)
  | startRequest (m : MbxId)
  | cfgSessionOpen (m : MbxId)
  | cfgWrite (m : MbxId)
  | cfgRead (m : MbxId)
  | cfgCommit (m : MbxId)
  | cfgAbandon (m : MbxId)
  | tuneWrite (m : MbxId)
  | groupApply (m : MbxId)
  | progLoad (m : MbxId)
  | progVerify (m : MbxId)
  | progExchange (m : MbxId)
  | progStart (m : MbxId)
  | progStop (m : MbxId)
  | progHold (m : MbxId)
  | progStep (m : MbxId)
  | progResume (m : MbxId)
  | sigRead (m : MbxId)
  | sigWrite (m : MbxId)
  | sigForce (m : MbxId)
  | sigUnforce (m : MbxId)
  | sigSubscribe (m : MbxId)
  | sigBulkRead (m : MbxId)
  | loopStateGet (m : MbxId)
  | loopModeSet (m : MbxId)
  | loopRepReset (m : MbxId)
  | chanStatusGet (m : MbxId)
  | chanTest (m : MbxId) (pass : Bool) (measured : F32)
  | timeGet (m : MbxId)
  | timeStep (m : MbxId)
  | timeRate (m : MbxId)
  | rtcSet (m : MbxId)
  | rtcAlarmSet (m : MbxId)
  | backupRead (m : MbxId)
  | backupWrite (m : MbxId)
  | evtRead (m : MbxId)
  | evtClear (m : MbxId)
  | evtStats (m : MbxId)
  | updBegin (m : MbxId)
  | updBlock (m : MbxId)
  | updVerify (m : MbxId)
  | updActivate (m : MbxId)
  | updCancel (m : MbxId)
  | panelUpdate (m : MbxId)
  | panelStatus (m : MbxId)
  | panelWaveformLoad (m : MbxId)
  | panelClean (m : MbxId)
  | pairStatus (m : MbxId)
  | pairSwitchover (m : MbxId)
  | pairResync (m : MbxId)
  | authLogin (m : MbxId)
  | authLogout (m : MbxId)
  | safetyPasswordSet (m : MbxId)
  | changelogRead (m : MbxId)
  | changelogAck (m : MbxId)
  | lifecycleSet (m : MbxId)
  | ownerLock (m : MbxId)
  | diagRegRead (m : MbxId)
  | diagRegWrite (m : MbxId)
  | bistRun (m : MbxId) (failed : List Nat) (durationMs : Nat)
  | laneConfigSet (m : MbxId)
  | debugAttach (m : MbxId)
  -- the host interface (R467 to R491)
  | mbxSubmit (n : Fin 16)
  | mbxAck (n : Fin 16)
  | hostReset
  | flagWrite (k : Fin 4096) (v : Byte)
  | carriageDataWrite (addr : Nat) (data : List Byte)
  | mailboxBufferWrite (off : Nat) (data : List Byte)
  | irqEnableWrite (v : Word)
  | hiErrorsRead
  | tsnapLoRead
  | registerWrite (space : RegSpace) (off : Nat) (v : Word)
  | pcieLinkLoss
  | sessionTimeout (x : SessId)
  | tlsConnect (certOk : Bool)
  | tlsCommand (t : Fin 8) (mailbox : Byte) (body : List Byte)
  | tlsTransfer (t : Fin 8) (body : List Byte)
  | tlsKeepalive (t : Fin 8) (body : List Byte)
  | tlsKeepaliveSend (t : Fin 8)
  | tlsReceiveTimeout (t : Fin 8)
  | tlsConnectionClosed (t : Fin 8)
  | subscriptionIntervalExpiry (slot : Fin 8)
  -- power, clocks and pins (R17 to R30, R565, R572)
  | feedUndervoltage (f : Feed)
  | feedRestored (f : Feed)
  | powerFail
  | holdUpEnd
  | refFault (stillOutside : Bool)
  | laneRailFault (l : Lane)
  | laneFault (l : Lane)
  | mgmtClockDemand (k : ClkDemand)
  | mgmtClockFall
  | laneWake (l : Lane)
  | mergeWake
  | dieTemperature (t : BitVec 16) (heldLimit : Bool)
  | dieTempRepeat
  | resetN
  | mgmtWatchdogReset
  | manoeuvringInput (active : Bool)
  | ownerLockInput (active : Bool)
  | tckWhileClosed
  -- starts (R450 to R460, R424)
  | start (failed : List Nat) (lines : BitVec 10)
  | startDelayExpiry
  | bistGroupComplete (group : Fin 5) (failed : List Nat)
  | startTimeout
  | pairStartWaitExpiry
  -- tasks and lanes (R39 to R127)
  | taskRelease (t : Fin 32)
  | cp1Agree (t : Fin 32) (items : List CpItem) (present : List Lane) (shown : BitVec 3)
  | cp2Compare (t : Fin 32) (rs : List LaneResult) (shown : BitVec 3)
  | cp3Commit (t : Fin 32) (ws : WriteSet) (present : List Lane := [.a, .b, .c])
  | lateLaneCheck (t : Fin 32) (l : Lane) (k : LateContribution)
  | lagLimitExpiry (t : Fin 32) (l : Lane) (first : Nat := 0)
  | wcetExceeded (t : Fin 32)
  | deadlineOverrun (t : Fin 32)
  | passLimitExpiry (t : Fin 32)
  | exclusionCountAgeing (l : Lane)
  | resyncHoldExpiry (l : Lane)
  | firmwareReloadComplete (l : Lane)
  | dramClearComplete (l : Lane)
  | resyncCopyComplete
  | resyncSuspend
  | resyncResume
  -- the signal image and publication (R128 to R183); where the row names none, every lane delivers and none differs
  | mergeTick (present : List Lane := [.a, .b, .c]) (differs : List (Lane × Nat) := [])
  | pubBlockReceived (src : PubSource) (data : List Byte)
  | pubGapHoldExpiry (st : Fin 64)
  | pubChangeBlockClose
  | pubKeepalive
  | refreshBlock
  | pubSequenceStore
  | pubLagWarning
  | peerTimeout (st : Fin 64)
  | peerLossTime (st : Fin 64)
  | nodeTelegramReceived (net : Fin 2) (srcAddr : Word) (data : List Byte)
  | signalStaleTimeout (index : Nat) (lost : Bool)
  | outputRepeatExpiry (k : OutKey)
  | outputHoldoffExpiry (node : Fin 4096) (no : Fin 256)
  | takeoverFlagExpiry (node : Fin 4096)
  | nodeSilent (node : Fin 4096)
  -- Ethernet (R321 to R331)
  | arpRefresh
  | arpFrame (net : Fin 3) (request : Bool) (senderIp : Word) (senderMac : BitVec 48) (targetIp : Word)
  | igmpQuery (net : Fin 2)
  | icmpEchoRequest (net : Fin 3) (src : Word) (body : List Byte)
  | hsrRingFrame (p : Fin 2) (frame : List Byte) (ptpEvent : Bool) (residenceNs : Nat)
  | linkChange (p : Fin 4) (up : Bool) (speedOk : Bool)
  | supervisionFrame (p : Fin 4) (src : BitVec 48) (seq : BitVec 16) (otherLan : Bool)
  | supervisionSend
  | supervisionLoss (p : Fin 4)
  | dupTableForget (src : BitVec 48) (node : Bool)
  -- CAN (R344 to R355)
  | canFrameReceived (c : Fin 8) (f : CanFrame)
  | canLockRelease (c : Fin 8) (m : Fin 128)
  | canTxComplete (c : Fin 8) (o : TxOutcome)
  | canReferenceTime (c : Fin 8)
  | canWindowStart (c : Fin 8) (m : Fin 128)
  | canMasterResume (c : Fin 8)
  | canBusOff (c : Fin 8)
  | canBusoffRecovery (c : Fin 8)
  -- universal channels (R250 to R268)
  | conversionComplete (ch : Fin 16) (raw : F64) (aux : F64) (lead : F64) (atCompliance : Bool)
  | cjSample (n : Fin 2) (temp : F64)
  | ucOpenCircuitDetect (ch : Fin 16) (recovered : Bool)
  | testPulse (ch : Fin 16)
  | testPulseEnd (ch : Fin 16) (current : F64)
  | ucComplianceLowDetect (ch : Fin 16) (recovered : Bool)
  | ucShortCircuitDetect (ch : Fin 16) (recovered : Bool)
  | ucLoopSupplyLimit (ch : Fin 16)
  | converterRegulationFault (ch : Fin 16)
  | channelReconfigStep (ch : Fin 16)
  -- digital channels (R270 to R293)
  | digitalTransitionAccepted (ch : Fin 48)
  | stateWordSend (g : Fin 4)
  | digitalAlignment (g : Fin 4)
  | chatterClear (ch : Fin 48)
  | outputMismatchDetect (ch : Fin 48) (recovered : Bool)
  | switchShortCircuit (ch : Fin 48) (recovered : Bool)
  | switchRetry (ch : Fin 48)
  | groupOverloadShed (g : Fin 4) (largest : Fin 12) (currentMa : Nat)
  | openLoadDetect (ch : Fin 48) (recovered : Bool)
  | fsLowDetect (g : Fin 4) (recovered : Bool) (voltage : BitVec 16)
  | groupConverterFault (g : Fin 4)
  | encoderIndex (ch : Fin 4)
  | encoderRefEdge (ch : Fin 4)
  | periodEdge (ch : Fin 4)
  | countTimeout (ch : Fin 4)
  | digitalReconfigStep (ch : Fin 48)
  -- loops (R217 to R249)
  | loopSampleTick (n : Fin 256)
  | loopCopyDelivery (n : Fin 256) (l : Lane) (u : F64) (work : List Byte)
  | loopSampleDeadline (n : Fin 256)
  | loopCheckpointWrite
  | loopStateEntryReceived (e : List Byte)
  -- safety and security timers (R306, R316, R526)
  | degradedTimeExpiry (f : Fin 256)
  | passwordLockoutEnd
  | loginLockoutEnd (user : List Byte)
  -- retained state and the exchange (R121 to R127, R185 to R214)
  | retainedCommitClosed (t : Fin 32)
  | retentionLagWarning
  | preparationCaughtUp
  | standbyReadyAck
  | castAbandonDeadline
  | castPoint
  -- the time unit (R361 to R379)
  | timeWrap
  | timeNsRead
  | timeIncWrite (v : Word)
  | timeCtrlStep (ppsOutEn : Bool)
  | timeCtrlNewSession (step : Bool) (ppsOutEn : Bool)
  | tempRateExpiry
  | ptpAnnounce (p : Fin 4) (d : PtpDataset)
  | ptpSync (p : Fin 4) (seq : BitVec 16) (twoStep : Bool) (origin : Nat) (correction : Int) (rx : Word)
  | ptpFollowUp (p : Fin 4) (seq : BitVec 16) (origin : Nat) (correction : Int)
  | ptpDelayResp (p : Fin 4) (tx : Word) (received : Nat) (correction : Int)
  | syncTimeout
  | offsetQuiet
  | ppsEdge (stamp : Word)
  | ppsMissing
  | ref10Measure (ppb : Int)
  | ppsOutSecond
  | plinthReload
  | timeNotValidWarning
  | drawbarTime (theta : Int)
  | timeStreamStop
  -- the Plinth (R381 to R400)
  | rtcTicksLoRead
  | rtcCtrlLoadTicks
  | rtcCtrlLoadWday
  | rtcCtrlMarkLost
  | rtcLoadApply
  | rtcWrap
  | dayPhaseRollover
  | rtcAlarmMatch (n : Fin 2)
  | cellMeasurement (millivolts : Nat)
  | retentionMonitorTrip
  | plinthPowerOnReset
  -- the panels (R402 to R421)
  | panelFrameStart (p : Fin 2)
  | panelTempRead (p : Fin 2) (reading : Option (BitVec 16))
  | panelBandHold (p : Fin 2)
  | pwrGoodLow (p : Fin 2)
  | pwrGoodTimeout (p : Fin 2)
  | panelPowerOff (p : Fin 2)
  | panelCleanIdle (p : Fin 2)
  | panelCheckpointWritten (p : Fin 2) (id : Nat)
  -- the pair (R422 to R447)
  | heartbeatSend
  | heartbeatReceived (link : Fin 2) (h : Heartbeat)
  | heartbeatLoss
  | pairLiveToggle
  | pairLiveStale
  | pairActIChange (level : Bool)
  | activityConflict
  | fieldRefreshTimeout
  | demoteReceived (link : Fin 2)
  | demotionTakeoverTimeout
  | drawbarLinkChange (link : Fin 2) (up : Bool)
  | drawbarHello (link : Fin 2) (h : Hello)
  | agreedInputsReceived (i : AgreedInputs)
  | agreedInputsTimeout (t : Fin 32)
  | commitDigestReceived (t : Fin 32) (cycleNo : Nat) (sigs : List (Nat × BitVec 128)) (generation : Nat)
  | pairControlMessage (c : PairControl)
  | crossfadeStart
  | crossfadeStep
  | handoverTime
  | handoverEnd
  | verificationResume
  | catchupPhaseComplete (c : CatchupCopy)
  | catchupSuspend (restart : Bool)
  | outOfStepRetry
  | reachDemote
  -- the recorder (R527 to R544)
  | recorderWrite
  | floodSummary
  -- the remaining events, in the table's order
  | countEdge (ch : Fin 4) (down : Bool) (bothTracks : Bool) (tooFast : Bool)
  | digitalInputChange (ch : Fin 48) (level : Bool)
  | breakpointHalt (retired : Nat) (checker : Option Nat := none)
  | pairTimeStep
  | tlsKeyUpdate (t : Fin 8) (received : Bool)
  | canBusError (c : Fin 8) (err : Fin 8) (transmitter : Bool)
  | portFrameDiscard (p : Fin 4) (why : DiscardWhy)
  | pwrGoodRise (p : Fin 2) (confirmed : Bool)
  | perSecondCoalescing
deriving DecidableEq, Repr

end Sys2Proof
end

