-- ==== Sys2Proof/Machine/Bytes.lean ====
section
/-! DEFINITION. Bytes of messages and records: little-endian fields, naturally aligned (R8), two's complement integers,
bit fields, and the CRC-32C that records carry (R392). -/

namespace Sys2Proof.Machine

/-- The `n` low bytes of `v`, least significant first (R8). -/
def le (n v : Nat) : List Byte :=
  match n with
  | 0 => []
  | m + 1 => BitVec.ofNat 8 v :: le m (v / 256)

/-- The `n` low bytes of `v`, most significant first: the order of the fields that a standard defines (R8). -/
def be (n v : Nat) : List Byte := (le n v).reverse

/-- The number that bytes spell, least significant first (R8). -/
def unle : List Byte → Nat
  | [] => 0
  | b :: bs => b.toNat + 256 * unle bs

/-- `n` zero bytes: reserved bytes read as zero (R9). -/
def zeros (n : Nat) : List Byte := List.replicate n 0

/-- The `n` bytes at offset `off`; bytes beyond the end read as zero. -/
def slice (bs : List Byte) (off n : Nat) : List Byte :=
  let part := (bs.drop off).take n
  part ++ zeros (n - part.length)

/-- The unsigned little-endian field of `n` bytes at offset `off`. -/
def fld (bs : List Byte) (off n : Nat) : Nat := unle ((bs.drop off).take n)

/-- The byte at offset `off`. -/
def fld8 (bs : List Byte) (off : Nat) : Nat := fld bs off 1

/-- The 16-bit field at offset `off`. -/
def fld16 (bs : List Byte) (off : Nat) : Nat := fld bs off 2

/-- The 32-bit field at offset `off`. -/
def fld32 (bs : List Byte) (off : Nat) : Nat := fld bs off 4

/-- The 64-bit field at offset `off`. -/
def fld64 (bs : List Byte) (off : Nat) : Nat := fld bs off 8

/-- The 32-bit field at offset `off`, as bits. -/
def fldW (bs : List Byte) (off : Nat) : BitVec 32 := BitVec.ofNat 32 (fld32 bs off)

/-- The 64-bit field at offset `off`, as bits. -/
def fldL (bs : List Byte) (off : Nat) : BitVec 64 := BitVec.ofNat 64 (fld64 bs off)

/-- `n`-bit two's complement reading of a natural (R8). -/
def signed (bits v : Nat) : Int :=
  let w := v % 2 ^ bits
  if 2 * w < 2 ^ bits then (w : Int) else (w : Int) - (2 ^ bits : Nat)

/-- `n`-bit two's complement coding of an integer (R8). -/
def unsigned (bits : Nat) (v : Int) : Nat := (v % (2 ^ bits : Nat)).toNat

/-- Replaces the bytes at offset `off` by `new`, keeping the length. -/
def putAt (bs : List Byte) (off : Nat) (new : List Byte) : List Byte :=
  (slice bs 0 off ++ new ++ bs.drop (off + new.length)).take (max bs.length (off + new.length))

/-- The bits `[lo + n - 1 : lo]` of a number. -/
def bits (v lo n : Nat) : Nat := v / 2 ^ lo % 2 ^ n

/-- Bit `i` of a number. -/
def bit (v i : Nat) : Bool := v / 2 ^ i % 2 == 1

/-- A flag as a number. -/
def b2n (b : Bool) : Nat := if b then 1 else 0

/-- A flag placed at bit `i`. -/
def atBit (b : Bool) (i : Nat) : Nat := if b then 2 ^ i else 0

/-- A saturating count: one more, held at `top`. -/
def satInc (top n : Nat) : Nat := if n < top then n + 1 else n

/-- One bit of the CRC-32C shift. -/
def crcShift (c : BitVec 32) : BitVec 32 :=
  if c.getLsbD 0 then (c >>> 1) ^^^ 0x82F63B78#32 else c >>> 1

/-- One byte of the CRC-32C. -/
def crcByte (c : BitVec 32) (b : Byte) : BitVec 32 :=
  let x := c ^^^ b.setWidth 32
  crcShift (crcShift (crcShift (crcShift (crcShift (crcShift (crcShift (crcShift x)))))))

/-- CRC-32C, as BKP_0 carries it (R392). -/
def crc32c (bs : List Byte) : BitVec 32 := ~~~ (bs.foldl crcByte 0xFFFFFFFF#32)

end Sys2Proof.Machine
end

