-- ==== Sys2Proof/Config.lean ====
section
/-! DEFINITION. What the manual leaves open.  Every constant here is opaque: it has no body, so no proof can use a value of it,
and a claim holds whatever the hardware does there.  The functions stand for algorithms and standards that the manual names
and does not restate (FIPS 180-4, FIPS 186-5, Argon2id, IEC 60584-1, IEC 60751), and for content the manual does not make public. -/

namespace Sys2Proof.Config

/-- The n-th value the manual leaves open in a run: the state's counter numbers them. -/
opaque freeWord : Nat → BitVec 64

/-- The payload and sign of a NaN that arithmetic makes (IEEE 754 leaves them open). -/
opaque nanPayload : BitVec 64 → BitVec 64 → BitVec 64

/-- SHA-384 of bytes (R187, R546): the standard's function, not restated by the manual. -/
opaque sha384 : List Byte → BitVec 384

/-- ECDSA verification over P-384 with a provisioned key (R187, R548): key number, digest, signature. -/
opaque ecdsaVerify : Nat → BitVec 384 → List Byte → Bool

/-- The keyed 128-bit hash H_K of the comparison (R53); the change log's chain and the image identities use their own. -/
opaque hash128 : List Byte → BitVec 128

/-- Argon2id of a password with a salt (R316, R526). -/
opaque argon2id : List Byte → List Byte → BitVec 256

/-- The handles a task reads through the image: its program declares them (R144); the manual lays no form of them out. -/
opaque taskReads : List (Nat × Byte) → Nat → List Word

/-- The signals a task writes, as its program declares them (R144). -/
opaque taskWrites : List (Nat × Byte) → Nat → List Word

/-- The physical outputs a task writes, as its program declares them (R88, R299): the scope, whether digital, and the channel. -/
opaque taskOutputs : List (Nat × Byte) → Nat → List (Nat × Bool × Nat)

/-- The loop fields a task writes, as its program declares them (R88): the loop, and 0 setpoint, 1 mode, 2 manual output. -/
opaque taskLoopFields : List (Nat × Byte) → Nat → List (Nat × Nat)

/-- The code of a task in an image: the manual gives it no form (R192). -/
opaque taskCode : List (Nat × Byte) → Nat → List Byte

/-- The retained bytes a task declares that it writes, per millisecond (R126). -/
opaque taskRetainedRate : List (Nat × Byte) → Nat → Nat

/-- The temperature of a Pt100 or Pt1000 element of a resistance: IEC 60751, solved as R259 says. -/
opaque rtdTemperature : Bool → F64 → F64

/-- The reference function E of a thermocouple type, in µV: IEC 60584-1 (R261). -/
opaque tcVoltage : Nat → F64 → F64

/-- Its inverse (R261). -/
opaque tcTemperature : Nat → F64 → F64

/-- Whether a stored credential allows a role (R526, R578): the method of `AUTH_LOGIN`, user, secret and role.  Credentials are
provisioned by means the manual does not give. -/
opaque credentialAllows : Nat → List Byte → List Byte → Nat → Bool

end Sys2Proof.Config
end

