-- ==== Sys2Proof/Machine/Float.lean ====
section
/-! DEFINITION. IEEE 754 numbers by their bits (R111, R217, R220): binary64 arithmetic rounding to nearest, ties to even, on
exact values, and the conversions between binary32, binary64 and integers. -/

namespace Sys2Proof.Machine

/-- What the bits of a number stand for: a finite number is `m · 2 ^ e` with a sign. -/
inductive Fp where
  | nan
  | inf (neg : Bool)
  | fin (neg : Bool) (m : Nat) (e : Int)
deriving DecidableEq, Repr

/-- The value of binary64 bits. -/
def fp64 (x : F64) : Fp :=
  let s := x.getLsbD 63
  let e := (x >>> 52).toNat % 2048
  let m := x.toNat % 2 ^ 52
  if e = 2047 then (if m = 0 then .inf s else .nan)
  else if e = 0 then .fin s m (-1074)
  else .fin s (m + 2 ^ 52) ((e : Int) - 1075)

/-- The value of binary32 bits. -/
def fp32 (x : F32) : Fp :=
  let s := x.getLsbD 31
  let e := (x >>> 23).toNat % 256
  let m := x.toNat % 2 ^ 23
  if e = 255 then (if m = 0 then .inf s else .nan)
  else if e = 0 then .fin s m (-149)
  else .fin s (m + 2 ^ 23) ((e : Int) - 150)

/-- `m / 2 ^ k` rounded to nearest, ties to even. -/
def rneShift (m k : Nat) : Nat :=
  let q := m / 2 ^ k
  let r := m % 2 ^ k
  if 2 * r > 2 ^ k then q + 1
  else if 2 * r = 2 ^ k then q + q % 2
  else q

/-- The magnitude bits of `m · 2 ^ e` in a format with `p` mantissa bits below the hidden one, least exponent `emin` and
`inf` as infinity's bits, rounded to nearest, ties to even. -/
def packMag (p : Nat) (emin : Int) (infBits m : Nat) (e : Int) : Nat :=
  if m = 0 then 0
  else
    let len : Int := (Nat.log2 m : Int) + 1
    let e' := max (e + len - ((p : Int) + 1)) emin
    let mant := if e' ≤ e then m * 2 ^ (e - e').toNat else rneShift m (e' - e).toNat
    let raw := if mant < 2 ^ p then mant else (e' - emin).toNat * 2 ^ p + mant
    if raw ≥ infBits then infBits else raw

/-- The binary64 bits of a value; the payload of a NaN is the configuration's. -/
def pack64 (pay : BitVec 64) : Fp → F64
  | .nan => 0x7FF8000000000000#64 ||| (pay &&& 0x8007FFFFFFFFFFFF#64)
  | .inf s => (if s then 0xFFF0000000000000#64 else 0x7FF0000000000000#64)
  | .fin s m e => BitVec.ofNat 64 (packMag 52 (-1074) (2047 * 2 ^ 52) m e + (if s then 2 ^ 63 else 0))

/-- The binary32 bits of a value. -/
def pack32 (pay : BitVec 64) : Fp → F32
  | .nan => 0x7FC00000#32 ||| (pay.setWidth 32 &&& 0x803FFFFF#32)
  | .inf s => (if s then 0xFF800000#32 else 0x7F800000#32)
  | .fin s m e => BitVec.ofNat 32 (packMag 23 (-149) (255 * 2 ^ 23) m e + (if s then 2 ^ 31 else 0))

/-- A signed mantissa. -/
def fpInt (neg : Bool) (m : Nat) : Int := if neg then -(m : Int) else (m : Int)

/-- A value from a signed mantissa; `zneg` is the sign a zero takes. -/
def fpOfInt (zneg : Bool) (v e : Int) : Fp :=
  if v = 0 then .fin zneg 0 0 else .fin (decide (v < 0)) v.natAbs e

/-- Exact sum. -/
def fpAdd : Fp → Fp → Fp
  | .nan, _ => .nan
  | _, .nan => .nan
  | .inf a, .inf b => if a = b then .inf a else .nan
  | .inf a, .fin .. => .inf a
  | .fin .., .inf b => .inf b
  | .fin s m e, .fin t n f =>
    let g := min e f
    fpOfInt (s && t) (fpInt s m * 2 ^ (e - g).toNat + fpInt t n * 2 ^ (f - g).toNat) g

/-- The opposite. -/
def fpNeg : Fp → Fp
  | .nan => .nan
  | .inf a => .inf (!a)
  | .fin s m e => .fin (!s) m e

/-- Exact product. -/
def fpMul : Fp → Fp → Fp
  | .nan, _ => .nan
  | _, .nan => .nan
  | .inf a, .inf b => .inf (a != b)
  | .inf a, .fin s m _ => if m = 0 then .nan else .inf (a != s)
  | .fin s m _, .inf b => if m = 0 then .nan else .inf (b != s)
  | .fin s m e, .fin t n f => .fin (s != t) (m * n) (e + f)

/-- A quotient with enough bits, and the last one sticky, to round rightly in binary64 and binary32. -/
def fpDiv : Fp → Fp → Fp
  | .nan, _ => .nan
  | _, .nan => .nan
  | .inf _, .inf _ => .nan
  | .inf a, .fin s _ _ => .inf (a != s)
  | .fin s _ _, .inf b => .fin (s != b) 0 0
  | .fin s m e, .fin t n f =>
    if n = 0 then (if m = 0 then .nan else .inf (s != t))
    else
      let k := Nat.log2 n + 70
      let num := m * 2 ^ k
      let q := num / n
      .fin (s != t) (2 * q + (if num % n = 0 then 0 else 1)) (e - f - k - 1)

/-- Whether `a < b`; false when either is a NaN. -/
def fpLt : Fp → Fp → Bool
  | .nan, _ => false
  | _, .nan => false
  | .inf a, .inf b => a && !b
  | .inf a, .fin .. => a
  | .fin .., .inf b => !b
  | .fin s m e, .fin t n f =>
    let g := min e f
    decide (fpInt s m * 2 ^ (e - g).toNat < fpInt t n * 2 ^ (f - g).toNat)

/-- Whether `a ≤ b`; false when either is a NaN. -/
def fpLe (a b : Fp) : Bool := a != .nan && b != .nan && !fpLt b a

/-- binary64 sum. -/
def fadd (a b : F64) : F64 := pack64 (Config.nanPayload a b) (fpAdd (fp64 a) (fp64 b))
/-- binary64 difference. -/
def fsub (a b : F64) : F64 := pack64 (Config.nanPayload a b) (fpAdd (fp64 a) (fpNeg (fp64 b)))
/-- binary64 product. -/
def fmul (a b : F64) : F64 := pack64 (Config.nanPayload a b) (fpMul (fp64 a) (fp64 b))
/-- binary64 quotient. -/
def fdiv (a b : F64) : F64 := pack64 (Config.nanPayload a b) (fpDiv (fp64 a) (fp64 b))
/-- The opposite: the sign bit inverted. -/
def fneg (a : F64) : F64 := a ^^^ 0x8000000000000000#64
/-- The magnitude: the sign bit cleared. -/
def fabs (a : F64) : F64 := a &&& 0x7FFFFFFFFFFFFFFF#64
/-- Whether `a < b`. -/
def flt (a b : F64) : Bool := fpLt (fp64 a) (fp64 b)
/-- Whether `a ≤ b`. -/
def fle (a b : F64) : Bool := fpLe (fp64 a) (fp64 b)
/-- Whether the values are equal: both zeros are. -/
def feq (a b : F64) : Bool := fle a b && fle b a
/-- The lesser of two. -/
def fmin (a b : F64) : F64 := if flt b a then b else a
/-- The greater of two. -/
def fmax (a b : F64) : F64 := if flt a b then b else a
/-- `x` held within `lo` and `hi`. -/
def fclamp (lo hi x : F64) : F64 := if flt x lo then lo else if flt hi x then hi else x
/-- Whether the number is finite. -/
def ffinite (a : F64) : Bool := match fp64 a with | .fin .. => true | _ => false
/-- Whether the number is a NaN. -/
def fnan (a : F64) : Bool := match fp64 a with | .nan => true | _ => false
/-- Widening: exact (R220). -/
def widen (x : F32) : F64 := pack64 (Config.nanPayload (x.setWidth 64) 0) (fp32 x)
/-- Narrowing, rounded to nearest (R220). -/
def narrow (x : F64) : F32 := pack32 (Config.nanPayload x 1) (fp64 x)
/-- An integer as binary64, rounded to nearest. -/
def fofInt (v : Int) : F64 := pack64 0 (fpOfInt false v 0)
/-- The quotient of two integers as binary64, rounded to nearest; a zero divisor gives 0. -/
def fofRatio (n : Int) (d : Nat) : F64 :=
  if d = 0 then 0 else pack64 0 (fpDiv (fpOfInt false n 0) (.fin false d 0))
/-- The integer nearest to a finite number, ties to even; `none` for a number that is not finite. -/
def fround (x : F64) : Option Int :=
  match fp64 x with
  | .fin s m e =>
    let v := if 0 ≤ e then m * 2 ^ e.toNat else rneShift m (-e).toNat
    some (if s then -(v : Int) else v)
  | _ => none
/-- The integer part toward minus infinity of a finite number. -/
def ffloor (x : F64) : Option Int :=
  match fp64 x with
  | .fin s m e =>
    let v := fpInt s m
    some (if 0 ≤ e then v * 2 ^ e.toNat else v / (2 ^ (-e).toNat : Nat))
  | _ => none

end Sys2Proof.Machine
end

