-- ==== Sys2Proof/Machine/Tab.lean ====
section
/-! DEFINITION. Sparse tables: the one form in which the model holds sparse data by number (bytes of a buffer,
records of an image, tasks, loops, objects).  A table lists (index, value) pairs with strictly rising indices and lists
no value equal to what an unlisted index reads as, so that equal tables are equal data. -/

namespace Sys2Proof.Machine

/-- A sparse table of values by index. -/
abbrev Tab (α : Type) := List (Nat × α)

/-- A byte memory: an unlisted byte reads as zero (the window and the buffers are zeroed when opened, R484). -/
abbrev Mem := Tab Byte

/-- The value at index `k`, `d` where none is listed. -/
def tabGet {α : Type} (d : α) : Tab α → Nat → α
  | [], _ => d
  | (j, w) :: t, k => if j = k then w else tabGet d t k

/-- Puts a listed value at index `k`. -/
def tabInsert {α : Type} (k : Nat) (v : α) : Tab α → Tab α
  | [] => [(k, v)]
  | (j, w) :: t =>
    if k < j then (k, v) :: (j, w) :: t
    else if k = j then (k, v) :: t
    else (j, w) :: tabInsert k v t

/-- Removes index `k`. -/
def tabErase {α : Type} (k : Nat) : Tab α → Tab α
  | [] => []
  | (j, w) :: t => if j = k then t else (j, w) :: tabErase k t

/-- Writes index `k`, keeping the canonical form: the value an unlisted index reads as is not listed. -/
def tabSet {α : Type} [DecidableEq α] (d : α) (t : Tab α) (k : Nat) (v : α) : Tab α :=
  if v = d then tabErase k t else tabInsert k v t

/-- Changes the value at index `k`. -/
def tabMod {α : Type} [DecidableEq α] (d : α) (t : Tab α) (k : Nat) (f : α → α) : Tab α :=
  tabSet d t k (f (tabGet d t k))

/-- Whether the table is in its canonical form: indices strictly rising from at least `lo`, and no value listed that an
unlisted index reads as. -/
def tabWfFrom {α : Type} [DecidableEq α] (d : α) : Nat → Tab α → Bool
  | _, [] => true
  | lo, (j, w) :: t => decide (lo ≤ j) && decide (w ≠ d) && tabWfFrom d (j + 1) t

/-- The canonical form of a table. -/
def tabWf {α : Type} [DecidableEq α] (d : α) (t : Tab α) : Bool := tabWfFrom d 0 t

/-- Changes every listed value, dropping those that become what an unlisted index reads as. -/
def tabMap {α : Type} [DecidableEq α] (d : α) (f : Nat → α → α) : Tab α → Tab α
  | [] => []
  | (j, w) :: t => if f j w = d then tabMap d f t else (j, f j w) :: tabMap d f t

/-- Keeps the listed values whose index satisfies `p`. -/
def tabKeep {α : Type} (p : Nat → Bool) : Tab α → Tab α
  | [] => []
  | (j, w) :: t => if p j then (j, w) :: tabKeep p t else tabKeep p t

/-- Writes values at consecutive indices from `k`. -/
def tabSetList {α : Type} [DecidableEq α] (d : α) (t : Tab α) (k : Nat) : List α → Tab α
  | [] => t
  | v :: vs => tabSetList d (tabSet d t k v) (k + 1) vs

/-- The `n` values from index `k`. -/
def tabGetList {α : Type} (d : α) (t : Tab α) (k : Nat) : Nat → List α
  | 0 => []
  | n + 1 => tabGet d t k :: tabGetList d t (k + 1) n

/-- Of a list with the newest first, what is younger than a minute at module time `t` (in nanoseconds), and the newest of what is
older. -/
def keptRecent {α : Type} (f : α → Nat) (t : Nat) : List α → List α
  | [] => []
  | x :: xs => if t < f x + 60000000000 then x :: keptRecent f t xs else [x]

/-- The byte at address `a` of a memory. -/
def memRead (m : Mem) (a : Nat) : Byte := tabGet 0 m a

/-- Writes one byte. -/
def memWrite (m : Mem) (a : Nat) (b : Byte) : Mem := tabSet 0 m a b

/-- The `n` bytes from address `a`. -/
def memReadN (m : Mem) (a n : Nat) : List Byte := tabGetList 0 m a n

/-- Writes bytes from address `a`. -/
def memWriteN (m : Mem) (a : Nat) (bs : List Byte) : Mem := tabSetList 0 m a bs

/-- Zeroes `n` bytes from address `a`. -/
def memZero (m : Mem) (a n : Nat) : Mem := tabKeep (fun j => decide (j < a) || decide (a + n ≤ j)) m

/-- The canonical form of a memory. -/
def memWf (m : Mem) : Bool := tabWf 0 m

end Sys2Proof.Machine
end

