-- ==== Sys2Proof/Machine/UnitsCore.lean ====
section
/-! DEFINITION. The state of the lanes, the Coupler, the tasks, the signal image and the programs, as plain data. -/

namespace Sys2Proof.Machine

/-! ## Lanes and the Coupler (R39 to R84) -/

/-- The lane configurations, coded in `CPL_STATUS.CONFIG` (R70, R81). -/
inductive LaneConfig where | triplex | duplex | split
deriving DecidableEq, Repr

/-- The lane states (R63). -/
inductive LaneState where
  | off | inVote | excluded | resync | rejoinPending | spare | withdrawn | independent | sole | unusable
deriving DecidableEq, Repr

/-- How far an excluded lane has been brought back (R65). -/
inductive BringUp where
  /-- Unpowered: held for 5 ms, or until a source lane exists. -/
  | held
  /-- Rail on, firmware reloading. -/
  | reload
  /-- DRAM clearing. -/
  | clearing
  /-- DRAM cleared, waiting to enter RESYNC; lanes wait in this order. -/
  | cleared (order : Nat)
deriving DecidableEq, Repr

/-- One lane as the Coupler sees it. -/
structure LaneUnit where
  /-- State, 4 bits in `CPL_STATUS` (R63, R81). Reset OFF. -/
  st : LaneState
  /-- Module times of its exclusions in the last 24 h; the count is `CPL_EXCLUSIONS.EXCL` (R61, R82). Reset none (R82: 0 until restored). -/
  exclusions : List Nat
  /-- `BIST_RUN` of the lane has passed since it became UNUSABLE (R61). Reset false. -/
  bistPassed : Bool
  /-- How far it is brought back while EXCLUDED (R65). Reset held. -/
  bring : BringUp
  /-- Module time of its exclusion, from which the 5 ms count (R65), or of its entry to REJOIN_PENDING, after which its loop copies vote
  (R231). Reset 0. -/
  since : Nat
  /-- The task that each of its four cores runs; core 0 is the reserved core (R89, R90). Reset none. -/
  core : Vector (Option Nat) 4
deriving DecidableEq, Repr

/-- A debugger attachment (R77 to R80, R525). -/
structure Debug where
  /-- Session that attached. -/
  session : SessId
  /-- The task named. -/
  task : Nat
  /-- The lane named, in triplex (R80). -/
  lane : Option Lane
  /-- The replay journal: task, cycle number, kind of action and retired-instruction count of each (R78). -/
  journal : List (Nat × Nat × Nat × Nat)
  /-- The debugged task is halted (R79). -/
  halted : Bool
  /-- A step of this many instructions is in progress (R78). -/
  stepping : Option Nat
  /-- Breakpoints set, as code offsets (R525). -/
  breakpoints : List Nat
  /-- The instance area of the withdrawn lane, which the debugger writes freely (R80); unused in duplex. -/
  mem : Mem
deriving DecidableEq, Repr

/-- A discrete input in the intake (R48). -/
structure IntakeInput where
  /-- Sequence number, 64 bits. -/
  seq : Nat
  /-- Module time of arrival. -/
  arrival : Nat
  /-- Contents. -/
  data : List Byte
deriving DecidableEq, Repr

/-- The Coupler (R39 to R84). -/
structure Coupler where
  /-- `CPL_STATUS.CONFIG`, 2 bits (R81). Reset triplex. -/
  config : LaneConfig
  /-- The configuration `LANE_CONFIG_SET` requested last, which a start takes (R61). Reset triplex (DESIGN CHOICE, log 3). -/
  requested : LaneConfig
  /-- The spare named in `LANE_CONFIG_SET` (R71). Reset none. -/
  namedSpare : Option Lane
  /-- `CPL_STATUS.HANDOVER` (R81). Reset 0. -/
  handover : Bool
  /-- The configuration a hand-over in progress leaves (R74, R75). Reset triplex. -/
  old : LaneConfig
  /-- `CPL_STATUS.COUPLER_FAULT`, W1C (R81). Reset 0. -/
  fault : Bool
  /-- `CPL_STATUS.MAIN_LANE`, 2 bits (R81). Reset A. -/
  main : Lane
  /-- `CPL_STATUS.SPARE_LANE`, 2 bits, 0b11 none (R81). Reset none. -/
  spare : Option Lane
  /-- `CPL_STATUS.UNRESOLVED`, 8 bits, saturating (R81). Reset 0. -/
  unresolved : BitVec 8
  /-- The lanes A, B, C (R63). -/
  lane : Vector LaneUnit 3
  /-- `CPL_RESYNC.TARGET`, 2 bits (R83). Reset A. -/
  target : Lane
  /-- `CPL_RESYNC.SOURCE`, 2 bits (R83). Reset A. -/
  source : Lane
  /-- `CPL_RESYNC.ACTIVE` (R83). Reset 0. -/
  active : Bool
  /-- `CPL_RESYNC.SUSPENDED` (R83). Reset 0. -/
  suspended : Bool
  /-- `CPL_RESYNC.PROGRESS`, 10 bits, per mille (R83). Reset 0. -/
  progress : BitVec 10
  /-- Lanes that completed step 3 of R65 so far, which numbers their order. Reset 0. -/
  cleared : Nat
  /-- Module time of the last unresolved mismatch (R59). Reset none. -/
  lastUnresolved : Option Nat
  /-- The intake sequence number, 64 bits (R48). Reset 0. -/
  intakeSeq : Nat
  /-- The debugger attachment (R77). Reset none. -/
  attach : Option Debug
  /-- The polarity that the next match of the whiffletree's comparators A–B, B–C and C–A must show (R54). Reset 0 (DESIGN CHOICE, log 3). -/
  pol1 : BitVec 3
  /-- The same of the CP2 comparators (R54). Reset 0 (DESIGN CHOICE, log 3). -/
  pol2 : BitVec 3
  /-- K, the key of the lanes' signatures, drawn at each start, 128 bits (R53). Reset 0 (DESIGN CHOICE, log 3). -/
  key : BitVec 128
  /-- The intake copies of the lanes A, B and C: the entries of each discrete item, newest first (R16, R48, R49). Reset none. -/
  copies : Vector (Tab (List IntakeInput)) 3
  /-- Module time at which the present copy started (R67, R83). Reset 0. -/
  copyStart : Nat
  /-- Bytes forwarded by the commit stream since the copy started (R67, R68). Reset 0. -/
  stream : Nat
deriving DecidableEq, Repr

/-! ## Tasks (R85 to R127) -/

/-- The classes of tasks (R85). -/
inductive TaskClass where | express | standard | slow | background
deriving DecidableEq, Repr

/-- A task as its image defines it (R114). -/
structure TaskDef where
  /-- CLASS. -/
  cls : TaskClass
  /-- INTEGRITY is safety. -/
  safety : Bool
  /-- OVERRUN_POLICY is SKIP. -/
  skip : Bool
  /-- OVERRUN_LIMIT. -/
  limit : Nat
  /-- CYCLE_NS. -/
  cycle : Nat
  /-- OFFSET_NS. -/
  offset : Nat
  /-- WCET_NS. -/
  wcet : Nat
  /-- INPUT_COUNT. -/
  inputs : Nat
  /-- OUTPUT_BYTES. -/
  outBytes : Nat
  /-- SCOPE_COUNT. -/
  scopes : Nat
  /-- TIME_TOL_US. -/
  timeTol : Nat
  /-- PASS_LIMIT_S. -/
  passLimit : Nat
  /-- FIRST_INSTANCE. -/
  firstInst : Nat
  /-- INSTANCE_SPAN. -/
  span : Nat
deriving DecidableEq, Repr

/-- The task states (R116). -/
inductive TaskState where | stopped | running | held | stepping | faulted
deriving DecidableEq, Repr

/-- The phase of a cycle: nothing in execution; gathered and awaiting CP1; executing; compared and awaiting CP3 (R92). -/
inductive Phase where | sleep | gathered | executing | compared
deriving DecidableEq, Repr

/-- A task (R85 to R120). -/
structure Task where
  /-- The definition in force; none where no program defines the task (R85). Reset none. -/
  defn : Option TaskDef
  /-- State (R116). Reset STOPPED. -/
  st : TaskState
  /-- Phase of the cycle (R92). Reset sleep. -/
  phase : Phase
  /-- Task cycle number, 64 bits (R53, R122). Reset 0. -/
  cycleNo : Nat
  /-- Snapshot generation recorded at Gather (R92, R93). Reset 0. -/
  snap : Nat
  /-- The cycle runs on the new program's code (R202, R205). Reset false. -/
  onNew : Bool
  /-- Nominal release time of the cycle in execution, or the start of the pass (R96, R107). Reset 0. -/
  released : Nat
  /-- Nominal time of the next release (R107). Reset 0. -/
  next : Nat
  /-- A state the task takes when its cycle in execution has completed (R119). Reset none. -/
  leaving : Option TaskState
  /-- The deadline of the cycle in execution has passed under SKIP (R103). Reset false. -/
  late : Bool
  /-- Consecutive overruns (R104). Reset 0. -/
  overruns : Nat
  /-- Overruns since start, as STATUS_GET reports them. Reset 0. -/
  totalOverruns : Nat
  /-- WCET-exceeded counter (R105). Reset 0. -/
  wcetExceeded : Nat
  /-- Module time of the last CAUTION for it (R105). Reset none. -/
  lastCaution : Option Nat
  /-- Steps of module time not yet added to the starts of running timers (R108). Reset 0. -/
  timerShift : Int
  /-- The lanes that vote in the task or run it (R69, R74). Reset none. -/
  member : Vector Bool 3
  /-- Released under the new configuration of a hand-over in progress (R74). Reset false. -/
  handed : Bool
  /-- The lane configuration under which the cycle in execution was released (R43, R74). Reset triplex. -/
  config : LaneConfig
  /-- The discrete intake cut taken at Gather, for each item (R49, R92). Reset none. -/
  cut : List (Nat × List Byte)
  /-- The agreed items of CP1 (R50). Reset none. -/
  items : List (ItemSrc × ItemVal)
  /-- Tolerances that held for those items, in the same order, for the late lane (R44). Reset none. -/
  tols : List F64
  /-- The signatures decided at CP2, per scope (R53). Reset none. -/
  sigs : List (Nat × BitVec 128)
  /-- The output image decided at CP2 (R53). Reset none. -/
  outs : List OutWrite
  /-- Scopes not to commit: those that disagreed (R57). Reset none. -/
  badScopes : List Nat
  /-- Member lanes that had not arrived when CP1 was decided (R44). Reset none. -/
  absent1 : List Lane
  /-- Member lanes that had not arrived when CP2 was decided (R44). Reset none. -/
  absent2 : List Lane
  /-- Member lanes that had not released their write set when CP3 was served (R42, R44). Reset none. -/
  absent3 : List Lane
  /-- The area signature is compared at the task's next CP2 (R199). Reset false. -/
  areaDue : Bool
  /-- Output image committed last, held or put to idle values (R116, R117). Reset none. -/
  outputs : List OutWrite
  /-- `PROG_STEP` asked for a cycle at the next nominal release (R119). Reset false. -/
  stepAsked : Bool
  /-- Switched to the new program in the exchange in progress (R202, R205). Reset false. -/
  switched : Bool
  /-- Its first commit on the new program is held (R190). Reset false. -/
  firstDone : Bool
  /-- Every retained page of the task is dirty at its next commit (R208, R216). Reset false. -/
  allDirty : Bool
  /-- It has been released since it last entered RUNNING (R451). Reset true. -/
  entered : Bool
deriving DecidableEq, Repr

/-- A commit record in a ring (R122, R123). -/
structure CommitRecord where
  /-- TASK. -/
  task : Nat
  /-- SEQUENCE. -/
  seq : Nat
  /-- CYCLE. -/
  cycle : Nat
  /-- COMMIT_TIME. -/
  time : Nat
  /-- The page list: page number and slot written. -/
  pages : List (Nat × Bool)
  /-- DIGEST, 128 bits. -/
  digest : BitVec 128
  /-- CLOSE, 64 bits. -/
  close : Nat
deriving DecidableEq, Repr

/-- A commit waiting in the retained queue (R124, R125). -/
structure QueuedCommit where
  /-- Task. -/
  task : Nat
  /-- Cycle of the latest commit merged into it. -/
  cycle : Nat
  /-- Module time of its latest CP3. -/
  time : Nat
  /-- Module time of the earliest CP3 it holds: the retention lag counts from it (R126). -/
  since : Nat
  /-- The pages to write, with their committed contents (R124). -/
  pages : Tab (List Byte)
  /-- The latest commit merged into it was made under the new program of an exchange (R190, R206). -/
  onNew : Bool
deriving DecidableEq, Repr

/-- Retained state (R121 to R127). -/
structure Retained where
  /-- Contents of the retained pages as committed in the lanes, by page number (R121). Reset none. -/
  pages : Tab (List Byte)
  /-- Task that owns each page (R111); 32 for none. Reset none. -/
  owner : Tab Nat
  /-- The slots of the retained commit area: page p, slot b at 2p + b (R121). Reset none (DESIGN CHOICE, log 3). -/
  slots : Tab (List Byte)
  /-- The rings of commit records of the two buffers, 16 MiB each, newest first; the records alternate between them (R121, R122).
  Reset none. -/
  rings : Vector (List CommitRecord) 2
  /-- The commit that the persistent memory controller is writing (R123, R124). Reset none. -/
  writing : Option QueuedCommit
  /-- The slot of each page's last committed copy, plus one (R121). Reset none. -/
  lastSlot : Tab Nat
  /-- The latest module time at which a retention lag that has ended was 10 ms or more (R126). Reset 0. -/
  lastHigh : Nat
  /-- SEQUENCE of the next record, 64 bits (R122). Reset 0 (DESIGN CHOICE, log 3). -/
  nextSeq : Nat
  /-- The retained queue in arrival order (R124). Reset empty. -/
  queue : List QueuedCommit
  /-- The condition of WARNING 0x0312 lasts (R126). Reset false. -/
  lagging : Bool
deriving DecidableEq, Repr

/-! ## The vessel signal image (R128 to R184) -/

/-- A signal record (R132).  A signal is named by station × 2^20 + index. -/
structure SigRec where
  /-- VALUE, 64 bits. -/
  value : BitVec 64
  /-- RAW_VALUE, 64 bits. -/
  raw : BitVec 64
  /-- TIMESTAMP, 64 bits. -/
  stamp : Nat
  /-- GENERATION, 64 bits. -/
  gen : Nat
  /-- STATUS (R134): the effective status. -/
  status : Word
  /-- SOURCE, 32 bits. -/
  source : Word
  /-- PREV, 32 bits; 0xFFFFFFFF if none. -/
  prev : Word
  /-- TYPE, 8 bits (R133). -/
  typ : Nat
  /-- RECORD_FLAGS.PUB_PENDING. -/
  pending : Bool
  /-- ALARM, 16 bits (R137). -/
  alarm : BitVec 16
  /-- FORCE_SLOT, 16 bits; 0xFFFF if none. -/
  slot : BitVec 16
  /-- RECEIVED, 64 bits. -/
  received : Nat
  /-- The source layer's status (R179). -/
  srcStatus : Word
  /-- The last GOOD value the source delivered since the start, for LAST_GOOD (R179). -/
  lastGood : Option (BitVec 64)
  /-- VALUE as last published (R152). -/
  pubValue : BitVec 64
  /-- STATUS as last published (R152). -/
  pubStatus : Word
  /-- Versions superseded in the last millisecond, newest first: when, VALUE and STATUS; a loop reads the signal 150 µs back (R223). -/
  past : List (Nat × BitVec 64 × Word)
  /-- TIMESTAMP of the source layer: when its value or quality last changed (R181). -/
  srcStamp : Nat
deriving DecidableEq, Repr

/-- What came in as one whole: a block, a telegram, a host command's entries, or an entry the module makes (R146, R150). -/
inductive BatchKind where
  | block (station seq kind pass : Nat) (gap takeover : Bool) (first count : Nat)
  | telegram
  | host
  | own
deriving DecidableEq, Repr

/-- One whole in the image intake (R48, R146). -/
structure Batch where
  /-- What it is. -/
  kind : BatchKind
  /-- Intake sequence number (R48). -/
  seq : Nat
  /-- Module time of arrival (R48). -/
  arrival : Nat
  /-- The entries, in order. -/
  entries : List Entry
deriving DecidableEq, Repr

/-- The mirror states (R167). -/
inductive MirrorState where | absent | waiting | live | gap | silent | lost
deriving DecidableEq, Repr

/-- A publication block as received (R156, R157). -/
structure Block where
  /-- SEQUENCE. -/
  seq : Nat
  /-- KIND. -/
  kind : Nat
  /-- FLAGS.TAKEOVER. -/
  takeover : Bool
  /-- REFRESH_PASS. -/
  pass : Nat
  /-- Module time of arrival. -/
  arrival : Nat
  /-- Entries: handle, status, value, timestamp. -/
  entries : List (Word × Word × BitVec 64 × Nat)
deriving DecidableEq, Repr

/-- An entry of the station table (R167). -/
structure Station where
  /-- The mirror state. Reset ABSENT (R167: N_s is 0 without a configuration). -/
  st : MirrorState
  /-- Last applied SEQUENCE (R159). Reset 0. -/
  lastSeq : Nat
  /-- Time of the last accepted block. Reset 0. -/
  lastTime : Nat
  /-- GAP_GENERATION (R168). Reset 0. -/
  gapGen : Nat
  /-- A gap is outstanding (R167, R168). Reset false. -/
  gapOut : Bool
  /-- Blocks held for missing ones, up to 1 ms (R159). Reset none. -/
  held : List Block
  /-- The refresh pass followed since the gap: its number and the index that comes next (R168). Reset none. -/
  pass : Option (Nat × Nat)
  /-- The next gap to be found at a merge was caused by a discard (R150). Reset false. -/
  discarded : Bool
  /-- Module time of the last CAUTION 0x0433 for it (R161). Reset none. -/
  lastUndef : Option Nat
  /-- Superseded versions that a snapshot may see, newest first: the generation that replaced each, its mirror state and its
  GAP_GENERATION (R143, R167). Reset none. -/
  versions : List (Nat × MirrorState × Nat)
deriving DecidableEq, Repr

/-- A slot of the force table (R181). -/
structure ForceSlot where
  /-- The signal. -/
  sig : Nat
  /-- A simulation rather than a force. -/
  simulate : Bool
  /-- The value. -/
  value : BitVec 64
  /-- Quality given with it. -/
  status : Word
  /-- SET_TIME (R505). -/
  setTime : Nat
  /-- It was made for a safety signal (R505). -/
  safety : Bool
  /-- What the image holds of it: none until its merge (R181). -/
  live : Option (BitVec 64 × Word)
  /-- It is to be removed at the next merge (R181). -/
  going : Bool
deriving DecidableEq, Repr

/-- The signal image of the module (R128 to R183). -/
structure Image where
  /-- The records of defined signals by signal number (R132). Reset none: built at start (R139). -/
  recs : Tab SigRec
  /-- The image generation, 64 bits (R139). Reset 0. -/
  gen : Nat
  /-- The image events of the last minute, newest first: generation and module time of completion (R139, R140). Reset none. -/
  events : List (Nat × Nat)
  /-- The version pool: slot, with the signal, the generation that replaced the version, and the version (R142, R144). Reset empty. -/
  pool : Tab (Nat × Nat × SigRec)
  /-- The image intake, in intake order (R48, R146). Reset empty. -/
  intake : List Batch
  /-- Module time of the last arrival in the image intake (R22). Reset none. -/
  lastArrival : Option Nat
  /-- Module time of the next merge tick (R146). Reset 0. -/
  nextMerge : Nat
  /-- The station table (R167). -/
  stations : Vector Station 64
  /-- The force table, 4,096 slots (R181). Reset empty. -/
  forces : Tab ForceSlot
  /-- Publications or telegrams discarded because the intake was full (R150). Reset 0. -/
  intakeDiscards : Nat
  /-- Blocks discarded (R159, R160). Reset 0. -/
  blockDiscards : Nat
  /-- Entries discarded (R161). Reset 0. -/
  entryDiscards : Nat
  /-- Writes of the old program to rebuilt records, discarded (R210). Reset 0. -/
  tableDiscards : Nat
  /-- Module time of the last WARNING 0x0430 (R150). Reset none. -/
  lastFull : Option Nat
  /-- Module time of the last ALARM 0x0432 (R160). Reset none. -/
  lastConflict : Option Nat
  /-- Refresh corrections of the present second, by station (R165). Reset none. -/
  corrections : Tab Nat
  /-- Unmapped telegrams of the present second, by node; CAN frames by 4,096 + controller (R175). Reset none. -/
  unmapped : Tab Nat
  /-- Substitution layer changes of the present second, by signal: 1 inactive, 2 active (R183). Reset none. -/
  substs : Tab Nat
  /-- Signals whose module-made status is stale by their source: 1 stale, 2 lost (R170). Reset none. -/
  stale : Tab Nat
deriving DecidableEq, Repr

/-- Publication by this module (R151 to R165). -/
structure Publisher where
  /-- The publication queue, oldest first: signal and module time it joined (R153, R155). Reset empty. -/
  queue : List (Nat × Nat)
  /-- SEQUENCE of the last sent block, 64 bits (R156, R158). Reset 0. -/
  seq : Nat
  /-- SEQUENCE in the configuration area (R158). Reset 0 (DESIGN CHOICE, log 3). -/
  stored : Nat
  /-- No block has been sent since the start: the next is numbered stored + 2^32 (R158). Reset true. -/
  first : Bool
  /-- The next block carries TAKEOVER (R163). Reset false. -/
  takeover : Bool
  /-- SEQUENCE the former active module reported last (R163, R429). Reset 0. -/
  partnerSeq : Nat
  /-- Generation the former active module reported as published (R163). Reset 0. -/
  partnerGen : Nat
  /-- Module time of the last block sent (R158). Reset 0. -/
  lastSent : Nat
  /-- Change entries sent in the last 10 ms: time and bytes (R154). Reset none. -/
  window : List (Nat × Nat)
  /-- REFRESH_PASS, 16 bits (R164). Reset 0. -/
  pass : Nat
  /-- Next block of the pass (R164). Reset 0. -/
  block : Nat
  /-- Module time at which the pass started (R164). Reset 0. -/
  passStart : Nat
  /-- The condition of WARNING 0x0431 lasts (R155). Reset false. -/
  lagging : Bool
  /-- The latest module time at which the publication lag was 50 ms or more (R155). Reset 0. -/
  lastHigh : Nat
deriving DecidableEq, Repr

/-! ## Program slots and the exchange (R185 to R216) -/

/-- The slot states (R185). -/
inductive SlotState where | empty | loading | loaded | verified | active | retiring
deriving DecidableEq, Repr

/-- A program slot (R185, R186). -/
structure Slot where
  /-- State. Reset EMPTY (R185: before the first program neither is ACTIVE). -/
  st : SlotState
  /-- The image bytes, 256 MiB. Reset zero. -/
  image : Mem
  /-- The byte ranges received: start and end (R186). Reset none. -/
  covered : List (Nat × Nat)
deriving DecidableEq, Repr

/-- The exchange states (R189). -/
inductive ExchState where | idle | preparing | ready | switching | settling
deriving DecidableEq, Repr

/-- A copy of the exchange record (R206). -/
structure ExchRecord where
  /-- STATE. -/
  st : Nat
  /-- NEW_SLOT. -/
  newSlot : Nat
  /-- FLAGS. -/
  flags : Nat
  /-- UPDATE, 64 bits. -/
  update : Nat
  /-- OLD_IMAGE_ID, 64 bits. -/
  oldId : Nat
  /-- NEW_IMAGE_ID, 64 bits. -/
  newId : Nat
  /-- CAST_TIME, 64 bits. -/
  cast : Nat
  /-- SWITCHED, 32 bits. -/
  switched : Word
  /-- FIRST_DONE, 32 bits. -/
  firstDone : Word
  /-- LAST_OLD_SEQ of each task; 0xFFFFFFFFFFFFFFFF if none. -/
  lastOldSeq : Tab Nat
  /-- CLOSE, 64 bits. -/
  close : Nat
deriving DecidableEq, Repr

/-- The programs and the exchange (R185 to R216). -/
structure Programs where
  /-- The two slots (R185). -/
  slot : Vector Slot 2
  /-- The contents of the two instance areas (R109, R110). Reset zero. -/
  inst : Vector Mem 2
  /-- The instance area of the running program: 0 or 1 (R109). Reset 0. -/
  area : Nat
  /-- Exchange state (R189). Reset IDLE. -/
  st : ExchState
  /-- The slot of the maquette in an exchange. Reset 0. -/
  newSlot : Nat
  /-- CAST_AT of the request, 0 for 20 ms after READY (R191). Reset 0. -/
  castAt : Nat
  /-- T_c once fixed (R191, R205). Reset 0. -/
  cast : Nat
  /-- FORCE_RELEASE (R191). Reset false. -/
  forceRelease : Bool
  /-- A safety exchange (R192). Reset false. -/
  safety : Bool
  /-- It commits a configuration session at the cast point (R210). Reset false. -/
  table : Bool
  /-- The table merge at or after T_c is still to come (R209, R210). Reset false. -/
  mergeDue : Bool
  /-- The standby acknowledged the cast point (R212). Reset false. -/
  acked : Bool
  /-- The session that asked for it. Reset local mailbox 0. -/
  session : Word
  /-- The role it was asked for with, for the records of the forces dropped (R183, R209). Reset 0. -/
  role : Nat
  /-- The two copies of the exchange record, written alternately (R206). Reset 0 with CLOSE valid (DESIGN CHOICE, log 3). -/
  record : Vector ExchRecord 2
  /-- Saturated or NaN conversions, by task (R201). Reset none. -/
  saturated : Tab Nat
  /-- Forces and simulations to be dropped at the first merge at or after T_c: the signal, whether a simulation, and whether a
  change-log entry is due (R209). Reset none. -/
  drops : List (Nat × Bool × Bool)
  /-- The module's own preparation has caught up (R190, R197). Reset false. -/
  caught : Bool
  /-- OLD_IMAGE_ID of the exchange in progress (R206). Reset 0. -/
  oldId : Nat
  /-- LAST_OLD_SEQ of the exchange in progress (R206). Reset none. -/
  lastOldSeq : Tab Nat
  /-- The own signals whose records the table merge of the exchange rebuilt (R210). Reset none. -/
  rebuilt : List Nat
  /-- The start now running completes an exchange (R214). Reset false. -/
  resumed : Bool
deriving DecidableEq, Repr

end Sys2Proof.Machine
end

