-- ==== Sys2Proof/Machine/UnitsHost.lean ====
section
/-! DEFINITION. The state of the recorder, the host interface, the time unit, the Plinth and the power sequencer, as plain data. -/

namespace Sys2Proof.Machine

/-! ## The recorder (R527 to R544) -/

/-- A record without its SEQUENCE, which the writer assigns (R529, R532). `body` holds the bytes from offset 32. -/
structure Record where
  /-- TIME, 64 bits (R529). -/
  time : Nat
  /-- SEVERITY 0 to 7 (R529). -/
  sev : Nat
  /-- KIND (R530). -/
  kind : Nat
  /-- CODE, 16 bits (R531). -/
  code : Nat
  /-- FLAGS, 16 bits: TIME_VALID, STANDBY, END (R529). -/
  flags : Nat
  /-- SOURCE (R529). -/
  source : Word
  /-- The body from offset 32 (R530). -/
  body : List Byte
deriving DecidableEq, Repr

/-- A segment that is not FREE (R527, R528). -/
structure Segment where
  /-- CLASS: the severity of all its records (R527). -/
  cls : Nat
  /-- STATE: FULL rather than OPEN (R528). -/
  full : Bool
  /-- FIRST_SEQUENCE (R528). -/
  first : Nat
  /-- LAST_SEQUENCE, written when the segment becomes FULL (R528). -/
  last : Nat
  /-- OPENED (R528). -/
  opened : Nat
  /-- The records with their SEQUENCE, oldest first. -/
  recs : List (Nat × Record)
deriving DecidableEq, Repr

/-- What one path carried in one second of module time (R543). -/
structure PathCounts where
  /-- OFFERED: records offered (R543). -/
  offered : Nat
  /-- What they weigh against the path's budget of R540: records, bytes at MAILBOX, entries at CONSOLE. -/
  weight : Nat
  /-- DELIVERED. -/
  delivered : Nat
  /-- Bytes delivered. -/
  bytes : Nat
  /-- COALESCED. -/
  coalesced : Nat
  /-- SHED. -/
  shed : Nat
  /-- Severities delivered, one bit each: LOWEST_KEPT is the lowest of them that is not in `cut`. -/
  kept : BitVec 8
  /-- Severities shed, one bit each. -/
  cut : BitVec 8
deriving DecidableEq, Repr

/-- The flood state of one path (R543). -/
structure Path where
  /-- FLOOD rather than NORMAL (R543). Reset NORMAL (R543: entered at start). -/
  flood : Bool
  /-- Whole seconds of quiet counted so far; none while no count runs (R543). -/
  quiet : Option Nat
  /-- The second of module time that `cur` counts. Reset 0. -/
  second : Nat
  /-- The counts of that second. Reset 0. -/
  cur : PathCounts
  /-- The counts of the second before. Reset 0. -/
  prev : PathCounts
  /-- The 100 ms window of module time now counted, and the weight offered in it (R540, R543). -/
  window : Nat
  /-- Weight offered in that window. -/
  inWindow : Nat
deriving DecidableEq, Repr

/-- The recorder (R527 to R544). -/
structure Recorder where
  /-- The segments that are not FREE, of 20,480 (R527). Reset: none (DESIGN CHOICE, log 3). -/
  segs : List Segment
  /-- NEXT, 64 bits (R532). Reset 0 (DESIGN CHOICE, log 3). -/
  next : Nat
  /-- The clear boundary (R537); none before any clear. Reset none (DESIGN CHOICE, log 3). -/
  clearAt : Option Nat
  /-- The reserve of staging, in admission order (R538). Reset empty. -/
  reserve : List Record
  /-- The general part of staging, in admission order (R538). Reset empty. -/
  general : List Record
  /-- Records waiting for a reserve slot, in order (R538, R539). Reset empty. -/
  waiting : List Record
  /-- COALESCED (R541). Reset 0. -/
  coalesced : Nat
  /-- SHED (R542). Reset 0. -/
  shed : Nat
  /-- DROPPED, per severity (R534). Reset 0. -/
  dropped : Tab Nat
  /-- The last whole second of module time judged under R543. Reset 0. -/
  judged : Nat
  /-- The paths TRACE, RECORDER, MAILBOX, CONSOLE (R540, R543). Reset NORMAL. -/
  paths : Vector Path 4
deriving DecidableEq, Repr

/-! ## The host interface (R467 to R491) -/

/-- A mailbox (R473, R474). -/
structure Mailbox where
  /-- STATE: 0 IDLE, 1 SUBMITTED, 2 RUNNING, 3 DONE; 2 bits (R473). Reset 0. -/
  state : BitVec 2
  /-- PROTOCOL_ERROR, 1 bit (R473). Reset 0. -/
  protErr : Bool
  /-- The copy of the request that the device took at SUBMIT: header and payload (R474). Reset empty. -/
  copy : List Byte
  /-- The carriages claimed by the command in flight: first and count (R482). Reset (0, 0). -/
  first : Nat
  /-- Number of carriages claimed (R482). Reset 0. -/
  count : Nat
deriving DecidableEq, Repr

/-- A session: its role and its user (R477, R526). -/
structure Session where
  /-- ROLE as R473 codes it, 3 bits. Reset 0. -/
  role : BitVec 3
  /-- Module time of the last command (R477). Reset 0. -/
  lastCommand : Nat
  /-- The user who logged in, as bytes of the name (R526). Reset empty. -/
  user : List Byte
deriving DecidableEq, Repr

/-- A TLS connection with its sixteen mailboxes and 256 carriages (R477, R489, R490). -/
structure Tls where
  /-- The number of the connection: TLS connections accepted since the start, modulo 2^31 (R477). -/
  number : Nat
  /-- The session. -/
  session : Session
  /-- The mailboxes (R477). -/
  mbx : Vector Mailbox 16
  /-- The flags of the 256 carriages (R490). -/
  flags : Tab Byte
  /-- The contents of the carriages, 64 KiB each (R490). -/
  data : Mem
  /-- Module time of the last message sent and received (R491). -/
  lastSent : Nat
  /-- Module time of the last message received (R491). -/
  lastReceived : Nat
  /-- Records sent under the present sending key (R488). -/
  sentRecords : Nat
  /-- Sending keys used so far (R488). -/
  sendKeys : Nat
  /-- Receiving keys used so far (R488). -/
  recvKeys : Nat
deriving DecidableEq, Repr

/-- A standing subscription (R483, R511). -/
structure Subscription where
  /-- The session that opened it. -/
  owner : SessId
  /-- SUB_ID, 32 bits. -/
  id : Nat
  /-- The carriages of its ring, in ascending index order (R483). -/
  ring : List Nat
  /-- Place in the ring of the carriage filled next (R483). -/
  at_ : Nat
  /-- The handles subscribed. -/
  handles : List Word
  /-- INTERVAL_US, in nanoseconds. -/
  interval : Nat
  /-- The entries due and not yet returned, one per handle, in order, each with its generation (R511). -/
  entries : List (Word × Nat × List Byte)
  /-- FIRST_GEN. -/
  firstGen : Nat
  /-- SUPERSEDED. -/
  superseded : Nat
  /-- Module time of the first entry due. -/
  since : Nat
deriving DecidableEq, Repr

/-- The host interface (R467 to R491). -/
structure HostIf where
  /-- `HOST_EPOCH`, 32 bits (R469, R472). Reset 0. -/
  epoch : Word
  /-- The epoch kept in the configuration area (R472). Reset 0 (DESIGN CHOICE, log 3). -/
  storedEpoch : Word
  /-- `HI_STATUS.OPEN` (R470). Reset 0. -/
  open_ : Bool
  /-- `IRQ_STATUS`: [15:0] MBX_DONE, [16] EPOCH_CHANGED, [17] STREAM, [18] POISONED (R471). Reset 0. -/
  irqStatus : Word
  /-- `IRQ_ENABLE`, 32 bits (R469). Reset 0. -/
  irqEnable : Word
  /-- `HI_ERRORS[31:16]`, saturating (R469). Reset 0. -/
  errWrites : BitVec 16
  /-- `HI_ERRORS[15:0]`, saturating (R469). Reset 0. -/
  errFlags : BitVec 16
  /-- The sixteen local mailboxes (R473). -/
  mbx : Vector Mailbox 16
  /-- The sixteen local sessions (R477). -/
  sess : Vector Session 16
  /-- The mailbox buffers at BAR0 0x20000, 128 KiB (R468). Reset zero. -/
  buffers : Mem
  /-- The ownership flags of the 4,096 carriages (R479). Reset FREE. -/
  flags : Tab Byte
  /-- The carriage window at BAR2, 256 MiB (R467, R468). Reset zero. -/
  window : Mem
  /-- `TSNAP_LO` as last read, 32 bits (R487). Reset 0. -/
  tsnapLo : Word
  /-- `TSNAP_HI`, 32 bits (R487). Reset 0. -/
  tsnapHi : Word
  /-- `TSNAP_STATUS`, 32 bits (R487). Reset 0. -/
  tsnapStatus : Word
  /-- The MSI-X table of three entries and the pending bits at BAR0 0x8000 and 0x8800 (R468). Reset zero. -/
  msix : Mem
  /-- TLS connections accepted since the start (R477). Reset 0. -/
  tlsAccepted : Nat
  /-- The TLS connections open, at most eight (R491). Reset none. -/
  tls : Vector (Option Tls) 8
  /-- The standing subscriptions, at most eight (R511). Reset none. -/
  subs : Vector (Option Subscription) 8
  /-- SUB_ID of the next subscription (R511). Reset 0 (DESIGN CHOICE, log 3). -/
  nextSub : Nat
  /-- The host registers' last value answered to a read (the value a read row returns). Reset 0. -/
  readValue : Word
deriving DecidableEq, Repr

/-! ## The time unit (R361 to R379) -/

/-- A PTP Sync exchange in progress on a port (R371, R372). -/
structure PtpExchange where
  /-- sequenceId of the Sync. -/
  seq : BitVec 16
  /-- Local time of the Sync's reception, less the port's latency and the Sync's correction. -/
  rx : Int
  /-- Origin time of the Sync, with a Follow_Up's correction; none while the Follow_Up is awaited. -/
  origin : Option Int
deriving DecidableEq, Repr

/-- The servo's states (R372). -/
inductive Servo where | free | acquiring | locking | locked | holdover
deriving DecidableEq, Repr

/-- The time unit (R361 to R379). -/
structure TimeUnit where
  /-- The accumulator, 56 bits; [55:24] is `TIME_NS` (R361). Reset 0 (R377). -/
  acc : BitVec 56
  /-- `TIME_WRAPS`, 32 bits (R361). Reset 0 (R377 gives the latch's; DESIGN CHOICE, log 3). -/
  wraps : Word
  /-- `TIME_WRAPS_SNAP`, 32 bits (R377). Reset 0. -/
  wrapsSnap : Word
  /-- `TIME_INC`, 32 bits (R377). Reset 0x28000000. -/
  inc : Word
  /-- `TIME_ADJ_HI:LO`, 64 bits, Δ for the next step (R377). Reset 0. -/
  adj : BitVec 64
  /-- `TIME_CTRL.PPS_OUT_EN`, 1 bit (R379). Reset 0. -/
  ppsOutEn : Bool
  /-- `PPS_CAPTURE`, 32 bits (R377). Reset 0. -/
  ppsCapture : Word
  /-- `TIME_OFFSET`, signed 32 bits, saturating (R377). Reset 0. -/
  offset : Word
  /-- `REF10_ERROR`, signed 32 bits (R377). Reset 0. -/
  ref10Error : Word
  /-- `TIME_STATUS.SESSION`, 16 bits (R378). Reset 0. -/
  session : BitVec 16
  /-- The session number in the configuration area, 16 bits (R365). Reset 0 (R365: none counts as 0). -/
  storedSession : BitVec 16
  /-- `TIME_STATUS.SERVO`, 3 bits (R378). Reset FREE. -/
  servo : Servo
  /-- `TIME_STATUS.SOURCE`, 2 bits: 0 PTP, 1 PPS_10M, 2 HOST, 3 PAIR (R378). Reset 0. -/
  source : BitVec 2
  /-- `TIME_STATUS.OFFSET_LARGE`, W1C (R378). Reset 0. -/
  offsetLarge : Bool
  /-- `TIME_STATUS.STEPPED`, W1C (R378). Reset 0. -/
  stepped : Bool
  /-- `TIME_STATUS.STEP_USED` (R378). Reset 0. -/
  stepUsed : Bool
  /-- `TIME_STATUS.TIME_VALID` (R378). Reset 0. -/
  valid : Bool
  /-- `TIME_STATUS.PPS_OK` (R378). Reset 0. -/
  ppsOk : Bool
  /-- `TIME_STATUS.REF10_OK` (R378). Reset 0. -/
  ref10Ok : Bool
  /-- The PPS output is high (R374). Reset low. -/
  ppsOut : Bool
  /-- `TIME_STATUS.TEMP_RATE` (R378). Reset 0. -/
  tempRate : Bool
  /-- `TIME_STATUS.MASTER_SEEN` (R378). Reset 0. -/
  masterSeen : Bool
  /-- The servo's integral term in ppb (R372). Reset 0 (R372). -/
  integral : Rat
  /-- The offsets θ last measured in ACQUIRING, newest first (R372). Reset empty. -/
  acq : List Int
  /-- Consecutive measurements with |θ| below 100 ns in LOCKING, or at or above 1 µs in LOCKED (R372). Reset 0. -/
  run : Nat
  /-- The last eight mean path delays of each port, newest first (R372). Reset empty. -/
  delays : Tab (List Int)
  /-- Measurements discarded for their path delay (R372). Reset 0. -/
  delayDiscards : Nat
  /-- Module time since which |θ| has stayed below 1 µs, after an offset above 1 ms (R372). Reset none. -/
  quietSince : Option Nat
  /-- The last θ under the configured source (R376). Reset none. -/
  lastTheta : Option Int
  /-- Module time of the last valid measurement (R372). Reset 0. -/
  lastMeasured : Nat
  /-- The best master of each port by its Announce message (R371). Reset none. -/
  masters : Tab (Option PtpDataset)
  /-- The port measurements are taken from (R371). Reset 0. -/
  masterPort : Nat
  /-- UTC offset of the Announce messages, reported by `TIME_GET` (R374). Reset 0. -/
  utcOffset : Int
  /-- Whether that offset is valid (R374). Reset false. -/
  utcValid : Bool
  /-- Sync exchanges in progress, per port (R371). Reset none. -/
  exchange : Tab (Option PtpExchange)
  /-- The host rate R_h in force, ppb (R367, R372). Reset 0. -/
  hostRate : Int
  /-- R_h before a temporary change (R367). Reset 0. -/
  priorRate : Int
  /-- Module time at which a temporary change ends (R367). Reset 0. -/
  tempEnd : Nat
  /-- θ of the last valid PPS edge of the session; none while none is captured (R366, R373). Reset none. -/
  ppsTheta : Option Int
  /-- Extended time of the last PPS edge (R373). Reset none. -/
  ppsLast : Option Int
  /-- Module time at which the PPS output falls (R374). Reset 0. -/
  ppsOutEnd : Nat
  /-- A step accepted that is added at the next tick (R366, R379). Reset none. -/
  stepDue : Option Int
  /-- An offset above 1 ms has not yet been followed by 10 s below 1 µs (R372). Reset false. -/
  large : Bool
  /-- A step the active module announced: Δ and the module time it applies at (R376). Reset none. -/
  pairStep : Option (Int × Nat)
  /-- Module time of the last WARNING 0x0904; none before the first (R375). Reset none. -/
  lastNotValid : Option Nat
  /-- Whether the Plinth clock was loaded since the servo locked or the host stepped (R375). Reset false. -/
  plinthLoaded : Bool
  /-- Module time of the last load of the Plinth clock, or of the last hourly check (R375). Reset 0. -/
  plinthAt : Nat
deriving DecidableEq, Repr

/-! ## The Plinth (R381 to R400) -/

/-- An alarm of the Plinth (R390, R397, R400). -/
structure Alarm where
  /-- `ALMn_VALUE_HI:LO`, 48 bits (R397). Reset 0. -/
  value : BitVec 48
  /-- `ALMn_MASK_HI:LO`, 48 bits (R397). Reset 0. -/
  mask : BitVec 48
  /-- `ALMn_CTRL.WDAY_SET`, 7 bits (R400). Reset 0. -/
  wdays : BitVec 7
  /-- `ALMn_CTRL.ENABLE` (R400). Reset 0. -/
  enable : Bool
  /-- Whether it was armed and matched at the previous edge (R390). Reset false. -/
  matched : Bool
deriving DecidableEq, Repr

/-- The Plinth (R381 to R400). -/
structure Plinth where
  /-- `RTC_TICKS`, 48 bits (R383). Reset 0. -/
  ticks : BitVec 48
  /-- Weekday, 3 bits, 0 to 6 (R389). Reset 0. -/
  wday : BitVec 3
  /-- Day phase, 32 bits, 0 to 2,831,155,199 (R389). Reset 0. -/
  phase : Word
  /-- `RTC_TICKS_HI_SNAP`, 16 bits (R397). Reset 0. -/
  hiSnap : BitVec 16
  /-- `RTC_WDAY_SNAP`, 3 bits (R397). Reset 0. -/
  wdaySnap : BitVec 3
  /-- `RTC_DAY_SNAP`, 32 bits (R397). Reset 0. -/
  daySnap : Word
  /-- `RTC_LOAD_LO`, 32 bits (R397). Reset 0. -/
  loadLo : Word
  /-- `RTC_LOAD_HI`, 16 bits (R397). Reset 0. -/
  loadHi : BitVec 16
  /-- `RTC_LOAD_WDAY`, 3 bits (R397). Reset 0. -/
  loadWday : BitVec 3
  /-- `RTC_LOAD_DAY`, 32 bits (R397). Reset 0. -/
  loadDay : Word
  /-- A load of the tick count is pending; `LOAD_PENDING` is either load (R386, R399). Reset false. -/
  pendTicks : Bool
  /-- A load of the weekday and the day phase is pending (R386). Reset false. -/
  pendWday : Bool
  /-- Reference ticks still to pass of the 2 µs after the accepted write (R386). Reset 0. -/
  loadWait : Nat
  /-- The two alarms (R390). -/
  alarms : Vector Alarm 2
  /-- `RTC_STATUS.ALARM0`, W1C (R399). Reset 0. -/
  alarm0 : Bool
  /-- `RTC_STATUS.ALARM1`, W1C (R399). Reset 0. -/
  alarm1 : Bool
  /-- `RTC_STATUS.LOAD_COLLISION`, W1C (R399). Reset 0. -/
  collision : Bool
  /-- `RTC_STATUS.CELL_USED`, W1C (R399). Reset 0. -/
  cellUsed : Bool
  /-- `RTC_STATUS.BATT_LOW` (R399). Reset 0. -/
  battLow : Bool
  /-- `RTC_STATUS.RETAIN_LOST`, W1C (R399). Reset 1. -/
  retainLost : Bool
  /-- `BKP_0` to `BKP_15`, 32 bits each (R392, R397). Reset undefined: DESIGN CHOICE 0 (log 3). -/
  bkp : Vector Word 16
  /-- Phase of the crystal against the 25 MHz reference, in 1/32,768 of a reference tick (R383). Reset 0. -/
  crystal : Nat
deriving DecidableEq, Repr

/-! ## The power sequencer (R15 to R38, R572) -/

/-- The power states of a lane (R19). -/
inductive LanePower where | off | deepIdle | lightIdle | active
deriving DecidableEq, Repr

/-- The power sequencer (R15 to R38, R572). -/
structure Power where
  /-- `PSEQ_STATUS.LANE_A_STATE`, `LANE_B_STATE`, `LANE_C_STATE`, 2 bits each (R37). Reset OFF. -/
  lane : Vector LanePower 3
  /-- `PSEQ_STATUS.MGMT_CLK`, 2 bits: 100, 250, 500, 1,000 MHz (R37). Reset 0. -/
  mgmtClk : BitVec 2
  /-- Module time of the last demand for each level, 250, 500 and 1,000 MHz; none before the first (R17). Reset none (DESIGN CHOICE, log 3). -/
  demanded : Vector (Option Nat) 3
  /-- `PSEQ_STATUS.REF_FAULT`, W1C (R37). Reset 0. -/
  refFault : Bool
  /-- The reference is outside the limits of R18 now (R38). Reset false (DESIGN CHOICE, log 3). -/
  refOutside : Bool
  /-- `PSEQ_STATUS.POWER_FAIL` (R37). Reset 0. -/
  powerFail : Bool
  /-- `PSEQ_STATUS.FEED_A_UNDER`, W1C (R37). Reset 0. -/
  feedAUnder : Bool
  /-- `PSEQ_STATUS.FEED_B_UNDER`, W1C (R37). Reset 0. -/
  feedBUnder : Bool
  /-- `PSEQ_STATUS.FEED_A_OK` (R37). Reset 0. -/
  feedAOk : Bool
  /-- `PSEQ_STATUS.FEED_B_OK` (R37). Reset 0. -/
  feedBOk : Bool
  /-- `PSEQ_STATUS.LANE_RAIL_FAULT`, W1C (R37). Reset 0. -/
  laneRailFault : Bool
  /-- `PSEQ_STATUS.BARRIER_OK` (R37). Reset 0. -/
  barrierOk : Bool
  /-- `PSEQ_TEMP.DIE_TEMP`, 16 bits signed, 1/256 °C (R572). Reset 0. -/
  dieTemp : BitVec 16
  /-- `PSEQ_TEMP.WARM`, W1C (R572). Reset 0. -/
  warm : Bool
  /-- `PSEQ_TEMP.HOT`, W1C (R572). Reset 0. -/
  hot : Bool
  /-- `PSEQ_TEMP.LIMIT` (R572). Reset 0. -/
  limit : Bool
  /-- The condition of 100 °C lasts: it clears below 95 °C (R572). Reset false. -/
  warmOn : Bool
  /-- The condition of 115 °C lasts: it clears below 110 °C (R572). Reset false. -/
  hotOn : Bool
  /-- Module time of the last record of the 100 °C condition (R572). Reset none. -/
  warmAt : Option Nat
  /-- Module time of the last record of the 115 °C condition (R572). Reset none. -/
  hotAt : Option Nat
  /-- The lines SLOT_ADDR0 to 5 and RACK_ID0 to 3 as read at step 1 of the last start, 10 bits (R565). Reset 0 (DESIGN CHOICE, log 3). -/
  lines : BitVec 10
deriving DecidableEq, Repr

end Sys2Proof.Machine
end

