-- ==== Sys2Proof/Machine/UnitsField.lean ====
section
/-! DEFINITION. The state of the loop section, the field channels and the safety functions, as plain data. -/

namespace Sys2Proof.Machine

/-! ## The loop engine (R217 to R249) -/

/-- The loop modes (R225). -/
inductive LoopMode where | off | manual | auto | fallback
deriving DecidableEq, Repr

/-- The working state of a loop, carried from sample to sample (R219). -/
structure LoopWork where
  /-- YF. Reset 0. -/
  yf : F64
  /-- I. Reset 0. -/
  i : F64
  /-- D. Reset 0. -/
  d : F64
  /-- ED_PREV. Reset 0. -/
  edPrev : F64
  /-- R_EFF. Reset 0. -/
  rEff : F64
  /-- U. Reset 0. -/
  u : F64
  /-- RAMPING (R228, R249). Reset 0. -/
  ramping : Bool
  /-- OUT_LIMITED (R249). Reset 0. -/
  outLimited : Bool
  /-- RATE_LIMITED (R249). Reset 0. -/
  rateLimited : Bool
  /-- REP_ACTIVE (R235). Reset 0. -/
  repActive : Bool
  /-- REP_FROZEN (R235). Reset 0. -/
  repFrozen : Bool
  /-- PV_UNCERTAIN (R223). Reset 0. -/
  pvUncertain : Bool
  /-- SP_HELD (R223). Reset 0. -/
  spHeld : Bool
  /-- FF_HELD (R223). Reset 0. -/
  ffHeld : Bool
  /-- INTEGRAL_PAUSED (R222). Reset 0. -/
  paused : Bool
  /-- The last SP input of quality GOOD or UNCERTAIN (R223). Reset 0. -/
  spLast : F64
  /-- The last FF input of quality GOOD or UNCERTAIN (R223). Reset 0. -/
  ffLast : F64
  /-- The target setpoint. Reset 0. -/
  target : F64
  /-- Rp of the last agreed sample, for R236. Reset 0. -/
  rp : F64
  /-- The YF filter has taken its first value (R219). Reset false. -/
  started : Bool
  /-- CELL: last index j; 0xFFFF when the repetitive part is off (R249). Reset 0xFFFF. -/
  cell : Nat
  /-- REP_SKIPS (R237). Reset 0. -/
  skips : Nat
  /-- The cell learned at the sample and its value (R235, R245). -/
  learned : Option (Nat × F32)
  /-- The PV's quality at the sample: 3 GOOD, 1 UNCERTAIN, 0 BAD (R224). Reset 3. -/
  quality : Nat
deriving DecidableEq, Repr

/-- A sample awaiting its quorum (R231, R232). -/
structure LoopSample where
  /-- t_k. -/
  tick : Nat
  /-- The working state the sample leads to. -/
  work : LoopWork
  /-- Results delivered. -/
  got : List (Lane × F64 × BitVec 128)
  /-- The agreed result, once the output was applied. -/
  agreed : Option (F64 × BitVec 128)
deriving DecidableEq, Repr

/-- One loop (R217 to R249). -/
structure Loop where
  /-- The 160-byte record in force, with the active values of its groups (R217, R239). Reset empty: no loop. -/
  rcd : List Byte
  /-- A record whose grouped fields are the shadows (R239). Reset empty. -/
  shadow : List Byte
  /-- `LOOP_COMMIT.PEND_*`: pending groups, bit 0 LIMITS, 1 REP_MEM, 2 REP_INDEX (R248). Reset 0. -/
  pend : BitVec 3
  /-- Groups whose shadow was written after the snapshot of the scheduled apply (R240). Reset 0. -/
  again : BitVec 3
  /-- `LOOP_COMMIT.SCHEDULED` with K, the mask and the snapshot (R240, R248). Reset none. -/
  sched : Option (Nat × BitVec 3 × List Byte)
  /-- `LOOP_COMMIT.GEN`, 16 bits (R248). Reset 0. -/
  gen : BitVec 16
  /-- Tune fields accepted, with the earliest time they apply, oldest first: offset and bytes (R239). Reset none. -/
  tune : List (Nat × List (Nat × List Byte))
  /-- A new record of a configuration commit, taken at the next tick (R218). Reset none. -/
  fresh : Option (List Byte)
  /-- A repetitive reset and the earliest time it applies (R243). Reset none. -/
  repReset : Option Nat
  /-- MODE (R225). Reset OFF. -/
  mode : LoopMode
  /-- REASON (R249). Reset NONE. -/
  reason : Nat
  /-- The working state. -/
  work : LoopWork
  /-- The manual value (R226). Reset 0. -/
  manual : F64
  /-- SP as a program committed it last, and the commit before, newest first, with their times (R223). Reset none. -/
  progSp : List (F64 × Nat)
  /-- MODE_REQ as committed, likewise (R223, R226). Reset none. -/
  progMode : List (F64 × Nat)
  /-- MAN_OUT as committed, likewise (R223, R226). Reset none. -/
  progMan : List (F64 × Nat)
  /-- MODE_REQ as the last tick saw it: a change is a request (R226). Reset none. -/
  modeSeen : Option F64
  /-- A request of `LOOP_MODE_SET` for the next tick: mode and MAN_OUT (R226). Reset none. -/
  hostAsk : Option (Nat × F64)
  /-- Time of the entry to MANUAL: a MAN_OUT committed before it is ignored (R226). Reset 0. -/
  manualAt : Nat
  /-- Agreed samples since start, 64 bits (R249). Reset 0. -/
  samples : Nat
  /-- TICK_TIME (R249). Reset 0. -/
  tickTime : Nat
  /-- Next sample tick (R223). Reset 0. -/
  next : Nat
  /-- The sample awaiting its quorum. Reset none. -/
  sample : Option LoopSample
  /-- MISSED (R249). Reset 0. -/
  missed : Nat
  /-- Consecutive missed samples (R232). Reset 0. -/
  consec : Nat
  /-- DELAY_NS (R249). Reset 0. -/
  delay : Nat
  /-- DELAY_MAX_NS (R249). Reset 0. -/
  delayMax : Nat
  /-- The last 1,024 delays, newest first (R230). Reset empty. -/
  ring : List Nat
  /-- Copies that have taken the agreed state of this loop in a resynchronisation (R234). Reset none. -/
  copied : Vector Bool 3
deriving DecidableEq, Repr

/-- What a checkpoint holds of a loop (R246). -/
structure LoopSaved where
  /-- MODE. -/
  mode : LoopMode
  /-- Manual value. -/
  manual : F64
  /-- R_EFF. -/
  rEff : F64
  /-- Target setpoint. -/
  target : F64
  /-- I. -/
  i : F64
  /-- U. -/
  u : F64
deriving DecidableEq, Repr

/-- A copy of the loop checkpoint (R246). -/
structure LoopCheckpoint where
  /-- Update count; the copy is valid when one was written. -/
  update : Nat
  /-- Closed by its complement. -/
  valid : Bool
  /-- The loops. -/
  loops : Tab LoopSaved
  /-- The pool. -/
  pool : Tab F32
deriving DecidableEq, Repr

/-- The loop section (R217 to R249). -/
structure LoopEngine where
  /-- The loops 0 to 255. Reset none configured (DESIGN CHOICE, log 3). -/
  loops : Tab Loop
  /-- The pool of 262,144 binary32 cells, at the same addresses in every copy (R235). Reset 0. -/
  pool : Tab F32
  /-- `LE_STATUS.UNRESOLVED`, 8 bits, saturating (R247). Reset 0. -/
  unresolved : BitVec 8
  /-- `LE_MISSED`, 32 bits, RC, saturating (R247). Reset 0. -/
  missed : Word
  /-- `LE_DELAY_MAX`, 32 bits, RC (R247). Reset 0. -/
  delayMax : Word
  /-- The two checkpoint copies in persistent memory (R246). Reset not valid (DESIGN CHOICE, log 3). -/
  check : Vector LoopCheckpoint 2
  /-- Module time of the last checkpoint (R246). Reset 0. -/
  lastCheck : Nat
  /-- A mode changed since the last checkpoint (R246). Reset false. -/
  dirty : Bool
deriving DecidableEq, Repr

/-! ## Universal channels (R250 to R268) -/

/-- The states of a channel (R267, R268). -/
inductive ChanState where | disabled | configuring | running | failed
deriving DecidableEq, Repr

/-- A universal channel (R250 to R268). -/
structure Uc where
  /-- State. Reset DISABLED (DESIGN CHOICE, log 3). -/
  st : ChanState
  /-- The 64-byte record in force (R251); empty while none. Reset empty. -/
  rcd : List Byte
  /-- Steps of R268 done in a reconfiguration: 0 to 3. Reset 0. -/
  step : Nat
  /-- Steps 1 and 2 are not needed (R268). Reset false. -/
  short_ : Bool
  /-- Samples delivered since the converter restarted, up to 3 (R268). Reset 0. -/
  settle : Nat
  /-- The first-order filter's y; none before its first sample (R255). Reset none. -/
  filter : Option F64
  /-- The last sample in the mode unit (R250). Reset 0. -/
  raw : F64
  /-- The last engineering value. Reset 0. -/
  eng : F64
  /-- STATUS of the last sample, as the loops and the image take it. Reset BAD, NO_DATA. -/
  status : Word
  /-- The value and status last emitted to the image (R256); none before the first. Reset none. -/
  emitted : Option (F64 × Word)
  /-- Module time of the last sample (R170, R254). Reset 0. -/
  sampled : Nat
  /-- The last 32 samples of an input, newest first: time of completion, engineering value and status (R223, R254). Reset none. -/
  recent : List (Nat × F64 × Word)
  /-- Module time of the last conversion, of a sample that is not delivered too (R254). Reset 0. -/
  convAt : Nat
  /-- Headroom H in volts, as last measured (R264, R514). Reset 0 (DESIGN CHOICE, log 3). -/
  headroom : F64
  /-- The command in engineering units (R263). Reset 0. -/
  command : F64
  /-- What the output stage drives, in the mode unit: mA or V (R263). Reset 0. -/
  output : F64
  /-- The command was clamped: OVERRANGE (R263). Reset false. -/
  clamped : Bool
  /-- A NaN command arrived and no finite one since: CONVERSION (R267). Reset false. -/
  nan : Bool
  /-- The output stage is at high impedance (R263). Reset false. -/
  hiZ : Bool
  /-- OPEN_CIRCUIT (R258, R265). Reset false. -/
  open_ : Bool
  /-- SHORT_CIRCUIT (R258, R265). Reset false. -/
  shorted : Bool
  /-- COMPLIANCE_LOW (R265). Reset false. -/
  compLow : Bool
  /-- NOT_VERIFIABLE (R265). Reset false. -/
  notVer : Bool
  /-- SENSOR_FAULT (R258). Reset false. -/
  sensor : Bool
  /-- The loop supply has been at its current limit for 20 ms (R258). Reset false. -/
  supply : Bool
  /-- A test pulse is in progress (R265). Reset false. -/
  pulse : Bool
  /-- Consecutive pulses below 0.5 mA (R265). Reset 0. -/
  pulseFails : Nat
  /-- Module time at which the next pulse may begin (R265). Reset 0. -/
  nextPulse : Nat
  /-- Diagnostic clearings of the present second, as a mask of reasons (R267). Reset 0. -/
  cleared : Nat
deriving DecidableEq, Repr

/-- A cold-junction sensor (R261). -/
structure CjSensor where
  /-- Its temperature in °C. Reset 0 (DESIGN CHOICE, log 3). -/
  temp : F64
  /-- Its reading lies outside −50 °C to +120 °C. Reset false (DESIGN CHOICE, log 3). -/
  fault : Bool
deriving DecidableEq, Repr

/-! ## Digital channels (R270 to R295) -/

/-- A digital channel (R270 to R293). -/
structure Dig where
  /-- State: DISABLED, CONFIGURING, RUNNING or FAILED (R286, R293). Reset DISABLED (DESIGN CHOICE, log 3). -/
  st : ChanState
  /-- The 32-byte record in force (R272); empty while none. Reset empty. -/
  rcd : List Byte
  /-- Steps of R293 done in a reconfiguration. Reset 0. -/
  step : Nat
  /-- The first accepted state since a restart is still to be taken (R293). Reset false. -/
  fresh : Bool
  /-- acc: the accepted state; for an output, its readback (R275, R276). Reset 0. -/
  acc : Bool
  /-- The level on the channel's pin after the input stage, before INVERT (R274, R283). Reset 0 (DESIGN CHOICE, log 3). -/
  pin : Bool
  /-- prev: the last sampled level (R275). Reset 0. -/
  prev : Bool
  /-- first: time of first departure from acc (R275). Reset none. -/
  first : Option Nat
  /-- last: time of the latest raw change (R275). Reset 0. -/
  last : Nat
  /-- TCOUNT, 2 bits (R276). Reset 0. -/
  tcount : BitVec 2
  /-- Timestamp of the last accepted transition (R275, R310). Reset 0. -/
  stamp : Nat
  /-- Accepted transitions of the last second, newest first (R279). Reset none. -/
  recent : List Nat
  /-- Module time of the last 1 s window above half the chatter limit (R279). Reset 0. -/
  busyAt : Nat
  /-- CHATTERING (R279). Reset false. -/
  chatter : Bool
  /-- OUTPUT_MISMATCH (R283). Reset false. -/
  mismatch : Bool
  /-- SHORT_CIRCUIT (R281). Reset false. -/
  shorted : Bool
  /-- GROUP_OVERLOAD (R282). Reset false. -/
  overload : Bool
  /-- OPEN_CIRCUIT (R284). Reset false. -/
  open_ : Bool
  /-- ENC_FAULT (R291). Reset false. -/
  encFault : Bool
  /-- The command: ON (R280). Reset OFF. -/
  command : Bool
  /-- Module time of the last change of command (R283). Reset 0. -/
  commanded : Nat
  /-- The switch is ON. Reset OFF. -/
  switch : Bool
  /-- Failed retries of a shorted switch (R281). Reset 0. -/
  retries : Nat
  /-- Module time at which a shorted switch retries; none when it does not (R281). Reset none. -/
  retryAt : Option Nat
  /-- It retries no more until its command has been OFF (R281). Reset false. -/
  locked : Bool
  /-- Module time of the last change of its quality (R310). Reset 0. -/
  turned : Nat
  /-- STATUS last emitted (R277). Reset BAD, NO_DATA. -/
  status : Word
  /-- Diagnostic clearings of the present second, as a mask (R286). Reset 0. -/
  cleared : Nat
  /-- Module time of the last state that reached the intake (R277). Reset 0. -/
  seen : Nat
deriving DecidableEq, Repr

/-- A counting function of channels 0 to 3 (R288 to R291). -/
structure Counter where
  /-- Running count of COUNTER, 64 bits signed (R288). Reset 0. -/
  count : Int
  /-- Angle count c of ENCODER (R288, R289). Reset 0. -/
  c : Nat
  /-- Revolution or pulse count n, 32 bits (R289, R290). Reset 0. -/
  n : Word
  /-- Counts since the previous index (R289). Reset 0. -/
  since : Int
  /-- The direction of the last count was down (R289). Reset false. -/
  down : Bool
  /-- An index has been seen since the channel last became valid (R235). Reset false. -/
  indexed : Bool
  /-- A reference edge armed the reset of n at the next index (R289). Reset false. -/
  armed : Bool
  /-- t_p (R290). Reset 0. -/
  tp : Nat
  /-- T (R290). Reset 0. -/
  period : Nat
  /-- Pulses since the channel last became valid, up to 2 (R235). Reset 0. -/
  pulses : Nat
  /-- Good periods since a fault (R291). Reset 0. -/
  good : Nat
  /-- Edges of the last 1 ms, newest first, for the rate (R288): time and whether down. Reset none. -/
  edges : List (Nat × Bool)
  /-- The rate as last delivered (R288). Reset 0. -/
  rate : F64
  /-- Module time of the last count, index or pulse (R291). Reset 0. -/
  lastEdge : Nat
deriving DecidableEq, Repr

/-- A digital group (R270, R276, R278, R294, R295). -/
structure DGroup where
  /-- `DG_STATUS.GROUP_FAILED` (R294). Reset 0. -/
  failed : Bool
  /-- `DG_STATUS.SOE_OVERFLOW`, W1C (R294). Reset 0. -/
  soeOverflow : Bool
  /-- `DG_STATUS.GROUP_OVERLOAD`, W1C (R294). Reset 0. -/
  overload : Bool
  /-- Outputs are being shed until the group's current is at or below 4.0 A (R282). Reset false. -/
  shedding : Bool
  /-- `DG_STATUS.FS_UNDER`, W1C (R294). Reset 0. -/
  fsUnder : Bool
  /-- `DG_STATUS.FS_LOW` (R294). Reset 0. -/
  fsLow : Bool
  /-- `DG_SUPPLY.FS_VOLTAGE`, 16 bits (R295). Reset 0. -/
  fsVoltage : BitVec 16
  /-- `DG_SUPPLY.CURRENT`, 16 bits (R295). Reset 0. -/
  current : BitVec 16
  /-- The group's transition sequence number, 16 bits (R278, R530). Reset 0. -/
  soeSeq : BitVec 16
  /-- The entries in the controller's buffer of 1,024, oldest first (R278). Reset empty. -/
  soe : List Record
  /-- Entries lost since the last entry written (R278). Reset 0. -/
  soeLost : Nat
  /-- Module time of the last state word sent (R276). Reset 0. -/
  sent : Nat
  /-- Offset of the controller's time from module time until the next alignment (R274, R278). Reset 0. -/
  skew : Int
deriving DecidableEq, Repr

/-! ## Safety functions (R297 to R319) -/

/-- The states of a safety function (R301). -/
inductive FuncState where | notConfigured | operating | degraded | forcedSafe
deriving DecidableEq, Repr

/-- A safety function (R297 to R314). -/
structure Func where
  /-- `SF_STATE.STATE`, 4 bits (R319). Reset NOT_CONFIGURED. -/
  st : FuncState
  /-- `SF_STATE.CAUSE`, 8 bits (R319). Reset 0. -/
  cause : Nat
  /-- `SF_STATE.RESET_BLOCKED` (R319). Reset 0. -/
  blocked : Bool
  /-- Start of the degraded timer, kept in the configuration area (R306); `SF_STATE.TIMER` while one is held. Reset none. -/
  timer : Option Nat
  /-- RESET_HANDLE's value at the previous Gather (R304). Reset 0. -/
  resetPrev : Bool
  /-- A reset evaluated in the cycle in execution, which takes effect at its CP3 (R305). Reset false. -/
  resetting : Bool
  /-- The fault signal as last written (R300). Reset clear. -/
  faultSignal : Bool
  /-- The function's record in force (R297); empty while it is not configured. Reset empty. -/
  rcd : List Byte
deriving DecidableEq, Repr

/-- A dual-contact input (R308, R310). -/
structure PairInput where
  /-- latched (R310). Reset false. -/
  latched : Bool
  /-- both_seen (R310). Reset false. -/
  bothSeen : Bool
  /-- t_diff (R310). Reset none. -/
  tDiff : Option Nat
  /-- A reset evaluated in the cycle in execution clears the latch, which takes effect at its CP3 (R305, R310). Reset false. -/
  clearing : Bool
  /-- The pair value: 1 healthy (R310). Reset 0. -/
  value : Bool
deriving DecidableEq, Repr

/-- An entry of the change log, 128 bytes (R317), and its SEQUENCE. -/
structure LogEntry where
  /-- SEQUENCE. -/
  seq : Nat
  /-- The bytes. -/
  bytes : List Byte
deriving DecidableEq, Repr

/-- The safety unit (R297 to R319). -/
structure Safety where
  /-- The functions 0 to 255. -/
  func : Tab Func
  /-- The dual-contact inputs 0 to 23. -/
  pairs : Tab PairInput
  /-- Salt and hash of the safety password; none while none is set (R315, R316). Reset none (DESIGN CHOICE, log 3). -/
  password : Option (List Byte × BitVec 256)
  /-- Module times of password failures within 10 min (R316). Reset none. -/
  failures : List Nat
  /-- End of the lockout (R316). Reset none. -/
  lockout : Option Nat
  /-- The change log, oldest first, at most 4,096 entries (R317, R318). Reset empty (DESIGN CHOICE, log 3). -/
  log : List LogEntry
  /-- SEQUENCE of the next entry, 64 bits (R317). Reset 0 (DESIGN CHOICE, log 3). -/
  nextSeq : Nat
  /-- CHAIN of the last entry, 128 bits (R317). Reset 0 (DESIGN CHOICE, log 3). -/
  chain : BitVec 128
  /-- Outputs of deleted functions, digital or not and the channel, that stay in the last safe state until a new writer's first
  commit (R314). Reset none. -/
  orphans : List (Bool × Nat)
deriving DecidableEq, Repr

end Sys2Proof.Machine
end

