-- ==== Sys2Proof/Machine/UnitsNet.lean ====
section
/-! DEFINITION. The state of the networks, the panels, the pair, the modes, the configuration and the firmware, and what the module sends, as plain data. -/

namespace Sys2Proof.Machine

/-! ## What the module sends -/

/-- How a frame is carried (R329, R331): its VLAN tag and, for an IPv4 datagram, its address and port; every datagram has DF set. -/
structure Carriage where
  /-- VLAN identifier of the network; 0 on the service port, which belongs to none. -/
  vid : Nat
  /-- PCP. -/
  pcp : Nat
  /-- IPv4 destination address; 0 where the frame carries none, or is answered to whoever asked. -/
  dst : Nat
  /-- UDP or TCP port: 20600, 20601 or 52840; 0 where there is none. -/
  port : Nat
  /-- A multicast datagram: TTL 1. -/
  multicast : Bool
deriving DecidableEq, Repr

/-- Something the module sent: the model's own record of it, so that statements can speak of it. -/
inductive Output where
  /-- An MSI-X message of a vector (R471). -/
  | msix (vector : Nat)
  /-- A TLS message: connection, TYPE, MAILBOX, body (R489). -/
  | tls (t typ mailbox : Nat) (body : List Byte)
  /-- A TLS connection closed by the module (R489, R491). -/
  | tlsClose (t : Nat)
  /-- A TLS key update of the sending key (R488). -/
  | tlsKey (t : Nat)
  /-- An Ethernet frame's content by port and ethertype (R323 to R342). -/
  | frame (port ethertype : Nat) (content : List Byte)
  /-- A publication block (R156). -/
  | block (content : List Byte)
  /-- An output telegram to a node (R333, R338). -/
  | telegram (node : Nat) (content : List Byte)
  /-- A CAN frame given to the bus (R350, R351). -/
  | can (c : Nat) (f : CanFrame)
  /-- A heartbeat (R429). -/
  | heartbeat (h : Heartbeat)
  /-- The DEMOTE message (R429, R433). -/
  | demote
  /-- A hello (R424, R442). -/
  | hello
  /-- Agreed inputs sent to the standby (R429). -/
  | agreed (i : AgreedInputs)
  /-- A commit digest: task, cycle, signatures, image generation (R429). -/
  | digest (task cycle : Nat) (sigs : List (Nat × BitVec 128)) (generation : Nat)
  /-- A message of the configuration and control stream (R429). -/
  | control (c : PairControl)
  /-- A loop state entry (R245). -/
  | loopEntry (content : List Byte)
  /-- A state word of a digital group (R276). -/
  | stateWord (g : Nat) (content : List Byte)
  /-- One frame of a panel: the code driven at each pixel in flight (R412, R416). -/
  | panelFrame (p : Nat) (codes : List (Nat × BitVec 2))
  /-- The pulse-per-second output rose (R374). -/
  | pps
  /-- A port starts to send a frame from one of its egress queues (R330): the port, 4 for the service port, the queue, how the frame is
  carried, and what it carries, or a part of it. -/
  | sends (port queue : Nat) (how : Carriage) (what : Output)
deriving DecidableEq, Repr

/-! ## The ship network (R321 to R342, R357, R358) -/

/-- An Ethernet port (R321, R322, R326, R357, R358). -/
structure Port where
  /-- `NET_PORT_STATUS.ROLE`, 4 bits (R357). Reset 0. -/
  role : BitVec 4
  /-- `NET_PORT_STATUS.RX_OVERFLOW`, W1C. Reset 0. -/
  rxOverflow : Bool
  /-- `NET_PORT_STATUS.WRONG_LAN`, W1C. Reset 0. -/
  wrongLan : Bool
  /-- `NET_PORT_STATUS.LINK_LOST`, W1C. Reset 0. -/
  linkLost : Bool
  /-- `NET_PORT_STATUS.FCS_ERROR`, W1C. Reset 0. -/
  fcsError : Bool
  /-- `NET_PORT_STATUS.SUPERVISION_LOST`. Reset 0. -/
  supLost : Bool
  /-- `NET_PORT_STATUS.SPEED_OK`. Reset 0. -/
  speedOk : Bool
  /-- `NET_PORT_STATUS.LINK`. Reset 0. -/
  link : Bool
  /-- `NET_PORT_DROPS.DUP_DISCARDED`, 16 bits, RC, saturating (R358). Reset 0. -/
  dup : BitVec 16
  /-- `NET_PORT_DROPS.RX_DISCARDED`, 16 bits, RC, saturating (R358). Reset 0. -/
  rx : BitVec 16
  /-- The PHY is held in reset until the network firmware is loaded (R322). Reset true. -/
  phyReset : Bool
  /-- Module time of the last supervision frame (R326). Reset 0. -/
  lastSup : Nat
  /-- Module time of the last WARNING for WRONG_LAN (R326). Reset none. -/
  lastWrong : Option Nat
  /-- Module time of the last WARNING for discards (R342). Reset none. -/
  lastOver : Option Nat
deriving DecidableEq, Repr

/-- A frame in an egress queue of a port (R330). -/
structure EgressFrame where
  /-- The queue, 0 to 3. -/
  queue : Nat
  /-- Its length in bytes, from the destination address to the FCS. -/
  bytes : Nat
  /-- How it is carried (R329). -/
  how : Carriage
  /-- What it carries, or a part of it. -/
  what : Output
deriving DecidableEq, Repr

/-- The sending side of a port (R330). -/
structure Egress where
  /-- The frames that wait, in the order they came. Reset none. -/
  waiting : List EgressFrame
  /-- Module time at which the frame in transmission ends. Reset 0. -/
  busy : Nat
  /-- Module time from which queue 0 may send again under HOST_RATE. Reset 0. -/
  hostFrom : Nat
deriving DecidableEq, Repr

/-- A source in the duplicate table (R323, R324). -/
structure DupEntry where
  /-- MAC address of the source. -/
  mac : BitVec 48
  /-- Sequence of the last supervision or data frame. -/
  seq : BitVec 16
  /-- Module time of its last frame. -/
  last : Nat
deriving DecidableEq, Repr

/-- A remote I/O node as the module knows it (R335 to R341). -/
structure Node where
  /-- SILENT (R340). Reset false. -/
  silent : Bool
  /-- Module time of its last accepted telegram (R340). Reset 0. -/
  last : Nat
  /-- Last accepted SEQUENCE of each telegram number; none before the first (R336). Reset none. -/
  seq : Tab (Option Nat)
  /-- Its address is resolved by ARP, with the MAC (R331). Reset none. -/
  mac : Option (BitVec 48)
  /-- TAKEOVER is still set in its telegrams, since this time (R339). Reset none. -/
  takeover : Option Nat
  /-- Discarded telegrams (R336). Reset 0. -/
  discards : Nat
  /-- Telegrams not sent because its address is not resolved (R331). Reset 0. -/
  unresolved : Nat
deriving DecidableEq, Repr

/-- An output telegram, or an output object (R177, R338). -/
structure OutTelegram where
  /-- SEQUENCE of the last one sent (R333). Reset 0. -/
  seq : Word
  /-- Module time of the last send; none before the first (R338). Reset none. -/
  sent : Option Nat
  /-- A change waits for 100 µs after the last send (R338). Reset false. -/
  deferred : Bool
deriving DecidableEq, Repr

/-- The network and the dispatch unit (R172 to R178, R321 to R342). -/
structure Network where
  /-- The four ports. -/
  port : Vector Port 4
  /-- The MODE the last start took: HSR_RING rather than PRP_TWO (R321, R328). Reset false. -/
  hsr : Bool
  /-- The addresses, prefixes and VLAN identifiers the last start took: the record of R327 then in force. Reset empty. -/
  rcd : List Byte
  /-- The module's MAC address, provisioned at manufacture (R328). Reset 0 (DESIGN CHOICE, log 3). -/
  mac : BitVec 48
  /-- The duplicate table, at most 8,192 sources (R323, R324). Reset empty. -/
  dup : List DupEntry
  /-- The nodes known to the supervision protocol, forgotten after 60 s (R323). Reset empty. -/
  supNodes : List DupEntry
  /-- SupSequenceNumber of the next supervision frame. Reset 0. -/
  supSeq : BitVec 16
  /-- The nodes by number (R335). -/
  nodes : Tab Node
  /-- Telegrams of nodes not in the table (R336). Reset 0. -/
  unknown : Nat
  /-- Output telegrams and output objects by KEY without its part (R177, R338). Reset none. -/
  outs : Tab OutTelegram
  /-- The owner count, 16 bits, kept in the configuration area (R339). Reset 0 (DESIGN CHOICE, log 3). -/
  owner : BitVec 16
  /-- The highest OWNER echoed in input telegrams (R339). Reset none. -/
  echoed : Option (BitVec 16)
  /-- The dispatch table in force: entries of 32 bytes in KEY order (R172). Reset empty. -/
  dispatch : List (List Byte)
  /-- The node table in force, which changes with it (R335). Reset empty. -/
  nodeTable : List (List Byte)
  /-- Tables that take effect at the next merge tick (R178, R335). Reset none. -/
  newTables : Option (List (List Byte) × List (List Byte))
  /-- The value and status last emitted for each own signal by an input entry (R176, R178). Reset none. -/
  emitted : Tab (Option (BitVec 64 × Word))
  /-- Module time of the last valid telegram or frame, by KEY without its part (R170). Reset 0. -/
  heard : Tab Nat
  /-- The sending sides of the ports 0 to 3 and of the service port (R330). Reset empty. -/
  egress : Vector Egress 5
  /-- How much of what the module has sent has been given to the egress queues (R330). Reset 0. -/
  given : Nat
deriving DecidableEq, Repr

/-! ## CAN (R344 to R360) -/

/-- A frame in a receive buffer (R349). -/
structure CanBuf where
  /-- The data. -/
  data : List Byte
  /-- CAN FD format. -/
  fd : Bool
  /-- Extended-identifier timestamp of validity (R348). -/
  stamp : Nat
  /-- The identifier received. -/
  ident : BitVec 29
deriving DecidableEq, Repr

/-- A message object (R347, R349, R350, R360). -/
structure CanObj where
  /-- The 24-byte record (R347); empty while not configured. Reset empty. -/
  rcd : List Byte
  /-- FRAMES, 16 bits (R360). Reset 0. -/
  frames : BitVec 16
  /-- WINDOW_MISSED, W1C (R360). Reset 0. -/
  windowMissed : Bool
  /-- OVERWRITTEN, W1C (R360). Reset 0. -/
  overwritten : Bool
  /-- LOCKED (R360). Reset 0. -/
  locked : Bool
  /-- PENDING (R360). Reset 0. -/
  pending : Bool
  /-- FD: the last frame was CAN FD (R360). Reset 0. -/
  fd : Bool
  /-- The primary buffer (R349). Reset empty. -/
  primary : Option CanBuf
  /-- The primary frame is unread (R349). Reset false. -/
  unread : Bool
  /-- The shadow buffer (R349). Reset empty. -/
  shadow : Option CanBuf
  /-- Send data (R350). Reset empty. -/
  data : List Byte
  /-- The object's window is open for its pending frame (R352). Reset false. -/
  windowOpen : Bool
deriving DecidableEq, Repr

/-- What a controller has on the bus (R350). -/
inductive OnBus where
  | nothing
  | reference (payload : List Byte) (sof : Nat)
  | object (m : Nat)
deriving DecidableEq, Repr

/-- A CAN controller (R344 to R359). -/
structure Can where
  /-- The 32-byte record in force (R345); empty while none. Reset empty. -/
  rcd : List Byte
  /-- `CAN_STATUS.TEC`, 8 bits (R359). Reset 0. -/
  tec : BitVec 8
  /-- `CAN_STATUS.REC`, 8 bits, saturating (R359). Reset 0. -/
  rec_ : BitVec 8
  /-- `CAN_STATUS.MASTER_CONFLICT`, W1C. Reset 0. -/
  conflict : Bool
  /-- `CAN_STATUS.REF_ACTIVE`. Reset 0. -/
  refActive : Bool
  /-- `CAN_STATUS.MONITOR`. Reset 0. -/
  monitor : Bool
  /-- `CAN_STATUS.STATE`, 2 bits. Reset 0b11 disabled. -/
  st : BitVec 2
  /-- `CAN_STATUS.BUSOFF_SEEN`, W1C. Reset 0. -/
  busoffSeen : Bool
  /-- `CAN_STATUS.LAST_ERROR`, 3 bits. Reset 0. -/
  lastError : BitVec 3
  /-- `CAN_STATUS.STANDBY_LINE`. Reset 1. -/
  standbyLine : Bool
  /-- `CAN_STATUS.RX_UNMATCHED`, W1C. Reset 0. -/
  unmatched : Bool
  /-- `CAN_STATUS.ENABLED`. Reset 0. -/
  enabled : Bool
  /-- Module times of bus-offs of the last 10 s (R355). Reset none. -/
  busoffs : List Nat
  /-- Module time at which recovery begins (R355). Reset none. -/
  recoverAt : Option Nat
  /-- Module time of the last foreign reference message (R353). Reset none. -/
  foreign : Option Nat
  /-- Next reference time (R351). Reset 0. -/
  nextRef : Nat
  /-- The last reference time t_r (R352). Reset 0. -/
  lastRef : Nat
  /-- A reference message is queued, with its payload (R351). Reset none. -/
  refQueued : Option (List Byte)
  /-- Start of frame of the previous reference message; none since it was enabled or took over (R351). Reset none. -/
  refSof : Option Nat
  /-- Reference messages dropped (R351). Reset 0. -/
  refDropped : Nat
  /-- What is on the bus from this controller (R350). Reset nothing. -/
  bus : OnBus
  /-- The message objects 0 to 127 (R347). -/
  obj : Tab CanObj
deriving DecidableEq, Repr

/-! ## The panels (R402 to R421) -/

/-- A pixel's waveform in flight (R412). -/
structure Flight where
  /-- Update that drives it. -/
  upd : Nat
  /-- Level it ends at. -/
  new : Nat
  /-- Codes still to be driven. -/
  codes : List (BitVec 2)
deriving DecidableEq, Repr

/-- A pixel (R412): the level it holds, the previous one, its ledger, what runs and what is pending. -/
structure Pixel where
  /-- LEVEL, 4 bits. -/
  level : Nat
  /-- PREV, 4 bits. -/
  prev : Nat
  /-- L, signed 8 bits. -/
  ledger : Int
  /-- The running waveform. -/
  flight : Option Flight
  /-- Pending start: update, target, mode. -/
  next : Option (Nat × Nat × Nat)
deriving DecidableEq, Repr

/-- The states of an update (R410). -/
inductive UpdState where | queued | running | checkpointing | done | faulted
deriving DecidableEq, Repr

/-- A panel update that holds a slot (R408, R410). -/
structure Update where
  /-- Panel. -/
  panel : Nat
  /-- Update identity, 32 bits (R408). -/
  id : Nat
  /-- Order of acceptance across both panels (R411). -/
  order : Nat
  /-- State (R410). -/
  st : UpdState
  /-- Mode (R406). -/
  mode : Nat
  /-- Rectangle: X, Y, W, H. -/
  x : Nat
  /-- Y. -/
  y : Nat
  /-- W. -/
  w : Nat
  /-- H. -/
  h : Nat
  /-- The target levels in row order (R408); for a CLEAN of present levels, taken at its making. -/
  image : List Nat
  /-- Pixels superseded (R412). -/
  superseded : Nat
  /-- TEMP_EXCURSION (R414). -/
  excursion : Bool
  /-- It is a cleaning of a start (R418). -/
  cleaning : Bool
deriving DecidableEq, Repr

/-- A panel checkpoint's intent record (R418). -/
structure Intent where
  /-- Update identity. -/
  id : Nat
  /-- Mode. -/
  mode : Nat
  /-- X. -/
  x : Nat
  /-- Y. -/
  y : Nat
  /-- W. -/
  w : Nat
  /-- H. -/
  h : Nat
deriving DecidableEq, Repr

/-- A panel (R402 to R421). -/
structure Panel where
  /-- The record in force (R404); empty while none. Reset empty. -/
  rcd : List Byte
  /-- A changed record that waits for the flights to end (R405). Reset none. -/
  newRcd : Option (List Byte)
  /-- `PNL_STATUS.PANEL_BAND`, 4 bits (R420). Reset 0. -/
  band : BitVec 4
  /-- `PNL_STATUS.MEAS_BAND`, 4 bits. Reset 0. -/
  meas : BitVec 4
  /-- `PNL_STATUS.HELD`. Reset 0. -/
  held : Bool
  /-- `PNL_STATUS.DIRTY_AT_START`. Reset 0. -/
  dirty : Bool
  /-- `PNL_STATUS.TEMP_FAULT`. Reset 0. -/
  tempFault : Bool
  /-- `PNL_STATUS.TEMP_EXCURSION`, W1C. Reset 0. -/
  excursion : Bool
  /-- `PNL_STATUS.POWER_FAULT`, W1C. Reset 0. -/
  powerFault : Bool
  /-- `PNL_STATUS.LEDGER_OVER`. Reset 0. -/
  ledgerOver : Bool
  /-- `PNL_STATUS.LEDGER_SAT`, W1C. Reset 0. -/
  ledgerSat : Bool
  /-- `PNL_STATUS.I2C_ERROR`, W1C. Reset 0. -/
  i2cError : Bool
  /-- `PNL_STATUS.PWR_GOOD`. Reset 0. -/
  pwrGood : Bool
  /-- `PNL_STATUS.PWR_EN`. Reset 0. -/
  pwrEn : Bool
  /-- The voltages of the panel band are written and confirmed (R415, R416). Reset false. -/
  confirmed : Bool
  /-- Module time PWR_EN was asserted (R416). Reset 0. -/
  enabledAt : Nat
  /-- `PNL_STATUS.FRAMING`. Reset 0. -/
  framing : Bool
  /-- `PNL_TEMP.TEMP`, signed 16 bits, 1/256 °C (R421). Reset 0. -/
  temp : BitVec 16
  /-- Temperature reads failed in succession (R415). Reset 0. -/
  tempFails : Nat
  /-- Module time of the last reading (R414). Reset none. -/
  tempAt : Option Nat
  /-- Module time since which the measured band differs from the panel band (R414). Reset none. -/
  differs : Option Nat
  /-- The waveform set (R406). Reset empty (DESIGN CHOICE, log 3). -/
  waves : List Byte
  /-- The pixels by row × 2,400 + column. Reset level 0, ledger 0 (DESIGN CHOICE, log 3). -/
  pix : Tab Pixel
  /-- The next update identity, 32 bits (R408). Reset 0 (R408: restarts at 0). -/
  nextId : Nat
  /-- Identities of the last 32 that completed, with whether FAULTED, newest first (R410). Reset none. -/
  completed : List (Nat × Bool)
  /-- The checkpoint in persistent memory: levels and ledgers (R418). Reset none (DESIGN CHOICE, log 3). -/
  savedPix : Tab (Nat × Int)
  /-- The checkpoint is valid (R418). Reset false (DESIGN CHOICE, log 3). -/
  savedValid : Bool
  /-- Its open intent records, at most 32 (R418). Reset none. -/
  intents : List Intent
  /-- Module time of the last frame (R416). Reset 0. -/
  lastFrame : Nat
  /-- Module time of the last update (R413). Reset 0. -/
  lastUpdate : Nat
deriving DecidableEq, Repr

/-! ## The pair (R422 to R447) -/

/-- The pair states of R427, in code order. -/
inductive PairState where
  | unpaired | activeAlone | activePaired | catchingUp | inStep | outOfStep | demoting | handingOver
deriving DecidableEq, Repr

/-- Agreed inputs of one cycle of a task, as received (R430). -/
structure AgreedCycle where
  /-- Task cycle number. -/
  cycle : Nat
  /-- The agreed items of CP1. -/
  items : List (ItemSrc × ItemVal)
deriving DecidableEq, Repr

/-- The commit digest of one cycle of a task, as received (R430). -/
structure CycleDigest where
  /-- Task cycle number. -/
  cycle : Nat
  /-- Scope signatures of CP2. -/
  sigs : List (Nat × BitVec 128)
  /-- Image generation of CP3. -/
  generation : Nat
deriving DecidableEq, Repr

/-- Agreed entries of one image merge, as received (R430). -/
structure AgreedMerge where
  /-- The generation of the merge. -/
  generation : Nat
  /-- The entries. -/
  entries : List Entry
deriving DecidableEq, Repr

/-- The redundant pair as this module sees it (R422 to R447). -/
structure Pair where
  /-- The pair record the last start took (R422: a change takes effect at the next start). Reset empty. -/
  rcd : List Byte
  /-- `DB_STATUS.PAIR_STATE`, 4 bits (R427, R446). Reset UNPAIRED. -/
  st : PairState
  /-- `DB_STATUS.PROGRESS`, 10 bits (R446). Reset 0. -/
  progress : BitVec 10
  /-- `DB_STATUS.CATCHUP_SUSPENDED` (R443, R446). Reset 0. -/
  suspended : Bool
  /-- `DB_STATUS.HB_LOST`, W1C (R446). Reset 0. -/
  hbLost : Bool
  /-- `DB_STATUS.ACT_CONFLICT`, W1C (R446). Reset 0. -/
  actConflict : Bool
  /-- `DB_STATUS.STEP_LOST`, W1C (R446). Reset 0. -/
  stepLost : Bool
  /-- `DB_STATUS.LIVE_IN_STALE` (R423, R446). Reset 0. -/
  liveStale : Bool
  /-- `DB_STATUS.ACT_IN`: PAIR_ACT_I (R423, R446). Reset 0. -/
  actIn : Bool
  /-- `DB_STATUS.ACT_OUT`: PAIR_ACT_O (R423, R446). Reset 0. -/
  actOut : Bool
  /-- `DB_STATUS.POSITION` (R328, R446). Reset 0. -/
  position : Bool
  /-- The level of PAIR_LIVE_O (R423). Reset low (DESIGN CHOICE, log 3). -/
  liveOut : Bool
  /-- Module time at which the Coupler last refreshed the field section (R426). Reset 0. -/
  refreshed : Nat
  /-- The partner's DEMOTE message has been received, and its heartbeat has not since shown another state (R425, R433). Reset false. -/
  demoted : Bool
  /-- `DB_LINK.DB0_LOST`, `DB1_LOST`, W1C (R447). Reset 0. -/
  lost : Vector Bool 2
  /-- Module time of the last heartbeat on each link, for `DB_LINK.DB0_HB` and `DB1_HB` (R447). Reset none. -/
  hb : Vector (Option Nat) 2
  /-- `DB_LINK.DB0_UP`, `DB1_UP` (R447). Reset 0. -/
  up : Vector Bool 2
  /-- The last heartbeat taken from the partner; none while it is unknown (R429, R522). Reset none. -/
  partner : Option Heartbeat
  /-- Module time of the last heartbeat received (R433). Reset 0. -/
  lastHb : Nat
  /-- The partner's heartbeats are lost (R433). Reset true: none has arrived. -/
  partnerLost : Bool
  /-- The partner's last hello (R424, R444). Reset none. -/
  hello : Option Hello
  /-- Sequence number of the next heartbeat sent (R429). Reset 0. -/
  hbSeq : Nat
  /-- LAST_TRIGGER: 0 none, 1 loss, 2 demotion, 3 planned, 4 forced (R522). Reset 0 (DESIGN CHOICE, log 3). -/
  lastTrigger : Nat
  /-- LAST_SWITCHOVER (R522). Reset 0 (DESIGN CHOICE, log 3). -/
  lastSwitchover : Nat
  /-- PENDING_T_H: the hand-over time of a planned switchover; none when none is pending (R439, R522). Reset none. -/
  handAt : Option Nat
  /-- This module is the former active one of a switchover in progress (R440). Reset false. -/
  former : Bool
  /-- T_h of the switchover in progress has passed (R440). Reset false. -/
  handed : Bool
  /-- This module's share of the current outputs in 1/32: it falls or rises in the cross-fade (R437, R440). Reset 32. -/
  share : Nat
  /-- The cross-fade is in progress (R440). Reset false. -/
  fading : Bool
  /-- Catch-up phase: 0 hello, 1 configuration, 2 program, 3 lane state, 4 retained, 5 join (R442). Reset 0. -/
  phase : Nat
  /-- Module time at which it left step (R428). Reset 0. -/
  leftAt : Nat
  /-- The first failing check of R444, 1 to 4; 0 none (R444, R523). Reset 0. -/
  failed : Nat
  /-- Whether the demotion in progress ends in SAFE (R18, R56) and its cause as R433 lists it (R450). Reset (false, 0). -/
  toSafe : Bool
  /-- Cause of the demotion in progress. Reset 0. -/
  cause : Nat
  /-- Module time at which the demotion began (R428). Reset 0. -/
  demoteAt : Nat
  /-- Module time since which the conditions of R435 have held at every heartbeat. Reset none. -/
  reachSince : Option Nat
  /-- Module time at which output verification resumes; none when it is not suspended (R436, R440). Reset none. -/
  verifyAt : Option Nat
  /-- Agreed inputs received for the tasks' cycles, by task: cycle number and items (R430). Reset none. -/
  agreed : Tab (List AgreedCycle)
  /-- Agreed entries of image merges received, by generation, oldest first (R430). Reset none. -/
  merges : List AgreedMerge
  /-- Commit digests received, by task: cycle number, signatures, generation (R430). Reset none. -/
  digests : Tab (List CycleDigest)
  /-- Messages counted as taken on the configuration and control stream (R429). Reset 0. -/
  ctrlSeq : Nat
deriving DecidableEq, Repr

/-! ## Modes, starts and life cycle (R448 to R466, R578) -/

/-- The modes of R448, in code order. -/
inductive Mode where | plinth | boot | maintenance | stop | run | hold | standby | safe
deriving DecidableEq, Repr

/-- The life-cycle states of R461, in code order. -/
inductive Lifecycle where | manufacture | commissioning | inService | serviceOpen | decommissioned
deriving DecidableEq, Repr

/-- What a start came from (R450, R554). -/
inductive StartFrom where | power | reset | watchdog | request | update | forced
deriving DecidableEq, Repr

/-- A start asked for, or in progress (R450 to R454). -/
structure StartPlan where
  /-- What it came from. -/
  origin : StartFrom
  /-- Cold was asked for (R452, R453). -/
  cold : Bool
  /-- TARGET of the request; none for the configured one (R453). -/
  target : Option Mode
  /-- Module time at which it begins (R501), or began. -/
  at_ : Nat
  /-- RUN was in force when it began (R453). -/
  wasRun : Bool
deriving DecidableEq, Repr

/-- An entry of the health map (R457). -/
structure Health where
  /-- HEALTH: 0 OK, 1 DEGRADED, 2 FAILED, 3 UNUSABLE, 4 DISABLED. -/
  health : Nat
  /-- CAUSE: 0 none, 1 start BIST, 2 run-time diagnostic, 3 exclusion count, 4 `BIST_RUN`. -/
  cause : Nat
  /-- SINCE. -/
  since : Nat
deriving DecidableEq, Repr

/-- Modes, starts and life cycle (R448 to R466). -/
structure Modes where
  /-- The mode, `HI_STATUS.MODE` (R448, R470). Reset BOOT (R470). -/
  mode : Mode
  /-- MODE_GET.PENDING: the mode being entered (R451, R501). Reset none. -/
  pending : Option Mode
  /-- A start accepted that begins 10 ms after its response (R501). Reset none. -/
  plan : Option StartPlan
  /-- The start in progress (R454). Reset none: `START` begins one. -/
  start : Option StartPlan
  /-- The start waits for a hello until this time (R424). Reset none. -/
  roleWait : Option Nat
  /-- Failed starts not yet recorded as an ALARM (R459). Reset 0. -/
  unreported : Nat
  /-- Step 1 of the start in progress is done: whether the start is cold, and whether the Plinth had lost its time (R452, R459). -/
  begun : Option (Bool × Bool)
  /-- Plinth ticks at which the start began, for its bound of 180 s (R459). Reset 0. -/
  bootAt : BitVec 48
  /-- Groups of BIST completed in the start in progress, which run one after another (R36, R455). Reset 0. -/
  bistDone : Nat
  /-- The life-cycle state, in the security unit (R461). Reset MANUFACTURE (R470). -/
  life : Lifecycle
  /-- The owner lock is engaged by the command (R466). Reset false (DESIGN CHOICE, log 3). -/
  lockCmd : Bool
  /-- OWNER_LOCK input (R466). Reset inactive (DESIGN CHOICE, log 3). -/
  lockInput : Bool
  /-- MANOEUVRING input (R451). Reset inactive (DESIGN CHOICE, log 3). -/
  manoeuvring : Bool
  /-- The health map, by unit index (R457). Reset OK: built at step 7 of the start. -/
  health : Tab Health
  /-- The compatibility path is open (R464). Reset false. -/
  compat : Bool
  /-- Module time of the last WARNING for a TCK edge (R463). Reset none. -/
  lastTck : Option Nat
  /-- The identity keys and TLS keys are provisioned (R462, R464). Reset true (DESIGN CHOICE, log 3). -/
  identity : Bool
  /-- The role credentials and password hashes are provisioned (R464, R526). Reset true (DESIGN CHOICE, log 3). -/
  roleCreds : Bool
  /-- The pair credential is provisioned (R444, R464). Reset true (DESIGN CHOICE, log 3). -/
  pairCred : Bool
  /-- The program-signing key is provisioned (R187, R444). Reset true (DESIGN CHOICE, log 3). -/
  signingKey : Bool
  /-- Module times of failed logins by user, within 10 min (R526). Reset none. -/
  loginFails : List (List Byte × List Nat)
  /-- Users refused until a module time (R526). Reset none. -/
  loginLocks : List (List Byte × Nat)
  /-- Sessions marked as factory sessions (R578). Reset none. -/
  factory : List SessId
deriving DecidableEq, Repr

/-! ## The configuration (R502 to R507) -/

/-- A configuration set: the records of the kinds of R504, and the vessel signal table in bytes. -/
structure ConfigSet where
  /-- Records by kind × 2^32 + index. -/
  recs : Tab (List Byte)
  /-- The vessel signal table (R505). -/
  table : Mem
  /-- Bytes of the signal table present. -/
  tableLen : Nat
deriving DecidableEq, Repr

/-- The configuration session (R503). -/
structure CfgSession where
  /-- SESSION, 32 bits. -/
  number : Nat
  /-- Its holder. -/
  holder : SessId
  /-- The session's copy. -/
  set : ConfigSet
  /-- Bound to a program exchange. -/
  bound : Bool
deriving DecidableEq, Repr

/-- The configuration area as far as no unit of its own holds it (R502 to R506, R456). -/
structure ConfigArea where
  /-- The configuration in force, in both copies (R506). Reset empty (DESIGN CHOICE, log 3). -/
  cur : ConfigSet
  /-- The configuration a start took for the kinds that change only at a start. Reset empty. -/
  started : ConfigSet
  /-- CONFIG_ID, 64 bits (R499). Reset 0: before the first commit. -/
  configId : Nat
  /-- Neither copy is valid while this is false (R452). Reset true (DESIGN CHOICE, log 3). -/
  valid : Bool
  /-- Records received from the active module and not yet committed there (R429). Reset none. -/
  incoming : Option ConfigSet
  /-- The session open, at most one (R503). Reset none. -/
  session : Option CfgSession
  /-- Number of the next session, 32 bits (R502). Reset 0 (DESIGN CHOICE, log 3). -/
  nextSession : Nat
  /-- The publication mirror, by own signal index: the last published entry (R456). Reset none (DESIGN CHOICE, log 3). -/
  mirror : Tab (List Byte)
  /-- ASSIGN of `LANE_CONFIG_SET`: lane of each task in split (R521, R524). Reset 0 (DESIGN CHOICE, log 3). -/
  assign : Tab Nat
deriving DecidableEq, Repr

/-! ## Firmware update (R545 to R558) -/

/-- The firmware store and the update (R545 to R558). -/
structure Firmware where
  /-- Update state, coded as R549. Reset IDLE (DESIGN CHOICE, log 3). -/
  st : Nat
  /-- UPDATE_ID, 32 bits (R549). Reset 0 (DESIGN CHOICE, log 3). -/
  id : Nat
  /-- IMAGE_SIZE fixed by `UPD_BEGIN` (R551). Reset 0. -/
  size : Nat
  /-- DIGEST fixed by `UPD_BEGIN` (R551). Reset 0. -/
  digest : BitVec 384
  /-- The staging area (R551). Reset zero. -/
  staged : Mem
  /-- Byte ranges received: start and end (R551). Reset none. -/
  covered : List (Nat × Nat)
  /-- The banks A and B (R545). Reset zero (DESIGN CHOICE, log 3). -/
  bank : Vector Mem 2
  /-- The CONFIRMED bank (R545). Reset A (DESIGN CHOICE, log 3). -/
  confirmed : Fin 2
  /-- A bank is on TRIAL: the one that is not CONFIRMED (R545). Reset false (DESIGN CHOICE, log 3). -/
  trial : Bool
  /-- The bank that runs (R545). Reset A (DESIGN CHOICE, log 3). -/
  running : Fin 2
  /-- MIN_SECURITY_VERSION, 32 bits (R548). Reset 0 (DESIGN CHOICE, log 3). -/
  minSecurity : Nat
  /-- RETAINED_FORMAT that the configuration area was last written in, for the next start (R452, R556). Reset 0. -/
  lastFormat : Nat
  /-- ORDER_CODE, 16 bytes (R499). Reset zero (DESIGN CHOICE, log 3). -/
  orderCode : List Byte
  /-- SERIAL, 16 bytes (R499). Reset zero (DESIGN CHOICE, log 3). -/
  serial : List Byte
  /-- PCI identifiers, 64 bits (R467, R499). Reset 0 (DESIGN CHOICE, log 3). -/
  pciIds : BitVec 64
deriving DecidableEq, Repr

end Sys2Proof.Machine
end

