-- ==== Sys2Proof/Machine/State.lean ====
section
/-! DEFINITION. The state of the module, its reset, and the reasons a step can stop.  The state is plain data: every unit of the
manual with its registers and its tables, and the queue of the commands that wait.  Reset values that no rule states are those
of log 3 (DESIGN CHOICE). -/

namespace Sys2Proof.Machine

/-- The faults of a step.  The block has none: every command has an effect in every state. -/
inductive Fault
deriving DecidableEq, Repr

/-- The refusals of a step. -/
inductive Refusal where
  /-- Raised by an arm of the dispatch whose command has no meaning yet: safe, the machine stops. No arm raises it. -/
  | notModelled (mnemonic : String)
deriving DecidableEq, Repr

/-- The state of the module. -/
structure State where
  /-- The recorder (R527 to R544). -/
  recorder : Recorder
  /-- The host interface (R467 to R491). -/
  host : HostIf
  /-- The time unit (R361 to R379). -/
  time : TimeUnit
  /-- The Plinth (R381 to R400). -/
  plinth : Plinth
  /-- The power sequencer (R15 to R38, R572). -/
  power : Power
  /-- The Coupler and the lanes (R39 to R84). -/
  cpl : Coupler
  /-- The tasks 0 to 31 (R85 to R120). -/
  task : Vector Task 32
  /-- Retained state (R121 to R127). -/
  retained : Retained
  /-- The vessel signal image (R128 to R183). -/
  image : Image
  /-- Publication (R151 to R165). -/
  pub : Publisher
  /-- Programs and the exchange (R185 to R216). -/
  prog : Programs
  /-- The loop section (R217 to R249). -/
  loop : LoopEngine
  /-- The universal channels (R250 to R268). -/
  uc : Vector Uc 16
  /-- The cold-junction sensors (R261). -/
  cj : Vector CjSensor 2
  /-- The digital channels (R270 to R293). -/
  dig : Vector Dig 48
  /-- The counting functions of digital channels 0 to 3 (R288 to R291). -/
  counter : Vector Counter 4
  /-- The digital groups (R270 to R295). -/
  group : Vector DGroup 4
  /-- The safety functions and the change log (R297 to R319). -/
  safety : Safety
  /-- The ship network and the dispatch unit (R321 to R342). -/
  net : Network
  /-- The CAN controllers (R344 to R359). -/
  can : Vector Can 8
  /-- The panels (R402 to R421). -/
  panel : Vector Panel 2
  /-- The panel updates that hold a slot, in order of acceptance across both panels (R410, R411). -/
  updates : List Update
  /-- The redundant pair (R422 to R447). -/
  pair : Pair
  /-- Modes, starts and life cycle (R448 to R466). -/
  modes : Modes
  /-- The configuration area (R502 to R506). -/
  cfg : ConfigArea
  /-- The firmware store and the update (R545 to R558). -/
  fw : Firmware
  /-- What the module sent, newest first: the model's own field. -/
  out : List Output
  /-- Numbers the free values taken so far: the model's own field (`Config.freeWord`). -/
  fresh : Nat
  /-- The commands that wait, first in, first out. -/
  pending : List Instr
deriving DecidableEq, Repr

/-- `Mailbox` as it is at reset. -/
def mailboxReset : Mailbox where
  state := 0
  protErr := false
  copy := []
  first := 0
  count := 0

/-- `Session` as it is at reset. -/
def sessionReset : Session where
  role := 0
  lastCommand := 0
  user := []

/-- `PathCounts` as it is at reset. -/
def pathCountsReset : PathCounts where
  offered := 0
  weight := 0
  delivered := 0
  bytes := 0
  coalesced := 0
  shed := 0
  kept := 0
  cut := 0

/-- `Path` as it is at reset. -/
def pathReset : Path where
  flood := false
  quiet := none
  second := 0
  cur := pathCountsReset
  prev := pathCountsReset
  window := 0
  inWindow := 0

/-- `Recorder` as it is at reset. -/
def recorderReset : Recorder where
  segs := []
  next := 0
  clearAt := none
  reserve := []
  general := []
  waiting := []
  coalesced := 0
  shed := 0
  dropped := []
  judged := 0
  paths := .replicate 4 pathReset

/-- `HostIf` as it is at reset. -/
def hostIfReset : HostIf where
  epoch := 0
  storedEpoch := 0
  open_ := false
  irqStatus := 0
  irqEnable := 0
  errWrites := 0
  errFlags := 0
  mbx := .replicate 16 mailboxReset
  sess := .replicate 16 sessionReset
  buffers := []
  flags := []
  window := []
  tsnapLo := 0
  tsnapHi := 0
  tsnapStatus := 0
  msix := []
  tlsAccepted := 0
  tls := .replicate 8 none
  subs := .replicate 8 none
  nextSub := 0
  readValue := 0

/-- `TimeUnit` as it is at reset. -/
def timeUnitReset : TimeUnit where
  acc := 0
  wraps := 0
  wrapsSnap := 0
  inc := 0x28000000
  adj := 0
  ppsOutEn := false
  ppsCapture := 0
  offset := 0
  ref10Error := 0
  session := 0
  storedSession := 0
  servo := .free
  source := 0
  offsetLarge := false
  stepped := false
  stepUsed := false
  valid := false
  ppsOk := false
  ref10Ok := false
  ppsOut := false
  tempRate := false
  masterSeen := false
  integral := 0
  acq := []
  run := 0
  delays := []
  delayDiscards := 0
  quietSince := none
  lastTheta := none
  lastMeasured := 0
  masters := []
  masterPort := 0
  utcOffset := 0
  utcValid := false
  exchange := []
  hostRate := 0
  priorRate := 0
  tempEnd := 0
  ppsTheta := none
  ppsLast := none
  ppsOutEnd := 0
  stepDue := none
  large := false
  pairStep := none
  lastNotValid := none
  plinthLoaded := false
  plinthAt := 0

/-- `Alarm` as it is at reset. -/
def alarmReset : Alarm where
  value := 0
  mask := 0
  wdays := 0
  enable := false
  matched := false

/-- `Plinth` as it is at reset. -/
def plinthReset : Plinth where
  ticks := 0
  wday := 0
  phase := 0
  hiSnap := 0
  wdaySnap := 0
  daySnap := 0
  loadLo := 0
  loadHi := 0
  loadWday := 0
  loadDay := 0
  pendTicks := false
  pendWday := false
  loadWait := 0
  alarms := .replicate 2 alarmReset
  alarm0 := false
  alarm1 := false
  collision := false
  cellUsed := false
  battLow := false
  retainLost := true
  bkp := .replicate 16 0
  crystal := 0

/-- `Power` as it is at reset. -/
def powerReset : Power where
  lane := .replicate 3 .off
  mgmtClk := 0
  demanded := .replicate 3 none
  refFault := false
  refOutside := false
  powerFail := false
  feedAUnder := false
  feedBUnder := false
  feedAOk := false
  feedBOk := false
  laneRailFault := false
  barrierOk := false
  dieTemp := 0
  warm := false
  hot := false
  limit := false
  warmOn := false
  hotOn := false
  warmAt := none
  hotAt := none
  lines := 0

/-- `LaneUnit` as it is at reset. -/
def laneUnitReset : LaneUnit where
  st := .off
  exclusions := []
  bistPassed := false
  bring := .held
  since := 0
  core := .replicate 4 none

/-- `Coupler` as it is at reset. -/
def couplerReset : Coupler where
  config := .triplex
  requested := .triplex
  namedSpare := none
  handover := false
  old := .triplex
  fault := false
  main := .a
  spare := none
  unresolved := 0
  lane := .replicate 3 laneUnitReset
  target := .a
  source := .a
  active := false
  suspended := false
  progress := 0
  cleared := 0
  lastUnresolved := none
  intakeSeq := 0
  attach := none
  pol1 := 0
  pol2 := 0
  key := 0
  copies := .replicate 3 []
  copyStart := 0
  stream := 0

/-- `Task` as it is at reset. -/
def taskReset : Task where
  defn := none
  st := .stopped
  phase := .sleep
  cycleNo := 0
  snap := 0
  onNew := false
  released := 0
  next := 0
  leaving := none
  late := false
  overruns := 0
  totalOverruns := 0
  wcetExceeded := 0
  lastCaution := none
  timerShift := 0
  member := .replicate 3 false
  handed := false
  config := .triplex
  cut := []
  items := []
  tols := []
  sigs := []
  outs := []
  badScopes := []
  absent1 := []
  absent2 := []
  absent3 := []
  areaDue := false
  outputs := []
  stepAsked := false
  switched := false
  firstDone := false
  allDirty := false
  entered := true

/-- `Retained` as it is at reset. -/
def retainedReset : Retained where
  pages := []
  owner := []
  slots := []
  rings := .replicate 2 []
  writing := none
  lastSlot := []
  lastHigh := 0
  nextSeq := 0
  queue := []
  lagging := false

/-- `SigRec` as it is at reset. -/
def sigRecReset : SigRec where
  value := 0
  raw := 0
  stamp := 0
  gen := 0
  status := 0
  source := 0
  prev := 0xFFFFFFFF
  typ := 0
  pending := false
  alarm := 0
  slot := 0xFFFF
  received := 0
  srcStatus := 0
  lastGood := none
  pubValue := 0
  pubStatus := 0
  past := []
  srcStamp := 0

/-- `Station` as it is at reset. -/
def stationReset : Station where
  st := .absent
  lastSeq := 0
  lastTime := 0
  gapGen := 0
  gapOut := false
  held := []
  pass := none
  discarded := false
  lastUndef := none
  versions := []

/-- `Image` as it is at reset. -/
def imageReset : Image where
  recs := []
  gen := 0
  events := []
  pool := []
  intake := []
  lastArrival := none
  nextMerge := 0
  stations := .replicate 64 stationReset
  forces := []
  intakeDiscards := 0
  blockDiscards := 0
  entryDiscards := 0
  tableDiscards := 0
  lastFull := none
  lastConflict := none
  corrections := []
  unmapped := []
  substs := []
  stale := []

/-- `Publisher` as it is at reset. -/
def publisherReset : Publisher where
  queue := []
  seq := 0
  stored := 0
  first := true
  takeover := false
  partnerSeq := 0
  partnerGen := 0
  lastSent := 0
  window := []
  pass := 0
  block := 0
  passStart := 0
  lagging := false
  lastHigh := 0

/-- `Slot` as it is at reset. -/
def slotReset : Slot where
  st := .empty
  image := []
  covered := []

/-- `ExchRecord` as it is at reset. -/
def exchRecordReset : ExchRecord where
  st := 0
  newSlot := 0
  flags := 0
  update := 0
  oldId := 0
  newId := 0
  cast := 0
  switched := 0
  firstDone := 0
  lastOldSeq := []
  close := 0xFFFFFFFFFFFFFFFF

/-- `Programs` as it is at reset. -/
def programsReset : Programs where
  slot := .replicate 2 slotReset
  inst := .replicate 2 []
  area := 0
  st := .idle
  newSlot := 0
  castAt := 0
  cast := 0
  forceRelease := false
  safety := false
  table := false
  mergeDue := false
  acked := false
  session := 0
  role := 0
  record := .replicate 2 exchRecordReset
  saturated := []
  drops := []
  caught := false
  oldId := 0
  lastOldSeq := []
  rebuilt := []
  resumed := false

/-- `LoopWork` as it is at reset. -/
def loopWorkReset : LoopWork where
  yf := 0
  i := 0
  d := 0
  edPrev := 0
  rEff := 0
  u := 0
  ramping := false
  outLimited := false
  rateLimited := false
  repActive := false
  repFrozen := false
  pvUncertain := false
  spHeld := false
  ffHeld := false
  paused := false
  spLast := 0
  ffLast := 0
  target := 0
  rp := 0
  started := false
  cell := 0xFFFF
  skips := 0
  learned := none
  quality := 3

/-- `Loop` as it is at reset. -/
def loopReset : Loop where
  rcd := []
  shadow := []
  pend := 0
  again := 0
  sched := none
  gen := 0
  tune := []
  fresh := none
  repReset := none
  mode := .off
  reason := 0
  work := loopWorkReset
  manual := 0
  progSp := []
  progMode := []
  progMan := []
  modeSeen := none
  hostAsk := none
  manualAt := 0
  samples := 0
  tickTime := 0
  next := 0
  sample := none
  missed := 0
  consec := 0
  delay := 0
  delayMax := 0
  ring := []
  copied := .replicate 3 false

/-- `LoopCheckpoint` as it is at reset. -/
def loopCheckpointReset : LoopCheckpoint where
  update := 0
  valid := false
  loops := []
  pool := []

/-- `LoopEngine` as it is at reset. -/
def loopEngineReset : LoopEngine where
  loops := []
  pool := []
  unresolved := 0
  missed := 0
  delayMax := 0
  check := .replicate 2 loopCheckpointReset
  lastCheck := 0
  dirty := false

/-- `Uc` as it is at reset. -/
def ucReset : Uc where
  st := .disabled
  rcd := []
  step := 0
  short_ := false
  settle := 0
  filter := none
  raw := 0
  eng := 0
  status := 0x100
  emitted := none
  sampled := 0
  recent := []
  convAt := 0
  headroom := 0
  command := 0
  output := 0
  clamped := false
  nan := false
  hiZ := false
  open_ := false
  shorted := false
  compLow := false
  notVer := false
  sensor := false
  supply := false
  pulse := false
  pulseFails := 0
  nextPulse := 0
  cleared := 0

/-- `CjSensor` as it is at reset. -/
def cjSensorReset : CjSensor where
  temp := 0
  fault := false

/-- `Dig` as it is at reset. -/
def digReset : Dig where
  st := .disabled
  rcd := []
  step := 0
  fresh := false
  acc := false
  pin := false
  prev := false
  first := none
  last := 0
  tcount := 0
  stamp := 0
  recent := []
  busyAt := 0
  chatter := false
  mismatch := false
  shorted := false
  overload := false
  open_ := false
  encFault := false
  command := false
  commanded := 0
  switch := false
  retries := 0
  retryAt := none
  locked := false
  turned := 0
  status := 0x100
  cleared := 0
  seen := 0

/-- `Counter` as it is at reset. -/
def counterReset : Counter where
  count := 0
  c := 0
  n := 0
  since := 0
  down := false
  indexed := false
  armed := false
  tp := 0
  period := 0
  pulses := 0
  good := 0
  edges := []
  rate := 0
  lastEdge := 0

/-- `DGroup` as it is at reset. -/
def dGroupReset : DGroup where
  failed := false
  soeOverflow := false
  overload := false
  shedding := false
  fsUnder := false
  fsLow := false
  fsVoltage := 0
  current := 0
  soeSeq := 0
  soe := []
  soeLost := 0
  sent := 0
  skew := 0

/-- `Func` as it is at reset. -/
def funcReset : Func where
  st := .notConfigured
  cause := 0
  blocked := false
  timer := none
  resetPrev := false
  resetting := false
  faultSignal := false
  rcd := []

/-- `PairInput` as it is at reset. -/
def pairInputReset : PairInput where
  latched := false
  bothSeen := false
  tDiff := none
  clearing := false
  value := false

/-- `Safety` as it is at reset. -/
def safetyReset : Safety where
  func := []
  pairs := []
  password := none
  failures := []
  lockout := none
  log := []
  nextSeq := 0
  chain := 0
  orphans := []

/-- `Port` as it is at reset. -/
def portReset : Port where
  role := 0
  rxOverflow := false
  wrongLan := false
  linkLost := false
  fcsError := false
  supLost := false
  speedOk := false
  link := false
  dup := 0
  rx := 0
  phyReset := true
  lastSup := 0
  lastWrong := none
  lastOver := none

/-- `Node` as it is at reset. -/
def nodeReset : Node where
  silent := false
  last := 0
  seq := []
  mac := none
  takeover := none
  discards := 0
  unresolved := 0

/-- `OutTelegram` as it is at reset. -/
def outTelegramReset : OutTelegram where
  seq := 0
  sent := none
  deferred := false

/-- `Egress` as it is at reset. -/
def egressReset : Egress where
  waiting := []
  busy := 0
  hostFrom := 0

/-- `Network` as it is at reset. -/
def networkReset : Network where
  port := .replicate 4 portReset
  hsr := false
  rcd := []
  mac := 0
  dup := []
  supNodes := []
  supSeq := 0
  nodes := []
  unknown := 0
  outs := []
  owner := 0
  echoed := none
  dispatch := []
  nodeTable := []
  newTables := none
  emitted := []
  heard := []
  egress := .replicate 5 egressReset
  given := 0

/-- `CanObj` as it is at reset. -/
def canObjReset : CanObj where
  rcd := []
  frames := 0
  windowMissed := false
  overwritten := false
  locked := false
  pending := false
  fd := false
  primary := none
  unread := false
  shadow := none
  data := []
  windowOpen := false

/-- `Can` as it is at reset. -/
def canReset : Can where
  rcd := []
  tec := 0
  rec_ := 0
  conflict := false
  refActive := false
  monitor := false
  st := 3
  busoffSeen := false
  lastError := 0
  standbyLine := true
  unmatched := false
  enabled := false
  busoffs := []
  recoverAt := none
  foreign := none
  nextRef := 0
  lastRef := 0
  refQueued := none
  refSof := none
  refDropped := 0
  bus := .nothing
  obj := []

/-- `Pixel` as it is at reset. -/
def pixelReset : Pixel where
  level := 0
  prev := 0
  ledger := 0
  flight := none
  next := none

/-- `Panel` as it is at reset. -/
def panelReset : Panel where
  rcd := []
  newRcd := none
  band := 0
  meas := 0
  held := false
  dirty := false
  tempFault := false
  excursion := false
  powerFault := false
  ledgerOver := false
  ledgerSat := false
  i2cError := false
  pwrGood := false
  pwrEn := false
  confirmed := false
  enabledAt := 0
  framing := false
  temp := 0
  tempFails := 0
  tempAt := none
  differs := none
  waves := []
  pix := []
  nextId := 0
  completed := []
  savedPix := []
  savedValid := false
  intents := []
  lastFrame := 0
  lastUpdate := 0

/-- `Pair` as it is at reset. -/
def pairReset : Pair where
  rcd := []
  st := .unpaired
  progress := 0
  suspended := false
  hbLost := false
  actConflict := false
  stepLost := false
  liveStale := false
  actIn := false
  actOut := false
  position := false
  liveOut := false
  refreshed := 0
  demoted := false
  lost := .replicate 2 false
  hb := .replicate 2 none
  up := .replicate 2 false
  partner := none
  lastHb := 0
  partnerLost := true
  hello := none
  hbSeq := 0
  lastTrigger := 0
  lastSwitchover := 0
  handAt := none
  former := false
  handed := false
  share := 32
  fading := false
  phase := 0
  leftAt := 0
  failed := 0
  toSafe := false
  cause := 0
  demoteAt := 0
  reachSince := none
  verifyAt := none
  agreed := []
  merges := []
  digests := []
  ctrlSeq := 0

/-- `Health` as it is at reset. -/
def healthReset : Health where
  health := 0
  cause := 0
  since := 0

/-- `Modes` as it is at reset. -/
def modesReset : Modes where
  mode := .boot
  pending := none
  plan := none
  start := none
  roleWait := none
  unreported := 0
  begun := none
  bootAt := 0
  bistDone := 0
  life := .manufacture
  lockCmd := false
  lockInput := false
  manoeuvring := false
  health := []
  compat := false
  lastTck := none
  identity := true
  roleCreds := true
  pairCred := true
  signingKey := true
  loginFails := []
  loginLocks := []
  factory := []

/-- `ConfigSet` as it is at reset. -/
def configSetReset : ConfigSet where
  recs := []
  table := []
  tableLen := 0

/-- `ConfigArea` as it is at reset. -/
def configAreaReset : ConfigArea where
  cur := configSetReset
  started := configSetReset
  configId := 0
  valid := true
  incoming := none
  session := none
  nextSession := 0
  mirror := []
  assign := []

/-- `Firmware` as it is at reset. -/
def firmwareReset : Firmware where
  st := 0
  id := 0
  size := 0
  digest := 0
  staged := []
  covered := []
  bank := .replicate 2 []
  confirmed := 0
  trial := false
  running := 0
  minSecurity := 0
  lastFormat := 0
  orderCode := .replicate 16 0
  serial := .replicate 16 0
  pciIds := 0
/-- The module right after reset, before a start has begun: BOOT, every unit at its reset values, nothing configured. -/
def State.reset : State where
  recorder := recorderReset
  host := hostIfReset
  time := timeUnitReset
  plinth := plinthReset
  power := powerReset
  cpl := couplerReset
  task := .replicate 32 taskReset
  retained := retainedReset
  image := imageReset
  pub := publisherReset
  prog := programsReset
  loop := loopEngineReset
  uc := .replicate 16 ucReset
  cj := .replicate 2 cjSensorReset
  dig := .replicate 48 digReset
  counter := .replicate 4 counterReset
  group := .replicate 4 dGroupReset
  safety := safetyReset
  net := networkReset
  can := .replicate 8 canReset
  panel := .replicate 2 panelReset
  updates := []
  pair := pairReset
  modes := modesReset
  cfg := configAreaReset
  fw := firmwareReset
  out := []
  fresh := 0
  pending := []

end Sys2Proof.Machine
end

