-- ==== Sys2Proof/Machine/Ops.lean ====
section
/-! DEFINITION. The operations every unit shares: module time, what is sent, free values, interrupts, and the admission of a
record to the recorder's staging (R538 to R543). -/

namespace Sys2Proof.Machine

/-- Changes element `i` of a vector; nothing where there is none. -/
def vmod {α : Type} {n : Nat} (v : Vector α n) (i : Nat) (f : α → α) : Vector α n :=
  match v[i]? with
  | some x => v.setIfInBounds i (f x)
  | none => v

/-- Writes element `i` of a vector. -/
def vset {α : Type} {n : Nat} (v : Vector α n) (i : Nat) (x : α) : Vector α n := v.setIfInBounds i x

/-- Element `i` of a vector, `d` where there is none. -/
def vget {α : Type} {n : Nat} (d : α) (v : Vector α n) (i : Nat) : α := v[i]?.getD d

/-- One microsecond, in nanoseconds. -/
def us : Nat := 1000
/-- One millisecond, in nanoseconds. -/
def ms : Nat := 1000000
/-- One second, in nanoseconds. -/
def sec : Nat := 1000000000

/-- Module time in nanoseconds: `TIME_WRAPS` and `TIME_NS` (R361). -/
def now (s : State) : Nat := s.time.wraps.toNat * 2 ^ 32 + s.time.acc.toNat / 2 ^ 24

/-- Records that the module sent something. -/
def emit (o : Output) (s : State) : State := { s with out := o :: s.out }

/-- Records several things sent, in order. -/
def emits (os : List Output) (s : State) : State := os.foldl (fun t o => emit o t) s

/-- The free value that comes next. -/
def freeValue (s : State) : BitVec 64 := Config.freeWord s.fresh

/-- Moves on to the next free value. -/
def nextFree (s : State) : State := { s with fresh := s.fresh + 1 }

/-- A lane's number: A, B, C are 0, 1, 2. -/
def laneNo : Lane → Nat
  | .a => 0
  | .b => 1
  | .c => 2

/-- The lane of a number; none above 2. -/
def laneOf : Nat → Option Lane
  | 0 => some .a
  | 1 => some .b
  | 2 => some .c
  | _ => none

/-- All lanes, lowest-lettered first. -/
def lanes : List Lane := [.a, .b, .c]

/-! ## Modes as codes -/

/-- The code of a mode (R448). -/
def modeCode : Mode → Nat
  | .plinth => 0
  | .boot => 1
  | .maintenance => 2
  | .stop => 3
  | .run => 4
  | .hold => 5
  | .standby => 6
  | .safe => 7

/-- The mode of a code (R448). -/
def modeOf : Nat → Option Mode
  | 0 => some .plinth
  | 1 => some .boot
  | 2 => some .maintenance
  | 3 => some .stop
  | 4 => some .run
  | 5 => some .hold
  | 6 => some .standby
  | 7 => some .safe
  | _ => none

/-- Whether the module is in STOP, RUN or HOLD. -/
def operating (s : State) : Bool :=
  match s.modes.mode with
  | .stop | .run | .hold => true
  | _ => false

/-- The code of a life-cycle state (R470). -/
def lifeCode : Lifecycle → Nat
  | .manufacture => 0
  | .commissioning => 1
  | .inService => 2
  | .serviceOpen => 3
  | .decommissioned => 4

/-- The life-cycle state of a code. -/
def lifeOf : Nat → Option Lifecycle
  | 0 => some .manufacture
  | 1 => some .commissioning
  | 2 => some .inService
  | 3 => some .serviceOpen
  | 4 => some .decommissioned
  | _ => none

/-- The code of a pair state (R427). -/
def pairCode : PairState → Nat
  | .unpaired => 0
  | .activeAlone => 1
  | .activePaired => 2
  | .catchingUp => 3
  | .inStep => 4
  | .outOfStep => 5
  | .demoting => 6
  | .handingOver => 7

/-- Whether a role code includes another (R465): 0 none, 1 VIEWER, 2 OPERATOR, 3 ENGINEER, 4 SAFETY_ENGINEER, 5 OWNER,
6 SERVICE. -/
def roleIncludes (have_ need : Nat) : Bool :=
  need == 0 || have_ == need ||
  (have_ == 2 && need == 1) ||
  (have_ == 3 && (need == 1 || need == 2)) ||
  (have_ == 4 && (need == 1 || need == 2 || need == 3)) ||
  (have_ == 5 && need == 1) ||
  (have_ == 6 && (need == 1 || need == 2 || need == 3))

/-- The owner lock is engaged by the command or by the input (R466). -/
def ownerLocked (s : State) : Bool := s.modes.lockCmd || s.modes.lockInput

/-! ## The clock of the management processor (R17, R37) -/

/-- Changes the power sequencer. -/
def powerMod (f : Power → Power) (s : State) : State := { s with power := f s.power }

/-- The level that a kind of demand sets, as `PSEQ_STATUS.MGMT_CLK` codes it: 250, 500 and 1,000 MHz (R17, R37). -/
def clkCode : ClkDemand → Nat
  | .doorbell | .drawbar => 1
  | .recorderBurst | .firmwareBlock | .programBlock => 2
  | .tlsRecord | .start | .longCommand => 3

/-- A demand arises: the clock rises to its level where it is lower; it does not fall (R17). -/
def demandClock (k : ClkDemand) (s : State) : State :=
  powerMod (fun p =>
    { p with
      mgmtClk := BitVec.ofNat 2 (max p.mgmtClk.toNat (clkCode k))
      demanded := vset p.demanded (clkCode k - 1) (some (now s)) }) s

/-! ## Interrupts (R471) -/

/-- The MSI-X vector of a bit of `IRQ_STATUS` (R471). -/
def irqVector (i : Nat) : Nat := if i < 16 then 0 else if i = 17 then 2 else 1

/-- Sets bit `i` of `IRQ_STATUS`: a message of its vector is sent when the bit sets while it is enabled (R471). -/
def raiseIrq (i : Nat) (s : State) : State :=
  if bit s.host.irqStatus.toNat i then s
  else
    let t := { s with host := { s.host with irqStatus := s.host.irqStatus ||| BitVec.ofNat 32 (2 ^ i) } }
    if bit s.host.irqEnable.toNat i then emit (.msix (irqVector i)) t else t

/-! ## Records (R529, R530) -/

/-- SOURCE of a record made by a unit of the health map (R529). -/
def srcUnit (u : Nat) : Word := BitVec.ofNat 32 (0x80000000 + u)

/-- SOURCE of a record of a safety function (R529). -/
def srcFunc (n : Nat) : Word := BitVec.ofNat 32 (0x90000000 + n)

/-- SOURCE of a task's record (R132, R529): kind 1, the task. -/
def srcTask (t : Nat) : Word := BitVec.ofNat 32 (0x10000000 + t)

/-- The HANDLE of no signal. -/
def noHandle : Word := 0xFFFFFFFF#32

/-- Pads a record's body so that the record is a multiple of 64 bytes, at most 512 (R529). -/
def padBody (b : List Byte) : List Byte :=
  let n := min 512 (max 64 ((32 + b.length + 63) / 64 * 64))
  (b ++ zeros (n - 32)).take (n - 32)

/-- FLAGS of a record made now: TIME_VALID and STANDBY (R529). -/
def recordFlags (s : State) : Nat := b2n s.time.valid + 2 * b2n (s.modes.mode == .standby)

/-- A plain record: severity, CODE, SOURCE, HANDLE, SESSION and DATA (R530). -/
def plainRecord (sev code : Nat) (src handle session : Word) (data : List Byte) (s : State) : Record where
  time := now s
  sev := sev
  kind := 0
  code := code
  flags := recordFlags s
  source := src
  body := padBody (le 4 handle.toNat ++ le 4 session.toNat ++ data)

/-- Bytes of a record in the store (R529). -/
def recordLength (r : Record) : Nat := 32 + r.body.length

/-- Slots of 128 bytes that a record takes in staging (R538). -/
def recordSlots (r : Record) : Nat := (recordLength r + 127) / 128

/-- Slots a list of staged records takes. -/
def slotsOf (rs : List Record) : Nat := rs.foldl (fun n r => n + recordSlots r) 0

/-- The handle a record names: the first four bytes of the body, of a plain, repeat or sequence record. -/
def recordHandle (r : Record) : Nat := if r.kind == 2 || r.kind == 4 then 0xFFFFFFFF else fld32 r.body 0

/-- Whether two records have the same key (R529). -/
def sameKey (a b : Record) : Bool :=
  a.sev == b.sev && a.code == b.code && a.source == b.source && recordHandle a == recordHandle b

/-- Where DATA and SESSION lie in a record's body. -/
def recordData (r : Record) : List Byte := if r.kind == 1 then r.body.drop 32 else r.body.drop 8

/-- SESSION of a record's body (R530). -/
def recordSession (r : Record) : Nat := if r.kind == 1 then fld32 r.body 16 else if r.kind == 0 then fld32 r.body 4 else 0

/-- The repeat-count record that a staged record becomes when a new one of its key is merged into it (R530, R541). -/
def mergeRecord (x r : Record) : Record :=
  { x with
    kind := 1
    body := padBody (le 4 (recordHandle x) ++ le 4 (if x.kind == 1 then fld32 x.body 4 + 1 else 2) ++ le 8 r.time ++
      le 4 (recordSession r) ++ zeros 12 ++ recordData r) }

/-- Merges a record into the first staged one of its key; none where there is none. -/
def mergeInto (r : Record) : List Record → Option (List Record)
  | [] => none
  | x :: xs => if sameKey x r && x.kind != 2 then some (mergeRecord x r :: xs) else (mergeInto r xs).map (x :: ·)

/-- Removes the newest record of the lowest severity present below `sev`; none where there is none (R542). -/
def shedOne (sev : Nat) (rs : List Record) : Option (List Record) :=
  let low := rs.foldl (fun m r => min m r.sev) 8
  if low < sev then
    let rec drop : List Record → List Record
      | [] => []
      | x :: xs => if x.sev == low then xs else x :: drop xs
    some (drop rs.reverse).reverse
  else none

/-- Slots of the reserve for EMERGENCY and ALARM records: the 1,179,648 of R538 but for the 65,536 of AUDIT and summaries. -/
def alarmSlots : Nat := 1114112
/-- Slots of the reserve for AUDIT and summary records (R538). -/
def auditSlots : Nat := 65536
/-- Slots of the general part (R538). -/
def generalSlots : Nat := 65536

/-- Slots used by AUDIT and summary records in the reserve. -/
def auditUsed (s : State) : Nat := slotsOf (s.recorder.reserve.filter fun r => r.sev == 5 || r.kind == 2)

/-- Slots used by EMERGENCY and ALARM records in the reserve. -/
def alarmUsed (s : State) : Nat := slotsOf (s.recorder.reserve.filter fun r => decide (6 ≤ r.sev))

/-- An AUDIT record of a host command finds a slot (R539): the command returns `ST_BUSY` otherwise. -/
def auditRoom (s : State) : Bool := decide (auditUsed s + 1 ≤ auditSlots) && s.recorder.waiting.all (fun r => r.sev != 5)

/-- A path's counts at module time `t`: those of an earlier second move back (R543). -/
def pathRoll (t : Nat) (q : Path) : Path :=
  let k := t / sec
  if q.second = k then q
  else { q with second := k, cur := pathCountsReset, prev := if q.second + 1 = k then q.cur else pathCountsReset }

/-- Changes path `p` of the recorder: 0 TRACE, 1 RECORDER, 2 MAILBOX, 3 CONSOLE (R543). -/
def pathMod (p : Nat) (f : Path → Path) (s : State) : State :=
  { s with recorder := { s.recorder with paths := vmod s.recorder.paths p fun q => f (pathRoll (now s) q) } }

/-- `n` more records of a weight offered to a path: above its budget over 100 ms the path enters FLOOD (R540, R543). -/
def offeredMany (p budget n weight : Nat) (s : State) : State :=
  let w := now s / (100 * ms)
  pathMod p (fun q =>
    let k := (if q.window = w then q.inWindow else 0) + weight
    let c := { q.cur with offered := q.cur.offered + n, weight := q.cur.weight + weight }
    { q with cur := c, window := w, inWindow := k, flood := q.flood || decide (k > budget) }) s

/-- One more record offered to a path. -/
def offered (p budget : Nat) (s : State) : State := offeredMany p budget 1 1 s

/-- A record coalesced at a path: the path is in FLOOD (R543). -/
def pathCoalesced (p : Nat) (s : State) : State :=
  pathMod p (fun q => { q with cur := { q.cur with coalesced := q.cur.coalesced + 1 }, flood := true }) s

/-- A record of a severity shed at a path: the path is in FLOOD (R543). -/
def pathShed (p sev : Nat) (s : State) : State :=
  pathMod p (fun q =>
    { q with cur := { q.cur with shed := q.cur.shed + 1, cut := q.cur.cut ||| BitVec.ofNat 8 (2 ^ sev) }, flood := true }) s

/-- A record of a severity delivered at a path (R543). -/
def pathDelivered (p sev len : Nat) (s : State) : State :=
  pathMod p (fun q =>
    let c := { q.cur with
      delivered := q.cur.delivered + 1, bytes := q.cur.bytes + len, kept := q.cur.kept ||| BitVec.ofNat 8 (2 ^ sev) }
    { q with cur := c }) s

/-- Whether the record offered now exceeds the TRACE budget of its 100 ms (R540). -/
def traceOver (s : State) : Bool :=
  let q := s.recorder.paths[0]
  decide (q.window = now s / (100 * ms)) && decide (1000 ≤ q.inWindow)

/-- The lowest severity among records. -/
def lowestSev (rs : List Record) : Nat := rs.foldl (fun m r => min m r.sev) 8

/-- Admission of a record of the reserve: EMERGENCY, ALARM, AUDIT and summaries (R538, R539, R541). -/
def admitReserve (r : Record) (s : State) : State :=
  let put (s : State) : State := { s with recorder := { s.recorder with reserve := s.recorder.reserve ++ [r] } }
  let wait (s : State) : State := { s with recorder := { s.recorder with waiting := s.recorder.waiting ++ [r] } }
  if r.kind == 2 then put s
  else if r.sev == 5 then
    (if auditUsed s + recordSlots r ≤ auditSlots ∧ s.recorder.waiting.all (fun x => x.sev != 5) then put s else wait s)
  else if alarmUsed s + recordSlots r ≤ alarmSlots ∧ s.recorder.waiting.all (fun x => x.sev == 5) then put s
  else
    match mergeInto r s.recorder.reserve with
    | some rs => pathCoalesced 1 { s with recorder := { s.recorder with reserve := rs, coalesced := s.recorder.coalesced + 1 } }
    | none => wait s

/-- Admission of a general record: WARNING and below (R541, R542). -/
def admitGeneral (r : Record) (s : State) : State :=
  match mergeInto r s.recorder.general with
  | some rs => pathCoalesced 1 { s with recorder := { s.recorder with general := rs, coalesced := s.recorder.coalesced + 1 } }
  | none =>
    if slotsOf s.recorder.general + recordSlots r ≤ generalSlots then
      { s with recorder := { s.recorder with general := s.recorder.general ++ [r] } }
    else
      match shedOne r.sev s.recorder.general with
      | some rs => pathShed 1 (lowestSev s.recorder.general) { s with recorder := { s.recorder with general := rs ++ [r], shed := s.recorder.shed + 1 } }
      | none => pathShed 1 r.sev { s with recorder := { s.recorder with shed := s.recorder.shed + 1 } }

/-- Admission of a record to staging (R538 to R543): TRACE and DEBUG records pass the TRACE path first. -/
def admitRecord (r : Record) (s : State) : State :=
  let s1 := if r.sev ≤ 1 then offered 0 1000 s else s
  if r.sev ≤ 1 ∧ traceOver s then
    pathShed 0 r.sev { s1 with recorder := { s1.recorder with shed := s1.recorder.shed + 1 } }
  else
    let s2 := offered 1 25000 (if r.sev ≤ 1 then pathDelivered 0 r.sev (recordLength r) s1 else s1)
    if 5 ≤ r.sev ∨ r.kind = 2 then admitReserve r s2 else admitGeneral r s2

/-- Makes a plain record that no signal and no host caused. -/
def record (sev code : Nat) (src : Word) (data : List Byte) (s : State) : State :=
  admitRecord (plainRecord sev code src noHandle 0 data s) s

/-- Makes a plain record of a signal. -/
def recordSig (sev code : Nat) (src handle : Word) (data : List Byte) (s : State) : State :=
  admitRecord (plainRecord sev code src handle 0 data s) s

/-- Makes an AUDIT record of a session's request. -/
def audit (code : Nat) (src session : Word) (data : List Byte) (s : State) : State :=
  admitRecord (plainRecord 5 code src noHandle session data s) s

/-- EMERGENCY. -/
def sevEmergency : Nat := 7
/-- ALARM (R529). -/
def sevAlarm : Nat := 6
/-- AUDIT (R529). -/
def sevAudit : Nat := 5
/-- WARNING (R529). -/
def sevWarning : Nat := 4
/-- CAUTION (R529). -/
def sevCaution : Nat := 3
/-- EVENT (R529). -/
def sevEvent : Nat := 2
/-- TRACE (R529). -/
def sevTrace : Nat := 1

/-- A record whose condition repeats at most once in `period`: made when the last one lies that far back; answers the time of
the last one. -/
def due (last : Option Nat) (period t : Nat) : Bool :=
  match last with
  | none => true
  | some x => decide (x + period ≤ t)

end Sys2Proof.Machine
end

