-- ==== Sys2Proof/Machine/Cfg.lean ====
section
/-! DEFINITION. The configuration in force, read by field: records by kind and index (R504), the vessel signal table and the
attributes of own signals (R505), and where each own signal comes from (R129). -/

namespace Sys2Proof.Machine

/-- Where a record of a kind stands in a set. -/
def cfgKey (kind index : Nat) : Nat := kind * 2 ^ 32 + index

/-- The record of a kind and index in a set; empty where there is none. -/
def cfgGet (c : ConfigSet) (kind index : Nat) : List Byte := tabGet [] c.recs (cfgKey kind index)

/-- The record in force. -/
def cfgRec (kind index : Nat) (s : State) : List Byte := cfgGet s.cfg.cur kind index

/-- The records of a kind in a set, by index. -/
def cfgKind (c : ConfigSet) (kind : Nat) : List (Nat × List Byte) :=
  (c.recs.filter fun p => p.1 / 2 ^ 32 == kind).map fun p => (p.1 % 2 ^ 32, p.2)

/-- The network configuration record in force (R327). -/
def netRec (s : State) : List Byte := cfgRec 0x0001 0 s

/-- This station's number (R327). -/
def ownStation (s : State) : Nat := fld8 (netRec s) 4 % 64

/-! ## The vessel signal table (R130, R131, R505) -/

/-- TABLE_ID of a set (R505). -/
def tableIdOf (c : ConfigSet) : Nat := unle (memReadN c.table 0 4)

/-- N_s of a station in a set (R505). -/
def signalsOf (c : ConfigSet) (station : Nat) : Nat := unle (memReadN c.table (16 + 4 * station) 4)

/-- BASE_s: record slots before a station's (R130). -/
def baseOf (c : ConfigSet) : Nat → Nat
  | 0 => 0
  | n + 1 => baseOf c n + signalsOf c n

/-- TYPE of a signal in a set (R505). -/
def typeOf (c : ConfigSet) (station index : Nat) : Nat := (memRead c.table (272 + baseOf c station + index)).toNat

/-- A signal's number: station × 2^20 + index. -/
def sigNo (station index : Nat) : Nat := station * 2 ^ 20 + index

/-- The signal a handle names (R128). -/
def handleSig (h : Word) : Nat := h.toNat / 64

/-- The attribute selector of a handle (R128). -/
def handleAttr (h : Word) : Nat := h.toNat % 64

/-- The station of a signal. -/
def sigStation (g : Nat) : Nat := g / 2 ^ 20

/-- The index of a signal. -/
def sigIndex (g : Nat) : Nat := g % 2 ^ 20

/-- The lane address of a signal's record in the signal image (R109, R130). -/
def recordAddress (c : ConfigSet) (g : Nat) : Nat := 0xA4000000 + 64 * (baseOf c (sigStation g) + sigIndex g)

/-- The value handle of a signal (R128). -/
def sigHandle (g : Nat) : Word := BitVec.ofNat 32 (g * 64)

/-- Whether a signal is defined in a set (R131). -/
def definedIn (c : ConfigSet) (g : Nat) : Bool := decide (sigStation g < 64) && decide (sigIndex g < signalsOf c (sigStation g))

/-- Whether a signal is defined by the table in force. -/
def sigDefined (g : Nat) (s : State) : Bool := definedIn s.cfg.cur g

/-- Whether a signal is this station's. -/
def sigOwn (g : Nat) (s : State) : Bool := sigStation g == ownStation s

/-- The attributes of an own signal (R505). -/
def sigAttrs (g : Nat) (s : State) : List Byte := cfgRec 0x0011 (sigIndex g) s

/-- PUBLISH of an own signal (R505). -/
def sigPublish (g : Nat) (s : State) : Bool := bit (fld16 (sigAttrs g s) 0) 0

/-! ## The station record, with the values of R505 while there is none -/

/-- The station record in force. -/
def stationRec (s : State) : List Byte := cfgRec 0x0004 0 s

/-- MODE_AFTER_START: 0 STOP, 1 RUN, 2 LAST (R453, R505). -/
def modeAfterStart (s : State) : Nat := if stationRec s = [] then 2 else fld8 (stationRec s) 0

/-- The merge period in ns (R146, R505). -/
def mergePeriod (s : State) : Nat := if stationRec s = [] then 250 * us else fld16 (stationRec s) 2 * us

/-- The peer timeout in ns (R167, R505). -/
def peerTimeoutNs (s : State) : Nat := if stationRec s = [] then 50 * ms else fld16 (stationRec s) 4 * ms

/-- B_s in units of 0.1 MB/s (R154, R505). -/
def sendBudget (s : State) : Nat := if stationRec s = [] then 1 else fld16 (stationRec s) 6

/-! ## Programs -/

/-- The slot in a state; none where neither is. -/
def slotIn (x : SlotState) (s : State) : Option Nat :=
  if s.prog.slot[0].st = x then some 0 else if s.prog.slot[1].st = x then some 1 else none

/-- The image of a slot. -/
def slotImage (n : Nat) (s : State) : Mem := match s.prog.slot[n]? with | some x => x.image | none => []

/-- The image of the ACTIVE slot; nothing where none is ACTIVE. -/
def activeImage (s : State) : Mem :=
  match slotIn .active s with
  | some n => slotImage n s
  | none => []

/-- The task numbers. -/
def taskNos : List Nat := List.range 32

/-- The task of a number. -/
def taskAt (t : Nat) (s : State) : Option Task := s.task[t]?

/-- A task that still runs the old program between T_c and its switch (R205). -/
def onOldProgram (t : Nat) (s : State) : Bool := s.prog.st == .switching && !(taskAt t s).elim true (·.switched)

/-- The image a task runs: the RETIRING one until it switches (R205). -/
def taskImage (t : Nat) (s : State) : Mem :=
  if onOldProgram t s then (slotIn .retiring s).elim [] (fun n => slotImage n s) else activeImage s

/-- The instance area a task's instances lie in. -/
def taskArea (t : Nat) (s : State) : Nat := if onOldProgram t s then 1 - s.prog.area else s.prog.area

/-- Changes a task. -/
def taskMod (t : Nat) (f : Task → Task) (s : State) : State := { s with task := vmod s.task t f }

/-- The definition of task `t` in force. -/
def taskDefn (t : Nat) (s : State) : Option TaskDef := (s.task[t]?).bind (·.defn)

/-- Whether task `t` is defined. -/
def taskDefined (t : Nat) (s : State) : Bool := (taskDefn t s).isSome

/-- Whether task `t` is a safety task. -/
def taskSafety (t : Nat) (s : State) : Bool := (taskDefn t s).elim false (·.safety)

/-- The task that writes a signal, by the write sets the program declares (R144). -/
def writerTask (g : Nat) (s : State) : Option Nat :=
  taskNos.find? fun t => taskDefined t s && (Config.taskWrites (activeImage s) t).any (fun h => handleSig h == g)

/-- Whether a safety task reads or writes a signal (R180). -/
def safetySignal (g : Nat) (s : State) : Bool :=
  taskNos.any fun t => taskSafety t s &&
    ((Config.taskWrites (activeImage s) t).any (fun h => handleSig h == g) ||
     (Config.taskReads (activeImage s) t).any (fun h => handleSig h == g))

/-! ## The source of an own signal (R129, R132) -/

/-- The handle field of a record at an offset, when it names the signal. -/
def namesSig (r : List Byte) (off g : Nat) : Bool := r != [] && fld32 r off != 0xFFFFFFFF && fld32 r off / 64 == g

/-- The SOURCE identity of a dispatch KEY: node × 256 + telegram, or controller × 128 + object (R132, R173). -/
def keySource (key : Nat) : Nat :=
  if bits key 30 2 = 0 then 0x20000000 + bits key 18 12 * 256 + bits key 10 8
  else 0x30000000 + bits key 27 3 * 128 + bits key 20 7

/-- Whether a dispatch entry is an input entry whose range holds the signal (R172). -/
def dispatchFeeds (e : List Byte) (g : Nat) : Bool :=
  !bit (fld16 e 10) 0 && decide (fld32 e 4 / 64 ≤ g) && decide (g < fld32 e 4 / 64 + fld16 e 8)

/-- SOURCE of an own signal as the configuration gives it: the host where it names no writer (R129). -/
def configSource (g : Nat) (s : State) : Word :=
  let c := s.cfg.cur
  match writerTask g s with
  | some t => BitVec.ofNat 32 (0x10000000 + t)
  | none =>
    match (cfgKind c 0x0020).find? (fun p => dispatchFeeds p.2 g) with
    | some p => BitVec.ofNat 32 (keySource (fld32 p.2 0))
    | none =>
      match (cfgKind c 0x0030).find? (fun p => namesSig p.2 8 g) with
      | some p => BitVec.ofNat 32 (0x40000000 + p.1)
      | none =>
        match (cfgKind c 0x0031).find? (fun p => namesSig p.2 8 g || namesSig p.2 12 g) with
        | some p => BitVec.ofNat 32 (0x40000000 + 16 + p.1)
        | none =>
          match (cfgKind c 0x0040).find? (fun p => namesSig p.2 140 g || namesSig p.2 144 g || namesSig p.2 148 g ||
              (fld8 p.2 7 == 1 && namesSig p.2 20 g)) with
          | some p => BitVec.ofNat 32 (0x60000000 + p.1)
          | none =>
            match (cfgKind c 0x0050).find? (fun p => namesSig p.2 8 g) with
            | some p => BitVec.ofNat 32 (0x10000000 + fld8 p.2 2)
            | none =>
              match (cfgKind c 0x0051).find? (fun p => namesSig p.2 12 g) with
              | some p => BitVec.ofNat 32 (0x10000000 + fld8 (cfgRec 0x0050 (fld16 p.2 4) s) 2)
              | none => 0x50000000#32

/-- Whether the host is a signal's source. -/
def hostSource (g : Nat) (s : State) : Bool := configSource g s == 0x50000000#32

/-! ## Values by type (R133) -/

/-- Bytes of a type's value. -/
def typeBytes : Nat → Nat
  | 0x01 | 0x02 | 0x06 | 0x0C => 1
  | 0x03 | 0x07 | 0x0D => 2
  | 0x04 | 0x08 | 0x0A | 0x0E => 4
  | 0x05 | 0x09 | 0x0B | 0x0F | 0x10 | 0x11 => 8
  | _ => 0

/-- Whether a type is a signed integer. TIME is (R8, R111). -/
def typeSigned (t : Nat) : Bool := t == 2 || t == 3 || t == 4 || t == 5 || t == 16

/-- Whether a type is an unsigned integer. -/
def typeUnsigned (t : Nat) : Bool := t == 6 || t == 7 || t == 8 || t == 9

/-- Whether a type is a bit string. -/
def typeBits (t : Nat) : Bool := t == 0x0C || t == 0x0D || t == 0x0E || t == 0x0F

/-- Whether a type is numeric: deadbands apply to it, and not to TIME (R152). -/
def typeNumeric (t : Nat) : Bool := (typeSigned t && t != 0x10) || typeUnsigned t || t == 0x0A || t == 0x0B

/-- The exact value of a typed signal value. -/
def valueFp (t : Nat) (v : BitVec 64) : Fp :=
  if t = 0x0A then fp32 (v.setWidth 32)
  else if t = 0x0B then fp64 v
  else if typeSigned t then fpOfInt false v.toInt 0
  else fpOfInt false (v.toNat : Int) 0

/-- The value of a typed signal as binary64. -/
def valueF64 (t : Nat) (v : BitVec 64) : F64 := pack64 0 (valueFp t v)

/-- The least and greatest integer of a type. -/
def typeRange : Nat → Int × Int
  | 0x01 => (0, 1)
  | 0x02 => (-128, 127)
  | 0x03 => (-32768, 32767)
  | 0x04 => (-2147483648, 2147483647)
  | 0x05 | 0x10 => (-9223372036854775808, 9223372036854775807)
  | 0x06 | 0x0C => (0, 255)
  | 0x07 | 0x0D => (0, 65535)
  | 0x08 | 0x0E => (0, 4294967295)
  | _ => (0, 18446744073709551615)

/-- Converts a binary64 number to a type: integers are rounded to nearest and saturate; the flag says that the result fell
outside (R176).  What a NaN converts to is left open: a free value. -/
def toType (t : Nat) (x : F64) : BitVec 64 × Bool :=
  if t = 0x0B then (x, false)
  else if t = 0x0A then
    let y := narrow x
    let beyond := ffinite x && !ffinite (widen y)
    let z : F32 := if beyond then (if x.getLsbD 63 then 0xFF7FFFFF#32 else 0x7F7FFFFF#32) else y
    (z.setWidth 64, beyond)
  else
    let r := typeRange t
    match fround x with
    | some v =>
      if v < r.1 then (BitVec.ofInt 64 r.1, true)
      else if r.2 < v then (BitVec.ofInt 64 r.2, true)
      else (BitVec.ofInt 64 v, false)
    | none => (if flt x 0 then (BitVec.ofInt 64 r.1, true) else if flt 0 x then (BitVec.ofInt 64 r.2, true)
        else (Config.freeWord x.toNat, true))

/-- Whether a type can hold a value (R510). -/
def typeHolds (t : Nat) (v : BitVec 64) : Bool :=
  if typeSigned t then
    let r := typeRange t
    decide (r.1 ≤ v.toInt) && decide (v.toInt ≤ r.2)
  else if t = 0x0B ∨ t = 0x10 ∨ t = 0x11 then true
  else if t = 0 then false
  else if t = 0x01 then decide (v.toNat ≤ 1)
  else decide (v.toNat < 2 ^ (8 * typeBytes t))

/-- Whether the module is the active one, or not paired, in STOP, RUN or HOLD: it drives, publishes and sends (R151, R427). -/
def isActive (s : State) : Bool :=
  operating s &&
  match s.pair.st with
  | .unpaired | .activeAlone | .activePaired => true
  | .handingOver => s.pair.former != s.pair.handed
  | _ => false

/-- Whether a standby in step follows, so that what it needs is sent on the drawbar (R429). -/
def sendsToStandby (s : State) : Bool := isActive s && (s.pair.st == .activePaired || s.pair.st == .handingOver)

end Sys2Proof.Machine
end

