-- ==== Sys2Proof/Machine/HostOps.lean ====
section
/-! DEFINITION. Mailboxes, sessions and carriages: reading a request, the claims on carriages, and writing a response
(R473 to R484, R489 to R492). -/

namespace Sys2Proof.Machine

/-- A session's identity: 0 + n for a local mailbox, 0x8000_0000 + its number for a TLS connection (R477). -/
def sessionId (x : SessId) (s : State) : Word :=
  match x with
  | .loc n => BitVec.ofNat 32 n.val
  | .tls t =>
    match s.host.tls[t] with
    | some c => BitVec.ofNat 32 (0x80000000 + c.number % 2 ^ 31)
    | none => 0x80000000#32

/-- The session of a mailbox (R477). -/
def mbxSession : MbxId → SessId
  | .loc n => .loc n
  | .tls t _ => .tls t

/-- A session with no role and no command yet. -/
def noSession : Session := { role := 0, lastCommand := 0, user := [] }

/-- The session of an identity: none for a TLS connection that is not open. -/
def sessionOf (x : SessId) (s : State) : Session :=
  match x with
  | .loc n => s.host.sess[n]
  | .tls t => (s.host.tls[t]).elim noSession (·.session)

/-- Changes a TLS connection that is open. -/
def tlsMod (t : Fin 8) (f : Tls → Tls) (s : State) : State :=
  { s with host := { s.host with tls := vmod s.host.tls t.val (fun o => o.map f) } }

/-- Changes a session. -/
def sessionMod (x : SessId) (f : Session → Session) (s : State) : State :=
  match x with
  | .loc n => { s with host := { s.host with sess := vmod s.host.sess n.val f } }
  | .tls t => tlsMod t (fun c => { c with session := f c.session }) s

/-- A mailbox; none of a TLS connection that is not open. -/
def mailboxOf (m : MbxId) (s : State) : Option Mailbox :=
  match m with
  | .loc n => some s.host.mbx[n]
  | .tls t n => (s.host.tls[t]).map (fun c => c.mbx[n])

/-- Changes a mailbox. -/
def mailboxMod (m : MbxId) (f : Mailbox → Mailbox) (s : State) : State :=
  match m with
  | .loc n => { s with host := { s.host with mbx := vmod s.host.mbx n.val f } }
  | .tls t n => tlsMod t (fun c => { c with mbx := vmod c.mbx n.val f }) s

/-- All mailboxes that exist: the sixteen local ones and those of the open connections. -/
def allMailboxes : List MbxId :=
  (List.finRange 16).map MbxId.loc ++ (List.finRange 8).flatMap (fun t => (List.finRange 16).map (MbxId.tls t))

/-! ## Carriages (R479 to R483) -/

/-- How many carriages a mailbox's side has: 4,096 locally, 256 in a TLS session (R479, R490). -/
def carriageCount : MbxId → Nat
  | .loc _ => 4096
  | .tls _ _ => 256

/-- The flag of carriage `k`: 0 FREE, 1 HOST_OWNED, 2 DEVICE_OWNED, 3 DEVICE_DONE, 4 POISONED (R479). -/
def carriageFlag (m : MbxId) (k : Nat) (s : State) : Nat :=
  match m with
  | .loc _ => (tabGet (0 : Byte) s.host.flags k).toNat
  | .tls t _ => (s.host.tls[t]).elim 0 (fun c => (tabGet (0 : Byte) c.flags k).toNat)

/-- Sets the flag of carriage `k`. -/
def setFlag (m : MbxId) (k : Nat) (v : Byte) (s : State) : State :=
  match m with
  | .loc _ => { s with host := { s.host with flags := tabSet 0 s.host.flags k v } }
  | .tls t _ => tlsMod t (fun c => { c with flags := tabSet 0 c.flags k v }) s

/-- Bytes of the carriages, by their place in the window: carriage k begins at k × 64 KiB. -/
def carriageBytes (m : MbxId) (a n : Nat) (s : State) : List Byte :=
  match m with
  | .loc _ => memReadN s.host.window a n
  | .tls t _ => (s.host.tls[t]).elim (zeros n) (fun c => memReadN c.data a n)

/-- Writes bytes into the carriages. -/
def carriagePut (m : MbxId) (a : Nat) (bs : List Byte) (s : State) : State :=
  match m with
  | .loc _ => { s with host := { s.host with window := memWriteN s.host.window a bs } }
  | .tls t _ => tlsMod t (fun c => { c with data := memWriteN c.data a bs }) s

/-- The carriages a mailbox's command in flight has claimed. -/
def claimOf (b : Mailbox) : List Nat := if b.state = 2 then List.range' b.first b.count else []

/-- Whether two mailboxes share their carriages: all local ones, or those of one connection. -/
def sameSpace (m k : MbxId) : Bool :=
  match m, k with
  | .loc _, .loc _ => true
  | .tls t _, .tls u _ => t == u
  | _, _ => false

/-- Whether a session's carriages are those of a mailbox. -/
def spaceOfSession (m : MbxId) (x : SessId) : Bool :=
  match m, x with
  | .loc _, .loc _ => true
  | .tls t _, .tls u => t == u
  | _, _ => false

/-- Whether carriage `k` is claimed: by a command in flight, or by the ring of a standing command (R482, R483). -/
def claimed (m : MbxId) (k : Nat) (s : State) : Bool :=
  allMailboxes.any (fun q => sameSpace m q &&
    match mailboxOf q s with
    | some b => b.state == 2 && decide (b.first ≤ k) && decide (k < b.first + b.count)
    | none => false) ||
  s.host.subs.toList.any (fun o =>
    match o with
    | some u => spaceOfSession m u.owner && u.ring.contains k
    | none => false)

/-! ## A request and its response -/

/-- A request in execution: its mailbox, the payload, and the carriages it claimed. -/
structure Req where
  /-- The mailbox. -/
  mbx : MbxId
  /-- The payload. -/
  pay : List Byte
  /-- First claimed carriage. -/
  first : Nat
  /-- Carriages claimed. -/
  count : Nat

/-- What a command answers: status, payload, DETAIL, bytes written into the claimed carriages from an offset, and the
carriages that a standing command keeps (R476, R483). -/
structure Resp where
  /-- STATUS (R492). -/
  status : Nat
  /-- The response's payload. -/
  pay : List Byte := []
  /-- DETAIL. -/
  detail : Nat := 0
  /-- Bytes for the carriages. -/
  data : List Byte := []
  /-- Where they begin in the claimed carriages. -/
  dataAt : Nat := 0
  /-- Claimed carriages that stay with a standing command. -/
  keep : List Nat := []

/-- `ST_OK` -/
def stOk : Nat := 0x0000
/-- `ST_ACCEPTED` -/
def stAccepted : Nat := 0x0001
/-- `ST_BAD_LENGTH` -/
def stBadLength : Nat := 0x0010
/-- `ST_LENGTH_ZERO` -/
def stLengthZero : Nat := 0x0011
/-- `ST_BAD_CARRIAGE` -/
def stBadCarriage : Nat := 0x0012
/-- `ST_WRONG_MODE` -/
def stWrongMode : Nat := 0x0020
/-- `ST_REFUSED_STATE` -/
def stRefusedState : Nat := 0x0021
/-- `ST_AUTH_REQUIRED` -/
def stAuthRequired : Nat := 0x0030
/-- `ST_AUTH_FAILED` -/
def stAuthFailed : Nat := 0x0031
/-- `ST_INCONSISTENT` -/
def stInconsistent : Nat := 0x0040
/-- `ST_BUDGET_EXCEEDED` -/
def stBudgetExceeded : Nat := 0x0041
/-- `ST_BUSY` -/
def stBusy : Nat := 0x0050
/-- `ST_OVERTAKEN` -/
def stOvertaken : Nat := 0x0060
/-- `ST_DISCARDED` -/
def stDiscarded : Nat := 0x0070

/-- `ST_OK` with a payload. -/
def ok (pay : List Byte) : Resp := { status := stOk, pay := pay }

/-- A status alone. -/
def st (x : Nat) : Resp := { status := x }

/-- A status with DETAIL. -/
def stDetail (x d : Nat) : Resp := { status := x, detail := d }

/-- The role a session holds, as a number. -/
def roleOf (q : Req) (s : State) : Nat := (sessionOf (mbxSession q.mbx) s).role.toNat

/-- The identity of a request's session, as records carry it. -/
def reqSession (q : Req) (s : State) : Word := sessionId (mbxSession q.mbx) s

/-- Bytes of the carriages a request claimed, from an offset in them. -/
def claimBytes (q : Req) (off n : Nat) (s : State) : List Byte := carriageBytes q.mbx (q.first * 65536 + off) n s

/-- Bytes the claimed carriages hold. -/
def claimRoom (q : Req) : Nat := q.count * 65536

/-- Inline or C: the data follows the payload's fixed part, or lies in the carriages from their first byte (R493). -/
def inlineOrC (q : Req) (off n : Nat) (s : State) : List Byte :=
  if q.count = 0 then slice q.pay off n else claimBytes q 0 n s

/-- The response's header and payload (R476). -/
def responseBytes (copy : List Byte) (r : Resp) (epoch : Word) (dataLen : Nat) : List Byte :=
  slice copy 0 2 ++ le 2 r.status ++ slice copy 4 4 ++ le 4 epoch.toNat ++ le 4 r.pay.length ++ slice copy 16 4 ++
    le 4 dataLen ++ le 4 r.detail ++ zeros 4 ++ r.pay

/-- A record is sent on a connection: the time of the last message, and a demand for the clock (R17, R491). -/
def tlsSent (t : Fin 8) (s : State) : State :=
  demandClock .tlsRecord (tlsMod t (fun c => { c with lastSent := now s, sentRecords := c.sentRecords + 1 }) s)

/-- A carriage returned DEVICE_DONE; on a TLS connection its TRANSFER is sent, with its part of the output (R482, R490). -/
def returnCarriage (m : MbxId) (lo len : Nat) (k : Nat) (s : State) : State :=
  let t := setFlag m k 3 s
  match m with
  | .loc _ => t
  | .tls c _ =>
    let a := max lo (k * 65536)
    let b := min (lo + len) ((k + 1) * 65536)
    let n := b - a
    tlsSent c (emit (.tls c.val 3 0 (le 2 k ++ le 1 3 ++ zeros 1 ++ le 4 (if n = 0 then 0 else a - k * 65536) ++ le 4 n ++
      zeros 4 ++ carriageBytes m a n s)) t)

/-- Sets a mailbox's response: a local one enters DONE with its interrupt, a TLS one sends RESPONSE and is IDLE (R474, R489). -/
def deliver (m : MbxId) (bytes : List Byte) (suppress : Bool) (s : State) : State :=
  match m with
  | .loc n =>
    let t := { s with host := { s.host with buffers := memWriteN s.host.buffers (n.val * 8192 + 4096) bytes } }
    let u := mailboxMod m (fun b => { b with state := 3 }) t
    if suppress then u else raiseIrq n.val u
  | .tls c n =>
    let t := mailboxMod m (fun b => { b with state := 0, first := 0, count := 0 }) s
    tlsSent c (emit (.tls c.val 2 n.val bytes) t)

/-- Ends the command in flight in a mailbox: its output is written, its carriages return DEVICE_DONE but for those a standing
command keeps, and then the response is delivered (R476, R481, R482). -/
def respond (m : MbxId) (r : Resp) (s : State) : State :=
  match mailboxOf m s with
  | none => s
  | some b =>
    let lo := b.first * 65536 + r.dataAt
    let t := if r.data = [] then s else carriagePut m lo r.data s
    let back := (claimOf b).filter (fun k => !r.keep.contains k)
    let u := back.foldl (fun v k => returnCarriage m lo r.data.length k v) t
    deliver m (responseBytes b.copy r s.host.epoch r.data.length) (bit (fld16 b.copy 2) 0) u

/-- Runs the command in flight in mailbox `m` if its code is `code`; any other state of the mailbox is unchanged. -/
def runCommand (code : Nat) (m : MbxId) (f : Req → State → State × Resp) (s : State) : State :=
  match mailboxOf m s with
  | none => s
  | some b =>
    if b.state = 2 ∧ fld16 b.copy 0 = code then
      let q : Req := { mbx := m, pay := (b.copy.drop 32).take (fld32 b.copy 12), first := b.first, count := b.count }
      let r := f q s
      respond m r.2 r.1
    else s

/-- A command that answers without changing anything. -/
def readCommand (code : Nat) (m : MbxId) (f : Req → State → Resp) (s : State) : State :=
  runCommand code m (fun q t => (t, f q t)) s

/-! ## Claims poisoned, commands discarded (R484, R486) -/

/-- Sets a carriage POISONED: the device returns it so, and `IRQ_STATUS.POISONED` sets (R471, R479). -/
def poison (m : MbxId) (k : Nat) (s : State) : State :=
  let t := setFlag m k 4 s
  match m with
  | .loc _ => raiseIrq 18 t
  | .tls c _ => tlsSent c (emit (.tls c.val 3 0 (le 2 k ++ le 1 4 ++ zeros 1 ++ le 4 0 ++ le 4 0 ++ zeros 4)) t)

/-- The indices whose flag is DEVICE_OWNED on a mailbox's side. -/
def deviceOwned (m : MbxId) (s : State) : List Nat :=
  match m with
  | .loc _ => (s.host.flags.filter fun p => p.2 == (2 : Byte)).map (·.1)
  | .tls t _ => (s.host.tls[t]).elim [] (fun c => (c.flags.filter fun p => p.2 == (2 : Byte)).map (·.1))

/-- Every DEVICE_OWNED carriage of a side is POISONED. -/
def poisonAll (m : MbxId) (s : State) : State := (deviceOwned m s).foldl (fun t k => poison m k t) s

/-- Ends the standing commands of a session (R483, R511). -/
def endSubscriptions (p : SessId → Bool) (s : State) : State :=
  let gone := s.host.subs.toList.filterMap (fun o => o.bind fun u => if p u.owner then some u else none)
  let t := { s with host := { s.host with subs := s.host.subs.map (fun o =>
    match o with
    | some u => if p u.owner then none else some u
    | none => none) } }
  gone.foldl (fun v u =>
    let m : MbxId := match u.owner with
      | .loc n => .loc n
      | .tls c => .tls c 0
    u.ring.foldl (fun w k => if carriageFlag m k w = 2 then poison m k w else w) v) t

/-- A mailbox after a reset of its side: IDLE, no response, nothing claimed. -/
def idleMailbox (b : Mailbox) : Mailbox := { b with state := 0, first := 0, count := 0, copy := [] }

/-- An `ST_DISCARDED` notice: the new epoch in EPOCH and the old one in DETAIL (R484). -/
def discardNotice (m : MbxId) (old : Word) (s : State) : State :=
  match mailboxOf m s with
  | none => s
  | some b =>
    if b.state = 1 ∨ b.state = 2 then
      deliver m (responseBytes b.copy (stDetail stDiscarded old.toNat) s.host.epoch 0) (bit (fld16 b.copy 2) 0) s
    else s

/-- `HOST_EPOCH` increments at a switchover; the value 0 is skipped, and the stored value follows (R472, R484). -/
def advanceEpoch (s : State) : State :=
  let e := if s.host.epoch + 1 = 0 then 1#32 else s.host.epoch + 1
  raiseIrq 16 { s with host := { s.host with epoch := e, storedEpoch := e } }

end Sys2Proof.Machine
end

