-- ==== Sys2Proof/Machine/Image.lean ====
section
/-! DEFINITION. The vessel signal image: status words and layers (R134, R135, R179), reading (R143, R169, R171), the image
intake (R48, R146, R150), and what an image event does to a record (R138 to R142, R152, R511, R533). -/

namespace Sys2Proof.Machine

/-! ## Status words (R134, R135) -/

/-- QUALITY: 3 GOOD, 1 UNCERTAIN, 0 BAD. -/
def quality (w : Word) : Nat := w.toNat / 2 ^ 30

/-- Replaces QUALITY. -/
def withQuality (w : Word) (q : Nat) : Word := (w &&& 0x3FFFFFFF#32) ||| BitVec.ofNat 32 (q * 2 ^ 30)

/-- REASON. -/
def reasonOf (w : Word) : Nat := bits w.toNat 8 8

/-- Replaces REASON. -/
def withReason (w : Word) (r : Nat) : Word := (w &&& 0xFFFF00FF#32) ||| BitVec.ofNat 32 (r % 256 * 256)

/-- STALE. -/
def stStale : Word := 0x20000000#32
/-- FORCED. -/
def stForced : Word := 0x10000000#32
/-- SUBSTITUTED. -/
def stSubst : Word := 0x08000000#32
/-- OVERRANGE. -/
def stOverrange : Word := 0x04000000#32
/-- SIMULATED. -/
def stSimulated : Word := 0x02000000#32

/-- A status word of a quality and a reason. -/
def mkStatus (q r : Nat) : Word := BitVec.ofNat 32 (q * 2 ^ 30 + r * 256)

/-- BAD, NO_DATA. -/
def badNoData : Word := 0x00000100#32

/-- QUALITY is at most UNCERTAIN while STALE or OVERRANGE is set (R135). -/
def capStatus (w : Word) : Word :=
  if (w &&& (stStale ||| stOverrange) != 0) && quality w == 3 then withQuality w 1 else w

/-- The more restrictive of two qualities (R171). -/
def atMost (w : Word) (q : Nat) : Word := if q < quality w then withQuality w q else w

/-! ## Records -/

/-- The record of a signal; that of an undefined signal has TYPE 0. -/
def sigRec (g : Nat) (s : State) : SigRec := tabGet sigRecReset s.image.recs g

/-- Puts a record. -/
def putRec (g : Nat) (r : SigRec) (s : State) : State :=
  { s with image := { s.image with recs := tabSet sigRecReset s.image.recs g r } }

/-- OVERRANGE by the range of an own signal's attributes (R134, R505). -/
def rangeStatus (g typ : Nat) (v : BitVec 64) (w : Word) (s : State) : Word :=
  let a := sigAttrs g s
  let lo := fldW a 16
  let hi := fldW a 20
  if (fp32 lo == fp32 0 && fp32 hi == fp32 0) || !typeNumeric typ then w
  else if fpLt (valueFp typ v) (fp32 lo) || fpLt (fp32 hi) (valueFp typ v) then w ||| stOverrange else w

/-- The slot of the force table that holds a signal's force, or its simulation. -/
def forceSlot (g : Nat) (simulate : Bool) (s : State) : Option (Nat × ForceSlot) :=
  s.image.forces.find? fun p => p.2.sig == g && p.2.simulate == simulate

/-- The substitution layer of an own signal: its value, when it is active (R179). -/
def substituteOf (g : Nat) (r : SigRec) (s : State) : Option (BitVec 64) :=
  let a := sigAttrs g s
  let mode := bits (fld16 a 0) 1 2
  if quality r.srcStatus = 0 then
    if mode = 2 then some (fldL a 8) else if mode = 1 then r.lastGood else none
  else none

/-- VALUE, STATUS and FORCE_SLOT from the layers of R179: the highest active one gives the value, each shows its flag. -/
def layered (g : Nat) (r : SigRec) (s : State) : SigRec :=
  if sigOwn g s = false then { r with value := r.raw, status := capStatus r.srcStatus }
  else
    let base := r.srcStatus &&& ~~~(stForced ||| stSubst ||| stSimulated)
    let sub := substituteOf g r s
    let sim := (forceSlot g true s).bind fun p => p.2.live.map fun x => (p.1, x)
    let frc := (forceSlot g false s).bind fun p => p.2.live.map fun x => (p.1, x)
    let flags := (if sub.isSome then stSubst else 0) ||| (if sim.isSome then stSimulated else 0) |||
      (if frc.isSome then stForced else 0)
    let top : BitVec 64 × Nat :=
      match frc with
      | some (_, x) => (x.1, quality x.2)
      | none =>
        match sim with
        | some (_, x) => (x.1, quality x.2)
        | none =>
          match sub with
          | some v => (v, 1)
          | none => (r.raw, quality r.srcStatus)
    let slot := match frc with
      | some (k, _) => k
      | none => match sim with
        | some (k, _) => k
        | none => 0xFFFF
    { r with value := top.1, status := capStatus (withQuality (base ||| flags) top.2), slot := BitVec.ofNat 16 slot }

/-- VALUE of a signal as its layers give it without the force or simulation in slot `k` (R179). -/
def valueWithout (k g : Nat) (s : State) : BitVec 64 :=
  (layered g (sigRec g s) { s with image := { s.image with forces := s.image.forces.filter fun p => p.1 != k } }).value

/-! ## Reading (R143, R169, R171, R184) -/

/-- The record returned for an undefined handle (R143, R184). -/
def undefinedRec : SigRec := { sigRecReset with status := mkStatus 0 2 }

/-- Whether a record is defined: the image holds one and the table does too.  A signal whose TYPE in the table is 0x00 counts as undefined
(log 169, DESIGN CHOICE). -/
def readable (g : Nat) (s : State) : Bool := sigDefined g s && (sigRec g s).typ != 0

/-- The station of a number. -/
def stationAt (n : Nat) (s : State) : Station := vget stationReset s.image.stations n

/-- Changes a station's entry. -/
def stationMod (n : Nat) (f : Station → Station) (s : State) : State :=
  { s with image := { s.image with stations := vmod s.image.stations n f } }

/-- The station adjustment of a status (R169). -/
def stationAdjust (x : Station) (gen : Nat) (w : Word) : Word :=
  match x.st with
  | .gap => if gen < x.gapGen then withReason (atMost w 1) 0x06 else w
  | .silent => withReason (atMost (w ||| stStale) 1) 0x04
  | .lost => withReason (withQuality (w ||| stStale) 0) 0x05
  | .absent | .waiting | .live => w

/-- A record as a reader gets it: the stored status, the station adjustment and R135 (R171). -/
def readRec (g : Nat) (s : State) : SigRec :=
  if readable g s = false then undefinedRec
  else
    let r := sigRec g s
    if sigOwn g s then { r with status := capStatus r.status }
    else { r with status := capStatus (stationAdjust (stationAt (sigStation g) s) r.gen r.status) }

/-- The 64 bytes of a record (R132). -/
def recordLine (g : Nat) (r : SigRec) (s : State) : List Byte :=
  let own := sigOwn g s
  let flags := if r.typ = 0 then 0 else 1 + 2 * b2n own + 4 * b2n r.pending + 8 * b2n (own && sigPublish g s)
  le 8 r.value.toNat ++ le 8 r.raw.toNat ++ le 8 r.stamp ++ le 8 r.gen ++ le 4 r.status.toNat ++ le 4 r.source.toNat ++
    le 4 r.prev.toNat ++ le 1 r.typ ++ le 1 flags ++ le 2 r.alarm.toNat ++ le 2 r.slot.toNat ++ zeros 6 ++ le 8 r.received

/-- The attribute a selector names, in the low bytes (R129); none for a reserved selector. -/
def attrBytes (h : Word) (s : State) : Option (List Byte) :=
  let g := handleSig h
  let r := readRec g s
  match handleAttr h with
  | 0x00 => some (le 8 r.value.toNat)
  | 0x01 => some (le 4 r.status.toNat)
  | 0x02 => some (le 8 r.stamp)
  | 0x03 => some (le 4 r.source.toNat)
  | 0x04 => some (le 2 r.alarm.toNat)
  | 0x05 => some (le 8 r.raw.toNat)
  | 0x06 => some (le 8 (now s - r.stamp))
  | 0x07 => some (recordLine g r s)
  | _ => none

/-- A publication entry of a record (R157). -/
def pubEntry (g : Nat) (r : SigRec) : List Byte :=
  le 4 (sigHandle g).toNat ++ le 4 r.status.toNat ++ le 8 r.value.toNat ++ le 8 r.stamp

/-! ## The image intake (R48, R146, R150) -/

/-- Entries the image part of the intake holds: those of blocks, telegrams and host commands (R150). -/
def intakeCount (s : State) : Nat :=
  s.image.intake.foldl (fun n b => match b.kind with | .own => n | _ => n + b.entries.length) 0

/-- The entries of the image part. -/
def intakeLimit : Nat := 1048576

/-- Whether the image part can take `n` more entries (R150). -/
def intakeRoom (n : Nat) (s : State) : Bool := decide (intakeCount s + n ≤ intakeLimit)

/-- Puts a whole into the intake: its module time of arrival, and the sequence number of its first input; the next ones follow it,
one each (R48). -/
def intake (k : BatchKind) (es : List Entry) (s : State) : State :=
  { s with
    cpl := { s.cpl with intakeSeq := s.cpl.intakeSeq + max 1 es.length }
    image := { s.image with
      intake := s.image.intake ++ [{ kind := k, seq := s.cpl.intakeSeq, arrival := now s, entries := es }]
      lastArrival := some (now s) } }

/-- A discrete input reaches the Coupler intake: its sequence number, its module time of arrival, and one copy for each lane (R16,
R48). Inputs that arrived more than a minute before the one that follows them are dropped: no cut of R49 lies that far back. -/
def intakeDiscrete (id : Nat) (v : List Byte) (s : State) : State :=
  let put (c : Tab (List IntakeInput)) : Tab (List IntakeInput) :=
    tabMod [] c id fun old => { seq := s.cpl.intakeSeq, arrival := now s, data := v } :: keptRecent (·.arrival) (now s) old
  { s with cpl := { s.cpl with intakeSeq := s.cpl.intakeSeq + 1, copies := s.cpl.copies.map put } }

/-- The discrete cut of a lane at a release time: of each item the latest entry whose arrival is at or before it (R49). -/
def intakeCut (l : Lane) (rel : Nat) (s : State) : List (Nat × List Byte) :=
  (vget [] s.cpl.copies (laneNo l)).filterMap fun p =>
    (p.2.find? fun e => decide (e.arrival ≤ rel)).map fun e => (p.1, e.data)

/-- Entries the module makes itself, which are never refused (R150). -/
def intakeOwn (es : List Entry) (s : State) : State := if es = [] then s else intake .own es s

/-- The WARNING 0x0430, at most once per second while discards continue (R150). -/
def intakeFull (s : State) : State :=
  let t := { s with image := { s.image with intakeDiscards := s.image.intakeDiscards + 1 } }
  if due s.image.lastFull sec (now s) then
    record sevWarning 0x0430 (srcUnit 3) [] { t with image := { t.image with lastFull := some (now s) } }
  else t

/-- A value of an own channel, loop or function given to the image with its time; nothing for a handle that names no own
signal. -/
def deliverAt (h : Word) (v : F64) (status : Word) (src stamp : Nat) (s : State) : State :=
  let g := handleSig h
  if h = noHandle ∨ sigOwn g s = false then s
  else
    let x := toType (typeOf s.cfg.cur (sigStation g) (sigIndex g)) v
    let w := if x.2 then withReason (status ||| stOverrange) 0x0D else status
    intakeOwn [{ sig := g, kind := .source x.1 w (BitVec.ofNat 32 src) (some stamp) }] s

/-- A value given to the image at the present module time. -/
def deliverOwn (h : Word) (v : F64) (status : Word) (src : Nat) (s : State) : State := deliverAt h v status src (now s) s

/-- An integer given to the image as it is, with its time: counts, periods and state words. -/
def deliverInt (h : Word) (v : BitVec 64) (status : Word) (src stamp : Nat) (s : State) : State :=
  let g := handleSig h
  if h = noHandle ∨ sigOwn g s = false then s
  else intakeOwn [{ sig := g, kind := .source v status (BitVec.ofNat 32 src) (some stamp) }] s

/-- A status alone given to the image for own signals: their values stay. -/
def deliverStatus (hs : List Word) (status : Word) (s : State) : State :=
  intakeOwn ((hs.filter fun h => h != noHandle && sigOwn (handleSig h) s).map fun h =>
    { sig := handleSig h, kind := .status status (some (now s)) }) s

/-- A source's sample for the signal of a handle ends its staleness (R170). -/
def staleOver (h : Word) (s : State) : State :=
  { s with image := { s.image with stale := tabSet 0 s.image.stale (handleSig h) 0 } }

/-- The signal of a handle is stale by its source (R170). -/
def staleSource (h : Word) (s : State) : Bool := h != noHandle && tabGet 0 s.image.stale (handleSig h) != 0

/-! ## Publication of own changes (R152, R153) -/

/-- Whether a value differs from another by more than a deadband; not numeric: at all (R152, R176). -/
def differs (typ : Nat) (a b : BitVec 64) (deadband : F32) : Bool :=
  if typeNumeric typ then
    let x := valueFp typ a
    let y := valueFp typ b
    let d := fpAdd x (fpNeg y)
    let m := match d with
      | .nan => Fp.nan
      | .inf _ => Fp.inf false
      | .fin _ k e => Fp.fin false k e
    if m == .nan then a != b else fpLt (fp32 deadband) m
  else a != b

/-- The record joins the tail of the publication queue; one already pending is superseded (R153). -/
def queuePublication (g : Nat) (s : State) : State :=
  let r := sigRec g s
  let t := offered 3 (sendBudget s * 10000 / 24) s
  if r.pending then pathCoalesced 3 t
  else putRec g { r with pending := true } { t with pub := { t.pub with queue := t.pub.queue ++ [(g, now s)] } }

/-- A standby keeps the same queue, so that it knows what the active module has published and what it has not (R163). -/
def followPublication (g : Nat) (s : State) : State :=
  let r := sigRec g s
  if r.pending then s
  else putRec g { r with pending := true } { s with pub := { s.pub with queue := s.pub.queue ++ [(g, now s)] } }

/-! ## Subscriptions (R511) -/

/-- An entry due in a subscription: one per handle, a later one replaces it in place and counts as superseded. -/
def subUpsert (h : Word) (gen : Nat) (e : List Byte) (t : Nat) (u : Subscription) : Subscription :=
  if u.entries.any (fun x => x.1 == h) then
    { u with entries := u.entries.map (fun x => if x.1 == h then (h, gen, e) else x), superseded := u.superseded + 1 }
  else if u.entries = [] then { u with entries := [(h, gen, e)], firstGen := gen, since := t }
  else { u with entries := u.entries ++ [(h, gen, e)] }

/-- The mailbox side of a subscription's carriages. -/
def subSide (u : Subscription) : MbxId :=
  match u.owner with
  | .loc n => .loc n
  | .tls c => .tls c 0

/-- A carriage of the ring is filled and returned when it is DEVICE_OWNED and holds 2,729 entries, or its interval is over;
otherwise the changes wait (R483, R511). -/
def subFill (n : Nat) : Nat → State → State
  | 0, s => s
  | fuel + 1, s =>
    match vget none s.host.subs n with
    | none => s
    | some u =>
      match u.ring[u.at_]? with
      | none => s
      | some k =>
        if u.entries = [] then s
        else if u.entries.length < 2729 ∧ now s < u.since + u.interval then s
        else if carriageFlag (subSide u) k s ≠ 2 then s
        else
          let es := u.entries.take 2729
          let rest := u.entries.drop 2729
          let last := es.foldl (fun m x => max m x.2.1) 0
          let bytes := le 4 u.id ++ le 4 es.length ++ le 8 u.firstGen ++ le 8 last ++ le 4 u.superseded ++ zeros 4 ++
            es.flatMap (fun x => x.2.2)
          let u2 := { u with
            entries := rest, superseded := 0, at_ := (u.at_ + 1) % max 1 u.ring.length
            firstGen := rest.foldl (fun m x => min m x.2.1) (rest.headD (0, 0, [])).2.1, since := now s }
          let t := carriagePut (subSide u) (k * 65536) bytes s
          let v := returnCarriage (subSide u) (k * 65536) bytes.length k t
          subFill n fuel (raiseIrq 17 { v with host := { v.host with subs := vset v.host.subs n (some u2) } })

/-- Fills what every subscription may fill. -/
def subFillAll (s : State) : State := (List.range 8).foldl (fun t n => subFill n 4096 t) s

/-- A subscribed record changed, or its station's mirror state did: an entry is due (R511). -/
def subNotify (g gen : Nat) (s : State) : State :=
  let h := sigHandle g
  let e := pubEntry g (readRec g s)
  let subs := s.host.subs.map fun o => o.map fun u => if u.handles.contains h then subUpsert h gen e (now s) u else u
  { s with host := { s.host with subs := subs } }

/-! ## Versions (R142) -/

/-- The nominal release a cycle stands for: the last one of the task's schedule that has come (R92, R107). -/
def nominalRelease (cyc next t : Nat) : Nat := if cyc = 0 then t else next + (t - next) / cyc * cyc

/-- The image event `gen` completes now (R139, R140). -/
def noteEvent (gen : Nat) (s : State) : State :=
  { s with image := { s.image with events := (gen, now s) :: keptRecent (·.2) (now s) s.image.events } }

/-- The snapshot generation of a release: the highest one whose event completed at or before it (R140). -/
def snapshotAt (rel : Nat) (s : State) : Nat := (s.image.events.find? fun e => decide (e.2 ≤ rel)).elim 0 (·.1)

/-- The snapshots of the tasks: active from Gather until the cycle completes or is discarded (R142); that of a task whose release has
come and whose Gather is still to be made is kept for it (R140). -/
def snapshots (s : State) : List Nat :=
  s.task.toList.filterMap fun k =>
    if k.phase != .sleep then some k.snap
    else
      match k.defn with
      | some d =>
        if (k.st == .running || (k.st == .stepping && k.stepAsked)) && d.cls != .background && decide (k.next ≤ now s) then
          some (snapshotAt (nominalRelease d.cycle k.next (now s)) s)
        else none
      | none => none

/-- Slots of the version pool that the tasks' snapshots use: the other 262,144 of its 8,388,608 are reserved for host reads, each of
which is over within its step (R144, R145). -/
def taskPoolSlots : Nat := 8126464

/-- The lowest pool slot not in use. -/
def freePoolSlot : Nat → Tab (Nat × Nat × SigRec) → Nat
  | k, [] => k
  | k, (j, _) :: t => if j = k then freePoolSlot (k + 1) t else k

/-- Releases the slots no active snapshot needs (R142). -/
def poolSweep (s : State) : State :=
  let gs := snapshots s
  let pool := s.image.pool.filter fun p => gs.any fun g => decide (p.2.2.2.gen ≤ g) && decide (g < p.2.2.1)
  { s with image := { s.image with pool := pool } }

/-- The version of a record that a snapshot sees (R143). -/
def versionAt (g snap : Nat) (s : State) : SigRec :=
  let r := sigRec g s
  if r.gen ≤ snap then r
  else
    match s.image.pool.find? (fun p => p.2.1 == g && decide (p.2.2.2.gen ≤ snap) && decide (snap < p.2.2.1)) with
    | some p => p.2.2.2
    | none => r

/-! ## What an image event does to a record -/

/-- Whether two records have the same contents, as R138 counts them. -/
def sameContents (a b : SigRec) : Bool :=
  a.value == b.value && a.raw == b.raw && a.stamp == b.stamp && a.status == b.status && a.source == b.source &&
    a.alarm == b.alarm && a.slot == b.slot

/-- The alarm record of a change of ACTIVE or SEVERITY (R533). -/
def alarmRecord (g : Nat) (old new : SigRec) (s : State) : State :=
  if (old.alarm ^^^ new.alarm) &&& 0x0701#16 = 0 then s
  else
    let n := bits new.alarm.toNat 8 3
    let sev := if n = 0 then bits old.alarm.toNat 8 3 else n
    if sev = 3 ∨ sev = 4 ∨ sev = 6 ∨ sev = 7 then
      recordSig sev 0x0400 new.source (sigHandle g) (le 2 new.alarm.toNat) s
    else s

/-- The image event `gen` at module time `t` changes a record by `f`; an own record's TIMESTAMP becomes `stamp` when VALUE or
QUALITY changes (R138 to R142, R152, R183, R511, R533). -/
def changeRec (g : Nat) (f : SigRec → SigRec) (stamp gen t : Nat) (s : State) : State :=
  let old := sigRec g s
  let new0 := layered g (f old) s
  let own := sigOwn g s
  let moved := new0.value != old.value || quality new0.status != quality old.status
  let new1 := if own && moved then { new0 with stamp := stamp } else new0
  if sameContents old new1 then putRec g new1 s
  else
    let slot := freePoolSlot 0 s.image.pool
    let kept := decide (slot < taskPoolSlots) && (snapshots s).any fun x => decide (old.gen ≤ x) && decide (x < gen)
    let s1 := if kept then { s with image := { s.image with pool := tabInsert slot (g, gen, old) s.image.pool } } else s
    let prev := if kept then BitVec.ofNat 32 slot else 0xFFFFFFFF#32
    let past := (t, old.value, old.status) :: old.past.filter fun x => decide (t < x.1 + ms)
    let new2 := { new1 with gen := gen, received := t, prev := prev, past := past }
    let s2 := putRec g new2 s1
    let s3 := if own then alarmRecord g old new2 s2 else s2
    let s4 := if own && ((old.status ^^^ new2.status) &&& stSubst != 0) then
        { s3 with image := { s3.image with substs := tabSet 0 s3.image.substs g (if new2.status &&& stSubst != 0 then 2 else 1) } }
      else s3
    let dueNow := own && sigPublish g s &&
      (new2.status != old.status || differs new2.typ new2.value new2.pubValue (fldW (sigAttrs g s) 4))
    let s5 := if dueNow = false then s4
      else if isActive s then queuePublication g s4
      else if s.modes.mode = .standby then followPublication g s4
      else s4
    if new2.value != old.value || new2.status != old.status then subNotify g gen s5 else s5

/-- The source writes an own signal: RAW_VALUE, the source's status, the source layer's TIMESTAMP, and the last GOOD value (R179,
R181). -/
def sourceWrite (g : Nat) (v : BitVec 64) (status src : Word) (stamp : Nat) (r : SigRec) (s : State) : SigRec :=
  let w := capStatus (rangeStatus g r.typ v status s)
  { r with
    raw := v, srcStatus := w, source := src, lastGood := if quality w = 3 then some v else r.lastGood
    srcStamp := if v != r.raw || quality w != quality r.srcStatus then stamp else r.srcStamp }

/-- The mirror state's code in CODE 0x0410 + state (R531), in the order of R167. -/
def mirrorCode : MirrorState → Nat
  | .absent => 0
  | .waiting => 1
  | .live => 2
  | .gap => 3
  | .silent => 4
  | .lost => 5

/-- The entry of a station is about to change at the event `gen`: its version stays for the snapshots that see it (R143, R167). -/
def keepStation (n gen : Nat) (s : State) : State :=
  stationMod n (fun y => { y with
    versions := (gen, y.st, y.gapGen) :: y.versions.filter fun v => (snapshots s).any fun g => decide (g < v.1) }) s

/-- A station's entry as a snapshot sees it (R143). -/
def stationVersion (n g : Nat) (s : State) : Station :=
  let x := stationAt n s
  match (x.versions.filter fun v => decide (g < v.1)).getLast? with
  | some v => { x with st := v.2.1, gapGen := v.2.2 }
  | none => x

/-- A station's mirror state changes: WARNING into GAP, SILENT and LOST, EVENT back to LIVE (R183), and every subscribed handle of
the station has an entry due (R511). -/
def setMirror (n : Nat) (x : MirrorState) (gen : Nat) (s : State) : State :=
  let old := (stationAt n s).st
  if old = x then s
  else
    let t := stationMod n (fun y => { y with st := x }) (keepStation n gen s)
    let u := match x with
      | .gap | .silent | .lost => record sevWarning (0x0410 + mirrorCode x) (BitVec.ofNat 32 (0x70000000 + n)) [] t
      | .live => record sevEvent 0x0412 (BitVec.ofNat 32 (0x70000000 + n)) [] t
      | _ => t
    let gs := (s.host.subs.toList.flatMap fun o => o.elim [] (·.handles)).filter fun h => sigStation (handleSig h) == n
    gs.eraseDups.foldl (fun v h => subNotify (handleSig h) gen v) u

/-- A gap of a station is found at the merge `gen`: LIVE and SILENT become GAP (R159, R167, R168). -/
def findGap (n gen : Nat) (s : State) : State :=
  let t := stationMod n (fun y => { y with gapOut := true, gapGen := gen, pass := none }) (keepStation n gen s)
  match (stationAt n s).st with
  | .live | .silent => setMirror n .gap gen t
  | _ => t

/-- Applies one image entry at the merge `gen` of module time `t` (R149, R162, R165, R181). -/
def applyEntry (gen t : Nat) (s : State) (e : Entry) : State :=
  let g := e.sig
  match e.kind with
  | .station lost =>
    let n := sigStation g
    match (stationAt n s).st, lost with
    | .live, false | .gap, false => setMirror n .silent gen s
    | .silent, true => setMirror n .lost gen s
    | _, _ => s
  | k =>
    if readable g s = false then s
    else
      match k with
      | .station _ => s
      | .source v w src stamp => changeRec g (fun r => sourceWrite g v w src (stamp.getD t) r s) (stamp.getD t) gen t s
      | .status w stamp => changeRec g (fun r => { r with srcStatus := capStatus w }) (stamp.getD t) gen t s
      | .stale reason bad =>
        changeRec g (fun r =>
          let w := withReason (r.srcStatus ||| stStale) reason
          { r with srcStatus := if bad then withQuality w 0 else w }) t gen t s
      | .mirror refresh v w stamp =>
        let r := sigRec g s
        if refresh && r.value == v && r.status == w && r.stamp == stamp then s
        else
          let s1 := if refresh then
              { s with image := { s.image with corrections := tabMod 0 s.image.corrections (sigStation g) (· + 1) } }
            else s
          let src := BitVec.ofNat 32 (0x70000000 + sigStation g)
          changeRec g (fun r => { r with raw := v, srcStatus := w, stamp := stamp, source := src }) stamp gen t s1
      | .force sim v w =>
        let forces := s.image.forces.map fun p =>
          if p.2.sig == g && p.2.simulate == sim then (p.1, { p.2 with live := some (v, w) }) else p
        changeRec g id t gen t { s with image := { s.image with forces := forces } }
      | .unforce sim =>
        let forces := s.image.forces.filter fun p => !(p.2.sig == g && p.2.simulate == sim && p.2.going)
        changeRec g id t gen t { s with image := { s.image with forces := forces } }
      | .ack =>
        let r := sigRec g s
        let s1 := if r.alarm.getLsbD 1 then recordSig sevEvent 0x0401 r.source (sigHandle g) [] s else s
        changeRec g (fun r => { r with alarm := r.alarm &&& 0xFFFD#16 }) t gen t s1

/-- Entries that make signals STALE at the next merge (R136). -/
def staleSignals (reason : Nat) (hs : List Word) (s : State) : State :=
  intakeOwn (hs.map fun h => { sig := handleSig h, kind := .stale reason false }) s

/-- The signals a task writes become STALE at the next merge (R136). -/
def taskStale (t reason : Nat) (s : State) : State := staleSignals reason (Config.taskWrites (taskImage t s) t) s

end Sys2Proof.Machine
end

