-- ==== Sys2Proof/Machine/Universal.lean ====
section
/-! DEFINITION. The universal channels: conversion and limits (R252 to R262), commands and outputs (R263, R266, R267),
diagnostics (R258, R265, R267) and mode changes (R268). -/

namespace Sys2Proof.Machine

/-- A number from its binary32 bits, as binary64. -/
def f32At (r : List Byte) (off : Nat) : F64 := widen (fldW r off)

/-- An integer as binary64. -/
def fnum (n : Int) : F64 := fofInt n

/-- A decimal fraction `n / d` as binary64. -/
def frac (n : Int) (d : Nat) : F64 := fofRatio n d

/-- Changes a universal channel. -/
def ucMod (ch : Nat) (f : Uc → Uc) (s : State) : State := { s with uc := vmod s.uc ch f }

/-- A universal channel. -/
def ucAt (ch : Nat) (s : State) : Uc := vget ucReset s.uc ch

/-- MODE of a channel's record (R250): 0 where it has none. -/
def ucMode (u : Uc) : Nat := fld8 u.rcd 1

/-- Whether a mode is an output mode. -/
def ucOutputMode (m : Nat) : Bool := m == 5 || m == 6 || m == 7

/-- Whether a mode drives a current. -/
def ucCurrentMode (m : Nat) : Bool := m == 5 || m == 6

/-- The sample period of a rate code, in ns (R253). -/
def ucPeriod : Nat → Nat
  | 0x0 => 100000000
  | 0x1 => 50000000
  | 0x2 => 20000000
  | 0x3 => 16666667
  | 0x4 => 10000000
  | 0x5 => 5000000
  | 0x6 => 2000000
  | 0x7 => 1000000
  | 0x8 => 500000
  | 0x9 => 200000
  | 0xA => 100000
  | _ => 50000

/-- The engineering value of a value in the mode unit (R252). -/
def ucEng (r : List Byte) (x : F64) : F64 :=
  fadd (f32At r 20) (fdiv (fmul (fsub x (f32At r 12)) (fsub (f32At r 24) (f32At r 20))) (fsub (f32At r 16) (f32At r 12)))

/-- The value in the mode unit of an engineering value: the inverse (R252). -/
def ucRaw (r : List Byte) (v : F64) : F64 :=
  fadd (f32At r 12) (fdiv (fmul (fsub v (f32At r 20)) (fsub (f32At r 16) (f32At r 12))) (fsub (f32At r 24) (f32At r 20)))

/-- Sets an entry of the health map (R457). -/
def setHealth (unit health cause : Nat) (s : State) : State :=
  let h := tabGet healthReset s.modes.health unit
  if h.health = health then s
  else
    let e : Health := { health := health, cause := cause, since := now s }
    { s with modes := { s.modes with health := tabSet healthReset s.modes.health unit e } }

/-- HEALTH of a unit (R457). -/
def healthOf (unit : Nat) (s : State) : Nat := (tabGet healthReset s.modes.health unit).health

/-- The health map's entry of a unit that its configuration enables or disables; a unit marked otherwise keeps its mark (R457). -/
def healthFollows (unit : Nat) (on : Bool) (s : State) : State :=
  match healthOf unit s with
  | 1 | 2 | 3 => s
  | _ => setHealth unit (if on then 0 else 4) 0 s

/-! ## Diagnostics -/

/-- The diagnostics that are active, bit n for REASON 0x07 + n (R514). -/
def ucDiag (u : Uc) : Nat :=
  atBit u.sensor 0 + atBit u.open_ 1 + atBit u.shorted 2 + atBit u.compLow 3 + atBit u.notVer 4 + atBit u.nan 6 +
    atBit (u.st == .failed) 8

/-- QUALITY and REASON of an output's readback from its diagnostics (R265, R267). -/
def ucOutStatus (u : Uc) : Word :=
  let base : Word :=
    if u.st = .failed then mkStatus 0 0x0F
    else if u.open_ then mkStatus 0 0x08
    else if u.compLow then mkStatus 1 0x0A
    else if u.shorted then mkStatus 1 0x09
    else if u.notVer then mkStatus 1 0x0B
    else if u.nan then mkStatus 1 0x0D
    else mkStatus 3 0
  if u.clamped then capStatus (base ||| stOverrange) else base

/-- A change of the diagnostics of R258 and R265 is recorded: WARNING when one sets; clearings are gathered for the second (R267). -/
def ucDiagRecords (ch old new : Nat) (s : State) : State :=
  let t := (List.range 5).foldl (fun t n =>
    if bit new n && !bit old n then record sevWarning (0x0600 + 7 + n) (BitVec.ofNat 32 (0x40000000 + ch)) [] t else t) s
  ucMod ch (fun u => { u with cleared := (List.range 5).foldl (fun m n => if bit old n && !bit new n then m ||| 2 ^ n else m) u.cleared }) t

/-- The channel's engineering value and status are emitted to the image when the value moved by more than DEADBAND, when the status
changed, or when the signal was STALE (R170, R256). -/
def ucEmit (ch : Nat) (s : State) : State :=
  let u := ucAt ch s
  let changed := match u.emitted with
    | none => true
    | some (v, w) => w != u.status || flt (f32At u.rcd 44) (fabs (fsub u.eng v))
  if changed || staleSource (fldW u.rcd 8) s then
    ucMod ch (fun u => { u with emitted := some (u.eng, u.status) })
      (deliverOwn (fldW u.rcd 8) u.eng u.status (0x40000000 + ch) (staleOver (fldW u.rcd 8) s))
  else s

/-- Changes the diagnostics of an output, its status and its records, and what it emits. -/
def ucSetDiag (ch : Nat) (f : Uc → Uc) (s : State) : State :=
  let old := ucDiag (ucAt ch s)
  let t := ucMod ch f s
  let t2 := ucMod ch (fun u => if ucOutputMode (ucMode u) then { u with status := ucOutStatus u } else u) t
  ucEmit ch (ucDiagRecords ch old (ucDiag (ucAt ch t2)) t2)

/-- Verification of outputs is not suspended: not in STANDBY, not around a hand-over (R263, R436, R440). -/
def verifying (s : State) : Bool :=
  s.modes.mode != .standby &&
  match s.pair.verifyAt with
  | some t => decide (t ≤ now s)
  | none => !(s.pair.st == .handingOver && s.pair.fading)

/-! ## Commands (R263, R266, R267) -/

/-- A command in the mode unit, clamped to the stage's range, and whether it was (R263). -/
def ucClamp (m : Nat) (x : F64) : F64 × Bool :=
  let lo := if m = 7 then fnum (-10) else fnum 0
  let hi := if m = 7 then fnum 10 else fnum 24
  (fclamp lo hi x, flt x lo || flt hi x)

/-- What the stage drives for a value in engineering units. -/
def ucStage (u : Uc) (v : F64) : F64 := (ucClamp (ucMode u) (ucRaw u.rcd v)).1

/-- FAULT_ACTION is FAULT_VALUE (R251). -/
def ucFaultAction (u : Uc) : Bool := bit (fld8 u.rcd 3) 2

/-- What the stage drives: FAULT_VALUE while COMPLIANCE_LOW, SHORT_CIRCUIT or a NaN command calls for it, else the command
(R266, R267). -/
def ucApply (u : Uc) : Uc :=
  if (u.compLow || u.shorted || u.nan) && ucFaultAction u then { u with output := ucStage u (f32At u.rcd 40) }
  else { u with output := ucStage u u.command }

/-- The stage drives its output: a restart of the converter alone leaves it driving (R268). -/
def ucDrives (u : Uc) : Bool := u.st == .running || (u.st == .configuring && u.short_)

/-- A command reaches an output channel: it ends a test pulse, is clamped, and a NaN holds the output or gives FAULT_VALUE
(R263, R265, R267). -/
def ucCommand (ch : Nat) (v : F64) (s : State) : State :=
  let u0 := ucAt ch s
  if ucOutputMode (ucMode u0) = false ∨ u0.st = .failed ∨ u0.st = .disabled then s
  else
    let pulseEnd (u : Uc) : Uc := if u.pulse then { u with pulse := false, nextPulse := now s + sec } else u
    if fnan v then
      ucSetDiag ch (fun u =>
        let w := pulseEnd { u with nan := true }
        if ucDrives w && ucFaultAction w then ucApply w else w) s
    else
      ucSetDiag ch (fun u =>
        let w := pulseEnd { u with nan := false, command := v, clamped := (ucClamp (ucMode u) (ucRaw u.rcd v)).2 }
        if ucDrives w then ucApply w else w) s

/-- The record of an output idle action: 0–15 universal, 16–63 digital channel 0–47 (R505). -/
def idleRec (n : Nat) (s : State) : List Byte := cfgRec 0x0032 n s

/-- Whether an output's idle action is IDLE_VALUE; HOLD_LAST while no record says otherwise. -/
def idleIsValue (n : Nat) (s : State) : Bool := fld8 (idleRec n s) 0 == 1

/-- The idle value of an output (R117, R505). -/
def idleValue (n : Nat) (s : State) : F64 := f32At (idleRec n s) 4

/-- A universal output takes its idle action (R117). -/
def ucIdle (ch : Nat) (s : State) : State := if idleIsValue ch s then ucCommand ch (idleValue ch s) s else s

/-- A universal output goes to 0 mA or 0 V (R263). -/
def ucOff (u : Uc) : Uc := { u with output := 0, command := 0, pulse := false }

/-! ## Samples (R255, R258 to R262) -/

/-- A reading judged by its mode: the value in the mode unit, whether it was saturated, and the REASON that makes it BAD. -/
structure Reading where
  /-- The value in the mode unit. -/
  x : F64
  /-- Saturated: OVERRANGE. -/
  sat : Bool := false
  /-- REASON of a BAD value; 0 none. -/
  bad : Nat := 0
  /-- QUALITY is at most this. -/
  limit : Nat := 3

/-- A value held in a range. -/
def saturate (lo hi x : F64) : Reading := { x := fclamp lo hi x, sat := flt x lo || flt hi x }

/-- The cold-junction temperature and the quality it allows; 0 for BAD (R261). -/
def coldJunction (src : Nat) (r : List Byte) (s : State) : F64 × Nat :=
  let a := s.cj[0]
  let b := s.cj[1]
  match src with
  | 0 => (a.temp, if a.fault then 0 else 3)
  | 1 => (b.temp, if b.fault then 0 else 3)
  | 2 =>
    if a.fault && b.fault then (a.temp, 0)
    else if a.fault then (b.temp, 1)
    else if b.fault then (a.temp, 1)
    else (fdiv (fadd a.temp b.temp) (fnum 2), 3)
  | _ => (f32At r 32, 3)

/-- The temperature range of a thermocouple type (R260). -/
def tcRange : Nat → Int × Int
  | 0 => (250, 1820)
  | 1 => (-200, 1000)
  | 2 => (-210, 1200)
  | 3 => (-200, 1372)
  | 4 => (-200, 1300)
  | 5 => (-50, 1768)
  | 6 => (-50, 1768)
  | _ => (-200, 400)

/-- The resistance of an element after its wiring's compensation (R259): `lead1` is the lead between A and B. -/
def compensated (r : List Byte) (x lead1 : F64) : F64 :=
  match fld8 r 4 with
  | 3 => fsub x (fmul (fnum 2) lead1)
  | 2 => fsub x (f32At r 36)
  | _ => x

/-- A reading of an input mode (R258, R259, R261).  `x` is the reading in V, mA, Ω or µV, `lead1` and `lead2` the lead
measurements of a 3-wire element, `comp` the excitation at its compliance or the loop supply at its limit. -/
def judge (u : Uc) (x lead1 lead2 : F64) (comp : Bool) (s : State) : Reading :=
  let r := u.rcd
  match ucMode u with
  | 1 => saturate (frac (-105) 10) (frac 105 10) x
  | 2 => saturate (frac (-5) 10) (frac 105 10) x
  | 3 | 4 =>
    let v := saturate (fnum (-1)) (fnum 25) x
    if flt (fnum 30) x then { v with bad := 0x09 }
    else if ucMode u = 4 ∧ u.supply ∧ comp then { v with bad := 0x09 }
    else if bit (fld8 r 3) 1 && (flt x (frac 36 10) || flt (fnum 21) x) then { v with bad := 0x07 }
    else v
  | 8 =>
    let y := compensated r x lead1
    if flt (fnum 4100) y || comp then { x := y, bad := 0x08 }
    else if flt y (fnum (-1)) then { x := y, bad := 0x07 }
    else { x := fmax (fnum 0) y }
  | 9 =>
    let y := compensated r x lead1
    let r0 := if fld8 r 7 = 1 then fnum 1000 else fnum 100
    if flt (fnum 4100) y || comp then { x := y, bad := 0x08 }
    else if flt y (fdiv r0 (fnum 10)) then { x := y, bad := 0x09 }
    else if fld8 r 4 = 3 ∧ flt (fnum 50) (fabs (fsub lead1 lead2)) then { x := y, bad := 0x07 }
    else saturate (fnum (-200)) (fnum 850) (Config.rtdTemperature (fld8 r 7 == 1) y)
  | _ =>
    if flt (fnum 100000) x then { x := x, bad := 0x08 }
    else
      let e := saturate (fnum (-80000)) (fnum 80000) x
      let cj := coldJunction (fld8 r 6) r s
      let t := Config.tcTemperature (fld8 r 5) (fadd e.x (Config.tcVoltage (fld8 r 5) cj.1))
      let lim := tcRange (fld8 r 5)
      let v := saturate (fnum lim.1) (fnum lim.2) t
      { v with sat := v.sat || e.sat, bad := if cj.2 = 0 then 0x07 else 0, limit := cj.2 }

/-- The first-order filter of a sample in the mode unit (R255). -/
def ucFilter (u : Uc) (x : F64) : F64 :=
  let tau := f32At u.rcd 28
  if feq tau 0 then x
  else
    match u.filter with
    | none => x
    | some y =>
      let h := frac (ucPeriod (fld8 u.rcd 2)) sec
      fadd y (fmul (fdiv h (fadd tau h)) (fsub x y))

/-- A sample of an input channel: judged, filtered, scaled, and its diagnostics set or cleared (R255, R258). -/
def ucInputSample (ch : Nat) (x lead1 lead2 : F64) (comp : Bool) (s : State) : State :=
  let u := ucAt ch s
  let v := judge u x lead1 lead2 comp s
  let old := ucDiag u
  let u1 := { u with
    sampled := now s, supply := u.supply && comp
    sensor := v.bad == 0x07, open_ := v.bad == 0x08, shorted := v.bad == 0x09 }
  let u2 :=
    if v.bad ≠ 0 then { u1 with status := mkStatus 0 v.bad }
    else
      let y := ucFilter u v.x
      let q := if v.limit < 3 then mkStatus v.limit 0 else mkStatus 3 0
      let w := if v.sat then capStatus (q ||| stOverrange) else q
      { u1 with filter := some y, raw := y, eng := ucEng u.rcd y, status := w }
  let t := ucMod ch (fun _ => { u2 with recent := ((now s, u2.eng, u2.status) :: u.recent).take 32 }) s
  ucEmit ch (ucDiagRecords ch old (ucDiag u2) t)

/-- A sample of an output channel: the readback, with NOT_VERIFIABLE judged from command and current (R250, R265). -/
def ucOutputSample (ch : Nat) (x headroom : F64) (s : State) : State :=
  let u := ucAt ch s
  if u.pulse then s
  else
    let low := flt u.output (fnum 1)
    let test := bit (fld8 u.rcd 3) 0
    let nv := if ucCurrentMode (ucMode u) && verifying s then
        (if low && !test then true
         else if u.notVer && !low && fle (frac 5 10) x then false
         else if test then false else u.notVer)
      else u.notVer
    let y := ucFilter u x
    ucSetDiag ch (fun u =>
      { u with sampled := now s, headroom := headroom, notVer := nv, raw := y, filter := some y, eng := ucEng u.rcd y }) s

/-- A conversion can complete now: (t − PHASE_NS) mod the sample period is 0 to within 1 µs, and none completed at this moment before
(R254). -/
def ucAligned (u : Uc) (t : Nat) : Bool :=
  let third := fld8 u.rcd 2 == 3
  let p := if third then 50000000 else ucPeriod (fld8 u.rcd 2)
  let k := if third then 3 else 1
  let r := ((t + p - fld32 u.rcd 48 % p) * k) % p
  (decide (r ≤ 1000 * k) || decide (p ≤ r + 1000 * k)) && (u.convAt == 0 || decide (u.convAt + 2 * us < t))

/-- The headroom of the current-output stage from the current in mA, V_AB and V_OS in volts, R_INT being 100 Ω (R264). -/
def ucHeadroom (m : Nat) (i vab vos : F64) : F64 :=
  let drop := fdiv i (fnum 10)
  if m = 6 then fsub vab drop else fsub (fsub vos drop) vab

/-- A conversion completes (R254): a channel that settles counts three samples, the third is its first valid one (R268).  Of an
output `aux` is V_AB and `lead` is V_OS. -/
def conversion (ch : Nat) (x aux lead : F64) (comp : Bool) (s : State) : State :=
  let u := ucAt ch s
  let deliver (v : State) : State :=
    let t := ucMod ch (fun u => { u with convAt := now s }) v
    if ucOutputMode (ucMode u) then ucOutputSample ch x (ucHeadroom (ucMode u) x aux lead) t else ucInputSample ch x aux lead comp t
  match u.st with
  | .running => if ucAligned u (now s) then deliver s else s
  | .configuring =>
    if u.step < 3 || !ucAligned u (now s) then s
    else if u.settle < 2 then ucMod ch (fun u => { u with settle := u.settle + 1, convAt := now s }) s
    else
      let t := ucMod ch (fun u => { u with st := .running, step := 0, settle := 0, short_ := false }) s
      let t2 := setHealth (0x10 + ch) 0 0 t
      deliver (if ucOutputMode (ucMode u) then ucMod ch ucApply t2 else t2)
  | _ => s

/-! ## Configuration of a channel (R268) -/

/-- Whether a new record changes the channel's front end (R268). -/
def ucBigChange (old new : List Byte) : Bool :=
  old == [] || fld8 old 1 != fld8 new 1 || fld8 old 4 != fld8 new 4 || fld8 old 7 != fld8 new 7 || fld8 old 5 != fld8 new 5

/-- A channel's record changes by configuration commit (R268). -/
def ucConfigure (ch : Nat) (new : List Byte) (s : State) : State :=
  let u := ucAt ch s
  if u.rcd = new ∨ u.st = .failed then ucMod ch (fun u => { u with rcd := new }) s
  else if new = [] ∨ fld8 new 1 = 0 then
    healthFollows (0x10 + ch) false (ucMod ch (fun u => { ucReset with rcd := new, st := .disabled, nextPulse := u.nextPulse }) s)
  else if ucBigChange u.rcd new then
    healthFollows (0x10 + ch) true (ucMod ch (fun u => { ucReset with
      rcd := new, st := .configuring, step := 1, command := idleValue ch s, emitted := u.emitted, status := u.status,
      raw := u.raw, eng := u.eng, sampled := u.sampled }) s)
  else if fld8 u.rcd 2 ≠ fld8 new 2 ∨ fld32 u.rcd 48 ≠ fld32 new 48 then
    ucMod ch (fun u => { u with rcd := new, st := .configuring, step := 3, short_ := true, settle := 0, filter := none }) s
  else ucMod ch (fun u => { u with rcd := new }) s

/-! ## The commands -/

/-- `CONVERSION_COMPLETE` (R254 to R262, R265). -/
def stepConversionComplete (ch : Fin 16) (raw aux lead : F64) (atCompliance : Bool) (s : State) :
    State := (conversion ch.val raw aux lead atCompliance s)

/-- `CJ_SAMPLE` (R261): the sensor's temperature, and its fault outside −50 °C to +120 °C. -/
def execCjSample (n : Fin 2) (temp : F64) (s : State) : Host.Outcome State Fault Refusal :=
  let bad := flt temp (fnum (-50)) || flt (fnum 120) temp || fnan temp
  let t := { s with cj := vset s.cj n.val { temp := temp, fault := bad } }
  .next (if bad && !s.cj[n].fault then record sevWarning 0x0607 (srcUnit 0x0F) (le 1 n.val) t else t)

/-- `UC_OPEN_CIRCUIT_DETECT` (R265): set at a command of 1 mA or more; it takes precedence over COMPLIANCE_LOW. -/
def stepUcOpenCircuitDetect (ch : Fin 16) (recovered : Bool) (s : State) : State :=
  let u := s.uc[ch]
  (
    if u.st ≠ .running ∨ ucCurrentMode (ucMode u) = false ∨ verifying s = false then s
    else if recovered then ucSetDiag ch.val (fun u => { u with open_ := false }) s
    else if flt u.output (fnum 1) then s
    else ucSetDiag ch.val (fun u => { u with open_ := true, compLow := false }) s)

/-- `TEST_PULSE` (R265): once per second a low-command current output with TEST_PULSE is raised to 1 mA. -/
def execTestPulse (ch : Fin 16) (s : State) : Host.Outcome State Fault Refusal :=
  let u := s.uc[ch]
  .next (
    if u.st = .running ∧ ucCurrentMode (ucMode u) ∧ bit (fld8 u.rcd 3) 0 ∧ flt u.output (fnum 1) ∧ u.pulse = false ∧
        u.nextPulse ≤ now s ∧ verifying s then
      ucMod ch.val (fun u => { u with pulse := true, nextPulse := now s + sec }) s
    else s)

/-- A test pulse is judged: below 0.5 mA in two consecutive pulses is open, one at 0.5 mA or above clears (R265). -/
def pulseJudged (current : F64) (u : Uc) : Uc :=
  if fle (frac 5 10) current then { u with pulse := false, pulseFails := 0, open_ := false }
  else
    let two := decide (1 ≤ u.pulseFails)
    { u with pulse := false, pulseFails := u.pulseFails + 1, open_ := u.open_ || two, compLow := u.compLow && !two }

/-- `TEST_PULSE_END` (R265). -/
def stepTestPulseEnd (ch : Fin 16) (current : F64) (s : State) : State :=
  (if (s.uc[ch]).pulse then ucSetDiag ch.val (pulseJudged current) s else s)

/-- `UC_COMPLIANCE_LOW_DETECT` (R265, R266). -/
def stepUcComplianceLowDetect (ch : Fin 16) (recovered : Bool) (s : State) : State :=
  let u := s.uc[ch]
  (
    if u.st ≠ .running ∨ ucCurrentMode (ucMode u) = false ∨ verifying s = false then s
    else if recovered then ucSetDiag ch.val (fun u => ucApply { u with compLow := false }) s
    else if u.open_ ∨ flt u.raw (frac 5 10) then s
    else ucSetDiag ch.val (fun u => ucApply { u with compLow := true }) s)

/-- `UC_SHORT_CIRCUIT_DETECT` (R265, R266): VOLTAGE_OUT at its current limit. -/
def stepUcShortCircuitDetect (ch : Fin 16) (recovered : Bool) (s : State) : State :=
  let u := s.uc[ch]
  (
    if u.st ≠ .running ∨ ucMode u ≠ 7 ∨ verifying s = false then s
    else ucSetDiag ch.val (fun u => ucApply { u with shorted := !recovered }) s)

/-- `UC_LOOP_SUPPLY_LIMIT` (R258): the loop supply of CURRENT_IN_POWERED at its limit. -/
def execUcLoopSupplyLimit (ch : Fin 16) (s : State) : Host.Outcome State Fault Refusal :=
  let u := s.uc[ch]
  .next (
    if u.st = .running ∧ ucMode u = 4 then
      ucSetDiag ch.val (fun u => { u with supply := true, shorted := true, status := mkStatus 0 0x09 }) s
    else s)

/-- A universal channel is marked FAILED (R267): its output falls, its signal is BAD, an ALARM is recorded. -/
def ucFail (ch cause : Nat) (s : State) : State :=
  let u := ucAt ch s
  if u.st = .failed then s
  else
    let t := ucMod ch (fun u => { ucOff u with st := .failed, status := mkStatus 0 0x0F, step := 0, settle := 0 }) s
    let r := record sevAlarm 0x060F (srcUnit (0x10 + ch)) [] (setHealth (0x10 + ch) 2 cause t)
    if u.st = .disabled then r else ucEmit ch r

/-- `CONVERTER_REGULATION_FAULT` (R267). -/
def stepConverterRegulationFault (ch : Fin 16) (s : State) : State := (ucFail ch.val 2 s)

/-- `CHANNEL_RECONFIG_STEP` (R268): the front-end switches at 1 ms, then the converter restarts. -/
def execChannelReconfigStep (ch : Fin 16) (s : State) : Host.Outcome State Fault Refusal :=
  .next (ucMod ch.val (fun u =>
    if u.st = .configuring ∧ (u.step = 1 ∨ u.step = 2) then { u with step := u.step + 1, settle := 0, filter := none } else u) s)

end Sys2Proof.Machine
end

