-- ==== Sys2Proof/Machine/Digital.lean ====
section
/-! DEFINITION. The digital channels: debounce and transitions (R274 to R279), outputs (R280 to R285), diagnostics (R286),
counting functions (R288 to R291) and changes of direction (R293). -/

namespace Sys2Proof.Machine

/-- A digital channel. -/
def digAt (ch : Nat) (s : State) : Dig := vget digReset s.dig ch

/-- Changes a digital channel. -/
def digMod (ch : Nat) (f : Dig → Dig) (s : State) : State := { s with dig := vmod s.dig ch f }

/-- A digital group. -/
def groupAt (g : Nat) (s : State) : DGroup := vget dGroupReset s.group g

/-- Changes a digital group. -/
def groupMod (g : Nat) (f : DGroup → DGroup) (s : State) : State := { s with group := vmod s.group g f }

/-- The group of a channel (R270). -/
def groupOf (ch : Nat) : Nat := ch / 12

/-- The channels of a group. -/
def groupChans (g : Nat) : List Nat := List.range' (12 * g) 12

/-- DIRECTION is OUTPUT (R272). -/
def digOutput (d : Dig) : Bool := fld8 d.rcd 1 == 3

/-- DIRECTION is one of the inputs. -/
def digInput (d : Dig) : Bool := fld8 d.rcd 1 == 1 || fld8 d.rcd 1 == 2

/-- FUNCTION: 0 NONE, 1 COUNTER, 2 ENCODER, 3 PERIOD (R272). -/
def digFunction (d : Dig) : Nat := fld8 d.rcd 2

/-- A flag of the record (R272). -/
def digFlag (d : Dig) (i : Nat) : Bool := bit (fld8 d.rcd 3) i

/-- The controller's time: module time, but for a step since the last alignment (R274, R278). -/
def groupTime (g : Nat) (s : State) : Nat := ((now s : Int) + (groupAt g s).skew).toNat

/-- SOURCE of a digital channel's signal: local channel 16 + number, numbered as the output idle actions number them (R505). -/
def digSource (ch : Nat) : Nat := 0x40000000 + 16 + ch

/-! ## Diagnostics and the signal's status -/

/-- The diagnostics that are active, bit n for REASON 0x07 + n, then CHATTERING 16, ENC_FAULT 17, GROUP_OVERLOAD 18 (R514). -/
def digDiag (d : Dig) : Nat :=
  atBit d.open_ 1 + atBit d.shorted 2 + atBit d.mismatch 5 + atBit (d.st == .failed) 8 + atBit d.chatter 16 +
    atBit d.encFault 17 + atBit d.overload 18

/-- QUALITY and REASON of a channel's signal (R286). -/
def digStatus (d : Dig) (fsLow : Bool) : Word :=
  if d.st = .failed then mkStatus 0 0x0F
  else if d.mismatch then mkStatus 0 0x0C
  else if d.shorted || d.overload then mkStatus 0 0x09
  else if d.open_ then mkStatus 0 0x08
  else if d.encFault then mkStatus 0 0x07
  else if d.chatter then mkStatus 1 0x07
  else if fsLow then (if digOutput d then mkStatus 1 0x0B else mkStatus 1 0x07)
  else mkStatus 3 0

/-- The state word of a group (R276); FS_LOW is a diagnostic of every channel of the group (R286, R514). -/
def stateWord (g : Nat) (s : State) : BitVec 64 :=
  let ds := (groupChans g).map fun c => digAt c s
  let grp := groupAt g s
  let bitsOf (f : Dig → Nat) (lo w : Nat) : Nat := (ds.zipIdx.map fun p => f p.1 * 2 ^ (lo + w * p.2)).sum
  BitVec.ofNat 64 (bitsOf (fun d => b2n d.acc) 0 1 + bitsOf (fun d => d.tcount.toNat) 12 2 +
    bitsOf (fun d => b2n (digDiag d != 0 || d.st == .configuring || grp.fsLow)) 36 1 + atBit grp.fsLow 48 + atBit grp.failed 49)

/-- The group's controller passes its buffered sequence-of-events entries to the recorder (R278). -/
def drainSoe (g : Nat) (s : State) : State :=
  ((groupAt g s).soe).foldl (fun t r => admitRecord r t) (groupMod g (fun x => { x with soe := [] }) s)

/-- The image entry of a channel at a transition or a change of status: its value where FUNCTION is NONE, the status alone of the signals
of a counting function (R170, R277, R286, R288). -/
def digEmit (ch : Nat) (stamp : Nat) (s : State) : State :=
  let d := digAt ch s
  let w := digStatus d (groupAt (groupOf ch) s).fsLow
  let t := digMod ch (fun d =>
    { d with status := w, turned := if quality w = quality d.status then d.turned else now s }) s
  if digFunction d = 0 then deliverInt (fldW d.rcd 8) (if d.acc then 1 else 0) w (digSource ch) stamp t
  else deliverStatus [fldW d.rcd 8, fldW d.rcd 12] w t

/-- The signals of a channel that had gone STALE are given anew (R170, R277). -/
def digFresh (ch : Nat) (s : State) : State :=
  let d := digAt ch s
  if d.st = .running ∧ (staleSource (fldW d.rcd 8) s || (digFunction d != 0 && staleSource (fldW d.rcd 12) s)) then
    digEmit ch d.stamp (staleOver (fldW d.rcd 8) (if digFunction d = 0 then s else staleOver (fldW d.rcd 12) s))
  else s

/-- Counts of the last 1 ms, up less down (R288). -/
def recentCounts (c : Counter) (t : Nat) : Int :=
  (c.edges.filter fun e => decide (t < e.1 + ms)).foldl (fun n e => if e.2 then n - 1 else n + 1) 0

/-- A counting function's signals, as the group delivers them with its state word (R288). -/
def deliverCounts (ch : Nat) (s : State) : State :=
  let d := digAt ch s
  let c := vget counterReset s.counter ch
  let w := digStatus d (groupAt 0 s).fsLow
  let t := now s
  let n := recentCounts c t
  let idle := decide (c.lastEdge + fld32 d.rcd 24 * ms ≤ t)
  match digFunction d with
  | 1 =>
    deliverOwn (fldW d.rcd 12) (fnum (n * 1000)) w (digSource ch)
      (deliverInt (fldW d.rcd 8) (BitVec.ofInt 64 c.count) w (digSource ch) t s)
  | 2 =>
    deliverOwn (fldW d.rcd 12) (fofRatio (n * 1000) (fld32 d.rcd 16)) w (digSource ch)
      (deliverInt (fldW d.rcd 8) (BitVec.ofNat 64 c.c) w (digSource ch) t s)
  | 3 =>
    let rate := if idle || c.period == 0 then fnum 0 else fofRatio sec c.period
    deliverOwn (fldW d.rcd 12) rate w (digSource ch)
      (deliverInt (fldW d.rcd 8) (BitVec.ofNat 64 c.period) w (digSource ch) t s)
  | _ => s

/-- Group 0 delivers the signals of its counting functions (R288). -/
def deliverCounting (g : Nat) (s : State) : State :=
  if g = 0 then [0, 1, 2, 3].foldl (fun t ch => if (digAt ch t).st = .running then deliverCounts ch t else t) s else s

/-- The group sends its state word to the Coupler intake, with the counting functions' signals (R276, R288). -/
def sendStateWord (g : Nat) (s : State) : State :=
  let t := deliverCounting g ((groupChans g).foldl (fun u c => digFresh c u) (groupMod g (fun x => { x with sent := now s }) s))
  emit (.stateWord g (le 8 (stateWord g s).toNat)) (intakeDiscrete g (le 8 (stateWord g s).toNat) t)

/-- A change of a channel's diagnostics: a WARNING when one sets, clearings gathered for the second, and the entry of a changed
status (R277, R286). -/
def digSetDiag (ch : Nat) (f : Dig → Dig) (s : State) : State :=
  let old := digDiag (digAt ch s)
  let t := digMod ch f s
  let new := digDiag (digAt ch t)
  let reason (n : Nat) : Nat := if n = 16 ∨ n = 17 then 0x07 else if n = 18 then 0x09 else 7 + n
  let t2 := [1, 2, 5, 16, 17, 18].foldl (fun t n =>
    if bit new n && !bit old n then record sevWarning (0x0600 + reason n) (BitVec.ofNat 32 (digSource ch)) [] t else t) t
  let t3 := digMod ch (fun d =>
    { d with cleared := [1, 2, 5, 16, 17, 18].foldl (fun m n => if bit old n && !bit new n then m ||| 2 ^ n else m) d.cleared }) t2
  let d := digAt ch t3
  if digStatus d (groupAt (groupOf ch) t3).fsLow ≠ d.status then digEmit ch (now s) t3 else t3

/-! ## Inputs and transitions (R275 to R279) -/

/-- A sequence-of-events entry as a record: EVENT, KIND 3 (R278, R530). -/
def soeRecord (ch : Nat) (state : Bool) (stamp lost : Nat) (g : DGroup) (rcd : List Byte) (s : State) : Record where
  time := stamp / us * us
  sev := sevEvent
  kind := 3
  code := 0x0600
  flags := recordFlags s
  source := BitVec.ofNat 32 (digSource ch)
  body := padBody (slice rcd 8 4 ++ le 1 ch ++ le 1 (b2n state) ++ le 2 g.soeSeq.toNat ++ le 4 lost ++ zeros 20)

/-- An accepted transition's entry into the controller's buffer of 1,024 (R278). -/
def soeEntry (ch stamp : Nat) (s : State) : State :=
  let g := groupOf ch
  let x := groupAt g s
  let d := digAt ch s
  if x.soe.length < 1024 then
    groupMod g (fun y => { y with soe := y.soe ++ [soeRecord ch d.acc stamp y.soeLost x d.rcd s], soeLost := 0 }) s
  else groupMod g (fun y => { y with soeLost := y.soeLost + 1, soeOverflow := true }) s

/-- The chatter check at an accepted transition (R279). -/
def chatterCheck (ch t : Nat) (s : State) : State :=
  let d := digAt ch s
  let lim := fld16 d.rcd 28
  let recent := t :: (d.recent.filter fun x => decide (t < x + sec))
  let s1 := digMod ch (fun d =>
    { d with recent := recent, busyAt := if recent.length > lim / 2 then t else d.busyAt }) s
  if lim ≠ 0 ∧ lim < recent.length ∧ d.chatter = false then digSetDiag ch (fun d => { d with chatter := true }) s1 else s1

/-- A transition is accepted with a timestamp; the first state after a restart is taken without one (R275 to R279, R293). -/
def acceptState (ch stamp : Nat) (s : State) : State :=
  let d := digAt ch s
  let g := groupOf ch
  if d.fresh then
    digEmit ch stamp (digMod ch (fun d => { d with acc := d.prev, first := none, fresh := false, seen := now s }) s)
  else
    let s1 := digMod ch (fun d =>
      { d with acc := d.prev, first := none, tcount := d.tcount + 1, stamp := stamp, seen := now s }) s
    let s2 := groupMod g (fun x => { x with soeSeq := x.soeSeq + 1 }) s1
    let s3 := chatterCheck ch (groupTime g s) s2
    let s4 := if digFlag d 1 && !(digAt ch s3).chatter then soeEntry ch stamp s3 else s3
    sendStateWord g (digEmit ch stamp s4)

/-- The sampled value of a level on the pin: INVERT applies to inputs (R272, R274). -/
def sampled (d : Dig) (level : Bool) : Bool := if digInput d && digFlag d 0 then !level else level

/-- A raw level change, sampled and corrected for the stage's delay (R275): `first` and `last` move, a departure that returned and
stayed is forgotten, and without debounce the change is accepted at once. A channel that does not sample only has the level on its
pin. -/
def levelChange (ch : Nat) (level : Bool) (s : State) : State :=
  let s0 := digMod ch (fun d => { d with pin := level }) s
  let d := digAt ch s0
  if d.st ≠ .running then s0
  else
    let t := groupTime (groupOf ch) s
    let x := sampled d level
    let D := fld16 d.rcd 4 * us
    let d1 := if d.prev == d.acc && d.first.isSome && decide (d.last + D ≤ t) then { d with first := none } else d
    let d2 := { d1 with last := if x != d.prev then t else d1.last,
                        first := if x != d.acc && d1.first.isNone then some t else d1.first, prev := x }
    let s1 := digMod ch (fun _ => d2) s0
    if D = 0 ∧ (x ≠ d.acc ∨ d.fresh) then acceptState ch (d2.first.getD t) s1 else s1

/-- `DIGITAL_INPUT_CHANGE` (R275). -/
def execDigitalInputChange (ch : Fin 48) (level : Bool) (s : State) : Host.Outcome State Fault Refusal :=
  .next (levelChange ch.val level s)

/-- `DIGITAL_TRANSITION_ACCEPTED` (R275): a departure has stayed for DEBOUNCE_US; its timestamp is the first departure. -/
def execDigitalTransitionAccepted (ch : Fin 48) (s : State) : Host.Outcome State Fault Refusal :=
  let d := s.dig[ch]
  let t := groupTime (groupOf ch.val) s
  .next (
    if d.st = .running ∧ (d.prev ≠ d.acc ∨ d.fresh) ∧ d.last + fld16 d.rcd 4 * us ≤ t then
      acceptState ch.val (d.first.getD t) s
    else s)

/-- `STATE_WORD_SEND` (R276, R288): after 1 ms without a transition the group sends its state word. -/
def execStateWordSend (g : Fin 4) (s : State) : Host.Outcome State Fault Refusal :=
  .next (
    if (s.group[g]).sent + ms ≤ now s ∧ (s.group[g]).failed = false then sendStateWord g.val (drainSoe g.val s) else s)

/-- A module time moved by a signed number of nanoseconds, not below 0. -/
def movedTime (d : Int) (t : Nat) : Nat := ((t : Int) + d).toNat

/-- The controller's times of group `g` move with its alignment, so that what they measure stays as it was (R278). -/
def alignTimes (g : Nat) (d : Int) (s : State) : State :=
  (groupChans g).foldl (fun u ch => digMod ch (fun x =>
    { x with
      first := x.first.map (movedTime d), last := movedTime d x.last, recent := x.recent.map (movedTime d)
      busyAt := movedTime d x.busyAt }) u) s

/-- `DIGITAL_ALIGNMENT` (R274, R278): the controller's time is aligned, and its buffer passes to the recorder. -/
def execDigitalAlignment (g : Fin 4) (s : State) : Host.Outcome State Fault Refusal :=
  .next (
    let k := (s.group[g]).skew
    drainSoe g.val (groupMod g.val (fun x => { x with skew := 0 }) (if k = 0 then s else alignTimes g.val (-k) s)))

/-- `CHATTER_CLEAR` (R279): after 10 s of quiet windows. -/
def execChatterClear (ch : Fin 48) (s : State) : Host.Outcome State Fault Refusal :=
  let d := s.dig[ch]
  .next (
    if d.chatter ∧ d.busyAt + 10 * sec ≤ groupTime (groupOf ch.val) s then
      digSetDiag ch.val (fun d => { d with chatter := false }) s
    else s)

/-! ## Outputs (R280 to R285) -/

/-- Whether a command of ON puts the switch ON: not while it waits for a retry, is locked or shed, or is FAILED (R281, R282). -/
def switchAllowed (d : Dig) : Bool :=
  d.st == .running && !d.overload && !d.locked && (!d.shorted || d.retryAt.isNone)

/-- A command reaches a digital output (R280 to R283): OFF then ON restores a shed or locked output. -/
def digCommand (ch : Nat) (on : Bool) (s : State) : State :=
  let d := digAt ch s
  if digOutput d = false ∨ d.st = .failed ∨ d.st = .disabled then s
  else if d.command = on then digMod ch (fun d => { d with switch := on && (d.switch || switchAllowed d) }) s
  else if on then
    let cleared (d : Dig) : Dig :=
      { d with command := true, commanded := now s, overload := false, locked := false, open_ := false
               shorted := d.shorted && !d.locked, retries := if d.locked then 0 else d.retries }
    digSetDiag ch (fun d => { cleared d with switch := switchAllowed (cleared d) }) s
  else digMod ch (fun d => { d with command := false, commanded := now s, switch := false }) s

/-- A digital output takes its idle action (R117, R505): ON when the idle value is not 0. -/
def digIdle (ch : Nat) (s : State) : State :=
  if idleIsValue (16 + ch) s then digCommand ch (!feq (idleValue (16 + ch) s) 0) s else s

/-- A digital output is OFF (R280). -/
def digOff (d : Dig) : Dig := { d with command := false, switch := false, retryAt := none }

/-- Whether the comparison of R283 runs: 2 ms after the last command, field supply good, verification not suspended. -/
def comparing (ch : Nat) (s : State) : Bool :=
  let d := digAt ch s
  digOutput d && d.st == .running && decide (d.commanded + 2 * ms ≤ now s) && !(groupAt (groupOf ch) s).fsLow && verifying s

/-- The partner is active or in step, as the pair status shows it (R285). -/
def partnerDrives (s : State) : Bool :=
  match s.pair.partner with
  | some h => h.state == 1 || h.state == 2 || h.state == 4 || h.state == 7
  | none => false

/-- `OUTPUT_MISMATCH_DETECT` (R283, R285). -/
def stepOutputMismatchDetect (ch : Fin 48) (recovered : Bool) (s : State) : State :=
  let d := s.dig[ch]
  (
    if recovered then (if d.prev = d.command then digSetDiag ch.val (fun d => { d with mismatch := false }) s else s)
    else if comparing ch.val s = false ∨ d.prev = d.command ∨ d.shorted then s
    else if digFlag d 2 && d.prev && !d.command && partnerDrives s then s
    else digSetDiag ch.val (fun d => { d with mismatch := true }) s)

/-- `SWITCH_SHORT_CIRCUIT` (R281, R286): switched off, retried after 1 s, locked after three failed retries. -/
def stepSwitchShortCircuit (ch : Fin 48) (recovered : Bool) (s : State) : State :=
  let d := s.dig[ch]
  (
    if digOutput d = false ∨ d.st ≠ .running then s
    else if recovered then
      (if d.switch then digSetDiag ch.val (fun d => { d with shorted := false, retries := 0, retryAt := none }) s else s)
    else if d.switch = false then s
    else
      digSetDiag ch.val (fun d =>
        let n := if d.shorted then d.retries + 1 else 0
        { d with switch := false, shorted := true, mismatch := false, retries := n
                 locked := decide (3 ≤ n), retryAt := if 3 ≤ n then none else some (now s + sec) }) s)

/-- `SWITCH_RETRY` (R281). -/
def execSwitchRetry (ch : Fin 48) (s : State) : Host.Outcome State Fault Refusal :=
  let d := s.dig[ch]
  .next (
    match d.retryAt with
    | some t =>
      if t ≤ now s ∧ d.locked = false then digMod ch.val (fun d => { d with retryAt := none, switch := d.command }) s else s
    | none => s)

/-- `GROUP_OVERLOAD_SHED` (R282): the output that draws the largest current is switched off; shedding begins above 4.4 A and goes on
until the group is at or below 4.0 A. -/
def stepGroupOverloadShed (g : Fin 4) (largest : Fin 12) (currentMa : Nat) (s : State) : State :=
  let ch := 12 * g.val + largest.val
  let sheds := decide (4400 < currentMa) || ((s.group[g]).shedding && decide (4000 < currentMa))
  let t := groupMod g.val (fun x => { x with current := BitVec.ofNat 16 (min currentMa 0xFFFF), shedding := sheds }) s
  (
    if sheds = false ∨ digOutput (digAt ch s) = false then t
    else
      groupMod g.val (fun x => { x with overload := true })
        (digSetDiag ch (fun d => { d with switch := false, overload := true, retryAt := none }) t))

/-- `OPEN_LOAD_DETECT` (R284, R286). -/
def stepOpenLoadDetect (ch : Fin 48) (recovered : Bool) (s : State) : State :=
  let d := s.dig[ch]
  (
    if digOutput d = false ∨ digFlag d 3 = false then s
    else if recovered then digSetDiag ch.val (fun d => { d with open_ := false }) s
    else if comparing ch.val s && !d.command then digSetDiag ch.val (fun d => { d with open_ := true, mismatch := false }) s
    else s)

/-- `FS_LOW_DETECT` (R286, R294, R295). -/
def execFsLowDetect (g : Fin 4) (recovered : Bool) (voltage : BitVec 16) (s : State) : Host.Outcome State Fault Refusal :=
  let t := groupMod g.val (fun x =>
    { x with fsVoltage := voltage, fsLow := !recovered, fsUnder := x.fsUnder || !recovered }) s
  let u := (groupChans g.val).foldl (fun t c =>
    let d := digAt c t
    if d.st = .running ∧ digStatus d (!recovered) ≠ d.status then digEmit c (now s) t else t) t
  .next (
    if recovered && (s.group[g]).fsLow then record sevEvent 0x060B (srcUnit (0x20 + g.val)) [] u
    else if !recovered && !(s.group[g]).fsLow then record sevAlarm 0x060B (srcUnit (0x20 + g.val)) [] u
    else u)

/-- A digital channel is FAILED: its output is OFF, and a counting function is in fault (R286, R291). -/
def digFailed (d : Dig) : Dig := { digOff d with st := .failed, step := 0, encFault := d.encFault || digFunction d != 0 }

/-- A digital channel is marked FAILED (R286). -/
def digFail (ch : Nat) (s : State) : State :=
  let d := digAt ch s
  if d.st = .failed then s
  else if d.st = .disabled then digMod ch (fun d => { digOff d with st := .failed, step := 0 }) s
  else digEmit ch (now s) (digMod ch digFailed s)

/-- A digital group is marked FAILED, and its twelve channels with it (R286). -/
def groupFail (g cause : Nat) (s : State) : State :=
  if (groupAt g s).failed then s
  else
    let t := (groupChans g).foldl (fun t c => digFail c t) (groupMod g (fun x => { x with failed := true }) s)
    record sevAlarm 0x060F (srcUnit (0x20 + g)) [] (setHealth (0x20 + g) 2 cause t)

/-- `GROUP_CONVERTER_FAULT` (R286). -/
def stepGroupConverterFault (g : Fin 4) (s : State) : State := (groupFail g.val 2 s)

/-! ## Counting functions (R288 to R291) -/

/-- Changes a counting function. -/
def counterMod (ch : Nat) (f : Counter → Counter) (s : State) : State := { s with counter := vmod s.counter ch f }

/-- Whether a channel's counting function runs. -/
def counting (ch : Nat) (s : State) : Bool := (digAt ch s).st == .running && digFunction (digAt ch s) != 0

/-- The angle count after one count: it wraps at COUNTS_PER_REV (R289). -/
def stepAngle (c cpr : Nat) (down : Bool) : Nat :=
  if down then (if c = 0 then cpr - 1 else c - 1) else (if cpr ≤ c + 1 then 0 else c + 1)

/-- `COUNT_EDGE` (R288, R289, R291): one count of COUNTER or ENCODER, and the conditions of ENC_FAULT. -/
def execCountEdge (ch : Fin 4) (down bothTracks tooFast : Bool) (s : State) : Host.Outcome State Fault Refusal :=
  let d := digAt ch.val s
  let quad := digFlag d 4
  let dn := quad && down
  let t := now s
  let fault := tooFast || (digFunction d == 2 && quad && bothTracks)
  let s1 := if fault then digSetDiag ch.val (fun d => { d with encFault := true }) s else s
  let edge (c : Counter) : Counter :=
    { c with edges := (t, dn) :: (c.edges.filter fun e => decide (t < e.1 + ms)), lastEdge := t, down := dn }
  .next (
    if counting ch.val s = false then s
    else if digFunction d = 1 then
      counterMod ch.val (fun c => { edge c with
        count := (BitVec.ofInt 64 (if dn then c.count - 1 else c.count + 1)).toInt }) s1
    else if digFunction d = 2 then
      counterMod ch.val (fun c => { edge c with
        c := stepAngle c.c (fld32 d.rcd 16) dn, since := if dn then c.since - 1 else c.since + 1 }) s1
    else s1)

/-- `ENCODER_INDEX` (R289, R291): the angle count is 0, the revolution count moves, and the counts since the last index are
checked. -/
def execEncoderIndex (ch : Fin 4) (s : State) : Host.Outcome State Fault Refusal :=
  let d := digAt ch.val s
  let c := s.counter[ch]
  let dev := (c.since.natAbs : Int) - (fld32 d.rcd 16 : Int)
  let good := decide (dev.natAbs ≤ fld8 d.rcd 23)
  let n : Word := if c.armed then 0 else if c.down then c.n - 1 else c.n + 1
  .next (
    if counting ch.val s = false ∨ digFunction d ≠ 2 then s
    else
      let s1 := counterMod ch.val (fun c =>
        { c with c := 0, n := n, since := 0, indexed := true, armed := false, lastEdge := now s }) s
      if c.indexed then digSetDiag ch.val (fun d => { d with encFault := !good }) s1 else s1)

/-- `ENCODER_REF_EDGE` (R289): the revolution count is set to 0 at the next index. -/
def execEncoderRefEdge (ch : Fin 4) (s : State) : Host.Outcome State Fault Refusal :=
  .next (if counting ch.val s && digFunction (digAt ch.val s) == 2 then counterMod ch.val (fun c => { c with armed := true }) s else s)

/-- `PERIOD_EDGE` (R290, R291): the pulse time, the period and the pulse count; two periods below 250 kHz clear ENC_FAULT. -/
def execPeriodEdge (ch : Fin 4) (s : State) : Host.Outcome State Fault Refusal :=
  let d := digAt ch.val s
  let c := s.counter[ch]
  let t := now s
  let T := t - c.tp
  let fast := decide (1 ≤ c.pulses) && decide (T < 4000)
  let good := if fast || c.pulses == 0 then 0 else c.good + 1
  .next (
    if counting ch.val s = false ∨ digFunction d ≠ 3 then s
    else
      let s1 := counterMod ch.val (fun c =>
        { c with tp := t, period := T, n := c.n + 1, pulses := min 2 (c.pulses + 1), good := good, lastEdge := t }) s
      if fast then digSetDiag ch.val (fun d => { d with encFault := true }) s1
      else if d.encFault && decide (2 ≤ good) then digSetDiag ch.val (fun d => { d with encFault := false }) s1
      else s1)

/-- `COUNT_TIMEOUT` (R291): no count, index or pulse for TIMEOUT_MS sets the rate signal to 0. -/
def execCountTimeout (ch : Fin 4) (s : State) : Host.Outcome State Fault Refusal :=
  let d := digAt ch.val s
  .next (
    if counting ch.val s && decide ((s.counter[ch]).lastEdge + fld32 d.rcd 24 * ms ≤ now s) then
      counterMod ch.val (fun c => { c with edges := [] })
        (deliverOwn (fldW d.rcd 12) 0 (digStatus d (groupAt 0 s).fsLow) (digSource ch.val) s)
    else s)

/-! ## Changes of direction (R293) -/

/-- A digital channel's record changes by configuration commit: DIRECTION and FUNCTION in steps, the other fields at the next
sample (R293). -/
def digConfigure (ch : Nat) (new : List Byte) (s : State) : State :=
  let d := digAt ch s
  if d.rcd = new ∨ d.st = .failed then digMod ch (fun d => { d with rcd := new }) s
  else if new = [] ∨ fld8 new 1 = 0 then digMod ch (fun d => { digReset with rcd := new, pin := d.pin }) s
  else if d.rcd = [] ∨ fld8 d.rcd 1 ≠ fld8 new 1 ∨ fld8 d.rcd 2 ≠ fld8 new 2 then
    digMod ch (fun d =>
      { digReset with rcd := new, st := .configuring, step := 1, pin := d.pin, acc := d.acc, prev := d.prev, tcount := d.tcount
                      command := idleIsValue (16 + ch) s && !feq (idleValue (16 + ch) s) 0, status := d.status }) s
  else levelChange ch d.pin (digMod ch (fun d => { d with rcd := new }) s)

/-- Sampling restarts: an output drives its command, and the pin is sampled again (R293). -/
def samplingRestarts (t tGroup : Nat) (d : Dig) : Dig :=
  let e := { d with st := .running, step := 0, fresh := true, commanded := t, first := none, last := tGroup }
  { e with switch := digOutput e && e.command, prev := sampled e e.pin }

/-- `DIGITAL_RECONFIG_STEP` (R293): the pin set and the counters cleared at 1 ms, sampling again at 2 ms; without debounce the
first state is taken at once. -/
def execDigitalReconfigStep (ch : Fin 48) (s : State) : Host.Outcome State Fault Refusal :=
  let d := s.dig[ch]
  .next (
    if d.st ≠ .configuring then s
    else if d.step = 1 then
      { digMod ch.val (fun d => { d with step := 2 }) s with counter := vmod s.counter ch.val (fun _ => counterReset) }
    else
      let tg := groupTime (groupOf ch.val) s
      let t := digMod ch.val (samplingRestarts (now s) tg) s
      if fld16 d.rcd 4 = 0 then acceptState ch.val tg t else t)

/-! ## Reading and testing channels (R267, R287, R513, R514) -/

/-- The code of a channel's state (R514). -/
def chanStateCode : ChanState → Nat
  | .disabled => 0
  | .configuring => 1
  | .running => 2
  | .failed => 3

/-- The status entry of a universal channel (R514). -/
def ucEntry (ch : Nat) (s : State) : List Byte :=
  let u := ucAt ch s
  le 1 ch ++ le 1 (ucMode u) ++ le 1 (chanStateCode u.st) ++ le 1 (reasonOf u.status) ++
    le 4 (ucDiag u + atBit u.pulse 20) ++ le 4 (narrow u.raw).toNat ++
    le 4 (if ucCurrentMode (ucMode u) then (narrow u.headroom).toNat else 0)

/-- The status entry of a digital channel (R514). -/
def digEntry (ch : Nat) (s : State) : List Byte :=
  let d := digAt ch s
  le 1 ch ++ le 1 (fld8 d.rcd 1) ++ le 1 (chanStateCode d.st) ++ le 1 (reasonOf d.status) ++
    le 4 (digDiag d + atBit (groupAt (groupOf ch) s).fsLow 19) ++ le 4 (if d.acc then 0x3F800000 else 0) ++ le 4 0

/-- The status entry of a cold-junction sensor (R514). -/
def cjEntry (n : Nat) (s : State) : List Byte :=
  let c := vget cjSensorReset s.cj n
  le 1 n ++ le 1 0 ++ le 1 (if c.fault then 3 else 2) ++ le 1 (if c.fault then 0x07 else 0) ++
    le 4 (atBit c.fault 0) ++ le 4 (narrow c.temp).toNat ++ le 4 0

/-- `CHAN_STATUS_GET` (R513, R514). -/
def execChanStatusGet (m : MbxId) (s : State) : Host.Outcome State Fault Refusal :=
  .next (readCommand 0x0701 m (fun q s =>
    let kind := fld8 q.pay 0
    let first := fld8 q.pay 1
    let count := fld8 q.pay 2
    let total := if kind = 0 then 16 else if kind = 1 then 48 else 2
    if 2 < kind ∨ total < first + count then st stInconsistent
    else ok ((List.range' first count).flatMap fun n =>
      if kind = 0 then ucEntry n s else if kind = 1 then digEntry n s else cjEntry n s)) s)

/-- Whether the test of a digital channel passes: an output that is ON reads OFF within 250 µs of its interruption; one that is OFF reads
OFF and shows no open load; an input does what the injected current finds (R287). -/
def digTestPass (d : Dig) (pass : Bool) (measured : F64) : Bool :=
  if digOutput d = false then pass
  else if d.command then fle (fnum 0) measured && fle measured (fnum 250)
  else !d.prev && !(digFlag d 3 && d.open_)

/-- `CHAN_TEST` (R267, R287, R513): `measured` is what the test reads, `pass` what that of an input finds. -/
def stepChanTest (m : MbxId) (pass : Bool) (measured : F32) (s : State) : State :=
  (runCommand 0x0702 m (fun q s =>
    let kind := fld8 q.pay 0
    let ch := fld8 q.pay 1
    let answer (r : Nat) (v : F32) : Resp := ok (le 1 r ++ zeros 3 ++ le 4 v.toNat)
    if kind = 0 ∧ ch < 16 then
      let u := ucAt ch s
      if u.st ≠ .running then (s, answer 2 0)
      else if u.pulse then (s, st stBusy)
      else if ucCurrentMode (ucMode u) then
        let good := fle (frac 5 10) (widen measured)
        (if good && flt u.output (fnum 1) then ucSetDiag ch (fun u => { u with open_ := false, pulseFails := 0 }) s else s,
         answer (if good then 0 else 1) measured)
      else (s, answer (if pass then 0 else 1) measured)
    else if kind = 1 ∧ ch < 48 then
      let d := digAt ch s
      if d.st ≠ .running then (s, answer 2 0)
      else
        (s, answer (if digTestPass d pass (widen measured) then 0 else 1) (if digOutput d && !d.command then 0 else measured))
    else (s, st stInconsistent)) s)

end Sys2Proof.Machine
end

