-- ==== Sys2Proof/Machine/SafetyOps.lean ====
section
/-! DEFINITION. The safety functions: safe states and causes (R298 to R303), resets (R304, R305), capability (R306), dual-contact
inputs (R310), the safety password (R315, R316) and the change log (R317, R318). -/

namespace Sys2Proof.Machine

/-! ## Functions -/

/-- The record of function `n` (R297). -/
def funcRec (n : Nat) (s : State) : List Byte := (tabGet funcReset s.safety.func n).rcd

/-- Function `n`. -/
def funcAt (n : Nat) (s : State) : Func := tabGet funcReset s.safety.func n

/-- Changes function `n`. -/
def funcMod (n : Nat) (f : Func → Func) (s : State) : State :=
  { s with safety := { s.safety with func := tabMod funcReset s.safety.func n f } }

/-- The numbers of the functions configured. -/
def funcNos (s : State) : List Nat := (s.safety.func.filter fun e => e.2.rcd != []).map (·.1)

/-- The digital output channels of a function's record. -/
def funcDos (r : List Byte) : List Nat := (List.range (min 8 (fld8 r 13))).map fun k => fld8 r (16 + k)

/-- The universal output channels of a function's record. -/
def funcUos (r : List Byte) : List Nat := (List.range (min 2 (fld8 r 14))).map fun k => fld8 r (24 + k)

/-- SAFE_MODE is energise to trip (R297). -/
def funcEnergise (r : List Byte) : Bool := bit (fld8 r 3) 0

/-- REQUIRED_SIL: 2 or 3 (R297). -/
def requiredSil (r : List Byte) : Nat := if bit (fld8 r 3) 2 then 3 else 2

/-- DEGRADED_MIN in ns (R297). -/
def degradedNs (r : List Byte) : Nat := fld16 r 26 * 60 * sec

/-- The module drives its outputs: in STOP, RUN and HOLD (R448). -/
def driving (s : State) : Bool := operating s

/-- A universal output is driven at a value of the mode unit. -/
def ucCommandRaw (ch : Nat) (x : F64) (s : State) : State := ucCommand ch (ucEng (ucAt ch s).rcd x) s

/-- Drives a function's outputs to its safe state (R298). -/
def applySafe (n : Nat) (s : State) : State :=
  let r := funcRec n s
  if driving s = false then s
  else
    let t := (funcDos r).foldl (fun t ch => digCommand ch (funcEnergise r) t) s
    ((funcUos r).zipIdx).foldl (fun t p =>
      if funcEnergise r then ucCommand p.1 (f32At r (28 + 4 * p.2)) t else ucCommandRaw p.1 0 t) t

/-- The module writes the fault signal and FAULT_OUTPUT of a function (R300). -/
def setFault (n : Nat) (raised : Bool) (s : State) : State :=
  let r := funcRec n s
  if (funcAt n s).faultSignal = raised then s
  else
    let t := funcMod n (fun f => { f with faultSignal := raised }) s
    let u := deliverInt (fldW r 8) (if raised then 1 else 0) (mkStatus 3 0) (0x10000000 + fld8 r 2) (now s) t
    if fld8 r 12 < 48 ∧ driving s then digCommand (fld8 r 12) raised u else u

/-- The outputs begin to be driven: every function in FORCED_SAFE has its safe state, every FAULT_OUTPUT its fault signal (R298,
R300). -/
def driveSafety (s : State) : State :=
  (funcNos s).foldl (fun t n =>
    let u := if (funcAt n t).st = .forcedSafe then applySafe n t else t
    let r := funcRec n u
    if fld8 r 12 < 48 ∧ driving u then digCommand (fld8 r 12) (funcAt n u).faultSignal u else u) s

/-- A cause puts function `n` into FORCED_SAFE: its outputs take their safe state, the fault signal is raised and an ALARM is
recorded; a function already there only has an EVENT recorded (R302, R303). -/
def forceSafe (cause : Nat) (s : State) (n : Nat) : State :=
  match (funcAt n s).st with
  | .notConfigured => s
  | .forcedSafe => record sevEvent (0x0700 + cause) (srcFunc n) [] s
  | _ =>
    let t := funcMod n (fun f => { f with st := .forcedSafe, cause := cause, resetting := false }) s
    record sevAlarm (0x0700 + cause) (srcFunc n) [] (setFault n true (applySafe n t))

/-- The functions of task `t`. -/
def funcsOfTask (t : Nat) (s : State) : List Nat := (funcNos s).filter fun n => fld8 (funcRec n s) 2 == t

/-- Every function of task `t` is forced safe. -/
def forceTaskSafe (cause t : Nat) (s : State) : State := (funcsOfTask t s).foldl (forceSafe cause) s

/-- Every function is forced safe. -/
def forceAllSafe (cause : Nat) (s : State) : State := (funcNos s).foldl (forceSafe cause) s

/-- Whether an output is held in a safe state: the field section ignores the output image for it (R303, R314). -/
def heldSafe (digital : Bool) (ch : Nat) (s : State) : Bool :=
  s.safety.orphans.contains (digital, ch) ||
  (funcNos s).any fun n =>
    let r := funcRec n s
    (if digital then (funcDos r).contains ch else (funcUos r).contains ch) && (funcAt n s).st == .forcedSafe

/-- An output of a function reports a diagnostic of R302. -/
def outputFaulty (r : List Byte) (s : State) : Bool :=
  (funcDos r).any (fun ch => let d := digAt ch s
    d.mismatch || d.shorted || d.overload || d.open_ || d.st == .failed) ||
  (funcUos r).any (fun ch => let u := ucAt ch s
    u.shorted || u.open_ || u.compLow || u.st == .failed)

/-- Something that can change diagnostics: every function one of whose outputs comes to report one has the cause OUTPUT_FAULT
(R302, R303). -/
def reacting (f : State → State) (s : State) : State :=
  (funcNos s).foldl (fun t n =>
    let r := funcRec n t
    let run := match (funcAt n t).st with
      | .operating | .degraded => true
      | _ => false
    if outputFaulty r t && (run || !outputFaulty r s) then forceSafe 0x09 t n else t) (f s)

/-! ## Capability (R306) -/

/-- Lanes in a state. -/
def lanesIn (x : LaneState) (s : State) : Nat := (s.cpl.lane.toList.filter fun l => l.st == x).length

/-- The module's capability: 3 SIL 3, 2 SIL 2, 0 none (R306). -/
def capability (s : State) : Nat :=
  match s.cpl.config with
  | .triplex => if lanesIn .inVote s = 3 then 3 else if lanesIn .inVote s = 2 then 2 else 0
  | .duplex => if lanesIn .inVote s = 2 then 2 else 0
  | .split => 0

/-- The capability changed: functions below their REQUIRED_SIL degrade, those that have it back return (R306). -/
def capabilityChanged (s : State) : State :=
  let cap := capability s
  (funcNos s).foldl (fun t n =>
    let r := funcRec n t
    if cap < requiredSil r then
      match (funcAt n t).st with
      | .operating =>
        if degradedNs r = 0 then forceSafe 0x07 t n
        else setFault n true (funcMod n (fun f => { f with st := .degraded, timer := some (f.timer.getD (now t)) }) t)
      | _ => t
    else
      match (funcAt n t).st with
      | .degraded => setFault n false (funcMod n (fun f => { f with st := .operating, timer := none }) t)
      | _ => funcMod n (fun f => { f with timer := none }) t) s

/-! ## Dual-contact inputs (R308 to R310) -/

/-- The pairs of a function: number and record. -/
def pairsOf (n : Nat) (s : State) : List (Nat × List Byte) :=
  (cfgKind s.cfg.cur 0x0051).filter fun p => fld16 p.2 4 == n

/-- A dual-contact input. -/
def pairAt (k : Nat) (s : State) : PairInput := tabGet pairInputReset s.safety.pairs k

/-- Changes a dual-contact input. -/
def pairMod (k : Nat) (f : PairInput → PairInput) (s : State) : State :=
  { s with safety := { s.safety with pairs := tabMod pairInputReset s.safety.pairs k f } }

/-- Whether a contact counts as demanding: its accepted state, or a quality that is not GOOD (R310). -/
def contactDemand (ch : Nat) (antivalent : Bool) (s : State) : Bool :=
  let d := digAt ch s
  (d.acc == antivalent) || quality (digStatus d (groupAt (groupOf ch) s).fsLow) != 3 || d.st != .running

/-- The demands of a pair's two contacts. -/
def pairDemand (r : List Byte) (s : State) : Bool × Bool :=
  (contactDemand (fld8 r 1) false s, contactDemand (fld8 r 2) (bit (fld8 r 3) 0) s)

/-- When a contact last changed: its last accepted transition, or the last change of its quality (R310). -/
def contactChanged (ch : Nat) (s : State) : Nat := max (digAt ch s).stamp (digAt ch s).turned

/-- `evaluate` of R310 at a release time: the pair afterwards, and whether it latched now. -/
def evaluatePair (r : List Byte) (tRel : Nat) (p : PairInput) (s : State) : PairInput × Bool :=
  let d := pairDemand r s
  let stamp := max (contactChanged (fld8 r 1) s) (contactChanged (fld8 r 2) s)
  let p0 := { p with clearing := false }
  let p1 := if d.1 ≠ d.2 then { p0 with tDiff := some (p.tDiff.getD stamp) } else { p0 with tDiff := none }
  let trip := match p1.tDiff with
    | some t => decide (t + fld32 r 8 * ms ≤ tRel) && !p.latched
    | none => false
  let p2 := if trip then { p1 with latched := true } else p1
  (if p2.latched && d.1 && d.2 then { p2 with bothSeen := true } else p2, trip)

/-- `proved` of R310. -/
def pairProved (r : List Byte) (p : PairInput) (s : State) : Bool :=
  let d := pairDemand r s
  p.latched && p.bothSeen && !d.1 && !d.2

/-- `conclude` of R310: a reset clears the latch of a proved pair, from the cycle's CP3 on (R305), and the value is formed from the
cleared latch and delivered. -/
def concludePair (k : Nat) (r : List Byte) (taken : Bool) (s : State) : State :=
  let p := pairAt k s
  let clears := taken && p.latched && pairProved r p s
  let d := pairDemand r s
  let v := !(d.1 || d.2 || (p.latched && !clears))
  let t := pairMod k (fun _ => { p with value := v, clearing := clears }) s
  if v = p.value then t
  else deliverInt (fldW r 12) (if v then 1 else 0) (mkStatus 3 0)
    (0x10000000 + fld8 (funcRec (fld16 r 4) s) 2) (now s) t

/-! ## Resets (R304, R305) -/

/-- The module is in SOLE. -/
def inSole (s : State) : Bool := lanesIn .sole s != 0

/-- The function has degraded time left, or its capability meets REQUIRED_SIL (R304). -/
def capabilityOk (n : Nat) (s : State) : Bool :=
  let r := funcRec n s
  decide (requiredSil r ≤ capability s) ||
  (degradedNs r != 0 && match (funcAt n s).timer with
    | some t => decide (now s < t + degradedNs r)
    | none => true)

/-- The first of the conditions 2 to 6 of R304 that fails; none where all hold. -/
def resetBlocked (n t : Nat) (s : State) : Option Nat :=
  let r := funcRec n s
  if (vget taskReset s.task t).st ≠ .running then some 2
  else if capabilityOk n s = false then some 3
  else if outputFaulty r s then some 4
  else if (pairsOf n s).any (fun p => (pairAt p.1 s).latched && !pairProved p.2 (pairAt p.1 s) s) then some 5
  else if inSole s then some 6
  else none

/-- The value and quality of a BOOL handle at a snapshot. -/
def handleAtSnap (h : Word) (snap : Nat) (s : State) : Bool × Nat :=
  let g := handleSig h
  let r := versionAt g snap s
  let w := if sigOwn g s then r.status else stationAdjust (stationVersion (sigStation g) snap s) r.gen r.status
  (r.value != 0, quality (capStatus w))

/-- The last start was warm (R304, R458). -/
def lastStartWarm (s : State) : Bool := !((s.plinth.bkp[2]).getLsbD 29)

/-- Function `n` at the Gather of its task: its pairs are evaluated, then the reset, then the pairs conclude (R304, R310). -/
def funcGather (t snap tRel : Nat) (s : State) (n : Nat) : State :=
  let r := funcRec n s
  let ps := pairsOf n s
  let ev := ps.foldl (fun (acc : State × Bool) p =>
    let x := evaluatePair p.2 tRel (pairAt p.1 acc.1) acc.1
    (pairMod p.1 (fun _ => x.1) acc.1, acc.2 || x.2)) (s, false)
  let s1 := if ev.2 then forceSafe 0x08 ev.1 n else ev.1
  let h := handleAtSnap (fldW r 4) snap s1
  let f := funcAt n s1
  let edge := h.1 && !f.resetPrev && h.2 == 3
  let auto := bit (fld8 r 3) 1 && f.cause == 0x01 && lastStartWarm s1
  let s2 := funcMod n (fun f => { f with resetPrev := h.1, resetting := false }) s1
  if f.st = .forcedSafe ∧ (edge ∨ auto) then
    match resetBlocked n t s2 with
    | none =>
      let s3 := funcMod n (fun f => { f with resetting := true }) s2
      ps.foldl (fun u p => concludePair p.1 p.2 true u) s3
    | some c =>
      let s3 := if edge then record sevEvent 0x0781 (srcFunc n) (le 1 c) (funcMod n (fun f => { f with blocked := true }) s2) else s2
      ps.foldl (fun u p => concludePair p.1 p.2 false u) s3
  else ps.foldl (fun u p => concludePair p.1 p.2 false u) s2

/-- The safety functions of a task at its Gather (R304, R310). -/
def safetyGather (t snap tRel : Nat) (s : State) : State := (funcsOfTask t s).foldl (funcGather t snap tRel) s

/-- The latches that a function's reset clears, at the CP3 of its cycle (R305, R310). -/
def clearLatches (n : Nat) (s : State) : State :=
  (pairsOf n s).foldl (fun t p => pairMod p.1 (fun x =>
    if x.clearing then { x with latched := false, bothSeen := false, clearing := false } else x) t) s

/-- A reset evaluated in the cycle takes effect at its CP3: OPERATING, or DEGRADED by remaining time alone; AUDIT (R305). -/
def funcReset_ (s0 : State) (n : Nat) : State :=
  let f := funcAt n s0
  if f.resetting && f.st == .forcedSafe then
    let s := clearLatches n s0
    let r := funcRec n s
    let full := decide (requiredSil r ≤ capability s)
    let t := if full then
        setFault n false (funcMod n (fun f =>
          { f with st := .operating, cause := 0, resetting := false, blocked := false, timer := none }) s)
      else funcMod n (fun f =>
        { f with st := .degraded, cause := 0, resetting := false, blocked := false, timer := some (f.timer.getD (now s)) }) s
    admitRecord (plainRecord sevAudit 0x0780 (srcFunc n) (fldW r 4) 0 [] s) t
  else funcMod n (fun f => { f with resetting := false }) s0

/-- The outputs of a function are at its safe state (R298). -/
def outputsSafe (n : Nat) (s : State) : Bool :=
  let r := funcRec n s
  (funcDos r).all (fun ch => (digAt ch s).command == funcEnergise r) &&
  ((funcUos r).zipIdx).all fun p =>
    let u := ucAt p.1 s
    if funcEnergise r then u.command == f32At r (28 + 4 * p.2) else feq u.output 0

/-- An output image of task `t` is applied: where it takes the outputs of an OPERATING function to the safe state, that is recorded with
its time (R320). -/
def reachingSafe (t : Nat) (f : State → State) (s : State) : State :=
  (funcsOfTask t s).foldl (fun u n =>
    if (funcAt n u).st == .operating && !outputsSafe n s && outputsSafe n u then record sevEvent 0x0782 (srcFunc n) [] u else u) (f s)

/-- The resets of a task's functions at its CP3. -/
def safetyCommit (t : Nat) (s : State) : State := (funcsOfTask t s).foldl funcReset_ s

/-! ## The change log (R317, R318) -/

/-- The change log holds 4,096 entries: every safety change is refused (R318). -/
def logFull (s : State) : Bool := decide (4096 ≤ s.safety.log.length)

/-- An entry of the change log (R317): KIND, ROLE, SESSION, OBJECT, the object's bytes before and after, USER and DETAIL. -/
def changeLog (kind role : Nat) (session : Word) (object : Nat) (before after user detail : List Byte) (s : State) : State :=
  let body := le 8 s.safety.nextSeq ++ le 8 (now s) ++ le 2 kind ++ le 1 role ++ zeros 1 ++ le 4 session.toNat ++
    le 4 object ++ zeros 4 ++ le 16 (Config.hash128 before).toNat ++ le 16 (Config.hash128 after).toNat ++
    slice user 0 32 ++ slice detail 0 16
  let chain := Config.hash128 (le 16 s.safety.chain.toNat ++ body)
  let e : LogEntry := { seq := s.safety.nextSeq, bytes := body ++ le 16 chain.toNat }
  let t := { s with safety := { s.safety with
    log := s.safety.log ++ [e], nextSeq := s.safety.nextSeq + 1, chain := chain } }
  let u := if t.safety.log.length = 3072 then record sevWarning 0x0D00 (srcUnit 0x0A) [] t else t
  if sendsToStandby s then emit (.control (.changeLogEntry e.bytes)) u else u

/-- The change log's entry of a request: its session's role, identity and user. -/
def changeLogBy (q : Req) (kind object : Nat) (before after detail : List Byte) (s : State) : State :=
  changeLog kind (roleOf q s) (reqSession q s) object before after (sessionOf (mbxSession q.mbx) s).user detail s

/-! ## The safety password (R315, R316, R495) -/

/-- A password given in a block PW: its bytes; none where PW_LENGTH is 0 (R495). -/
def pwGiven (pw : List Byte) : Option (List Byte) :=
  let n := fld8 pw 0
  if n = 0 then none else some (slice pw 4 (min n 64))

/-- Whether every password check fails now, whatever the password (R316). -/
def passwordLocked (s : State) : Bool :=
  match s.safety.lockout with
  | some t => decide (now s < t)
  | none => false

/-- Checks a password block for a safety change: the refusing status, or none; a failure is counted and recorded (R316, R495). -/
def checkPassword (pw : List Byte) (session : Word) (s : State) : Option Nat × State :=
  match pwGiven pw, s.safety.password with
  | none, _ => (some stAuthRequired, s)
  | some _, none => (some stAuthRequired, s)
  | some p, some (salt, hash) =>
    if passwordLocked s = false ∧ 12 ≤ fld8 pw 0 ∧ fld8 pw 0 ≤ 64 ∧ Config.argon2id p salt = hash then (none, s)
    else
      let recent := now s :: (s.safety.failures.filter fun t => decide (now s < t + 600 * sec))
      let locked := passwordLocked s
      let t := { s with safety := { s.safety with
        failures := if locked then s.safety.failures else recent
        lockout := if locked then s.safety.lockout
          else if 5 ≤ recent.length then some (now s + 900 * sec) else s.safety.lockout } }
      (some stAuthFailed, audit 0x0D31 (srcUnit 0x0A) session [] t)

/-- The order of R495 for a safety change that checks the password and the room in the change log: the refusing status, or
none. -/
def safetyChangeCheck (q : Req) (pw : List Byte) (s : State) : Option Nat × State :=
  if roleIncludes (roleOf q s) 4 = false then (some stAuthRequired, s)
  else checkPassword pw (reqSession q s) s

/-- `PASSWORD_LOCKOUT_END` (R316). -/
def execPasswordLockoutEnd (s : State) : Host.Outcome State Fault Refusal :=
  .next (
    match s.safety.lockout with
    | some t => if t ≤ now s then { s with safety := { s.safety with lockout := none, failures := [] } } else s
    | none => s)

/-- `DEGRADED_TIME_EXPIRY` (R306). -/
def execDegradedTimeExpiry (f : Fin 256) (s : State) : Host.Outcome State Fault Refusal :=
  let x := funcAt f.val s
  .next (
    match x.timer with
    | some t => if x.st = .degraded ∧ t + degradedNs (funcRec f.val s) ≤ now s then forceSafe 0x07 s f.val else s
    | none => s)

/-- `SAFETY_PASSWORD_SET` (R316, R466, R521). -/
def execSafetyPasswordSet (m : MbxId) (s : State) : Host.Outcome State Fault Refusal :=
  .next (runCommand 0x0D03 m (fun q s =>
    let clear := bit (fld8 q.pay 0) 0
    let cur := slice q.pay 4 68
    let new := slice q.pay 72 68
    let role := roleOf q s
    let open_ := s.modes.life == .commissioning || s.modes.life == .serviceOpen
    let salt := le 8 (freeValue s).toNat ++ le 8 (freeValue (nextFree s)).toNat
    let set (p : Option (List Byte × BitVec 256)) (t : State) : State :=
      changeLogBy q 0x0007 0 [] [] [] { t with safety := { t.safety with password := p } }
    let choose (t : State) : State × Resp :=
      if fld8 new 0 < 12 ∨ 64 < fld8 new 0 then (t, st stInconsistent)
      else (set (some (salt, Config.argon2id (slice new 4 (fld8 new 0)) salt)) (nextFree (nextFree t)), st stOk)
    if ownerLocked s then (s, st stRefusedState)
    else if clear && s.modes.life != .serviceOpen then (s, st stRefusedState)
    else if !clear && s.safety.password.isNone && !open_ then (s, st stRefusedState)
    else if logFull s then (s, st stRefusedState)
    else if clear then (if role = 6 then (set none s, st stOk) else (s, st stAuthRequired))
    else if roleIncludes role 4 = false then (s, st stAuthRequired)
    else if s.safety.password.isNone then choose s
    else
      match checkPassword cur (reqSession q s) s with
      | (some x, t) => (t, st x)
      | (none, t) => choose t) s)

/-- OLDEST of the change log: the SEQUENCE of its oldest entry, or the next one where it is empty (R318). -/
def logOldest (s : State) : Nat := (s.safety.log.head?).elim s.safety.nextSeq (·.seq)

/-- `CHANGELOG_READ` (R318, R521). -/
def execChangelogRead (m : MbxId) (s : State) : Host.Outcome State Fault Refusal :=
  .next (readCommand 0x0D04 m (fun q s =>
    let from_ := fld64 q.pay 0
    let count := fld32 q.pay 8
    let es := (s.safety.log.filter fun e => decide (from_ ≤ e.seq)).take count
    let head (n : Nat) : List Byte := le 8 (logOldest s) ++ le 8 s.safety.nextSeq ++ le 4 n ++ zeros 12
    if count = 0 then ok (head 0)
    else if 4096 < count then st stInconsistent
    else if from_ < logOldest s then { status := stOvertaken, pay := head 0 }
    else if s.safety.nextSeq < from_ then st stInconsistent
    else if q.count = 0 then
      let xs := es.take 31
      ok (head xs.length ++ xs.flatMap (·.bytes))
    else if claimRoom q < 128 * es.length then stDetail stBadLength (128 * es.length)
    else { status := stOk, pay := head es.length, data := es.flatMap (·.bytes) }) s)

/-- `CHANGELOG_ACK` (R318, R521). -/
def execChangelogAck (m : MbxId) (s : State) : Host.Outcome State Fault Refusal :=
  .next (runCommand 0x0D05 m (fun q s =>
    let es := s.safety.log.take 1024
    if s.safety.log.length < 1024 then (s, st stRefusedState)
    else if fld64 q.pay 0 ≠ logOldest s ∨ BitVec.ofNat 384 (unle ((q.pay.drop 8).take 48)) ≠ Config.sha384 (es.flatMap (·.bytes)) then
      (s, st stInconsistent)
    else
      let t := { s with safety := { s.safety with log := s.safety.log.drop 1024 } }
      let u := changeLogBy q 0x0008 0 [] [] [] t
      (u, ok (le 8 (logOldest u) ++ le 8 t.safety.nextSeq))) s)

/-! ## Registers -/

/-- `SF_STATE` of function `n` (R319). -/
def sfState (n : Nat) (s : State) : Nat :=
  let f := funcAt n s
  let code := match f.st with
    | .notConfigured => 0
    | .operating => 1
    | .degraded => 2
    | .forcedSafe => 3
  code + atBit f.timer.isSome 8 + atBit f.blocked 9 + atBit ((pairsOf n s).any fun p => (pairAt p.1 s).latched) 10 +
    atBit f.faultSignal 11 + f.cause % 256 * 2 ^ 16

/-! ## Functions follow the configuration (R314) -/

/-- A safety function comes to be: it enters FORCED_SAFE with cause START (R302, R314). -/
def funcCreate (n : Nat) (r : List Byte) (s : State) : State :=
  forceSafe 0x01 (funcMod n (fun _ => { funcReset with rcd := r, st := .operating }) s) n

/-- A safety function is deleted: its outputs are driven to its last safe state and stay there (R314). -/
def funcDelete (n : Nat) (s : State) : State :=
  let r := funcRec n s
  let t := applySafe n s
  let outs := (funcDos r).map (fun c => (true, c)) ++ (funcUos r).map (fun c => (false, c))
  funcMod n (fun _ => funcReset) { t with safety := { t.safety with orphans := (t.safety.orphans ++ outs).eraseDups } }

/-- Function `n` follows the set in force: a function kept keeps its state, cause and degraded timer (R314). -/
def funcFollow (s : State) (n : Nat) : State :=
  let old := funcRec n s
  let r := cfgRec 0x0050 n s
  if old = r then s
  else if old = [] then funcCreate n r s
  else if r = [] then funcDelete n s
  else funcMod n (fun f => { f with rcd := r }) s

/-- The functions of tasks that satisfy `p` follow the set in force. -/
def funcsFollow (p : Nat → Bool) (s : State) : State :=
  let ns := (List.range 256).filter fun n =>
    let r := funcRec n s
    let r2 := cfgRec 0x0050 n s
    (r != [] || r2 != []) && p (fld8 (if r = [] then r2 else r) 2)
  capabilityChanged (ns.foldl funcFollow s)

end Sys2Proof.Machine
end

