-- ==== Sys2Proof/Machine/Modes.lean ====
section
/-! DEFINITION. Changes of mode and what they carry with them: outputs (R448), task states (R116 to R119), sessions that lose
their role (R477), the exchange record and the abandonment of an exchange (R194, R206), self-demotion (R428, R433) and entry to
SAFE (R450). -/

namespace Sys2Proof.Machine

/-! ## Outputs -/

/-- Applies an operation to every universal and digital output that no safe state holds. -/
def everyOutput (fu fd : Nat → State → State) (s : State) : State :=
  let t := (List.range 16).foldl (fun t ch =>
    if ucOutputMode (ucMode (ucAt ch t)) && !heldSafe false ch t then fu ch t else t) s
  (List.range 48).foldl (fun t ch => if digOutput (digAt ch t) && !heldSafe true ch t then fd ch t else t) t

/-- The outputs take their idle actions (R117). -/
def outputsIdle (s : State) : State := everyOutput ucIdle digIdle s

/-- Every output at 0 mA, 0 V or OFF (R263, R280, R448). -/
def outputsOff (s : State) : State := { s with uc := s.uc.map ucOff, dig := s.dig.map digOff }

/-- An output image reaches the field section: outputs held in a safe state ignore it (R303); an output of a deleted function is
its new writer's from this commit on (R314). -/
def applyOutputs (os : List OutWrite) (s : State) : State :=
  let kept := s.safety.orphans.filter fun x => !os.any (fun o => (o.digital, o.chan) == x)
  os.foldl (fun t o =>
    if heldSafe o.digital o.chan t then t
    else if o.digital then digCommand o.chan (!feq o.value 0) t
    else ucCommand o.chan o.value t) { s with safety := { s.safety with orphans := kept } }

/-- The outputs a task wrote take their idle actions (R116). -/
def idleOutputsOf (os : List OutWrite) (s : State) : State :=
  os.foldl (fun t o =>
    if heldSafe o.digital o.chan t then t
    else if o.digital then digIdle o.chan t else ucIdle o.chan t) s

/-! ## Task states (R116 to R119) -/

/-- The code of a task state (R500). -/
def taskCode : TaskState → Nat
  | .stopped => 0
  | .running => 1
  | .held => 2
  | .stepping => 3
  | .faulted => 4

/-- Whether a task is of class Background. -/
def background (t : Nat) (s : State) : Bool := (taskDefn t s).elim false (fun d => d.cls == .background)

/-- A task with no cycle in execution. -/
def asleep (k : Task) : Task :=
  { k with phase := .sleep, late := false }

/-- Enters a task state: the outputs, the safety functions and the signals of the task follow (R116, R117, R136). -/
def takeState (t : Nat) (x : TaskState) (s : State) : State :=
  match taskAt t s with
  | none => s
  | some k =>
    let s1 := taskMod t (fun k =>
      { k with
        st := x, leaving := none, stepAsked := false
        entered := if x = .running then k.st == .running && k.entered else true
        overruns := if x = .running then 0 else k.overruns }) s
    match x with
    | .stopped | .faulted =>
      let s2 := if driving s1 then idleOutputsOf k.outputs s1 else s1
      taskStale t 0x0E (forceTaskSafe 0x05 t s2)
    | .held | .stepping => if k.st = .held then s1 else taskStale t 0x10 s1
    | .running => s1

/-- The cycle in execution ends; a state the task waits to enter is entered (R119). -/
def endCycle (t : Nat) (s : State) : State :=
  match taskAt t s with
  | none => s
  | some k =>
    let s1 := taskMod t (fun k => { asleep k with cycleNo := k.cycleNo + 1 }) s
    match k.leaving with
    | some x => takeState t x s1
    | none => if k.st = .stepping then takeState t .held s1 else s1

/-- The cycle in execution is discarded: it applies no output, no signal write and no retained delta (R52); its snapshot ends with it
(R142). -/
def discardCycle (t : Nat) (s : State) : State :=
  match taskAt t s with
  | none => s
  | some k =>
    if k.phase = .sleep then s
    else
      poolSweep (endCycle t ((funcsOfTask t s).foldl (fun u n => funcMod n (fun f => { f with resetting := false }) u) s))

/-- A task is told to leave RUNNING: a cycle in execution completes first, a Background pass is discarded (R119). -/
def leaveRunning (t : Nat) (x : TaskState) (s : State) : State :=
  match taskAt t s with
  | none => s
  | some k =>
    if k.phase = .sleep then takeState t x s
    else if background t s then takeState t x (discardCycle t s)
    else taskMod t (fun k => { k with leaving := some x }) s

/-- The first nominal release at or after `x` of a definition, in the schedule that `next` stands on (R107, R108, R119). -/
def releaseFrom (d : TaskDef) (next x : Nat) : Nat :=
  if d.cycle = 0 then x
  else if x ≤ next then next - (next - x) / d.cycle * d.cycle
  else next + (x - next + d.cycle - 1) / d.cycle * d.cycle

/-- The first nominal release at or after module time `x` of the schedule itself: (t − offset) mod cycle = 0 (R107). -/
def scheduleFrom (d : TaskDef) (x : Nat) : Nat :=
  if d.cycle = 0 then x
  else (x + d.cycle - 1 - d.offset % d.cycle) / d.cycle * d.cycle + d.offset % d.cycle

/-- A task becomes RUNNING, released at its first nominal release time from now (R118, R119).  A task that was STOPPED or FAULTED starts
anew: a shift that steps of module time left in its releases ends (R108). -/
def enterRunning (t : Nat) (s : State) : State :=
  match taskDefn t s with
  | none => s
  | some d =>
    takeState t .running (taskMod t (fun k =>
      { k with next := match k.st with
          | .stopped | .faulted => scheduleFrom d (now s)
          | _ => releaseFrom d k.next (now s) }) s)

/-- Whether a change of mode is complete (R451). -/
def changeComplete (m : Mode) (s : State) : Bool :=
  (taskNos.filter fun t => taskDefined t s).all fun t =>
    match taskAt t s with
    | none => true
    | some k =>
      match m with
      | .stop => k.st != .running && k.leaving.isNone
      | .hold => taskSafety t s || (k.st != .running && k.leaving.isNone)
      | .run => k.st != .running || k.entered
      | _ => true

/-- A change of mode in progress ends when it is complete (R451). -/
def checkPending (s : State) : State :=
  match s.modes.pending with
  | some m => if changeComplete m s then { s with modes := { s.modes with pending := none } } else s
  | none => s

/-- The task states that a mode gives (R118). -/
def tasksFollow (m : Mode) (s : State) : State :=
  (taskNos.filter fun t => taskDefined t s).foldl (fun u t =>
    match taskAt t u with
    | none => u
    | some k =>
      match m, k.st with
      | .stop, .running => leaveRunning t .stopped u
      | .stop, .held | .stop, .stepping | .stop, .faulted => leaveRunning t .stopped u
      | .hold, .running => if taskSafety t u then u else leaveRunning t .held u
      | .run, .stopped | .run, .held | .run, .stepping => enterRunning t u
      | _, _ => u) s

/-- SOURCE of a loop's records and signals (R132). -/
def srcLoop (n : Nat) : Word := BitVec.ofNat 32 (0x60000000 + n)

/-- Loops follow the entry to STOP: each in AUTO enters MANUAL at its last output, REASON MODULE_STOP (R227); the module that computes
them records each change of mode (R226). -/
def loopsStop (s : State) : State :=
  let going := (s.loop.loops.filter fun p => p.2.mode == .auto).map (·.1)
  let loops := s.loop.loops.map fun p =>
    if p.2.mode = .auto then (p.1, { p.2 with mode := .manual, reason := 6, manual := p.2.work.u, manualAt := now s }) else p
  let t := { s with loop := { s.loop with loops := loops, dirty := true } }
  if isActive s then going.foldl (fun u n => record sevEvent 0x0506 (srcLoop n) [] u) t else t

/-! ## Sessions that lose their role (R477, R503, R511, R525) -/

/-- The configuration session is abandoned, with an EVENT (R503). -/
def abandonSession (s : State) : State :=
  match s.cfg.session with
  | none => s
  | some c =>
    record sevEvent 0x0D70 (srcUnit 8) (le 4 c.number) { s with cfg := { s.cfg with session := none } }

/-- The debugger detaches: AUDIT; the task runs on; in triplex the lane waits to be resynchronised (R77, R80). -/
def detachDebugger (s : State) : State :=
  match s.cpl.attach with
  | none => s
  | some d =>
    audit 0x0283 (srcTask d.task) (sessionId d.session s) [] { s with cpl := { s.cpl with attach := none } }

/-- A session loses its role, and with it the configuration session, the debugger and the subscriptions it holds. -/
def loseRole (x : SessId) (s : State) : State :=
  let t := sessionMod x (fun c => { c with role := 0, user := [] }) s
  let t1 := { t with modes := { t.modes with factory := t.modes.factory.filter (· != x) } }
  let t2 := match t1.cfg.session with
    | some c => if c.holder = x ∧ c.bound = false then abandonSession t1 else t1
    | none => t1
  let t3 := match t2.cpl.attach with
    | some d => if d.session = x then detachDebugger t2 else t2
    | none => t2
  endSubscriptions (· == x) t3

/-! ## The exchange record and abandonment (R194, R206) -/

/-- The exchange state as the record and `STATUS_GET` code it (R206, R500). -/
def exchCode : ExchState → Nat
  | .idle => 0
  | .preparing => 1
  | .ready => 2
  | .switching => 3
  | .settling => 4

/-- STATE of the exchange record: PREPARING and READY share a code (R206). -/
def exchRecordState : ExchState → Nat
  | .idle => 0
  | .preparing | .ready => 1
  | .switching => 2
  | .settling => 3

/-- A copy of the exchange record is valid: CLOSE is the complement of UPDATE (R206). -/
def exchValid (x : ExchRecord) : Bool := x.close + x.update == 0xFFFFFFFFFFFFFFFF

/-- The copy that governs: the valid one with the higher UPDATE (R206). -/
def exchGoverning (s : State) : Nat :=
  let a := s.prog.record[0]
  let b := s.prog.record[1]
  if exchValid b && (!exchValid a || decide (a.update < b.update)) then 1 else 0

/-- Bits of a task predicate, as SWITCHED and FIRST_DONE carry them (R206). -/
def taskBits (f : Task → Bool) (s : State) : Word :=
  BitVec.ofNat 32 ((taskNos.map fun t => if (taskAt t s).elim false f then 2 ^ t else 0).sum)

/-- IMAGE_ID of a program image (R113). -/
def imageId (m : Mem) : Nat := unle (memReadN m 8 8)

/-- A commit record is complete: CLOSE is the complement of SEQUENCE (R123).  DIGEST matches in every record the model's controller
closes: it is formed of the pages as they were written. -/
def recordComplete (r : CommitRecord) : Bool := r.close + r.seq == 0xFFFFFFFFFFFFFFFF

/-- The newest complete record in the two rings that satisfies `p` (R127). -/
def newestRecord (p : CommitRecord → Bool) (s : State) : Option CommitRecord :=
  ((s.retained.rings[0] ++ s.retained.rings[1]).filter fun r => recordComplete r && p r).foldl
    (fun m r => match m with
      | some x => if x.seq < r.seq then some r else some x
      | none => some r) none

/-- SEQUENCE of the last complete commit record of a task; all ones if none (R206). -/
def lastSeqOf (t : Nat) (s : State) : Nat := (newestRecord (·.task == t) s).elim 0xFFFFFFFFFFFFFFFF (·.seq)

/-- Writes the exchange record into the copy that does not govern (R206, R207). -/
def writeExchange (s : State) : State :=
  let g := exchGoverning s
  let cur := vget exchRecordReset s.prog.record g
  let x : ExchRecord := {
    st := exchRecordState s.prog.st, newSlot := s.prog.newSlot
    flags := b2n s.prog.forceRelease + 2 * b2n s.prog.safety + 4 * b2n s.prog.table
    update := cur.update + 1, oldId := s.prog.oldId, newId := imageId (slotImage s.prog.newSlot s), cast := s.prog.cast
    switched := taskBits (·.switched) s, firstDone := taskBits (·.firstDone) s
    lastOldSeq := s.prog.lastOldSeq, close := 0xFFFFFFFFFFFFFFFF - (cur.update + 1) }
  { s with prog := { s.prog with record := vset s.prog.record (1 - g) x } }

/-- The bytes of a copy of the exchange record (R206). -/
def exchBytes (x : ExchRecord) : List Byte :=
  le 4 0x58435359 ++ le 1 x.st ++ le 1 x.newSlot ++ le 1 x.flags ++ zeros 1 ++ le 8 x.update ++ le 8 x.oldId ++ le 8 x.newId ++
    le 8 x.cast ++ le 4 x.switched.toNat ++ le 4 x.firstDone.toNat ++
    taskNos.flatMap (fun t => le 8 (tabGet 0xFFFFFFFFFFFFFFFF x.lastOldSeq t)) ++ le 8 x.close

/-- The instance area of the maquette, the one not in use (R109). -/
def otherArea (s : State) : Nat := 1 - s.prog.area

/-- An exchange before its cast point is abandoned: WARNING; the prepared area is discarded, the maquette stays VERIFIED, and a
bound configuration session is open again; a standby that prepares it is told (R194, R503; the message: log 163). -/
def abandonExchange (s : State) : State :=
  match s.prog.st with
  | .preparing | .ready =>
    let t := { s with
      prog := { s.prog with
        st := .idle, inst := vset s.prog.inst (otherArea s) [], acked := false, caught := false, table := false, drops := []
        mergeDue := false
        castAt := 0, cast := 0 }
      cfg := { s.cfg with session := s.cfg.session.map fun c => { c with bound := false } } }
    let u := record sevWarning 0x0F00 (srcUnit 8) [] (writeExchange t)
    if sendsToStandby s then emit (.control (.castPoint 0 8)) u else u
  | _ => s

/-! ## Field buses (R354) -/

/-- The first reference time of a controller at or after `t` (R351). -/
def canRefFrom (r : List Byte) (t : Nat) : Nat :=
  let p := max 1 (fld32 r 16 * us)
  let o := fld32 r 20 * us
  if t ≤ o then o else o + (t - o + p - 1) / p * p

/-- A controller in normal mode or in bus monitoring (R354): in monitoring it sends nothing; a time master that comes into normal
mode sends its next reference message (R351). -/
def canRole (act : Bool) (t : Nat) (c : Can) : Can :=
  let monitor := c.enabled && !act
  if monitor = c.monitor ∧ (c.monitor ∨ c.enabled = false) then { c with monitor := monitor }
  else if monitor then
    { c with monitor := true, refActive := false, refQueued := none, bus := .nothing, foreign := none }
  else if c.monitor then
    { c with
      monitor := false, refActive := bit (fld8 c.rcd 1) 2, refSof := none, foreign := none
      nextRef := canRefFrom c.rcd t }
  else c

/-- The controllers take the mode that the module's role gives them: normal on the active module, bus monitoring elsewhere
(R354). -/
def canFollow (s : State) : State :=
  let act := isActive s
  { s with can := s.can.map (canRole act (now s)) }

/-! ## Epochs at a switchover (R472, R484) -/

/-- A TLS connection is closed: its session loses its role and its carriages go with it (R484, R491). -/
def closeTls (t : Fin 8) (s : State) : State :=
  match s.host.tls[t] with
  | none => s
  | some _ =>
    let u := loseRole (.tls t) s
    emit (.tlsClose t.val) { u with host := { u.host with tls := vset u.host.tls t.val none } }

/-- An EPOCH message on an open connection (R489, R491). -/
def tlsEpoch (t : Fin 8) (s : State) : State :=
  if (s.host.tls[t]).isSome then tlsSent t (emit (.tls t.val 4 0 (le 4 s.host.epoch.toNat)) s) else s

/-- What a switchover does to each module's host interface: the epoch moves on, commands in flight are discarded with notices,
and claims are POISONED; the module that leaves closes its TLS connections (R484). -/
def hostSwitchover (former : Bool) (s : State) : State :=
  let old := s.host.epoch
  let adv := advanceEpoch s
  let told := if former then adv else (List.finRange 8).foldl (fun t c => tlsEpoch c t) adv
  let t := abandonSession told
  let u := allMailboxes.foldl (fun u m => discardNotice m old u) t
  let v := endSubscriptions (fun _ => true) u
  let w := (List.finRange 8).foldl (fun w c => poisonAll (.tls c 0) w) (poisonAll (.loc 0) v)
  if former then (List.finRange 8).foldl (fun x c => closeTls c x) w else w

/-! ## Leaving the active role (R428, R433, R450) -/

/-- The module has a partner configured, as the last start took it (R422). -/
def pairConfigured (s : State) : Bool := bit (fld8 s.pair.rcd 0) 0

/-- Every cycle in execution is discarded without an overrun (R52, R438). -/
def discardAll (s : State) : State := taskNos.foldl (fun u t => discardCycle t u) s

/-! ## Cores and dispatch (R89, R90) -/

/-- The rank of a class: Express, Standard, Slow, Background (R90). -/
def classNo : TaskClass → Nat
  | .express => 0
  | .standard => 1
  | .slow => 2
  | .background => 3

/-- The place of a task in the order of priority: the class, then the cycle, then the number; lower comes first (R90). -/
def priorityKey (t : Nat) (d : TaskDef) : Nat := (classNo d.cls * 2 ^ 40 + d.cycle) * 32 + t

/-- The debugger holds the task halted in duplex (R79). -/
def haltedTask (t : Nat) (s : State) : Bool :=
  match s.cpl.attach with
  | some d => d.task == t && d.halted && d.lane.isNone
  | none => false

/-- Puts a task among others, in the order of their keys. -/
def byPriority (x : Nat × Nat) : List (Nat × Nat) → List (Nat × Nat)
  | [] => [x]
  | y :: ys => if x.1 ≤ y.1 then x :: y :: ys else y :: byPriority x ys

/-- The tasks that lane `l` executes, Express ones or the others, highest priority first: a task that waits at a coupling point or
is halted is not running (R90). -/
def readyTasks (l : Lane) (express : Bool) (s : State) : List Nat :=
  (taskNos.foldl (fun xs t =>
    match taskAt t s with
    | some k =>
      (match k.defn with
       | some d =>
         if k.phase == .executing && vget false k.member (laneNo l) && !haltedTask t s && (d.cls == .express) == express then
           byPriority (priorityKey t d, t) xs
         else xs
       | none => xs)
    | none => xs) []).map (·.2)

/-- What the cores of lane `l` run: the reserved core the Express task of the highest priority, cores 1 to 3 the three highest of
the others; the rest are preempted (R89, R90). -/
def dispatchCores (l : Lane) (s : State) : Vector (Option Nat) 4 :=
  let xs := readyTasks l true s
  let ys := readyTasks l false s
  #v[xs[0]?, ys[0]?, ys[1]?, ys[2]?]

/-- Lane `l` has work: a cycle that it takes part in, or a resynchronisation (R23, R24). -/
def laneBusy (l : Lane) (s : State) : Bool :=
  (s.cpl.active && (s.cpl.target == l || s.cpl.source == l)) ||
  s.task.toList.any fun k => k.defn.isSome && k.phase != .sleep && vget false k.member (laneNo l)

/-- A task release of lane `l`, or a merge tick that counts as due, falls within the next 500 µs (R21, R22). -/
def laneSoon (l : Lane) (s : State) : Bool :=
  (s.task.toList.any fun k => k.defn.isSome && (k.st == .running || (k.st == .stepping && k.stepAsked)) &&
    decide (k.next ≤ now s + 500 * us) && (vget false k.member (laneNo l) || !k.member.toList.any id)) ||
  match s.image.lastArrival with
  | some t => decide (s.image.nextMerge ≤ now s + 500 * us) && decide (now s < t + mergePeriod s)
  | none => false

/-- The power state of lane `l`, whose state is not OFF, UNUSABLE or EXCLUDED: ACTIVE with work; without, LIGHT_IDLE while an Express
task is configured; a lane in DEEP_IDLE stays there; else LIGHT_IDLE where a release or a merge is near, DEEP_IDLE otherwise (R20 to
R24). -/
def idlePower (l : Lane) (s : State) : LanePower :=
  if laneBusy l s then .active
  else if s.task.toList.any fun k => k.defn.elim false fun d => d.cls == .express then .lightIdle
  else if vget .off s.power.lane (laneNo l) = .deepIdle then .deepIdle
  else if laneSoon l s then .lightIdle
  else .deepIdle

/-- The lanes take up what they have to do: the tasks on their cores, and their power states (R20 to R24, R89, R90). -/
def lanesIdle (s : State) : State :=
  lanes.foldl (fun u l =>
    let cores := dispatchCores l u
    let cpl := { u.cpl with lane := vmod u.cpl.lane (laneNo l) fun x => { x with core := cores } }
    match (vget laneUnitReset u.cpl.lane (laneNo l)).st with
    | .off | .unusable | .excluded => { u with cpl := cpl }
    | _ => { u with cpl := cpl, power := { u.power with lane := vset u.power.lane (laneNo l) (idlePower l u) } }) s

/-- A mode with no tasks is entered: every task STOPPED, none in execution (R448). -/
def stopTasks (s : State) : State :=
  poolSweep <| (taskNos.filter fun t => taskDefined t s).foldl (fun u t =>
    match taskAt t u with
    | none => u
    | some k => if k.st = .stopped then taskMod t (fun k => { asleep k with leaving := none }) u
      else takeState t .stopped (taskMod t (fun k => { asleep k with leaving := none }) u)) s

/-- The mode SAFE is entered: outputs off, tasks stopped, the pair lines low; an ALARM records it (R423, R448 to R450). -/
def enterSafe (s : State) : State :=
  if s.modes.mode = .safe then s
  else
    let s1 := abandonExchange s
    let s2 := { s1 with
      modes := { s1.modes with mode := .safe, pending := none, start := none, roleWait := none }
      pair := { s1.pair with
        st := if pairConfigured s1 then .outOfStep else .unpaired
        actOut := false, liveOut := false, handAt := none, former := false, handed := false, fading := false
        leftAt := now s1 } }
    let s3 := outputsOff (stopTasks s2)
    canFollow (record sevAlarm 0x0E07 (srcUnit 8) [] s3)

/-- A mode change outside RUN, HOLD and STOP that is not SAFE: MAINTENANCE (R448, R450). -/
def enterMaintenance (s : State) : State :=
  let s1 := abandonExchange s
  let s2 := { s1 with
    modes := { s1.modes with mode := .maintenance, pending := none }
    pair := { s1.pair with
      st := if pairConfigured s1 then .outOfStep else .unpaired
      actOut := false, handAt := none, former := false, handed := false, fading := false, leftAt := now s1 } }
  canFollow (outputsOff (stopTasks s2))

/-- An active module with a standby in step demotes itself: it commits nothing further, holds its outputs and sends DEMOTE
(R428, R433, R438); an exchange before its cast point is abandoned with the switchover (R194). -/
def demote (cause : Nat) (toSafe : Bool) (s : State) : State :=
  let s1 := abandonExchange (discardAll s)
  emit .demote { s1 with pair := { s1.pair with
    st := .demoting, cause := cause, toSafe := toSafe, demoteAt := now s1, lastTrigger := 2 } }

/-- Causes of a demotion (R433). -/
def causeR18 : Nat := 18
/-- A comparator fault (R56). -/
def causeR56 : Nat := 56
/-- Escalation (R59). -/
def causeR59 : Nat := 59
/-- SOLE (R60). -/
def causeR60 : Nat := 60
/-- Power failure (R30). -/
def causeR30 : Nat := 30
/-- An owner conflict (R339, R425). -/
def causeR339 : Nat := 339
/-- Loss of reach (R435). -/
def causeR435 : Nat := 435

/-- A cause that ends in SAFE where no standby can take over: R18, R56, R59, an owner conflict (R428, R450). -/
def selfDemote (cause : Nat) (toSafe : Bool) (s : State) : State :=
  match s.modes.mode with
  | .stop | .run | .hold =>
    match s.pair.st with
    | .activePaired => demote cause toSafe s
    | .demoting => { s with pair := { s.pair with toSafe := s.pair.toSafe || toSafe } }
    | _ => enterSafe s
  | .standby => enterSafe s
  | _ => s

/-- A standby leaves step: OUT_OF_STEP, with a WARNING (R428, R430). -/
def leaveStep (s : State) : State :=
  match s.pair.st with
  | .catchingUp | .inStep =>
    let s1 := discardAll s
    record sevWarning 0x0C05 (srcUnit 8) [] { s1 with pair := { s1.pair with
      st := .outOfStep, leftAt := now s1, stepLost := true, agreed := [], merges := [], digests := [], progress := 0 } }
  | _ => s

/-- The active module goes on alone, with a WARNING; an abandoned hand-over restores its shares (R428, R441). -/
def goAlone (s : State) : State :=
  match s.pair.st with
  | .activePaired | .handingOver =>
    record sevWarning 0x0C01 (srcUnit 8) [] { s with pair := { s.pair with
      st := .activeAlone, stepLost := true, handAt := none, former := false, handed := false, fading := false, share := 32 } }
  | _ => s

end Sys2Proof.Machine
end

