-- ==== Sys2Proof/Machine/Net.lean ====
section
/-! DEFINITION. The ship network (R321 to R343, R357, R358) and the dispatch unit (R172 to R178): ports and their supervision,
addresses, node telegrams in and out, and the checks a configuration commit makes of their records. -/

namespace Sys2Proof.Machine

/-! ## Ports and networks (R321, R322, R329) -/

/-- Port `p`. -/
def portAt (p : Nat) (s : State) : Port := vget portReset s.net.port p

/-- Changes port `p`. -/
def portMod (p : Nat) (f : Port → Port) (s : State) : State := { s with net := { s.net with port := vmod s.net.port p f } }

/-- SOURCE of a port's records (R457, R529). -/
def srcPort (p : Nat) : Word := srcUnit (0x24 + p)

/-- The ports of a network; network 1 does not exist in HSR_RING (R321). -/
def netPorts (n : Nat) (s : State) : List Nat :=
  if n = 0 then [0, 1] else if n = 1 ∧ s.net.hsr = false then [2, 3] else []

/-- ROLE of a port (R321, R357). -/
def portRole (hsr : Bool) (p : Nat) : Nat := if hsr then (if p = 0 then 5 else if p = 1 then 6 else 0) else p + 1

/-- The port carries traffic: its link is up and it is not held down (R322, R457). -/
def portUp (p : Nat) (s : State) : Bool := (portAt p s).link && healthOf (0x24 + p) s != 2

/-- A network has a port that carries traffic (R326). -/
def netUp (n : Nat) (s : State) : Bool := (netPorts n s).any fun p => portUp p s

/-- Sends a frame's content on every port of a network that carries traffic (R323). -/
def sendNet (n ethertype : Nat) (content : List Byte) (s : State) : State :=
  ((netPorts n s).filter fun p => portUp p s).foldl (fun t p => emit (.frame p ethertype content) t) s

/-- An IPv4 address of a record: the first octet lies at the lowest offset (R327). -/
def ipAt (r : List Byte) (off : Nat) : Nat :=
  fld8 r off * 2 ^ 24 + fld8 r (off + 1) * 2 ^ 16 + fld8 r (off + 2) * 2 ^ 8 + fld8 r (off + 3)

/-- An IPv4 address as octets. -/
def ipBytes (a : Nat) : List Byte := be 4 a

/-- Where the fields of network `n` begin in the record (R327). -/
def netOff (n : Nat) : Nat := 20 + 8 * n

/-- The module's address on network `n`: NETn_ADDRESS and its pair position (R328). -/
def ownIp (n : Nat) (s : State) : Nat := ipAt s.net.rcd (netOff n) + b2n s.pair.position

/-- NODE_NET (R327). -/
def nodeNet (s : State) : Nat := fld8 (netRec s) 2

/-- PUB_NET (R327). -/
def pubNet (s : State) : Nat := fld8 (netRec s) 1

/-- PUB_GROUP (R327). -/
def pubGroup (s : State) : Nat := ipAt (netRec s) 12

/-- The input group of the station (R329). -/
def inputGroup (s : State) : Nat := ipAt (netRec s) 16 + ownStation s

/-! ## The checks of a configuration commit (R174, R327, R328, R334, R335) -/

/-- Whether an address lies within 239.192.0.0/14 (R327). -/
def groupAddress (a : Nat) : Bool := a / 2 ^ 18 == 0xEFC00000 / 2 ^ 18

/-- Whether an address is the network or the broadcast address of its prefix (R328). -/
def edgeAddress (a pre : Nat) : Bool := a % 2 ^ (32 - pre) == 0 || a % 2 ^ (32 - pre) == 2 ^ (32 - pre) - 1

/-- The first offset of the network configuration record that a commit refuses (R327, R328). -/
def netRecFail (r : List Byte) : Option Nat :=
  let hsr := fld8 r 0 == 1
  let nets := if hsr then [0] else [0, 1]
  let within (v lo hi : Nat) : Bool := decide (lo ≤ v) && decide (v ≤ hi)
  let netOk (v : Nat) : Bool := if hsr then v == 0 else v ≤ 1
  let checks : List (Nat × Bool) :=
    [(0, decide (fld8 r 0 ≤ 1)), (1, netOk (fld8 r 1)), (2, netOk (fld8 r 2)), (3, netOk (fld8 r 3) || fld8 r 3 == 0xFF),
      (4, decide (fld8 r 4 ≤ 63)), (5, decide (fld8 r 5 ≤ 7)), (6, decide (fld8 r 6 ≤ 4)), (8, within (fld16 r 8) 1 100),
      (12, groupAddress (ipAt r 12)), (16, groupAddress (ipAt r 16) && fld8 r 19 % 64 == 0)] ++
    [0, 1].flatMap (fun n =>
      [(netOff n + 4, within (fld8 r (netOff n + 4)) 8 30), (netOff n + 6, within (fld16 r (netOff n + 6)) 1 4094)]) ++
    nets.map (fun n =>
      let a := ipAt r (netOff n)
      let p := fld8 r (netOff n + 4)
      (netOff n, !edgeAddress a p && !edgeAddress (a + 1) p)) ++
    [(34, hsr || fld16 r 26 != fld16 r 34)]
  (checks.find? fun c => !c.2).map (·.1)

/-- Whether node entries stand in ascending NODE order with no two of one NODE (R335). -/
def nodesRising : List (List Byte) → Bool
  | a :: b :: t => decide (fld16 a 0 < fld16 b 0) && nodesRising (b :: t)
  | _ => true

/-- The first entry of a node table that a commit refuses, and its offset (R335). -/
def nodeTableFail (net : List Byte) (t : List (List Byte)) : Option (Nat × Nat) :=
  let off := netOff (fld8 net 2)
  let pre := fld8 net (off + 4)
  (t.zipIdx).findSome? fun p =>
    let e := p.1
    let bad : Option Nat :=
      if 4095 < fld16 e 0 then some 0
      else if fld8 e 3 < 4 ∨ 6 < fld8 e 3 then some 3
      else if fld16 e 8 < 10 then some 8
      else if ipAt e 4 / 2 ^ (32 - pre) ≠ ipAt net off / 2 ^ (32 - pre) then some 4
      else if (t.zipIdx).any (fun q => q.2 < p.2 && ipAt q.1 4 == ipAt e 4) then some 4
      else if (t.zipIdx).any (fun q => q.2 + 1 == p.2 && fld16 e 0 ≤ fld16 q.1 0) then some 0
      else none
    bad.map fun b => (p.2, b)

/-- Bits of an element (R174); none for an unknown code. -/
def elemWidth : Nat → Option Nat
  | 0x00 => some 1
  | 0x01 | 0x02 => some 8
  | 0x03 | 0x04 => some 16
  | 0x05 | 0x06 | 0x07 => some 32
  | 0x08 | 0x09 | 0x0A => some 64
  | _ => none

/-- An entry's direction: out (R172). -/
def entryOut (e : List Byte) : Bool := bit (fld16 e 10) 0

/-- An entry's scaling is enabled (R172). -/
def entryScaled (e : List Byte) : Bool := bit (fld16 e 10) 2

/-- KEY of an entry without its part (R173, R175). -/
def entryKey (e : List Byte) : Nat := fld32 e 0 / 16

/-- KEY of a telegram without its part (R173). -/
def telegramKey (node no : Nat) : Nat := node * 2 ^ 14 + no * 2 ^ 6

/-- KEY of a message object without its part (R173). -/
def objectKey (c m : Nat) : Nat := 2 ^ 26 + c * 2 ^ 23 + m * 2 ^ 16

/-- The node of a telegram KEY without its part. -/
def keyNode (k : Nat) : Nat := bits k 14 12

/-- Whether a KEY has one of the forms of R173. -/
def keyOk (k : Nat) : Bool :=
  (bits k 30 2 == 0 && bits k 4 6 == 0) || (bits k 30 2 == 1 && bits k 4 16 == 0)

/-- The first entry of a dispatch table that a commit refuses, and its offset (R172, R174, R334, R335); the rule on sources is
checked with all sources. -/
def dispatchFail (station : Nat) (signals : Nat) (nodes t : List (List Byte)) : Option (Nat × Nat) :=
  if 16384 < t.length then some (16384, 0)
  else
    (t.zipIdx).findSome? fun p =>
      let e := p.1
      let k := fld32 e 0
      let first := fld32 e 4
      let bad : Option Nat :=
        if keyOk k = false then some 0
        else if (t.zipIdx).any (fun q => q.2 + 1 == p.2 && k ≤ fld32 q.1 0) then some 0
        else if (t.zipIdx).any (fun q => q.2 < p.2 && fld32 q.1 0 == k) then some 0
        else if bits k 30 2 = 0 ∧ nodes.all (fun n => fld16 n 0 != bits k 18 12 || !bit (fld8 n 2) 0) then some 0
        else if t.any (fun q => entryKey q == entryKey e && entryOut q != entryOut e) then some 10
        else if first % 64 ≠ 0 ∨ first / 2 ^ 26 ≠ station ∨ signals < first / 64 % 2 ^ 20 + fld16 e 8 then some 4
        else if fld16 e 8 = 0 ∨ 1024 < fld16 e 8 then some 8
        else
          match elemWidth (fld8 e 12) with
          | none => some 12
          | some w =>
            if fld16 e 14 < w then some 14
            else if fld16 e 18 = 0 then some 18
            else if entryScaled e ∧ (fpLt (fp32 (fldW e 20)) (fp32 0) || fpLt (fp32 0) (fp32 (fldW e 20))) = false then some 20
            else if entryScaled e ∧ ffinite (widen (fldW e 20)) = false then some 20
            else if fpLe (fp32 0) (fp32 (fldW e 28)) = false then some 28
            else none
      bad.map fun b => (p.2, b)

/-! ## Elements (R172, R174, R176, R177) -/

/-- Reverses the bytes of an element of `w` bits: the payload is big-endian (R172). -/
def elemSwap (w v : Nat) : Nat := if w ≤ 8 then v else unle (le (w / 8) v).reverse

/-- The bits of element `i` of an entry in a payload. -/
def elemBits (e : List Byte) (w i : Nat) (pay : List Byte) : Nat :=
  let v := bits (unle pay) (fld16 e 16 + i * fld16 e 14) w
  if bit (fld16 e 10) 1 then elemSwap w v else v

/-- The exact value of an element. -/
def elemFp (code v : Nat) : Fp :=
  match code with
  | 0x02 => fpOfInt false (signed 8 v) 0
  | 0x04 => fpOfInt false (signed 16 v) 0
  | 0x06 => fpOfInt false (signed 32 v) 0
  | 0x07 => fp32 (BitVec.ofNat 32 v)
  | 0x09 => fpOfInt false (signed 64 v) 0
  | 0x0A => fp64 (BitVec.ofNat 64 v)
  | _ => .fin false v 0

/-- The integer nearest to an exact value, ties to even; none for one that is not finite. -/
def fpRound : Fp → Option Int
  | .fin s m e =>
    let v := if 0 ≤ e then m * 2 ^ e.toNat else rneShift m (-e).toNat
    some (if s then -(v : Int) else v)
  | _ => none

/-- An exact value held within a binary32's finite range; the flag says that it fell outside. -/
def saturate32 (x : Fp) : F32 × Bool :=
  let y := pack32 0 x
  match x, fp32 y with
  | .fin s _ _, .inf _ => (if s then 0xFF7FFFFF#32 else 0x7F7FFFFF#32, true)
  | _, _ => (y, false)

/-- An exact value held within a binary64's finite range. -/
def saturate64 (x : Fp) : F64 × Bool :=
  let y := pack64 0 x
  match x, fp64 y with
  | .fin s _ _, .inf _ => (if s then 0xFFEFFFFFFFFFFFFF#64 else 0x7FEFFFFFFFFFFFFF#64, true)
  | _, _ => (y, false)

/-- An exact value rounded and held within an integer range.  What a NaN gives is left open: a free value, by the bits `seed`. -/
def saturateInt (lo hi : Int) (seed : Nat) (x : Fp) : Int × Bool :=
  match fpRound x with
  | some v => if v < lo then (lo, true) else if hi < v then (hi, true) else (v, false)
  | none =>
    match x with
    | .inf true => (lo, true)
    | .inf false => (hi, true)
    | _ => ((Config.freeWord seed).toInt, true)

/-- Converts an exact value to a signal's type (R176). -/
def fpToType (t seed : Nat) (x : Fp) : BitVec 64 × Bool :=
  if t = 0x0A then
    let y := saturate32 x
    (y.1.setWidth 64, y.2)
  else if t = 0x0B then saturate64 x
  else
    let y := saturateInt (typeRange t).1 (typeRange t).2 seed x
    (BitVec.ofInt 64 y.1, y.2)

/-- The value of element `i` of an input entry, converted to its signal's type, and whether it fell outside (R176). -/
def elemValue (e : List Byte) (w i typ : Nat) (pay : List Byte) : BitVec 64 × Bool :=
  let code := fld8 e 12
  let v := elemBits e w i pay
  if entryScaled e then
    fpToType typ v (fpAdd (fpMul (elemFp code v) (fp32 (fldW e 20))) (fp32 (fldW e 24)))
  else if (code = 0x0A ∧ typ = 0x0B) ∨ (code = 0x07 ∧ typ = 0x0A) then (BitVec.ofNat 64 v, false)
  else fpToType typ v (elemFp code v)

/-- The bits of an element of an output entry for a committed VALUE (R177). -/
def elemRaw (e : List Byte) (w typ : Nat) (v : BitVec 64) : Nat :=
  let code := fld8 e 12
  let x0 := valueFp typ v
  let x := if entryScaled e then fpDiv (fpAdd x0 (fpNeg (fp32 (fldW e 24)))) (fp32 (fldW e 20)) else x0
  let n : Nat :=
    if code = 0x0A then (if entryScaled e = false ∧ typ = 0x0B then v.toNat else (saturate64 x).1.toNat)
    else if code = 0x07 then (if entryScaled e = false ∧ typ = 0x0A then (v.setWidth 32).toNat else (saturate32 x).1.toNat)
    else
      let sg := code == 0x02 || code == 0x04 || code == 0x06 || code == 0x09
      let lo : Int := if sg then -(2 ^ (w - 1) : Nat) else 0
      let hi : Int := if sg then (2 ^ (w - 1) : Nat) - 1 else (2 ^ w : Nat) - 1
      unsigned w (saturateInt lo hi v.toNat x).1
  let m := n % 2 ^ w
  if bit (fld16 e 10) 1 then elemSwap w m else m

/-- Bits an entry reaches to in its payload (R176). -/
def entryEnd (e : List Byte) : Nat := fld16 e 16 + (fld16 e 8 - 1) * fld16 e 14 + (elemWidth (fld8 e 12)).getD 0

/-- The signal of element `i` of an entry. -/
def entrySig (e : List Byte) (i : Nat) : Nat := fld32 e 4 / 64 + i

/-! ## Input (R175, R176) -/

/-- One signal of an input entry: its image entry, when the value or the status makes one, and what was emitted last. -/
def decodeSignal (g : Nat) (dec : Option (BitVec 64 × Bool)) (status : Word) (db : F32) (src : Word) (stamp : Nat)
    (acc : List Entry × State) : List Entry × State :=
  let s := acc.2
  let typ := typeOf s.cfg.cur (sigStation g) (sigIndex g)
  let last := tabGet none s.net.emitted g
  let stale := tabGet 0 s.image.stale g != 0
  let w := match dec with
    | some (_, true) => capStatus (withReason (status ||| stOverrange) 0x0D)
    | _ => capStatus status
  let changed := stale || match last with
    | none => true
    | some (v0, w0) => w != w0 || match dec with
      | some (v, _) => differs typ v v0 db
      | none => false
  if changed = false then acc
  else
    let v0 := match last with
      | some x => x.1
      | none => 0
    let e : Entry := match dec with
      | some (v, _) => { sig := g, kind := .source v w src (some stamp) }
      | none => { sig := g, kind := .status w (some stamp) }
    let v1 := match dec with
      | some x => x.1
      | none => v0
    (acc.1 ++ [e],
      { s with
        net := { s.net with emitted := tabSet none s.net.emitted g (some (v1, w)) }
        image := { s.image with stale := tabSet 0 s.image.stale g 0 } })

/-- One input entry of a payload: `live` says that the values are decoded (R176, R337). -/
def decodeEntry (live : Bool) (pay : List Byte) (status : Nat → Word) (stamp : Nat) (acc : List Entry × State) (e : List Byte) :
    List Entry × State :=
  match elemWidth (fld8 e 12) with
  | none => acc
  | some w =>
    let short := decide (8 * pay.length < entryEnd e)
    let src := BitVec.ofNat 32 (keySource (fld32 e 0))
    (List.range (fld16 e 8)).foldl (fun a i =>
      let g := entrySig e i
      let typ := typeOf a.2.cfg.cur (sigStation g) (sigIndex g)
      if live && short then decodeSignal g none (mkStatus 0 0x11) (fldW e 28) src stamp a
      else if live then decodeSignal g (some (elemValue e w i typ pay)) (status (fld32 e 0 % 16)) (fldW e 28) src stamp a
      else decodeSignal g none (status (fld32 e 0 % 16)) (fldW e 28) src stamp a) acc

/-- The entries of a KEY, in part order (R175). -/
def entriesOf (k : Nat) (s : State) : List (List Byte) := s.net.dispatch.filter fun e => entryKey e == k

/-- The input dispatch entries of a source, read one after the other (R171, R174). -/
def decodeEntries (live : Bool) (pay : List Byte) (status : Nat → Word) (stamp : Nat) (es : List (List Byte)) (s : State) :
    List Entry × State :=
  es.foldl (decodeEntry live pay status stamp) (([] : List Entry), s)

/-- A source of input dispatch is heard now. -/
def heardNow (k : Nat) (s : State) : State := { s with net := { s.net with heard := tabSet 0 s.net.heard k (now s) } }

/-- A received telegram or frame reaches the dispatch unit: its entries enter the image intake as one whole, or it counts as
unmapped under `who` (R150, R175). -/
def dispatchIn (k who : Nat) (live : Bool) (pay : List Byte) (status : Nat → Word) (stamp : Nat) (s : State) : State :=
  let es := (entriesOf k s).filter fun e => !entryOut e
  if es = [] then { s with image := { s.image with unmapped := tabMod 0 s.image.unmapped who (· + 1) } }
  else
    let r := decodeEntries live pay status stamp es (heardNow k s)
    if r.1 = [] then r.2
    else if intakeRoom r.1.length s then intake .telegram r.1 r.2
    else intakeFull (heardNow k s)

/-! ## Output telegrams (R177, R333, R338, R339) -/

/-- Puts `w` bits of `v` at bit `off` of a payload. -/
def putBits (pay off w v : Nat) : Nat :=
  pay / 2 ^ (off + w) * 2 ^ (off + w) + v % 2 ^ w * 2 ^ off + pay % 2 ^ off

/-- The payload of output entries, from the committed VALUEs of their ranges (R177). -/
def outPayload (es : List (List Byte)) (s : State) : List Byte :=
  let n := es.foldl (fun m e => max m ((entryEnd e + 7) / 8)) 0
  let v := es.foldl (fun acc e =>
    let w := (elemWidth (fld8 e 12)).getD 0
    (List.range (fld16 e 8)).foldl (fun a i =>
      let g := entrySig e i
      putBits a (fld16 e 16 + i * fld16 e 14) w (elemRaw e w (sigRec g s).typ (sigRec g s).value)) acc) 0
  le n v

/-- A node's entry in the node table in force (R335). -/
def nodeEntry (n : Nat) (s : State) : Option (List Byte) := s.net.nodeTable.find? fun e => fld16 e 0 == n

/-- A node is ENABLED. -/
def nodeEnabled (n : Nat) (s : State) : Bool := (nodeEntry n s).elim false fun e => bit (fld8 e 2) 0

/-- Node `n`. -/
def nodeAt (n : Nat) (s : State) : Node := tabGet nodeReset s.net.nodes n

/-- Changes node `n`. -/
def nodeMod (n : Nat) (f : Node → Node) (s : State) : State :=
  { s with net := { s.net with nodes := tabMod nodeReset s.net.nodes n f } }

/-- What was sent of an output KEY. -/
def outAt (k : Nat) (s : State) : OutTelegram := tabGet outTelegramReset s.net.outs k

/-- Changes what is known of an output KEY. -/
def outMod (k : Nat) (f : OutTelegram → OutTelegram) (s : State) : State :=
  { s with net := { s.net with outs := tabMod outTelegramReset s.net.outs k f } }

/-- The output entries of a KEY. -/
def outEntries (k : Nat) (s : State) : List (List Byte) := (entriesOf k s).filter entryOut

/-- The repeat interval of an output KEY: the smallest TIME_MS of its entries (R338). -/
def outRepeat (k : Nat) (s : State) : Nat :=
  ((outEntries k s).foldl (fun m e => min m (fld16 e 18)) 65535) * ms

/-- An output telegram's header and payload (R333). -/
def telegramBytes (k : Nat) (s : State) : List Byte :=
  let pay := outPayload (outEntries k s) s
  le 4 0x544E5359 ++ le 1 2 ++ le 1 1 ++ le 1 (bits k 6 8) ++ le 1 (b2n (nodeAt (keyNode k) s).takeover.isSome) ++
    le 2 (keyNode k) ++ le 1 (ownStation s) ++ le 1 0 ++ le 4 ((outAt k s).seq + 1).toNat ++ le 8 (now s) ++ le 4 0 ++
    le 2 pay.length ++ le 2 s.net.owner.toNat ++ pay

/-- Sends an output telegram: only the active module, to an ENABLED node whose address is resolved, at most once per 100 µs; a
change within 100 µs waits (R331, R338). -/
def sendTelegram (k : Nat) (s : State) : State :=
  let o := outAt k s
  if isActive s = false ∨ nodeEnabled (keyNode k) s = false ∨ outEntries k s = [] then s
  else if (match o.sent with | some x => decide (now s < x + 100 * us) | none => false) then
    outMod k (fun o => { o with deferred := true }) s
  else if (nodeAt (keyNode k) s).mac = none then nodeMod (keyNode k) (fun n => { n with unresolved := n.unresolved + 1 }) s
  else if netUp (nodeNet s) s = false then s
  else
    outMod k (fun o => { seq := o.seq + 1, sent := some (now s), deferred := false })
      (emit (.telegram (keyNode k) (telegramBytes k s)) s)

/-- The output KEYs of the dispatch table. -/
def outKeys (s : State) : List Nat := ((s.net.dispatch.filter entryOut).map entryKey).eraseDups

/-- Whether a KEY is a telegram's rather than a message object's (R173). -/
def telegramOut (k : Nat) : Bool := k / 2 ^ 26 == 0

/-- Sends every output telegram of a node. -/
def sendNode (n : Nat) (s : State) : State :=
  ((outKeys s).filter fun k => telegramOut k && keyNode k == n).foldl (fun t k => sendTelegram k t) s

/-- The ENABLED nodes. -/
def enabledNodes (s : State) : List Nat := (s.net.nodeTable.filter fun e => bit (fld8 e 2) 0).map fun e => fld16 e 0

/-- The reachability a module reports: the nodes that are not SILENT (R341). -/
def reach (s : State) : Nat := ((enabledNodes s).filter fun n => !(nodeAt n s).silent).length

/-- A takeover advances the owner count and sends every output telegram with TAKEOVER (R338, R339). -/
def ownerTakeover (s : State) : State :=
  let other := match s.pair.partner with
    | some h => h.owner.toNat
    | none => 0
  let seen := match s.net.echoed with
    | some x => x.toNat
    | none => 0
  let s1 := { s with net := { s.net with owner := BitVec.ofNat 16 (max (max s.net.owner.toNat other) seen + 1) } }
  let s2 := (enabledNodes s1).foldl (fun t n => nodeMod n (fun x => { x with takeover := some (now t) }) t) s1
  ((outKeys s2).filter telegramOut).foldl (fun t k => sendTelegram k t) s2

/-- Whether `a` is newer than `b`, modulo 65,536 over half the range (R339). -/
def newer16 (a b : BitVec 16) : Bool := decide (0 < (a - b).toNat) && decide ((a - b).toNat < 2 ^ 15)

/-- New tables take effect: the values emitted for entries unchanged in KEY and range carry over, and what waits for a node that is
gone is dropped (R178, R335). -/
def adoptTables (s : State) : State :=
  match s.net.newTables with
  | none => s
  | some (d, t) =>
    let kept (g : Nat) : Bool := s.net.dispatch.any fun e =>
      !entryOut e && decide (fld32 e 4 / 64 ≤ g) && decide (g < fld32 e 4 / 64 + fld16 e 8) &&
        d.any fun f => fld32 f 0 == fld32 e 0 && slice f 4 6 == slice e 4 6
    let keys := ((d.filter entryOut).map entryKey).eraseDups
    let there (n : Nat) : Bool := t.any fun e => fld16 e 0 == n
    { s with net := { s.net with
      dispatch := d, nodeTable := t, newTables := none
      emitted := tabKeep kept s.net.emitted
      outs := tabKeep (fun k => keys.contains k && (!telegramOut k || there (keyNode k))) s.net.outs
      nodes := tabKeep there s.net.nodes } }

/-! ## Events: telegrams -/

/-- The owner count an input telegram echoes (R339): TAKEOVER ends for its node, and a newer one is a conflict. -/
def ownerEcho (n : Nat) (o : BitVec 16) (s : State) : State :=
  let s1 := { s with net := { s.net with echoed := some (match s.net.echoed with
    | some x => if newer16 o x then o else x
    | none => o) } }
  let s2 := if o = s1.net.owner then nodeMod n (fun x => { x with takeover := none }) s1 else s1
  if isActive s2 ∧ newer16 o s2.net.owner then
    selfDemote causeR339 false (record sevAlarm 0x0808 (BitVec.ofNat 32 (0x20000000 + n * 256)) (le 2 o.toNat) s2)
  else s2

/-- The checks of R336 that a telegram passes. -/
def telegramOk (net : Nat) (src : Word) (d : List Byte) (s : State) : Bool :=
  let n := fld16 d 8
  fld32 d 0 == 0x544E5359 && fld8 d 4 == 2 && fld8 d 5 == 0 && d.length == 32 + fld16 d 28 && decide (fld16 d 28 ≤ 1440) &&
    nodeEnabled n s && (nodeEntry n s).elim false (fun e => ipAt e 4 == src.toNat) && net == nodeNet s &&
    fld8 d 10 == ownStation s && decide (fld8 d 11 ≤ 3) &&
    (bit (fld8 d 7) 1 || match tabGet none (nodeAt n s).seq (fld8 d 6) with
      | none => true
      | some x => decide (1 ≤ (fld32 d 12 + 2 ^ 32 - x) % 2 ^ 32) && decide ((fld32 d 12 + 2 ^ 32 - x) % 2 ^ 32 < 2 ^ 31))

/-- Quality and REASON of a part's signals (R337). -/
def partStatus (state partQuality p : Nat) : Word :=
  match state with
  | 1 => mkStatus 0 0x01
  | 3 => mkStatus 0 0x07
  | _ =>
    match bits partQuality (2 * p) 2 with
    | 3 => mkStatus 3 0
    | 1 => mkStatus 1 0x07
    | _ => mkStatus 0 0x07

/-- The network section runs: not without main power, and in a start only from its step 14 (R448, R454). -/
def netRuns (s : State) : Bool :=
  match s.modes.mode with
  | .plinth => false
  | .boot => s.modes.roleWait.isSome
  | _ => true

/-- NODE_TELEGRAM_RECEIVED: R336, R337, R339 to R341. -/
def execNodeTelegramReceived (net : Fin 2) (srcAddr : Word) (data : List Byte) (s : State) :
    Host.Outcome State Fault Refusal :=
  .next (
    let n := fld16 data 8
    if netRuns s = false ∨ netUp net.val s = false then s
    else if telegramOk net.val srcAddr data s = false then
      (if (nodeEntry n s).isSome then nodeMod n (fun x => { x with discards := x.discards + 1 }) s
       else { s with net := { s.net with unknown := s.net.unknown + 1 } })
    else
      let s1 := nodeMod n (fun x =>
        { x with silent := false, last := now s, seq := tabSet none x.seq (fld8 data 6) (some (fld32 data 12)) }) s
      let s2 := if (nodeAt n s).silent then record sevEvent 0x0803 (BitVec.ofNat 32 (0x20000000 + n * 256)) [] s1 else s1
      let s3 := ownerEcho n (BitVec.ofNat 16 (fld16 data 30)) s2
      let s4 := if bit (fld8 data 7) 1 then sendNode n s3 else s3
      if s4.modes.mode = .standby then s4
      else
        let live := fld8 data 11 == 0 || fld8 data 11 == 2
        let stamp := if bit (fld8 data 7) 2 then fld64 data 16 else now s4
        dispatchIn (telegramKey n (fld8 data 6)) n live (data.drop 32) (partStatus (fld8 data 11) (fld32 data 24)) stamp s4)

/-- OUTPUT_HOLDOFF_EXPIRY: R338. -/
def execOutputHoldoffExpiry (node : Fin 4096) (no : Fin 256) (s : State) : Host.Outcome State Fault Refusal :=
  .next (
    let k := telegramKey node.val no.val
    if (outAt k s).deferred then sendTelegram k s else s)

/-- TAKEOVER_FLAG_EXPIRY: R339. -/
def execTakeoverFlagExpiry (node : Fin 4096) (s : State) : Host.Outcome State Fault Refusal :=
  .next (match (nodeAt node.val s).takeover with
    | some t => if t + sec ≤ now s then nodeMod node.val (fun x => { x with takeover := none }) s else s
    | none => s)

/-- NODE_SILENT: R340. -/
def execNodeSilent (node : Fin 4096) (s : State) : Host.Outcome State Fault Refusal :=
  .next (
    let n := node.val
    match nodeEntry n s with
    | none => s
    | some e =>
      if bit (fld8 e 2) 0 = false ∨ (nodeAt n s).silent ∨ now s < (nodeAt n s).last + fld16 e 8 * ms then s
      else record sevWarning 0x0802 (BitVec.ofNat 32 (0x20000000 + n * 256)) [] (nodeMod n (fun x => { x with silent := true }) s))

/-! ## Stale own signals (R170) -/

/-- The time within which a source must confirm an own signal, and the module time it last did; none for a source kind that never
goes stale by time (R170). -/
def staleTimes (g : Nat) (s : State) : Option (Nat × Nat) :=
  match s.net.dispatch.find? (fun e => dispatchFeeds e g) with
  | some e => some (fld16 e 18 * ms, tabGet 0 s.net.heard (entryKey e))
  | none =>
    let src := (configSource g s).toNat
    if src / 2 ^ 28 = 4 then
      let ch := src % 2 ^ 28
      if ch < 16 then some (4 * ucPeriod (fld8 (ucAt ch s).rcd 2), (ucAt ch s).sampled)
      else some (4 * ms, (groupAt (groupOf (ch - 16)) s).sent)
    else none

/-- SIGNAL_STALE_TIMEOUT: R170. -/
def execSignalStaleTimeout (index : Nat) (lost : Bool) (s : State) : Host.Outcome State Fault Refusal :=
  .next (
    let g := sigNo (ownStation s) index
    match staleTimes g s with
    | none => s
    | some (limit, last) =>
      let bus := s.net.dispatch.any fun e => dispatchFeeds e g
      let had := tabGet 0 s.image.stale g
      if operating s = false ∨ sigDefined g s = false then s
      else if lost then
        (if bus && decide (had < 2) && decide (last + 3 * limit ≤ now s) then
          intakeOwn [{ sig := g, kind := .stale 0x03 true }]
            { s with image := { s.image with stale := tabSet 0 s.image.stale g 2 } }
         else s)
      else if had = 0 ∧ last + limit ≤ now s then
        intakeOwn [{ sig := g, kind := .stale (reasonOf (sigRec g s).srcStatus) false }]
          { s with image := { s.image with stale := tabSet 0 s.image.stale g 1 } }
      else s)

/-! ## The egress queues (R329, R330) -/

/-- HOST_RATE in Mb/s; 20 while no record is in force (R327). -/
def hostRate (s : State) : Nat := if s.net.rcd = [] then 20 else max 1 (fld16 s.net.rcd 8)

/-- The ports of the remote host: those of HOST_NET, or the service port where it is 0xFF (R327, R329). -/
def hostPorts (s : State) : List Nat :=
  let n := fld8 s.net.rcd 3
  if s.net.rcd = [] ∨ n = 0xFF then [4] else (netPorts n s).filter fun p => portUp p s

/-- The length of a frame with `n` bytes of content and `h` bytes of headers above Ethernet: 28 bytes of Ethernet header, VLAN tag,
redundancy trailer or tag, and FCS are added, and the least length is 70 (R323, R329; log 160, DESIGN CHOICE). -/
def frameBytes (h n : Nat) : Nat := max 70 (n + h + 28)

/-- The VLAN identifier of a network (R327). -/
def netVid (n : Nat) (s : State) : Nat := if n < 2 then fld16 s.net.rcd (if n = 0 then 26 else 34) else 0

/-- The network of a port; 2 is the service port (R321). -/
def portNet (p : Nat) (s : State) : Nat := if 4 ≤ p then 2 else if s.net.hsr then 0 else p / 2

/-- How a thing sent is carried (R329, R331). -/
def carriageOf (o : Output) (s : State) : Carriage :=
  match o with
  | .frame p et c =>
    let report := et == 0x0800 && fld8 c 0 == 0x16
    { vid := netVid (portNet p s) s, pcp := if et = 0x88F7 then 7 else 0, dst := if report then ipAt c 4 else 0, port := 0
      multicast := report }
  | .telegram k _ =>
    let e := (s.net.nodeTable.find? fun e => fld16 e 0 == k).getD []
    { vid := netVid (nodeNet s) s, pcp := fld8 e 3, dst := ipAt e 4, port := 20600, multicast := false }
  | .block _ => { vid := netVid (pubNet s) s, pcp := fld8 s.net.rcd 5, dst := pubGroup s, port := 20601, multicast := true }
  | _ => { vid := netVid (fld8 s.net.rcd 3) s, pcp := fld8 s.net.rcd 6, dst := 0, port := 52840, multicast := false }

/-- The frames that carry `n` bytes of the remote host's stream: of at most 1,400 bytes each, with 40 bytes of headers. -/
def hostFrames (o : Output) (n : Nat) (s : State) : List EgressFrame :=
  (List.range ((n + 1399) / 1400 + if n = 0 then 1 else 0)).map fun k =>
    { queue := 0, bytes := frameBytes 40 (min 1400 (n - 1400 * k)), how := carriageOf o s, what := o }

/-- The frames that a thing sent makes, and the ports they leave by (R329): PTP in queue 3, node telegrams in 2, publication blocks in
1, everything else in 0.  A frame that HSR forwards does not wait in a queue. -/
def egressOf (o : Output) (s : State) : List Nat × List EgressFrame :=
  let one (q n : Nat) : List EgressFrame := [{ queue := q, bytes := n, how := carriageOf o s, what := o }]
  match o with
  | .frame p et c => if et = 0x892F then ([], []) else ([p], one (if et = 0x88F7 then 3 else 0) (frameBytes 0 c.length))
  | .telegram _ c => ((netPorts (nodeNet s) s).filter fun p => portUp p s, one 2 (frameBytes 28 c.length))
  | .block c => ((netPorts (pubNet s) s).filter fun p => portUp p s, one 1 (frameBytes 28 c.length))
  | .tls _ _ _ body => (hostPorts s, hostFrames o (body.length + 30) s)
  | .tlsClose _ | .tlsKey _ => (hostPorts s, hostFrames o 30 s)
  | _ => ([], [])

/-- The sending side of port `p`. -/
def egressAt (p : Nat) (s : State) : Egress := vget egressReset s.net.egress p

/-- Changes the sending side of port `p`. -/
def egressMod (p : Nat) (f : Egress → Egress) (s : State) : State :=
  { s with net := { s.net with egress := vmod s.net.egress p f } }

/-- What the module sent since the last tick joins the egress queues of its ports. -/
def egressFill (s : State) : State :=
  let fresh := (s.out.take (s.out.length - s.net.given)).reverse
  fresh.foldl (fun t o =>
    let e := egressOf o t
    e.1.foldl (fun u p => egressMod p (fun x => { x with waiting := x.waiting ++ e.2 }) u) t) s

/-- The frame that a port sends next: of the highest queue, the one that came first; queue 0 only under HOST_RATE (R330). -/
def egressNext (t : Nat) (e : Egress) : Option EgressFrame :=
  let able := e.waiting.filter fun f => f.queue != 0 || decide (e.hostFrom ≤ t)
  able.find? fun f => able.all fun g => decide (g.queue ≤ f.queue)

/-- The first of a list that is `x` is taken out. -/
def takeOut {α : Type} [DecidableEq α] (x : α) : List α → List α
  | [] => []
  | y :: ys => if x = y then ys else y :: takeOut x ys

/-- A port that is not sending starts its next frame: a byte takes 8 ns, and 20 byte-times of preamble and gap go with each frame.  Queue
0 is held to HOST_RATE with what it did not use of the last millisecond (R322, R330); the frames of a port that carries no traffic are
dropped. -/
def portServe (p : Nat) (s : State) : State :=
  let e := egressAt p s
  if p < 4 ∧ portUp p s = false then (if e.waiting = [] then s else egressMod p (fun x => { x with waiting := [] }) s)
  else if now s < e.busy then s
  else
    match egressNext (now s) e with
    | none => s
    | some f =>
      emit (.sends p f.queue f.how f.what) (egressMod p (fun x =>
        { x with
          waiting := takeOut f x.waiting, busy := now s + (f.bytes + 20) * 8
          hostFrom := if f.queue = 0 then max x.hostFrom (now s - ms) + f.bytes * 8 * us / hostRate s else x.hostFrom }) s)

/-- The egress of every port at a tick (R330). -/
def egressTick (s : State) : State :=
  let t := (List.range 5).foldl (fun u p => portServe p u) (egressFill s)
  { t with net := { t.net with given := t.out.length } }

/-! ## Events: Ethernet (R323 to R331, R342) -/

/-- The MAC address as bytes, first octet first. -/
def macBytes (m : BitVec 48) : List Byte := be 6 m.toNat

/-- An ARP packet on a network (R331). -/
def arpPacket (op : Nat) (n : Nat) (targetMac : BitVec 48) (targetIp : Nat) (s : State) : List Byte :=
  ipBytes (0x00010800) ++ [6, 4] ++ be 2 op ++ macBytes s.net.mac ++ ipBytes (ownIp n s) ++ macBytes targetMac ++
    ipBytes targetIp

/-- ARP_REFRESH: the node addresses are resolved again (R331). -/
def execArpRefresh (s : State) : Host.Outcome State Fault Refusal :=
  .next ((s.net.nodeTable.filter fun e => bit (fld8 e 2) 0).foldl (fun t e =>
    sendNet (nodeNet t) 0x0806 (arpPacket 1 (nodeNet t) 0 (ipAt e 4) t) t) s)

/-- ARP_FRAME: a request for the module's address is answered, and the sender of a node's address is learned (R329, R331). -/
def execArpFrame (net : Fin 3) (request : Bool) (senderIp : Word) (senderMac : BitVec 48) (targetIp : Word) (s : State) :
    Host.Outcome State Fault Refusal :=
  .next (
    let n := net.val
    let known := s.net.nodeTable.find? fun e => n == nodeNet s && bit (fld8 e 2) 0 && ipAt e 4 == senderIp.toNat
    let s1 := match known with
      | some e => nodeMod (fld16 e 0) (fun x => { x with mac := some senderMac }) s
      | none => s
    if request then
      (if n < 2 then (if targetIp.toNat = ownIp n s then sendNet n 0x0806 (arpPacket 2 n senderMac senderIp.toNat s) s1 else s1)
       else emit (.frame 4 0x0806 (arpPacket 2 n senderMac senderIp.toNat s)) s1)
    else s1)

/-- The IGMPv2 membership report of a group (R331). -/
def igmpReport (g : Nat) : List Byte := [0x16, 0, 0, 0] ++ ipBytes g

/-- The groups that the module joins on a network (R329, R331, R332). -/
def groupsOf (n : Nat) (s : State) : List Nat :=
  (if n = pubNet s then [pubGroup s] else []) ++ if n = nodeNet s then [inputGroup s] else []

/-- IGMP_QUERY: membership reports for the groups of the network (R331). -/
def execIgmpQuery (net : Fin 2) (s : State) : Host.Outcome State Fault Refusal :=
  .next ((groupsOf net.val s).foldl (fun t g => sendNet net.val 0x0800 (igmpReport g) t) s)

/-- A port that carries traffic joins the groups of its network and resolves its nodes (R331): at the start, or when its link comes up
after it (log 179). -/
def portJoin (p : Nat) (s : State) : State :=
  let n := portNet p s
  if s.net.rcd = [] ∨ portUp p s = false ∨ 1 < n then s
  else
    let t := (groupsOf n s).foldl (fun t g => emit (.frame p 0x0800 (igmpReport g)) t) s
    if n = nodeNet s then
      (t.net.nodeTable.filter fun e => bit (fld8 e 2) 0).foldl (fun u e =>
        emit (.frame p 0x0806 (arpPacket 1 n 0 (ipAt e 4) u)) u) t
    else t

/-- ICMP_ECHO_REQUEST: the echo reply (R329). -/
def execIcmpEchoRequest (net : Fin 3) (src : Word) (body : List Byte) (s : State) : Host.Outcome State Fault Refusal :=
  .next (
    let reply := [0, 0] ++ ipBytes src.toNat ++ body
    if net.val < 2 then sendNet net.val 0x0800 reply s else emit (.frame 4 0x0800 reply) s)

/-- HSR_RING_FRAME: the frame goes on by the other ring port; a PTP event message carries its residence time with it (R325,
R371). -/
def execHsrRingFrame (p : Fin 2) (frame : List Byte) (ptpEvent : Bool) (residenceNs : Nat) (s : State) :
    Host.Outcome State Fault Refusal :=
  .next (
    if s.net.hsr = false ∨ s.modes.mode = .plinth ∨ portUp (1 - p.val) s = false then s
    else emit (.frame (1 - p.val) 0x892F (frame ++ if ptpEvent then be 8 residenceNs else [])) s)

/-- LINK_CHANGE: R322, R326. -/
def execLinkChange (p : Fin 4) (up speedOk : Bool) (s : State) : Host.Outcome State Fault Refusal :=
  .next (
    let q := portAt p.val s
    if q.phyReset ∨ q.role = 0 ∨ healthOf (0x24 + p.val) s = 2 then s
    else
      let link := up && speedOk
      let s1 := portMod p.val (fun q =>
        { q with
          link := link, speedOk := speedOk, linkLost := q.linkLost || (q.link && !link)
          lastSup := if link && !q.link then now s else q.lastSup
          supLost := if link then q.supLost else false }) s
      if link = q.link then s1
      else if link then record sevEvent 0x0801 (srcPort p.val) [] (portJoin p.val s1)
      else
        let net := if s.net.hsr then 0 else p.val / 2
        if netUp net s1 then record sevWarning 0x0800 (srcPort p.val) [] s1 else record sevAlarm 0x0800 (srcPort p.val) [] s1)

/-- The source whose last frame lies furthest back is removed. -/
def dropOldest (xs : List DupEntry) : List DupEntry :=
  match xs with
  | [] => []
  | x :: t =>
    let old := t.foldl (fun m e => if e.last < m.last then e else m) x
    xs.filter fun e => e.mac != old.mac

/-- Puts a source into a table of at most `cap`, replacing the one longest without a frame when it is full (R324). -/
def sourcePut (cap : Nat) (e : DupEntry) (xs : List DupEntry) : List DupEntry :=
  let others := xs.filter fun x => x.mac != e.mac
  e :: (if cap ≤ others.length then dropOldest others else others)

/-- SUPERVISION_FRAME: R323, R324, R326. -/
def execSupervisionFrame (p : Fin 4) (src : BitVec 48) (seq : BitVec 16) (otherLan : Bool) (s : State) :
    Host.Outcome State Fault Refusal :=
  .next (
    if portUp p.val s = false then s
    else
      let q := portAt p.val s
      let wrong := otherLan && !s.net.hsr
      let warn := wrong && due q.lastWrong (60 * sec) (now s)
      let s1 := portMod p.val (fun q =>
        { q with
          lastSup := now s, supLost := false, wrongLan := q.wrongLan || wrong
          lastWrong := if warn then some (now s) else q.lastWrong }) s
      let s2 := if warn then record sevWarning 0x0806 (srcPort p.val) [] s1 else s1
      let e : DupEntry := { mac := src, seq := seq, last := now s }
      let s3 := { s2 with net := { s2.net with supNodes := sourcePut 8192 e s2.net.supNodes } }
      if s.net.dup.any (fun x => x.mac == src && x.seq == seq && decide (now s < x.last + 400 * ms)) then
        portMod p.val (fun q => { q with dup := BitVec.ofNat 16 (satInc 0xFFFF q.dup.toNat) }) s3
      else { s3 with net := { s3.net with dup := sourcePut 8192 e s3.net.dup } })

/-- SUPERVISION_SEND: a supervision frame on each LAN or ring port (R323). -/
def execSupervisionSend (s : State) : Host.Outcome State Fault Refusal :=
  .next (
    let content := be 2 s.net.supSeq.toNat ++ macBytes s.net.mac
    let t := sendNet 1 0x88FB content (sendNet 0 0x88FB content s)
    { t with net := { t.net with supSeq := t.net.supSeq + 1 } })

/-- SUPERVISION_LOSS: no supervision frame from any partner for 6 s (R326, R357). -/
def execSupervisionLoss (p : Fin 4) (s : State) : Host.Outcome State Fault Refusal :=
  .next (
    let q := portAt p.val s
    if portUp p.val s = false ∨ q.supLost ∨ now s < q.lastSup + 6 * sec then s
    else record sevWarning 0x0800 (srcPort p.val) [] (portMod p.val (fun q => { q with supLost := true }) s))

/-- DUP_TABLE_FORGET: an entry is forgotten after 400 ms, a node after 60,000 ms (R323). -/
def execDupTableForget (src : BitVec 48) (node : Bool) (s : State) : Host.Outcome State Fault Refusal :=
  .next (
    let keep (limit : Nat) (x : DupEntry) : Bool := x.mac != src || decide (now s < x.last + limit)
    if node then { s with net := { s.net with supNodes := s.net.supNodes.filter (keep (60 * sec)) } }
    else { s with net := { s.net with dup := s.net.dup.filter (keep (400 * ms)) } })

/-- PORT_FRAME_DISCARD: R329, R331, R342, R357, R358. -/
def execPortFrameDiscard (p : Fin 4) (why : DiscardWhy) (s : State) : Host.Outcome State Fault Refusal :=
  .next (
    let q := portAt p.val s
    let warn := why == .rate && due q.lastOver sec (now s)
    let s1 := portMod p.val (fun q =>
      { q with
        rx := BitVec.ofNat 16 (satInc 0xFFFF q.rx.toNat), fcsError := q.fcsError || why == .fcs
        rxOverflow := q.rxOverflow || why == .rate, lastOver := if warn then some (now s) else q.lastOver }) s
    if warn then record sevWarning 0x0807 (srcPort p.val) [] s1 else s1)

/-- `NET_PORT_STATUS` (R357). -/
def netPortStatus (p : Nat) (s : State) : Word :=
  let q := portAt p s
  BitVec.ofNat 32 (q.role.toNat * 2 ^ 16 + atBit q.rxOverflow 7 + atBit q.wrongLan 6 + atBit q.linkLost 5 + atBit q.fcsError 4 +
    atBit q.supLost 3 + atBit q.speedOk 1 + atBit q.link 0)

/-- `NET_PORT_DROPS` (R358). -/
def netPortDrops (p : Nat) (s : State) : Word := (portAt p s).dup ++ (portAt p s).rx

end Sys2Proof.Machine
end

