-- ==== Sys2Proof/Machine/Can.lean ====
section
/-! DEFINITION. The CAN controllers (R344 to R356, R359, R360): receive and send objects, reference messages and windows, bus-off, and
the outputs that the dispatch unit sends after an image event (R177). -/

namespace Sys2Proof.Machine

/-- Controller `c`. -/
def canAt (c : Nat) (s : State) : Can := vget canReset s.can c

/-- Changes controller `c`. -/
def canMod (c : Nat) (f : Can → Can) (s : State) : State := { s with can := vmod s.can c f }

/-- Object `m` of a controller. -/
def objAt (x : Can) (m : Nat) : CanObj := tabGet canObjReset x.obj m

/-- Changes object `m` of controller `c`. -/
def objMod (c m : Nat) (f : CanObj → CanObj) (s : State) : State :=
  canMod c (fun x => { x with obj := tabMod canObjReset x.obj m f }) s

/-- SOURCE of a controller's records (R457, R529). -/
def srcCan (c : Nat) : Word := srcUnit (0x28 + c)

/-- Flag `i` of an object's record (R347). -/
def objFlag (r : List Byte) (i : Nat) : Bool := bit (fld16 r 2) i

/-- Whether an object is a configured send object. -/
def objSends (r : List Byte) : Bool := r != [] && objFlag r 0

/-- Bytes of a data length code (R347). -/
def dlcBytes (d : Nat) : Nat :=
  if d ≤ 8 then d else [12, 16, 20, 24, 32, 48, 64].getD (d - 9) 64

/-! ## Bit rates, frame times and the checks of a configuration commit (R345 to R347) -/

/-- Ticks of 12.5 ns in a nominal bit (R346). -/
def nomTicks (r : List Byte) : Nat := fld8 r 2 * (1 + fld8 r 3 + fld8 r 4)

/-- Ticks of 12.5 ns in a data bit. -/
def dataTicks (r : List Byte) : Nat := fld8 r 6 * (1 + fld8 r 7 + fld8 r 8)

/-- The longest time of an object's frame on the bus, with worst-case stuffing, in ns (R347, R352). -/
def frameNs (r o : List Byte) : Nat :=
  let n := dlcBytes (fld8 o 12)
  let ext := objFlag o 1
  if objFlag o 2 then
    let arb := if ext then 36 else 17
    let crc := if 16 < n then 21 else 17
    let body := 5 + 8 * n
    let tail := 4 + crc + (4 + crc + 3) / 4 + 1
    let d := if objFlag o 3 then dataTicks r else nomTicks r
    ((arb + (arb - 1) / 4 + 9) * nomTicks r + (body + (body + 3) / 4 + tail) * d) * 25 / 2 + 1
  else
    let g := (if ext then 54 else 34) + 8 * n
    (g + (g - 1) / 4 + 10) * nomTicks r * 25 / 2 + 1

/-- Whether a sample point lies within 60 % to 90 % (R346). -/
def sampleOk (t1 t2 : Nat) : Bool := decide (60 * (1 + t1 + t2) ≤ 100 * (1 + t1)) && decide (100 * (1 + t1) ≤ 90 * (1 + t1 + t2))

/-- The first offset of a controller record that a commit refuses (R345, R346).  The data fields count with FD_ENABLED, the
reference fields with TIME_MASTER. -/
def canFail (index : Nat) (r : List Byte) : Option Nat :=
  let within (v lo hi : Nat) : Bool := decide (lo ≤ v) && decide (v ≤ hi)
  let fd := bit (fld8 r 1) 1
  let tm := bit (fld8 r 1) 2
  let p := fld32 r 16
  let o := fld32 r 20
  let checks : List (Nat × Bool) :=
    [(0, fld8 r 0 == index && decide (index ≤ 7)), (2, within (fld8 r 2) 1 32), (3, within (fld8 r 3) 1 255),
      (4, within (fld8 r 4) 1 128), (5, within (fld8 r 5) 1 (fld8 r 4)),
      (2, decide (nomTicks r ≤ 4000) && decide (80 ≤ nomTicks r)), (3, sampleOk (fld8 r 3) (fld8 r 4))] ++
    (if fd then
      [(6, within (fld8 r 6) 1 32), (7, within (fld8 r 7) 1 31), (8, within (fld8 r 8) 1 15), (9, within (fld8 r 9) 1 (fld8 r 8)),
        (10, decide (fld8 r 10 ≤ 127)), (6, within (dataTicks r) 10 80 && decide (dataTicks r ≤ nomTicks r)),
        (7, sampleOk (fld8 r 7) (fld8 r 8))]
     else []) ++
    (if tm then
      [(12, bit (fld32 r 12) 31 || decide (bits (fld32 r 12) 0 29 < 2 ^ 11)),
        (16, within p 250 1000000 && p % 50 == 0), (20, decide (o + 50 ≤ p) && o % 50 == 0),
        (24, [1, 2, 4, 8, 16, 32, 64].contains (fld8 r 24))]
     else [])
  (checks.find? fun c => !c.2).map (·.1)

/-- The first offset of an object record that a commit refuses, given its controller's record and the controller's other objects
(R347). -/
def objFail (index : Nat) (r ctrl : List Byte) (others : List (List Byte)) : Option Nat :=
  let send := objFlag r 0
  let win := objFlag r 4
  let ident := fld32 r 4
  let checks : List (Nat × Bool) :=
    [(0, fld8 r 0 == index % 128), (1, fld8 r 1 == index / 128 && ctrl != []),
      (4, decide (ident < if objFlag r 1 then 2 ^ 29 else 2 ^ 11)),
      (8, if send then fld32 r 8 == 0 else decide (fld32 r 8 < 2 ^ 29)),
      (12, if send then decide (fld8 r 12 ≤ if objFlag r 2 then 15 else 8) else fld8 r 12 == 0),
      (2, !objFlag r 2 || bit (fld8 ctrl 1) 1), (2, !objFlag r 3 || objFlag r 2), (2, !objFlag r 5 || !send),
      (2, !win || (send && bit (fld8 ctrl 1) 2)),
      (20, !win || decide (50 ≤ fld16 r 20)),
      (16, !win || decide (fld32 r 16 + fld16 r 20 ≤ fld32 ctrl 16)),
      (20, !win || decide (frameNs ctrl r ≤ fld16 r 20 * us)),
      (4, !send || others.all fun o => !objSends o || fld32 o 4 != ident || objFlag o 1 != objFlag r 1),
      (4, !send || !bit (fld8 ctrl 1) 2 || bits (fld32 ctrl 12) 0 29 != ident || bit (fld32 ctrl 12) 31 != objFlag r 1)]
  (checks.find? fun c => !c.2).map (·.1)

/-! ## Sending (R350 to R352) -/

/-- The place of an object's frame in arbitration: the lower goes first. -/
def arbitration (r : List Byte) : Nat :=
  let ident := fld32 r 4
  let ext := objFlag r 1
  let base := if ext then bits ident 18 11 else ident % 2 ^ 11
  ((base * 2 + b2n ext) * 2 ^ 18 + (if ext then ident % 2 ^ 18 else 0)) * 2 + b2n (objFlag r 2)

/-- The end of a windowed object's window in the present cycle (R352). -/
def windowEnd (x : Can) (r : List Byte) : Nat := x.lastRef + (fld32 r 16 + fld16 r 20) * us

/-- The next start of a windowed object's window at or after `t`. -/
def windowNext (x : Can) (r : List Byte) (t : Nat) : Nat :=
  let w := x.lastRef + fld32 r 16 * us
  if t ≤ w then w else w + fld32 x.rcd 16 * us

/-- Whether a pending object may be started at `t`: a windowed one in its window when it can end there; another when it cannot
overrun the window of a pending windowed object (R352, R353). -/
def mayStart (x : Can) (t : Nat) (r : List Byte) : Bool :=
  if objFlag r 4 then
    x.refActive && decide (x.lastRef + fld32 r 16 * us ≤ t) && decide (t + frameNs x.rcd r ≤ windowEnd x r)
  else
    !x.refActive || x.obj.all fun p => !(p.2.pending && objFlag p.2.rcd 4) || decide (t + frameNs x.rcd r ≤ windowNext x p.2.rcd t)

/-- The frame of a send object. -/
def objFrame (o : CanObj) : CanFrame :=
  { ident := BitVec.ofNat 29 (fld32 o.rcd 4), extended := objFlag o.rcd 1, fd := objFlag o.rcd 2, remote := false
    data := o.data }

/-- Whether a controller takes part in the bus as a sender. -/
def canSends (x : Can) : Bool := x.enabled && !x.monitor && decide (x.st.toNat ≤ 1)

/-- Starts the next frame of a controller that has none on the bus: the reference message, else the pending object that
arbitration would let go first (R350). -/
def startNext (c : Nat) (s : State) : State :=
  let x := canAt c s
  if canSends x = false ∨ x.bus ≠ .nothing then s
  else
    match x.refQueued with
    | some pay =>
      let f : CanFrame := { ident := BitVec.ofNat 29 (fld32 x.rcd 12), extended := bit (fld32 x.rcd 12) 31, fd := false, remote := false
                            data := pay }
      emit (.can c f) (canMod c (fun x => { x with bus := .reference pay (now s), refQueued := none }) s)
    | none =>
      let late := x.obj.filter fun p => p.2.pending && p.2.windowOpen && !mayStart x (now s) p.2.rcd
      let s1 := late.foldl (fun t p => objMod c p.1 (fun o => { o with windowMissed := true, windowOpen := false }) t) s
      let ready := (canAt c s1).obj.filter fun p => objSends p.2.rcd && p.2.pending && mayStart x (now s) p.2.rcd
      match ready with
      | [] => s1
      | p :: ps =>
        let q := ps.foldl (fun m y => if arbitration y.2.rcd < arbitration m.2.rcd then y else m) p
        emit (.can c (objFrame q.2)) (canMod c (fun x => { x with bus := .object q.1 })
          (objMod c q.1 (fun o => { o with pending := false, windowOpen := false }) s1))

/-- The dispatch unit writes a send object: it becomes pending with the committed values (R177, R350). -/
def sendObject (k : Nat) (s : State) : State :=
  let c := bits k 23 3
  let m := bits k 16 7
  let x := canAt c s
  let o := objAt x m
  if isActive s = false ∨ x.enabled = false ∨ x.monitor ∨ objSends o.rcd = false ∨ outEntries k s = [] then s
  else
    let data := slice (outPayload (outEntries k s) s) 0 (dlcBytes (fld8 o.rcd 12))
    startNext c (outMod k (fun o => { o with sent := some (now s) })
      (objMod c m (fun o => { o with data := data, pending := true }) s))

/-- Sends the telegram or the object of an output KEY (R177). -/
def sendOut (k : Nat) (s : State) : State := if telegramOut k then sendTelegram k s else sendObject k s

/-- After the image event `gen`, the active module sends every output telegram and object one of whose signals it changed (R177). -/
def outputsAfter (gen : Nat) (s : State) : State :=
  if isActive s = false then s
  else
    (outKeys s).foldl (fun t k =>
      if (outEntries k t).any (fun e => (List.range (fld16 e 8)).any fun i => (sigRec (entrySig e i) t).gen == gen) then sendOut k t
      else t) s

/-- A new active module: normal mode, and every send object that an entry writes becomes pending once (R354). -/
def canTakeover (s : State) : State :=
  let s1 := canFollow s
  ((outKeys s1).filter fun k => !telegramOut k).foldl (fun t k => sendObject k t) s1

/-- The KEY, without its part, of an output. -/
def outKeyOf : OutKey → Nat
  | .telegram n k => telegramKey n.val k.val
  | .canObject c m => objectKey c.val m.val

/-- OUTPUT_REPEAT_EXPIRY: at least every TIME_MS (R177, R338). -/
def execOutputRepeatExpiry (k : OutKey) (s : State) : Host.Outcome State Fault Refusal :=
  .next (
    let n := outKeyOf k
    match (outAt n s).sent with
    | none => sendOut n s
    | some t => if t + outRepeat n s ≤ now s then sendOut n s else s)

/-! ## Receiving (R348, R349, R353) -/

/-- Whether a frame matches a receive object (R348). -/
def objMatches (f : CanFrame) (r : List Byte) : Bool :=
  r != [] && !objFlag r 0 && (f.ident.toNat &&& fld32 r 8) == (fld32 r 4 &&& fld32 r 8) && f.extended == objFlag r 1 &&
    (f.fd == objFlag r 2 || objFlag r 5)

/-- The packet processor reads the primary buffer under its lock and gives the frame to the dispatch unit (R175, R176, R349). -/
def readObject (c m : Nat) (s : State) : State :=
  match (objAt (canAt c s) m).primary with
  | none => s
  | some b =>
    if (operating s || s.modes.mode == .standby) = false then s
    else
      let s1 := objMod c m (fun o => { o with locked := true, unread := false }) s
      if operating s1 then dispatchIn (objectKey c m) (4096 + c) true b.data (fun _ => mkStatus 3 0) b.stamp s1 else s1

/-- A frame is stored in a receive object (R349). -/
def storeFrame (c m : Nat) (b : CanBuf) (s : State) : State :=
  let o := objAt (canAt c s) m
  let s1 := objMod c m (fun o => { o with frames := o.frames + 1, fd := b.fd }) s
  if o.locked then
    objMod c m (fun o => { o with overwritten := o.overwritten || o.shadow.isSome, shadow := some b }) s1
  else
    readObject c m (objMod c m (fun o => { o with overwritten := o.overwritten || o.unread, primary := some b, unread := true }) s1)

/-- A foreign reference message stops the reference messages and the windowed frames of a time master (R353). -/
def masterConflict (c : Nat) (s : State) : State :=
  let x := canAt c s
  let s1 := canMod c (fun x => { x with conflict := true, refActive := false, refQueued := none, foreign := some (now s) }) s
  if x.foreign.isSome then s1 else record sevWarning 0x0805 (srcCan c) [] s1

/-- One fewer error after a good frame (ISO 11898-1). -/
def errorLess (n : BitVec 8) : BitVec 8 := if n = 0 then 0 else n - 1

/-- The error state that the counters give (R359); bus-off and disabled stay. -/
def errorState (x : Can) : Can :=
  if 2 ≤ x.st.toNat then x
  else { x with st := if 127 < x.tec.toNat ∨ 127 < x.rec_.toNat then 1 else 0 }

/-- CAN_FRAME_RECEIVED: R348, R349, R353. -/
def execCanFrameReceived (c : Fin 8) (f : CanFrame) (s : State) : Host.Outcome State Fault Refusal :=
  .next (
    let x := canAt c.val s
    if x.enabled = false ∨ 2 ≤ x.st.toNat then s
    else
      let s1 := canMod c.val (fun x => errorState { x with rec_ := errorLess x.rec_ }) s
      if f.remote then canMod c.val (fun x => { x with unmatched := true }) s1
      else
        let foreign := !x.monitor && bit (fld8 x.rcd 1) 2 && f.ident.toNat == bits (fld32 x.rcd 12) 0 29 &&
          f.extended == bit (fld32 x.rcd 12) 31
        let s2 := if foreign then masterConflict c.val s1 else s1
        match x.obj.find? (fun p => objMatches f p.2.rcd) with
        | none => canMod c.val (fun x => { x with unmatched := true }) s2
        | some p => storeFrame c.val p.1 { data := f.data, fd := f.fd, stamp := now s, ident := f.ident } s2)

/-- CAN_LOCK_RELEASE: a full shadow moves to the primary buffer and is read (R349). -/
def execCanLockRelease (c : Fin 8) (m : Fin 128) (s : State) : Host.Outcome State Fault Refusal :=
  .next (
    let o := objAt (canAt c.val s) m.val
    if o.locked = false then s
    else
      match o.shadow with
      | none => objMod c.val m.val (fun o => { o with locked := false }) s
      | some b =>
        readObject c.val m.val (objMod c.val m.val (fun o =>
          { o with locked := false, primary := some b, shadow := none, unread := true }) s))

/-! ## Events of a controller -/

/-- CAN_TX_COMPLETE: R350. -/
def execCanTxComplete (c : Fin 8) (o : TxOutcome) (s : State) : Host.Outcome State Fault Refusal :=
  .next (
    let x := canAt c.val s
    let idle (t : State) : State := startNext c.val (canMod c.val (fun x => { x with bus := .nothing }) t)
    let less (t : State) : State := canMod c.val (fun x => errorState { x with tec := errorLess x.tec }) t
    match x.bus with
    | .nothing => s
    | .reference pay sof =>
      match o with
      | .sent => idle (canMod c.val (fun x => { x with refSof := some sof }) (less s))
      | _ =>
        idle (if x.refQueued.isSome ∨ x.refActive = false then s else canMod c.val (fun x => { x with refQueued := some pay }) s)
    | .object m =>
      match o with
      | .sent => idle (less (objMod c.val m (fun o => { o with frames := o.frames + 1, fd := objFlag o.rcd 2 }) s))
      | _ => idle (objMod c.val m (fun o => { o with pending := true }) s))

/-- CAN_REFERENCE_TIME: R351. -/
def execCanReferenceTime (c : Fin 8) (s : State) : Host.Outcome State Fault Refusal :=
  .next (
    let x := canAt c.val s
    if x.enabled = false ∨ x.monitor ∨ bit (fld8 x.rcd 1) 2 = false ∨ now s < x.nextRef then s
    else
      let period := fld32 x.rcd 16 * us
      let count := ((x.nextRef - fld32 x.rcd 20 * us) / max 1 period) % max 1 (fld8 x.rcd 24)
      let pay := le 1 count ++ (match x.refSof with
        | some t => le 7 (t / us)
        | none => List.replicate 7 0xFF)
      let s1 := canMod c.val (fun x =>
        { x with
          lastRef := x.nextRef, nextRef := x.nextRef + period
          refDropped := if x.refActive && x.refQueued.isSome then x.refDropped + 1 else x.refDropped
          refQueued := if x.refActive then some pay else none }) s
      startNext c.val s1)

/-- CAN_WINDOW_START: R352. -/
def execCanWindowStart (c : Fin 8) (m : Fin 128) (s : State) : Host.Outcome State Fault Refusal :=
  .next (
    let x := canAt c.val s
    let o := objAt x m.val
    if objSends o.rcd = false ∨ objFlag o.rcd 4 = false ∨ x.refActive = false ∨ now s < x.lastRef + fld32 o.rcd 16 * us ∨
        windowEnd x o.rcd ≤ now s ∨ o.pending = false then s
    else startNext c.val (objMod c.val m.val (fun o => { o with windowOpen := true }) s))

/-- CAN_MASTER_RESUME: R353. -/
def execCanMasterResume (c : Fin 8) (s : State) : Host.Outcome State Fault Refusal :=
  .next (
    let x := canAt c.val s
    match x.foreign with
    | none => s
    | some t =>
      if x.monitor ∨ now s < t + sec then s
      else record sevEvent 0x0805 (srcCan c.val) [] (canMod c.val (fun x => { x with foreign := none, refActive := true }) s))

/-- CAN_BUS_OFF: R355. -/
def execCanBusOff (c : Fin 8) (s : State) : Host.Outcome State Fault Refusal :=
  .next (
    let x := canAt c.val s
    if x.enabled = false ∨ 2 ≤ x.st.toNat then s
    else
      let times := now s :: x.busoffs.filter fun t => decide (now s < t + 10 * sec)
      let long := decide (3 ≤ times.length)
      let s1 := match x.bus with
        | .object m => objMod c.val m (fun o => { o with pending := true }) s
        | _ => s
      let s2 := canMod c.val (fun x =>
        { x with
          st := 2, busoffSeen := true, bus := .nothing, busoffs := times
          recoverAt := some (now s + if long then 60 * sec else 100 * ms) }) s1
      if long then record sevAlarm 0x0804 (srcCan c.val) [] s2 else record sevWarning 0x0804 (srcCan c.val) [] s2)

/-- CAN_BUSOFF_RECOVERY: R355. -/
def execCanBusoffRecovery (c : Fin 8) (s : State) : Host.Outcome State Fault Refusal :=
  .next (
    match (canAt c.val s).recoverAt with
    | none => s
    | some t =>
      if now s < t then s
      else startNext c.val (canMod c.val (fun x => { x with st := 0, tec := 0, rec_ := 0, recoverAt := none }) s))

/-- CAN_BUS_ERROR: R359; the counters move as ISO 11898-1 has them. -/
def execCanBusError (c : Fin 8) (err : Fin 8) (transmitter : Bool) (s : State) : Host.Outcome State Fault Refusal :=
  .next (
    let x := canAt c.val s
    if x.enabled = false ∨ 2 ≤ x.st.toNat then s
    else
      canMod c.val (fun x => errorState
        { x with
          lastError := BitVec.ofNat 3 err.val
          tec := if transmitter then BitVec.ofNat 8 (min 255 (x.tec.toNat + 8)) else x.tec
          rec_ := if transmitter then x.rec_ else BitVec.ofNat 8 (satInc 255 x.rec_.toNat) }) s)

/-! ## Registers (R359, R360) -/

/-- `CAN_STATUS` (R359). -/
def canStatus (c : Nat) (s : State) : Word :=
  let x := canAt c s
  BitVec.ofNat 32 (x.tec.toNat * 2 ^ 24 + x.rec_.toNat * 2 ^ 16 + atBit x.conflict 12 + atBit x.refActive 11 + atBit x.monitor 10 +
    x.st.toNat * 2 ^ 8 + atBit x.busoffSeen 7 + x.lastError.toNat * 2 ^ 4 + atBit x.standbyLine 3 + atBit x.unmatched 2 +
    atBit (x.obj.any fun p => p.2.pending) 1 + atBit x.enabled 0)

/-- `CAN_MO_STATUS` (R360). -/
def canMoStatus (c m : Nat) (s : State) : Word :=
  let o := objAt (canAt c s) m
  BitVec.ofNat 32 (o.frames.toNat * 2 ^ 16 + atBit o.windowMissed 8 + atBit o.overwritten 7 + atBit o.shadow.isSome 6 +
    atBit o.locked 5 + atBit o.pending 4 + atBit o.fd 2 + atBit (objFlag o.rcd 0) 1 + atBit (o.rcd != []) 0)

/-! ## Configuration (R345, R347, R506) -/

/-- A controller takes a new record: it starts afresh, error active and in the mode of the module's role, or is disabled with its
standby line driven (R354, R359). -/
def canConfigure (c : Nat) (new_ : List Byte) (s : State) : State :=
  if (canAt c s).rcd = new_ then s
  else
    let on := new_ != [] && bit (fld8 new_ 1) 0 && healthOf (0x28 + c) s != 2
    let x : Can := { canReset with
      rcd := new_, enabled := on, st := if on then 0 else 3, standbyLine := !on, obj := (canAt c s).obj, monitor := on }
    let y := if on && isActive s then canRole true (now s) x else x
    healthFollows (0x28 + c) (new_ != [] && bit (fld8 new_ 1) 0) { s with can := vset s.can c y }

/-- An object takes a new record. -/
def objConfigure (c m : Nat) (new_ : List Byte) (s : State) : State :=
  if (objAt (canAt c s) m).rcd = new_ then s else objMod c m (fun _ => { canObjReset with rcd := new_ }) s

end Sys2Proof.Machine
end

