-- ==== Sys2Proof/Machine/Admission.lean ====
section
/-! DEFINITION. The catalogue of host commands, as far as admission needs it (R478, R493, R494, R499 to R521), and admission
itself: the checks of R478 in their order. -/

namespace Sys2Proof.Machine

/-- The modes a command is accepted in: B BOOT, M MAINTENANCE, O STOP, RUN or HOLD, Y STANDBY, F SAFE (R493). -/
structure CmdModes where
  /-- BOOT. -/
  b : Bool
  /-- MAINTENANCE. -/
  m : Bool
  /-- STOP, RUN, HOLD. -/
  o : Bool
  /-- STANDBY. -/
  y : Bool
  /-- SAFE. -/
  f : Bool

/-- A command of the catalogue, as admission sees it. -/
structure Cmd where
  /-- The roles any one of which is sufficient; empty for none (R493, R494). -/
  roles : List Nat
  /-- The modes. -/
  modes : CmdModes
  /-- The payload length that a payload's count fields give; the flag says that carriages are named (R493). -/
  len : List Byte → Bool → Nat
  /-- The command requires carriage data (R482). -/
  needs : List Byte → Bool

/-- B M O Y F -/
def mBMOYF : CmdModes := ⟨true, true, true, true, true⟩
/-- M O Y F -/
def mMOYF : CmdModes := ⟨false, true, true, true, true⟩
/-- M O F -/
def mMOF : CmdModes := ⟨false, true, true, false, true⟩
/-- M O Y -/
def mMOY : CmdModes := ⟨false, true, true, true, false⟩
/-- M O -/
def mMO : CmdModes := ⟨false, true, true, false, false⟩
/-- O -/
def mO : CmdModes := ⟨false, false, true, false, false⟩
/-- O Y -/
def mOY : CmdModes := ⟨false, false, true, true, false⟩
/-- M -/
def mM : CmdModes := ⟨false, true, false, false, false⟩

/-- A command with a payload of fixed length that needs no carriage. -/
def fixedCmd (roles : List Nat) (modes : CmdModes) (n : Nat) : Cmd :=
  { roles := roles, modes := modes, len := fun _ _ => n, needs := fun _ => false }

/-- A command whose payload's length follows from its count fields. -/
def varCmd (roles : List Nat) (modes : CmdModes) (f : List Byte → Bool → Nat) : Cmd :=
  { roles := roles, modes := modes, len := f, needs := fun _ => false }

/-- Bytes of a record of an object kind (R504); none for an unknown kind. -/
def kindSize : Nat → Option Nat
  | 0x0001 => some 64
  | 0x0002 => some 32
  | 0x0003 => some 16
  | 0x0004 => some 16
  | 0x0010 => some 1
  | 0x0011 => some 32
  | 0x0020 => some 32
  | 0x0021 => some 16
  | 0x0022 => some 32
  | 0x0023 => some 24
  | 0x0030 => some 64
  | 0x0031 => some 32
  | 0x0032 => some 8
  | 0x0040 => some 160
  | 0x0050 => some 64
  | 0x0051 => some 16
  | 0x0060 => some 32
  | 0x00F0 => some 32
  | _ => none

/-- Groups 0x01 to 0x03 (R499, R502). -/
def catalogueA : Nat → Option Cmd
  | 0x0101 => some (fixedCmd [] mBMOYF 0)
  | 0x0102 => some (fixedCmd [] mBMOYF 0)
  | 0x0103 => some (fixedCmd [1] mMOYF 0)
  | 0x0201 => some (fixedCmd [3] mMOF 72)
  | 0x0202 => some (fixedCmd [] mBMOYF 0)
  | 0x0203 => some (fixedCmd [3] mMOF 72)
  | 0x0301 => some (fixedCmd [3] mMO 0)
  | 0x0302 => some (varCmd [3] mMO fun p c =>
      if c || bit (fld16 p 2) 0 then 16 else max 16 p.length)
  | 0x0303 => some (fixedCmd [1] mMO 16)
  | 0x0304 => some (fixedCmd [3] mMO 76)
  | 0x0305 => some (fixedCmd [3, 5] mMO 4)
  | 0x0306 => some (varCmd [3] mMO fun p _ => 4 + 16 * fld16 p 2)
  | 0x0307 => some (fixedCmd [3] mMO 4)
  | _ => none

/-- Groups 0x04 and 0x05 (R508). -/
def catalogueB : Nat → Option Cmd
  | 0x0401 => some (varCmd [3] mMO fun p c => if c then 8 else 8 + fld32 p 4)
  | 0x0402 => some (fixedCmd [3] mMO 0)
  | 0x0403 => some (fixedCmd [3] mO 84)
  | 0x0404 => some (fixedCmd [3] mO 72)
  | 0x0405 => some (fixedCmd [3] mO 4)
  | 0x0406 => some (fixedCmd [3] mO 4)
  | 0x0407 => some (fixedCmd [3] mO 4)
  | 0x0408 => some (fixedCmd [3] mO 4)
  | 0x0501 => some (varCmd [1] mMOY fun p _ => 4 + 4 * fld16 p 0)
  | 0x0502 => some (varCmd [2] mO fun p _ => 4 + 24 * fld16 p 0)
  | 0x0503 => some (fixedCmd [3] mO 92)
  | 0x0504 => some (fixedCmd [3] mO 76)
  | 0x0505 => some { fixedCmd [1] mMO 16 with needs := fun p => fld8 p 0 == 0 }
  | 0x0506 => some { fixedCmd [1] mMOY 8 with needs := fun p => fld32 p 0 != 0 }
  | _ => none

/-- Groups 0x06 to 0x0B (R513, R516). -/
def catalogueC : Nat → Option Cmd
  | 0x0601 => some { fixedCmd [1] mOY 8 with needs := fun p => bit (fld32 p 4) 0 && fld16 p 2 != 0 }
  | 0x0602 => some (fixedCmd [2] mO 8)
  | 0x0603 => some (fixedCmd [3] mO 4)
  | 0x0701 => some (fixedCmd [1] mMOY 4)
  | 0x0702 => some (fixedCmd [3] mMO 4)
  | 0x0801 => some (fixedCmd [1] mMOY 0)
  | 0x0802 => some (fixedCmd [3] mMO 12)
  | 0x0803 => some (fixedCmd [3] mMO 8)
  | 0x0804 => some (fixedCmd [3] mMO 16)
  | 0x0805 => some (fixedCmd [3] mMO 20)
  | 0x0806 => some (fixedCmd [1] mMO 4)
  | 0x0807 => some (varCmd [3] mMO fun p _ => 4 + 4 * fld8 p 1)
  | 0x0901 => some (fixedCmd [1] mMOYF 16)
  | 0x0902 => some (fixedCmd [5, 6] mMOYF 8)
  | 0x0903 => some (fixedCmd [1] mMOYF 0)
  | 0x0A01 => some (fixedCmd [3] mMOY 56)
  | 0x0A02 => some (varCmd [3] mMOY fun p c => if c then 12 else 12 + fld32 p 8)
  | 0x0A03 => some (fixedCmd [3] mMOY 4)
  | 0x0A04 => some (fixedCmd [3, 5] mMOY 8)
  | 0x0A05 => some (fixedCmd [3] mMOY 4)
  | 0x0B01 => some (fixedCmd [2] mO 12)
  | 0x0B02 => some (fixedCmd [1] mO 4)
  | 0x0B03 => some { fixedCmd [3] mO 8 with needs := fun _ => true }
  | 0x0B04 => some (fixedCmd [2] mO 12)
  | _ => none

/-- Groups 0x0C to 0x0E (R521). -/
def catalogueD : Nat → Option Cmd
  | 0x0C01 => some (fixedCmd [1] mMOY 0)
  | 0x0C02 => some (fixedCmd [3, 5] mOY 12)
  | 0x0C03 => some (fixedCmd [3] mO 0)
  | 0x0D01 => some (fixedCmd [] mMOYF 100)
  | 0x0D02 => some (fixedCmd [] mMOYF 0)
  | 0x0D03 => some (fixedCmd [4, 6] mMO 140)
  | 0x0D04 => some (fixedCmd [1] mMOF 12)
  | 0x0D05 => some (fixedCmd [4, 5] mMO 56)
  | 0x0D06 => some (fixedCmd [5, 6] mMO 4)
  | 0x0D07 => some (fixedCmd [5] mMO 4)
  | 0x0E01 => some (fixedCmd [3] mMOYF 8)
  | 0x0E02 => some (varCmd [6] mM fun p _ => 8 + 4 * fld16 p 2)
  | 0x0E03 => some (fixedCmd [6] mM 4)
  | 0x0E04 => some (fixedCmd [3] mMO 36)
  | 0x0E05 => some (varCmd [3] mO fun p _ => if fld8 p 0 = 5 then 12 + fld32 p 8 else 12)
  | _ => none

/-- The catalogue. -/
def catalogue (code : Nat) : Option Cmd :=
  ((catalogueA code).or (catalogueB code)).or ((catalogueC code).or (catalogueD code))

/-- Whether the present mode accepts a command (R448, R493). -/
def modeAccepts (c : CmdModes) (s : State) : Bool :=
  match s.modes.mode with
  | .plinth => false
  | .boot => c.b
  | .maintenance => c.m
  | .stop | .run | .hold => c.o
  | .standby => c.y
  | .safe => c.f

/-- The commands that a DECOMMISSIONED module accepts (R496). -/
def decommissionedOk (code : Nat) : Bool :=
  [0x0101, 0x0102, 0x0103, 0x0202, 0x0303, 0x0801, 0x0901, 0x0903, 0x0C01, 0x0D01, 0x0D02, 0x0D04, 0x0E01].contains code

/-- A panel command of zero width or height completes at once whatever its carriage fields hold (R408, R520). -/
def emptyPanel (code : Nat) (p : List Byte) : Bool :=
  (code == 0x0B01 || code == 0x0B04) && (fld16 p 8 == 0 || fld16 p 10 == 0)

/-- The first carriage of a range that is not DEVICE_OWNED and unclaimed; none where all are (R482). -/
def badCarriage (m : MbxId) (s : State) : Nat → Nat → Option Nat
  | _, 0 => none
  | k, n + 1 => if carriageFlag m k s = 2 ∧ claimed m k s = false then badCarriage m s (k + 1) n else some k

/-- The carriage check of R482: a failing index, or 0xFFFFFFFF for the range or for none where data is required. -/
def carriageCheck (m : MbxId) (first count : Nat) (needs : Bool) (s : State) : Option Nat :=
  if count = 0 then (if needs then some 0xFFFFFFFF else none)
  else if carriageCount m < first + count then some 0xFFFFFFFF
  else badCarriage m s first count

/-- The length check of R478 and R493, with the limit or the expected length. -/
def lengthCheck (c : Cmd) (len : Nat) (p : List Byte) (named : Bool) : Option Nat :=
  if 4064 < len then some 4064
  else if len = 0 then none
  else if len = c.len p named then none else some (c.len p named)

/-- The checks of R478, in their order, and R496 after them: the refusing status and its DETAIL; none when admitted. -/
def admission (m : MbxId) (copy : List Byte) (s : State) : Option (Nat × Nat) :=
  let code := fld16 copy 0
  let len := fld32 copy 12
  let first := fld16 copy 16
  let count := fld16 copy 18
  let p := copy.drop 32
  if fldW copy 8 ≠ s.host.epoch then some (stDiscarded, s.host.epoch.toNat)
  else
    match catalogue code with
    | none => some (stInconsistent, 1)
    | some c =>
      match lengthCheck c len (p.take len) (count != 0) with
      | some lim => some (stBadLength, lim)
      | none =>
        if len = 0 ∧ c.len [] (count != 0) ≠ 0 then some (stLengthZero, 0)
        else
          match (if emptyPanel code p then none else carriageCheck m first count (c.needs p) s) with
          | some k => some (stBadCarriage, k)
          | none =>
            if modeAccepts c.modes s = false then some (stWrongMode, modeCode s.modes.mode)
            else
              let role := (sessionOf (mbxSession m) s).role.toNat
              if c.roles ≠ [] ∧ c.roles.all (fun r => !roleIncludes role r) then some (stAuthRequired, c.roles.headD 0)
              else if s.modes.life = .decommissioned ∧ decommissionedOk code = false then some (stRefusedState, 0)
              else none

/-- The demand for the clock that a command makes in execution: a block of a program or firmware image, or a command of R497, those that
check a password block among them (R17, R497). -/
def demandOf (code : Nat) (p : List Byte) : Option ClkDemand :=
  let password (off : Nat) : Option ClkDemand := if fld8 p off = 0 then none else some .longCommand
  match code with
  | 0x0401 => some .programBlock
  | 0x0A02 => some .firmwareBlock
  | 0x0304 | 0x0402 | 0x0702 | 0x0A03 | 0x0D01 | 0x0D03 | 0x0D05 | 0x0E03 => some .longCommand
  | 0x0D06 => if bit (fld8 p 1) 0 then some .longCommand else none
  | 0x0201 | 0x0203 | 0x0404 => password 4
  | 0x0403 => password 16
  | 0x0503 => password 24
  | 0x0504 => password 8
  | _ => none

/-- Admission of a submitted command: it runs with its carriages claimed, or its refusal is delivered (R17, R474, R478, R482). -/
def admitCommand (m : MbxId) (s : State) : State :=
  match mailboxOf m s with
  | none => s
  | some b =>
    if b.state ≠ 1 then s
    else
      match admission m b.copy s with
      | some (x, d) => deliver m (responseBytes b.copy (stDetail x d) s.host.epoch 0) (bit (fld16 b.copy 2) 0) s
      | none =>
        let n := if emptyPanel (fld16 b.copy 0) (b.copy.drop 32) then 0 else fld16 b.copy 18
        let t := mailboxMod m (fun b => { b with state := 2, first := if n = 0 then 0 else fld16 b.copy 16, count := n }) s
        match demandOf (fld16 b.copy 0) (b.copy.drop 32) with
        | some k => demandClock k t
        | none => t

/-- The commands submitted since a demotion began are admitted once it has ended (R474, R484). -/
def admitWaiting (s : State) : State := allMailboxes.foldl (fun t m => admitCommand m t) s

/-- A command arrives in a mailbox: the device copies it, and admits it unless a demotion has begun (R474, R484). -/
def submit (m : MbxId) (copy : List Byte) (s : State) : State :=
  let t := sessionMod (mbxSession m) (fun x => { x with lastCommand := now s })
    (mailboxMod m (fun b => { b with state := 1, copy := copy }) s)
  if s.pair.st = .demoting then t else admitCommand m t

end Sys2Proof.Machine
end

