-- ==== Sys2Proof/Machine/LoopLaw.lean ====
section
/-! DEFINITION. One sample of a loop: its inputs (R223), the law in binary64 (R219 to R222, R228), the repetitive part (R235 to
R237), and the checks of a loop record (R217, R218, R229, R241). -/

namespace Sys2Proof.Machine

/-- A loop. -/
def loopAt (n : Nat) (s : State) : Loop := tabGet loopReset s.loop.loops n

/-- Changes a loop. -/
def loopMod (n : Nat) (f : Loop → Loop) (s : State) : State :=
  { s with loop := { s.loop with loops := tabMod loopReset s.loop.loops n f } }

/-! ## Fields of the record (R217) -/

/-- FLAGS of a loop record. -/
def loopFlag (r : List Byte) (i : Nat) : Bool := bit (fld16 r 2) i
/-- ENABLED. -/
def loopEnabled (r : List Byte) : Bool := r != [] && loopFlag r 0
/-- PERIOD_NS. -/
def loopPeriod (r : List Byte) : Nat := fld64 r 24
/-- REP_CELLS. -/
def repCells (r : List Byte) : Nat := fld16 r 100
/-- The repetitive part is off (R235). -/
def repOff (r : List Byte) : Bool := repCells r == 0 || (fld8 r 102 == 0 && fld64 r 104 == 0)
/-- The code of a loop mode (R225). -/
def loopModeCode : LoopMode → Nat
  | .off => 0
  | .manual => 1
  | .auto => 2
  | .fallback => 3
/-- The loop mode of a code. -/
def loopModeOf : Nat → Option LoopMode
  | 0 => some .off
  | 1 => some .manual
  | 2 => some .auto
  | 3 => some .fallback
  | _ => none

/-- The output channel of a loop; none for a signal output. -/
def outChannel (r : List Byte) : Option Nat := if fld8 r 7 = 0 then some (fld32 r 20) else none

/-! ## Inputs (R223) -/

/-- A signal as a loop reads it at time `t`: the version that 150 µs earlier held, with the quality of R171. -/
def loopSignal (h : Word) (t : Nat) (s : State) : F64 × Nat :=
  let g := handleSig h
  let r := readRec g s
  let old := (r.past.filter fun x => decide (t < x.1 + 150 * us)).getLast?
  match old with
  | some x =>
    let w := if sigOwn g s then capStatus x.2.2 else capStatus (stationAdjust (stationAt (sigStation g) s) r.gen x.2.2)
    (valueF64 r.typ x.2.1, quality w)
  | none => (valueF64 r.typ r.value, quality r.status)

/-- A value a program committed at least 10 µs before `t` (R223). -/
def progAt (xs : List (F64 × Nat)) (t : Nat) : Option (F64 × Nat) := xs.find? fun x => decide (x.2 + 10 * us ≤ t)

/-- PV and its quality. -/
def loopPv (r : List Byte) (t : Nat) (s : State) : F64 × Nat :=
  if fld8 r 4 = 0 then
    let u := ucAt (fld32 r 8) s
    match u.recent.find? fun x => decide (x.1 ≤ t) with
    | some x => (x.2.1, if u.st = .running then quality x.2.2 else 0)
    | none => (u.eng, 0)
  else loopSignal (fldW r 8) t s

/-- SP: its value and quality; a program's value is GOOD, 0 before it writes one. -/
def loopSp (x : Loop) (t : Nat) (s : State) : F64 × Nat :=
  match fld8 x.rcd 5 with
  | 0 => (match progAt x.progSp t with
    | some p => (p.1, 3)
    | none => (0, 3))
  | 1 => loopSignal (fldW x.rcd 12) t s
  | _ =>
    let o := loopAt (fld32 x.rcd 12) s
    (o.work.u, 3)

/-- FF: its value and quality. -/
def loopFf (r : List Byte) (t : Nat) (s : State) : F64 × Nat :=
  if fld8 r 6 = 0 then (0, 3) else loopSignal (fldW r 16) t s

/-- Where the index lies at `t`, and whether angle indexing is valid (R235). -/
def repIndex (r : List Byte) (t : Nat) (s : State) : Nat × Bool :=
  let cells := repCells r
  let ch := fld8 r 103
  let c := vget counterReset s.counter ch
  let d := digAt ch s
  let cpr := fld16 r 116
  let m := cells / max 1 cpr
  let rate (x : F64) : Bool := fle (f32At r 132) x
  match fld8 r 102 with
  | 0 => ((t % max 1 (fld64 r 104)) * cells / max 1 (fld64 r 104), true)
  | 1 =>
    let counts := max 1 (fld32 r 112)
    let v := fofRatio ((recentCounts c t).natAbs * 1000 : Nat) counts
    ((c.n.toNat % max 1 m) * cpr + c.c * cpr / counts, d.st == .running && !d.encFault && c.indexed && rate v)
  | _ =>
    let part := if c.period = 0 then 0 else
      (if c.period ≤ t - c.tp then cpr - 1 else (t - c.tp) * cpr / c.period)
    ((c.n.toNat % max 1 m) * cpr + part,
      d.st == .running && !d.encFault && decide (2 ≤ c.pulses) && decide (t ≤ c.tp + 2 * c.period) &&
        rate (if c.period = 0 then 0 else fofRatio sec c.period))

/-! ## The law (R219 to R222, R228, R235, R236) -/

/-- h in seconds (R219). -/
def loopH (r : List Byte) : F64 := fofRatio (loopPeriod r) sec

/-- A pool cell as binary64. -/
def poolCell (r : List Byte) (j : Nat) (s : State) : F64 := widen (tabGet 0 s.loop.pool (fld32 r 96 + j))

/-- P, D and F of the law, with the new D and ED_PREV (R219). -/
def loopTerms (r : List Byte) (w : LoopWork) (yf rEff ff : F64) : F64 × F64 × F64 × F64 :=
  let kp := f32At r 40
  let td := f32At r 48
  let n := f32At r 52
  let p := fmul kp (fsub (fmul (f32At r 56) rEff) yf)
  let a := if feq td 0 then 0 else fdiv td (fadd td (fmul n (loopH r)))
  let ed := fsub (fmul (f32At r 60) rEff) yf
  let d := fadd (fmul a w.d) (fmul (fmul (fmul kp n) a) (fsub ed w.edPrev))
  let f := if fld8 r 6 = 0 then f32At r 72 else fadd (fmul (f32At r 68) ff) (f32At r 72)
  (p, d, f, ed)

/-- The ramp of R228: the new R_EFF and whether it still ramps. -/
def loopRamp (r : List Byte) (w : LoopWork) (target : F64) : F64 × Bool :=
  let rate := f32At r 88
  if w.ramping = false ∨ feq rate 0 then (target, false)
  else
    let step := fmul rate (loopH r)
    let gap := fsub target w.rEff
    if fle (fabs gap) step then (target, false)
    else ((if flt gap 0 then fsub w.rEff step else fadd w.rEff step), true)

/-- The output within OUT_LO, OUT_HI and OUT_RATE, and which limit acted (R219). -/
def loopLimit (r : List Byte) (u0 v : F64) : F64 × Bool × Bool :=
  let u1 := fclamp (f32At r 76) (f32At r 80) v
  let rate := f32At r 84
  if flt 0 rate then
    let d := fmul rate (loopH r)
    let u2 := fclamp (fsub u0 d) (fadd u0 d) u1
    (u2, !feq u1 v, !feq u2 u1)
  else (u1, !feq u1 v, false)

/-- One sample of loop `n` at tick `t`: the working state it leads to.  `old` is the record before a tuning that applies now, which
the integral absorbs (R221); `cleared` says that the repetitive memory was cleared at this tick (R236). -/
def loopCompute (n : Nat) (old : List Byte) (cleared : Bool) (t : Nat) (s : State) : LoopWork :=
  let x := loopAt n s
  let r := x.rcd
  let w := x.work
  let h := loopH r
  let pv := loopPv r t s
  let sp := loopSp x t s
  let ff := loopFf r t s
  let spLast := if sp.2 = 0 then w.spLast else sp.1
  let ffLast := if ff.2 = 0 then w.ffLast else ff.1
  let tf := f32At r 64
  let yf := if feq tf 0 ∨ w.started = false then pv.1
    else fadd w.yf (fmul (fdiv h (fadd tf h)) (fsub pv.1 w.yf))
  let auto := x.mode == .auto
  let ramp := if auto then loopRamp r { w with rEff := if w.started then w.rEff else yf } spLast else (yf, false)
  let a := loopTerms r w yf ramp.1 ffLast
  let b := loopTerms old w yf ramp.1 ffLast
  -- R235
  let ix := if repOff r then (0xFFFF, true) else repIndex r t s
  let frozen := !repOff r && !ix.2
  let active := !repOff r && ix.2
  let cells := max 1 (repCells r)
  let rp := if active then poolCell r ((ix.1 + fld16 r 118) % cells) s else 0
  -- R221, R236
  let vOld := fadd (fadd b.1 b.2.1) b.2.2.1
  let vNew := fadd (fadd a.1 a.2.1) a.2.2.1
  let i0 := if auto && old != r then fadd w.i (fsub vOld vNew) else w.i
  let i1 := if active != w.repActive || cleared then fsub (fadd i0 w.rp) rp else i0
  let paused := (match outChannel r with
    | some ch => (ucAt ch s).compLow
    | none => false) || pv.2 == 1
  let mode := if x.mode = .manual then x.manual
    else if loopFlag r 3 then f32At r 92 else w.u
  let v := if auto then fadd (fadd (fadd (fadd a.1 i1) a.2.1) a.2.2.1) rp else mode
  let lim := loopLimit r w.u v
  let u := lim.1
  let ti := f32At r 44
  let i2 :=
    if auto then
      (if flt 0 ti ∧ paused = false then
        fadd (fadd i1 (fmul (fdiv (fmul (f32At r 40) h) ti) (fsub ramp.1 yf))) (fmul (fdiv h ti) (fsub u v))
      else i1)
    else fsub (fsub (fsub (fsub u a.1) a.2.1) a.2.2.1) rp
  let learn := active && auto && !ramp.2 && !lim.2.1 && !lim.2.2 && pv.2 != 1
  let j := ix.1
  let q := f32At r 124
  let sm := f32At r 128
  let e := fsub ramp.1 yf
  let mem := fadd (fmul q (fadd (fadd (fmul (fsub (fnum 1) (fmul (fnum 2) sm)) (poolCell r j s))
      (fmul sm (poolCell r ((j + cells - 1) % cells) s))) (fmul sm (poolCell r ((j + 1) % cells) s))))
    (fmul (f32At r 120) e)
  let skip := active && w.cell != 0xFFFF && (let d := (j + cells - w.cell % cells) % cells; decide (1 < d) && decide (d < cells - 1))
  { w with
    yf := yf, i := i2, d := a.2.1, edPrev := a.2.2.2, rEff := ramp.1, u := u, ramping := auto && ramp.2
    outLimited := lim.2.1, rateLimited := lim.2.2, repActive := active, repFrozen := frozen, pvUncertain := pv.2 == 1
    spHeld := sp.2 == 0, ffHeld := ff.2 == 0, paused := paused, spLast := spLast, ffLast := ffLast, target := spLast
    rp := rp, started := true, cell := if repOff r then 0xFFFF else j, skips := w.skips + b2n skip
    learned := if learn then some (j, narrow mem) else none, quality := pv.2 }

/-! ## Checks of a record (R217, R218, R229, R241) -/

/-- A REAL field is finite. -/
def f32Finite (x : F32) : Bool := match fp32 x with
  | .fin .. => true
  | _ => false

/-- A REAL field lies within limits. -/
def f32Within (x : F32) (lo hi : Int) : Bool :=
  f32Finite x && fpLe (fpOfInt false lo 0) (fp32 x) && fpLe (fp32 x) (fpOfInt false hi 0)

/-- The fields that `TUNE_WRITE` may name: offset, size and group, 3 for an ungrouped one (R217, R238). -/
def tuneFields : List (Nat × Nat × Nat) :=
  [(40, 4, 3), (44, 4, 3), (48, 4, 3), (52, 4, 3), (56, 4, 3), (60, 4, 3), (64, 4, 3), (68, 4, 3), (72, 4, 3), (76, 4, 0),
   (80, 4, 0), (84, 4, 3), (88, 4, 3), (92, 4, 3), (96, 4, 1), (100, 2, 1), (102, 1, 2), (103, 1, 2), (104, 8, 2),
   (112, 4, 2), (116, 2, 2), (118, 2, 3), (120, 4, 3), (124, 4, 3), (128, 4, 3), (132, 4, 3), (136, 1, 3)]

/-- A tunable or grouped field of a record lies within its range (R217). -/
def loopFieldOk (r : List Byte) (off : Nat) : Bool :=
  match off with
  | 52 => f32Within (fldW r 52) 2 100
  | 56 | 60 | 124 => f32Within (fldW r off) 0 1
  | 120 | 132 => f32Finite (fldW r off) && fpLe (.fin false 0 0) (fp32 (fldW r off))
  | 128 => f32Finite (fldW r 128) && fpLe (.fin false 0 0) (fp32 (fldW r 128)) && fpLe (fp32 (fldW r 128)) (.fin false 1 (-2))
  | 96 => decide (fld32 r 96 ≤ 262143)
  | 100 => decide (repCells r ≤ 4096)
  | 102 => decide (fld8 r 102 ≤ 2)
  | 103 => decide (fld8 r 103 ≤ 3)
  | 104 => true
  | 112 => fld8 r 102 != 1 || (decide (1 ≤ fld32 r 112) && decide (fld32 r 112 ≤ 65536))
  | 116 => fld8 r 102 == 0 || (decide (1 ≤ fld16 r 116) && decide (fld16 r 116 ≤ 4096))
  | 118 => decide (fld16 r 118 ≤ 4095)
  | 136 => decide (1 ≤ fld8 r 136) && decide (fld8 r 136 ≤ 16)
  | _ => f32Finite (fldW r off)

/-- The cell ranges of two records overlap (R229, R241). -/
def cellsOverlap (a b : List Byte) : Bool :=
  repCells a != 0 && repCells b != 0 && decide (fld32 a 96 < fld32 b 96 + repCells b) &&
    decide (fld32 b 96 < fld32 a 96 + repCells a)

/-- The checks that a set of grouped fields must pass (R241), `others` being the ranges of other loops in force or scheduled. -/
def groupOk (r : List Byte) (others : List (List Byte)) (dig : Nat → List Byte) : Bool :=
  let m := repCells r / max 1 (fld16 r 116)
  flt (f32At r 76) (f32At r 80) && decide (fld32 r 96 + repCells r ≤ 262144) && !others.any (cellsOverlap r) &&
  [76, 80, 96, 100, 102, 103, 112, 116].all (loopFieldOk r) &&
  (if fld8 r 102 = 0 then fld64 r 104 == 0 || decide (2 * loopPeriod r ≤ fld64 r 104)
   else repCells r == 0 || (decide (1 ≤ m) && decide (m ≤ 4) && repCells r == fld16 r 116 * m &&
     (if fld8 r 102 = 1 then fld8 (dig (fld8 r 103)) 2 == 2 else decide (2 ≤ fld8 (dig (fld8 r 103)) 2))))

/-- Ranges of a loop record alone: the offset of the first field that fails (R217, R218). -/
def loopRangeFail (n : Nat) (r : List Byte) : Option Nat :=
  let p := loopPeriod r
  if fld16 r 0 ≠ n then some 0
  else if 1 < fld8 r 4 then some 4
  else if 2 < fld8 r 5 then some 5
  else if 1 < fld8 r 6 then some 6
  else if 1 < fld8 r 7 then some 7
  else if fld8 r 4 = 0 ∧ 15 < fld32 r 8 then some 8
  else if fld8 r 7 = 0 ∧ 15 < fld32 r 20 then some 20
  else if p < 50000 ∨ 1000000000 < p ∨ p % 10000 ≠ 0 then some 24
  else if p < fld64 r 32 + 10000 ∨ fld64 r 32 % 10000 ≠ 0 then some 32
  else ((tuneFields.map (·.1)).filter (· != 104)).find? fun o => !loopFieldOk r o

/-- Loop `a` is at or above the priority of loop `b` (R229). -/
def loopAbove (a b : Nat × List Byte) : Bool :=
  decide (loopPeriod a.2 < loopPeriod b.2) || (loopPeriod a.2 == loopPeriod b.2 && decide (a.1 ≤ b.1))

/-- D_max of a loop among the enabled ones, in ns (R229). -/
def loopDmax (ls : List (Nat × List Byte)) (x : Nat × List Byte) : Nat :=
  2000 + 12000 * (((ls.filter fun y => loopEnabled y.2 && loopAbove y x).length + 31) / 32)

/-- Δ of a loop, in ns (R229). -/
def loopDelta (r : List Byte) : Nat := min (loopPeriod r / 2) (200 * us)

/-- The load of a loop set, samples per second (R229). -/
def loopLoad (ls : List (Nat × List Byte)) : Nat :=
  ((ls.filter fun y => loopEnabled y.2).map fun y => sec / max 1 (loopPeriod y.2)).sum

/-- The tests of R229. -/
def loopBudgetOk (ls : List (Nat × List Byte)) : Bool :=
  let en := ls.filter fun y => loopEnabled y.2
  decide ((en.map fun y => (sec : Rat) / (loopPeriod y.2 : Rat)).sum ≤ 2000000) && decide ((en.map fun y => repCells y.2).sum ≤ 262144) &&
  en.all (fun x => en.all fun y => x.1 == y.1 || !cellsOverlap x.2 y.2) &&
  en.all (fun x => decide (loopDmax ls x ≤ loopDelta x.2))

end Sys2Proof.Machine
end

