-- ==== Sys2Proof/Machine/Lanes.lean ====
section
/-! DEFINITION. The lanes and the Coupler: exclusion, SOLE and escalation (R57 to R62), lane states and resynchronisation
(R63 to R69), lane configurations and hand-overs (R70 to R76), and the debugger (R77 to R80). -/

namespace Sys2Proof.Machine

/-- The code of a lane state (R63). -/
def laneCode : LaneState → Nat
  | .off => 0x0
  | .inVote => 0x1
  | .excluded => 0x2
  | .resync => 0x3
  | .rejoinPending => 0x4
  | .spare => 0x5
  | .withdrawn => 0x6
  | .independent => 0x7
  | .sole => 0x8
  | .unusable => 0xF

/-- The code of a lane configuration (R81). -/
def configCode : LaneConfig → Nat
  | .triplex => 0
  | .duplex => 1
  | .split => 2

/-- The configuration of a code. -/
def configOf : Nat → Option LaneConfig
  | 0 => some .triplex
  | 1 => some .duplex
  | 2 => some .split
  | _ => none

/-- A lane. -/
def laneAt (l : Lane) (s : State) : LaneUnit := vget laneUnitReset s.cpl.lane (laneNo l)

/-- Changes a lane. -/
def laneMod (l : Lane) (f : LaneUnit → LaneUnit) (s : State) : State :=
  { s with cpl := { s.cpl with lane := vmod s.cpl.lane (laneNo l) f } }

/-- The lanes in a state, lowest-lettered first. -/
def lanesOf (x : LaneState) (s : State) : List Lane := lanes.filter fun l => (laneAt l s).st == x

/-- A power rail follows a lane: an excluded lane is unpowered until its hold is over (R19, R65). -/
def lanePower (l : Lane) (x : LanePower) (s : State) : State :=
  { s with power := { s.power with lane := vset s.power.lane (laneNo l) x } }

/-- The source lane of a resynchronisation (R66). -/
def sourceLane (s : State) : Option Lane :=
  lanes.find? fun l =>
    match (laneAt l s).st with
    | .inVote | .sole => true
    | .independent => s.cpl.config == .split || (l == .a)
    | _ => false

/-- The lane that runs task `t` in split: the assigned one, or the lowest-lettered INDEPENDENT one (R73).  While split begins, the
lanes of the vote and the spare take up their tasks too (R75). -/
def splitLane (t : Nat) (s : State) : Option Lane :=
  let able (l : Lane) : Bool :=
    match (laneAt l s).st with
    | .independent | .inVote => true
    | .spare => s.cpl.handover
    | _ => false
  match laneOf (tabGet 0 s.cfg.assign t) with
  | some l => if able l then some l else lanes.find? able
  | none => lanes.find? able

/-- The spare is usable: the lane of the spare position is in SPARE (R72). -/
def spareUsable (s : State) : Option Lane :=
  match s.cpl.config, s.cpl.spare with
  | .duplex, some l => if (laneAt l s).st = .spare then some l else none
  | _, _ => none

/-- Whether lane `l` takes part in task `t` when it is released now (R69 to R75). -/
def joins (t : Nat) (l : Lane) (s : State) : Bool :=
  let st := (laneAt l s).st
  match s.cpl.config with
  | .split => splitLane t s == some l
  | .triplex => st == .inVote || st == .sole || st == .rejoinPending || (st == .independent && l == .a)
  | .duplex =>
    match background t s, spareUsable s with
    | true, some k => k == l
    | _, _ =>
      if s.cpl.spare == some l then
        st == .inVote && lanes.any (fun k => k != l && ((laneAt k s).st == .resync || (laneAt k s).st == .rejoinPending))
      else st == .inVote || st == .sole || st == .rejoinPending || (st == .independent && l == .a)

/-- The members of task `t` when it is released now. -/
def membership (t : Nat) (s : State) : Vector Bool 3 :=
  (Vector.replicate 3 false).set 0 (joins t .a s) |>.set 1 (joins t .b s) |>.set 2 (joins t .c s)

/-- The member lanes of task `t`. -/
def membersOf (t : Nat) (s : State) : List Lane :=
  lanes.filter fun l => (taskAt t s).elim false fun k => vget false k.member (laneNo l)

/-- The quorum of a task (R43): two in triplex for a control task, every voting lane otherwise; one where one lane runs it.  The
configuration is that under which the cycle was released (R74). -/
def quorum (t : Nat) (s : State) : Nat :=
  let n := (membersOf t s).length
  if n ≤ 1 then 1
  else if (taskAt t s).elim s.cpl.config (·.config) = .triplex ∧ taskSafety t s = false then 2 else n

/-! ## Resynchronisation (R64 to R69) -/

/-- C: the bytes of a copy: the program's instance data, the 320 MiB signal image, and the control and loop state, for which the
model takes the 16 MiB they are at most (R68; log 154). -/
def copyBytes (s : State) : Nat := unle (memReadN (activeImage s) 0x40 8) + 352321536

/-- Bytes copied so far: 800 MB/s since the copy started, less what the commit stream took of it (R67, R68). -/
def bytesCopied (s : State) : Nat := (now s - s.cpl.copyStart) * 4 / 5 - s.cpl.stream

/-- `PROGRESS`: the bytes copied in per mille of C while the copy runs, and the point reached after it (R83). -/
def copyProgress (s : State) : Nat :=
  if s.cpl.active && !s.cpl.suspended then min 1000 (bytesCopied s * 1000 / copyBytes s) else s.cpl.progress.toNat

/-- A copy ends with its progress at `p` per mille (R83). -/
def endCopy (p : Nat) (s : State) : State :=
  { s with cpl := { s.cpl with active := false, suspended := false, progress := BitVec.ofNat 10 p } }

/-- The commit stream of a resynchronisation forwards the bytes of a commit (R67, R68). -/
def commitStream (n : Nat) (s : State) : State :=
  if s.cpl.active then { s with cpl := { s.cpl with stream := s.cpl.stream + n } } else s

/-- Lane `l` enters RESYNC: a copy starts from the source lane (R66, R83), and both lanes are ACTIVE (R24); a catch-up of the pair waits
(R443). -/
def enterResync (l : Lane) (s : State) : State :=
  match sourceLane s with
  | none => s
  | some src =>
    let t := lanePower src .active (lanePower l .active (laneMod l (fun x => { x with st := .resync }) s))
    let loops := t.loop.loops.map fun p => (p.1, { p.2 with copied := vset p.2.copied (laneNo l) false })
    { t with
      cpl := { t.cpl with
        target := l, source := src, active := true, suspended := false, progress := 0, copyStart := now t, stream := 0 }
      loop := { t.loop with loops := loops } }

/-- The lane that enters RESYNC next: a lane left by the debugger, a former spare, a lane left by split, or the excluded lane that
was cleared first (R64, R65, R75). -/
def nextResync (s : State) : Option Lane :=
  let left := lanes.find? fun l => (laneAt l s).st == .withdrawn && s.cpl.attach.isNone
  let former := lanes.find? fun l => (laneAt l s).st == .spare && s.cpl.spare != some l && s.cpl.config != .split
  let split := lanes.find? fun l => (laneAt l s).st == .independent && s.cpl.config != .split && !s.cpl.handover
  let order (l : Lane) : Option Nat :=
    match (laneAt l s).st, (laneAt l s).bring with
    | .excluded, .cleared k => some k
    | _, _ => none
  let waiting := lanes.filter fun l => (order l).isSome
  let first := waiting.find? fun l => waiting.all fun k => decide ((order l).getD 0 ≤ (order k).getD 0)
  left.orElse fun _ => former.orElse fun _ => split.orElse fun _ => first

/-- Starts the next resynchronisation: one lane at a time, and only from a source lane (R65). -/
def tryResync (s : State) : State :=
  if s.cpl.active then s
  else
    match nextResync s with
    | some l => enterResync l s
    | none => s

/-- Whether a task has releases: it is RUNNING or STEPPING. -/
def released (t : Nat) (s : State) : Bool :=
  match taskAt t s with
  | some k => k.defn.isSome && (k.st == .running || k.st == .stepping)
  | none => false

/-- A REJOIN_PENDING lane that is in the vote of every task is IN_VOTE; a SOLE lane it joins is IN_VOTE again, and a lane whose
place the other took in duplex becomes the spare (R64, R67). -/
def rejoinCheck (s : State) : State :=
  let joined (l : Lane) : Bool :=
    (laneAt l s).st == .rejoinPending && s.cpl.config != .split &&
    (taskNos.filter fun t => released t s).all fun t => (membersOf t s).contains l || joins t l s == false
  let ls := lanes.filter joined
  if ls = [] then s
  else
    let t := ls.foldl (fun u l => laneMod l (fun x => { x with st := .inVote }) u) s
    let u := (lanesOf .sole t).foldl (fun u l => laneMod l (fun x => { x with st := .inVote }) u) t
    let v := match u.cpl.config, u.cpl.spare with
      | .duplex, some l => if (laneAt l u).st = .inVote then laneMod l (fun x => { x with st := .spare }) u else u
      | _, _ => u
    tryResync (capabilityChanged v)

/-! ## Exclusion (R57 to R62) -/

/-- The exclusions of a lane within 24 h of module time (R61); those whose time lies ahead, from before a start that set module time back,
all count (log 168, DESIGN CHOICE). -/
def recentExclusions (x : LaneUnit) (t : Nat) : List Nat := x.exclusions.filter fun e => decide (t < e + 86400 * sec)

/-- With no source lane left, every excluded lane stays unpowered until the next start (R65). -/
def lanesStranded (s : State) : State :=
  if (sourceLane s).isSome then s
  else
    (lanesOf .excluded s).foldl (fun u l => lanePower l .off (laneMod l (fun x => { x with bring := .held }) u)) s

/-- A cycle that no lane executes any longer is discarded: the task goes on at its next release, or at its next pass (R52, R72, R73). -/
def discardOrphans (s : State) : State :=
  taskNos.foldl (fun u t =>
    if (taskAt t u).elim false (fun k => k.phase != .sleep && !k.member.toList.any id) then discardCycle t u else u) s

/-- A lane enters EXCLUDED, or UNUSABLE at its third exclusion within 24 h; a WARNING records it (R58, R61, R64). -/
def dropLane (l : Lane) (s : State) : State :=
  let x := laneAt l s
  match x.st with
  | .off | .excluded | .unusable => s
  | old =>
    let ex := now s :: recentExclusions x (now s)
    let bad := decide (3 ≤ ex.length)
    let s1 := laneMod l (fun x =>
      { x with
        st := if bad then .unusable else .excluded
        exclusions := ex, bistPassed := false, bring := .held, since := now s }) s
    let s2 := taskNos.foldl (fun u t => taskMod t (fun k =>
      { k with
        member := vset k.member (laneNo l) false
        absent1 := k.absent1.filter (· != l), absent2 := k.absent2.filter (· != l), absent3 := k.absent3.filter (· != l) }) u) s1
    let s3 := if old = .resync then endCopy (copyProgress s) s2 else s2
    let s4 := if old = .withdrawn then detachDebugger s3 else s3
    let s5 := if bad then setHealth (laneNo l) 3 3 s4 else s4
    record sevWarning (0x0200 + (if bad then 0xF else 0x2)) (srcUnit (laneNo l)) [] (lanesStranded (discardOrphans (lanePower l .off s5)))

/-- The lane of the spare position in duplex (R71). -/
def duplexSpare (named : Option Lane) (s : State) : Lane :=
  match (lanesOf .unusable s).head? with
  | some l => l
  | none => named.getD .c

/-- The main lane of a duplex pair with a given spare (R71). -/
def duplexMain (spare : Lane) : Lane := if spare = .a then .b else .a

/-- The lane of the spare position changes, and with it the main lane, the lowest-lettered one of the pair (R71). -/
def setSpare (l : Lane) (s : State) : State := { s with cpl := { s.cpl with spare := some l, main := duplexMain l } }

/-- A hand-over is complete when every task with releases has been released under the new configuration (R74, R75): lanes that
leave the vote become SPARE or INDEPENDENT, and so does the spare of duplex where split begins; at the end of split lane A votes and
the others rejoin, or are resynchronised where the whole-state signatures differ, which is left free. R64 lists no move from SPARE to
INDEPENDENT: the model follows R75, by which each lane takes up its tasks and enters INDEPENDENT (log 155, DESIGN CHOICE). -/
def handoverCheck (s : State) : State :=
  if s.cpl.handover = false then s
  else if (taskNos.filter fun t => released t s).all (fun t => (taskAt t s).elim true (·.handed)) = false then s
  else
    let t := { s with cpl := { s.cpl with handover := false } }
    let u :=
      match t.cpl.config, t.cpl.old with
      | .split, _ =>
        (lanes.filter fun l => match (laneAt l t).st with
          | .inVote | .rejoinPending | .spare => true
          | _ => false).foldl (fun u l => laneMod l (fun x => { x with st := .independent }) u) t
      | _, .split =>
        let equal := (freeValue t).getLsbD 0
        let v := laneMod .a (fun x => if x.st = .independent then { x with st := .inVote } else x) (nextFree t)
        if equal then
          let w := [Lane.b, Lane.c].foldl (fun u l =>
            laneMod l (fun x => if x.st = .independent then { x with st := .rejoinPending, since := now s } else x) u) v
          match w.cpl.config, w.cpl.spare with
          | .duplex, some l => laneMod l (fun x => if x.st = .rejoinPending then { x with st := .spare } else x) w
          | _, _ => w
        else v
      | .duplex, _ =>
        match t.cpl.spare with
        | some l => laneMod l (fun x =>
            if x.st = .inVote || x.st = .rejoinPending then { x with st := .spare } else x) t
        | none => t
      | .triplex, _ => t
    rejoinCheck (tryResync (capabilityChanged u))

/-- The hand-over point to a configuration: AUDIT; Background passes are discarded and count as released (R74, R75); an exchange
before its cast point is abandoned (R194). -/
def beginHandover (c : LaneConfig) (named : Option Lane) (s : State) : State :=
  let s1 := abandonExchange s
  let spare := match c with
    | .duplex => some (duplexSpare named s1)
    | _ => none
  let s2 := { s1 with cpl := { s1.cpl with
    old := s1.cpl.config, config := c, spare := spare, handover := true
    main := match spare with
      | some l => duplexMain l
      | none => s1.cpl.main } }
  let s3 := taskNos.foldl (fun u t =>
    let b := background t u
    let v := if b then discardCycle t u else u
    taskMod t (fun k => { k with handed := b }) v) s2
  handoverCheck (tryResync (audit 0x0281 (srcUnit 3) 0 [] s3))

/-- What follows where lane `l` became UNUSABLE: in triplex an ALARM and the hand-over to duplex (R62); in duplex it becomes the spare,
unless the spare is UNUSABLE itself (R71). -/
def unusableLane (l : Lane) (s : State) : State :=
  if (laneAt l s).st ≠ .unusable then s
  else
    match s.cpl.config with
    | .triplex => beginHandover .duplex none (record sevAlarm 0x0281 (srcUnit 3) [] s)
    | .duplex => if s.cpl.spare.any fun x => (laneAt x s).st == .unusable then s else setSpare l s
    | .split => s

/-- A lane continues alone (R60): every function is driven safe with an ALARM, unless the module demotes itself or is standby and
leaves step; in duplex a usable spare takes the excluded lane's place. -/
def soleLane (r gone : Lane) (s : State) : State :=
  let s1 := record sevAlarm 0x0208 (srcUnit (laneNo r)) [] (laneMod r (fun x => { x with st := .sole }) s)
  let s2 := match spareUsable s1 with
    | some _ => setSpare gone s1
    | none => s1
  match s2.modes.mode, s2.pair.st with
  | .standby, _ => leaveStep s2
  | _, .activePaired => demote causeR60 false s2
  | _, .demoting => s2
  | _, _ => forceAllSafe 0x06 s2

/-- A lane is excluded from every task, identified odd or faulting on its own (R57, R60 to R62, R64). -/
def excludeLane (l : Lane) (s : State) : State :=
  match (laneAt l s).st with
  | .off | .excluded | .unusable => s
  | old =>
    let s1 := dropLane l s
    let s2 := if s1.cpl.active && s1.cpl.source == l then unusableLane s1.cpl.target (dropLane s1.cpl.target s1) else s1
    let s3 := unusableLane l s2
    let s4 :=
      match old with
      | .sole =>
        let t := record sevAlarm 0x0202 (srcUnit (laneNo l)) [] s3
        (match t.modes.mode with
         | .stop | .run | .hold | .standby => enterSafe t
         | _ => t)
      | .independent => record sevAlarm 0x0202 (srcUnit (laneNo l)) [] s3
      | .inVote =>
        (match lanesOf .inVote s3 with
         | [r] => soleLane r l s3
         | _ => s3)
      | _ => s3
    tryResync (capabilityChanged s4)

/-- Escalation (R59): an active module with a standby in step demotes itself, any other enters SAFE. -/
def escalate (s : State) : State := selfDemote causeR59 false s

/-- An unresolved mismatch is counted and recorded, and a lane in RESYNC goes back to EXCLUDED (R58, R64, R81). -/
def countMismatch (src : Word) (s : State) : State :=
  let s1 := { s with cpl := { s.cpl with
    unresolved := if s.cpl.unresolved = 0xFF then 0xFF else s.cpl.unresolved + 1
    lastUnresolved := some (now s) } }
  let s2 := record sevAlarm 0x0280 src [] s1
  if s2.cpl.active then tryResync (capabilityChanged (unusableLane s2.cpl.target (dropLane s2.cpl.target s2))) else s2

/-- An unresolved mismatch (R58, R59): a second within 1 s escalates. -/
def unresolvedMismatch (src : Word) (s : State) : State :=
  let again := match s.cpl.lastUnresolved with
    | some t => decide (now s < t + sec)
    | none => false
  let t := countMismatch src s
  if again then escalate t else t

/-- A comparator's match pair shows the wrong polarity (R56, R450): COUPLER_FAULT, an unresolved mismatch, and demotion or SAFE at once,
without waiting for an escalation. -/
def couplerFault (src : Word) (s : State) : State :=
  selfDemote causeR56 true (countMismatch src { s with cpl := { s.cpl with fault := true } })

/-- The safety functions of a task whose scopes disagreed go to their safe state (R57). -/
def scopesSafe (cause : Nat) (scopes : List Nat) (t : Nat) (s : State) : State :=
  ((funcsOfTask t s).filter fun n => scopes.contains n).foldl (forceSafe cause) s

/-! ## The rows of the lanes -/

/-- `EXCLUSION_COUNT_AGEING` (R61): exclusions older than 24 h leave the count. -/
def execExclusionCountAgeing (l : Lane) (s : State) : Host.Outcome State Fault Refusal :=
  .next (laneMod l (fun x => { x with exclusions := recentExclusions x (now s) }) s)

/-- `RESYNC_HOLD_EXPIRY` (R65): after 5 ms unpowered, with a source lane, the rail is switched on and the firmware reloaded. -/
def execResyncHoldExpiry (l : Lane) (s : State) : Host.Outcome State Fault Refusal :=
  let x := laneAt l s
  .next (
    if x.st = .excluded ∧ x.bring = .held ∧ x.since + 5 * ms ≤ now s ∧ (sourceLane s).isSome then
      lanePower l .active (laneMod l (fun x => { x with bring := .reload }) s)
    else s)

/-- `FIRMWARE_RELOAD_COMPLETE` (R65): the DRAM clear begins. -/
def execFirmwareReloadComplete (l : Lane) (s : State) : Host.Outcome State Fault Refusal :=
  .next (
    if (laneAt l s).st = .excluded ∧ (laneAt l s).bring = .reload ∧ (sourceLane s).isSome then
      laneMod l (fun x => { x with bring := .clearing }) s
    else s)

/-- `DRAM_CLEAR_COMPLETE` (R65): the lane enters RESYNC, or waits for the lane that is in it. -/
def execDramClearComplete (l : Lane) (s : State) : Host.Outcome State Fault Refusal :=
  .next (
    if (laneAt l s).st = .excluded ∧ (laneAt l s).bring = .clearing ∧ (sourceLane s).isSome then
      let t := laneMod l (fun x => { x with bring := .cleared s.cpl.cleared }) s
      tryResync { t with cpl := { t.cpl with cleared := t.cpl.cleared + 1 } }
    else s)

/-- Every loop that computes has been copied to lane `l` (R234). -/
def loopsCopied (l : Lane) (s : State) : Bool :=
  !isActive s || s.loop.loops.all fun p => p.2.mode == .off || vget false p.2.copied (laneNo l)

/-- `RESYNC_COPY_COMPLETE` (R64, R67, R72, R73, R83, R234): the target has caught up. -/
def execResyncCopyComplete (s : State) : Host.Outcome State Fault Refusal :=
  .next (
    if s.cpl.active && loopsCopied s.cpl.target s then
      let l := s.cpl.target
      let st : LaneState :=
        match s.cpl.config with
        | .split => if s.cpl.handover then .rejoinPending else .independent
        | .duplex => if s.cpl.spare = some l then .spare else .rejoinPending
        | .triplex => .rejoinPending
      let t := laneMod l (fun x => { x with st := st, since := now s }) s
      lanesIdle (rejoinCheck (tryResync (endCopy 1000 t)))
    else s)

/-- `RESYNC_SUSPEND` (R68). -/
def execResyncSuspend (s : State) : Host.Outcome State Fault Refusal :=
  .next (
    if s.cpl.active ∧ s.cpl.suspended = false then
      record sevWarning 0x0203 (srcUnit 3) [] { s with cpl := { s.cpl with suspended := true, progress := BitVec.ofNat 10 (copyProgress s) } }
    else s)

/-- `RESYNC_RESUME` (R68, R83): the copy restarts from its first page. -/
def execResyncResume (s : State) : Host.Outcome State Fault Refusal :=
  .next (
    if s.cpl.active ∧ s.cpl.suspended then
      match sourceLane s with
      | some src => { s with cpl := { s.cpl with suspended := false, progress := 0, source := src, copyStart := now s, stream := 0 } }
      | none => s
    else s)

/-! ## The checks of `LANE_CONFIG_SET` (R61, R71, R74, R76, R524) -/

/-- The first field of `LANE_CONFIG_SET` that fails its check, by offset (R524). -/
def laneConfigField (p : List Byte) (s : State) : Option Nat :=
  let spare := fld8 p 2
  if 1 < fld8 p 0 then some 0
  else if 2 < fld8 p 1 then some 1
  else if 2 < spare ∧ spare ≠ 0xFF then some 2
  else if fld8 p 0 = 1 ∧ 2 < fld8 p 3 then some 3
  else
    let bad (t : Nat) : Bool :=
      taskDefined t s &&
      match laneOf (fld8 p (4 + t)) with
      | some l => (laneAt l s).st == .unusable
      | none => true
    match (if fld8 p 1 = 2 then taskNos.find? bad else none) with
    | some t => some (4 + t)
    | none =>
      match (lanesOf .unusable s).head? with
      | some l => if fld8 p 1 = 1 ∧ spare ≠ 0xFF ∧ spare ≠ laneNo l then some 2 else none
      | none => none

/-- An exchange lies between T_c and IDLE (R213). -/
def exchangeCasting (s : State) : Bool :=
  match s.prog.st with
  | .switching | .settling => true
  | _ => false

/-- Any safety task is configured. -/
def anySafetyTask (s : State) : Bool := taskNos.any fun t => taskSafety t s

/-! ## The debugger (R77 to R80, R525) -/

/-- Where a debugger action acts: the halted state and the retired-instruction count of the last action. -/
def debugReply (s : State) (data : List Byte) : Resp :=
  match s.cpl.attach with
  | some d => ok (le 1 (b2n d.halted) ++ zeros 1 ++ le 2 d.journal.length ++ zeros 4 ++
      le 8 ((d.journal.getLast?).elim 0 (·.2.2.2)) ++ data)
  | none => ok (zeros 16 ++ data)

/-- A refusal of ATTACH (R77). -/
def attachRefused (t : Nat) (l : Option Lane) (s : State) : Bool :=
  taskDefined t s == false || taskSafety t s ||
  match s.cpl.config with
  | .split => true
  | .duplex => s.modes.life != .commissioning
  | .triplex =>
    match l with
    | none => true
    | some x => (laneAt x s).st != .inVote ||
      lanes.any fun k => k != x && (match (laneAt k s).st with
        | .excluded | .resync | .rejoinPending | .unusable => true
        | _ => false)

/-- An action enters the replay journal: task, cycle, kind and retired-instruction count, which the lane gives (R78). -/
def journalAction (kind retired : Nat) (s : State) : State :=
  match s.cpl.attach with
  | none => s
  | some d =>
    if d.lane.isSome then s
    else
      let c := (taskAt d.task s).elim 0 (·.cycleNo)
      { s with cpl := { s.cpl with attach := some { d with journal := d.journal ++ [(d.task, c, kind, retired)] } } }

/-- The journal is full (R78, R79). -/
def journalFull (d : Debug) : Bool := d.lane.isNone && decide (4096 ≤ d.journal.length)

/-- ATTACH (R77, R80): the debugger takes its lane out of the vote, with the instance data the lane holds. -/
def debugAttach (q : Req) (t : Nat) (l : Option Lane) (s : State) : State × Resp :=
  let d : Debug := { session := mbxSession q.mbx, task := t, lane := l, journal := [], halted := false,
                     stepping := none, breakpoints := [], mem := if l.isSome then vget [] s.prog.inst s.prog.area else [] }
  let s1 := { s with cpl := { s.cpl with attach := some d } }
  let s2 := match l with
    | some x =>
      let u := laneMod x (fun y => { y with st := .withdrawn }) s1
      capabilityChanged (discardOrphans (taskNos.foldl (fun u t => taskMod t (fun k =>
        { k with
          member := vset k.member (laneNo x) false
          absent1 := k.absent1.filter (· != x), absent2 := k.absent2.filter (· != x)
          absent3 := k.absent3.filter (· != x) }) u) u))
    | none => s1
  let s3 := audit 0x0282 (srcTask t) (reqSession q s) [] s2
  (s3, debugReply s3 [])

/-- An action of the debugger entered in the journal, with the free count of instructions retired (R79). -/
def debugJournal (kind : Nat) (s u : State) : State × Resp :=
  let t := journalAction kind (freeValue s).toNat (nextFree u)
  (t, debugReply t [])

/-- An operation of an attached debugger (R77, R79, R526). -/
def debugOperation (p : List Byte) (d : Debug) (s : State) : State × Resp :=
  let op := fld8 p 0
  let adr := fld32 p 4
  let len := fld32 p 8
  if op = 1 then
    let t := tryResync (detachDebugger s)
    (t, debugReply t [])
  else if op = 6 then
    if len = 0 ∨ 4000 < len then (s, stDetail stInconsistent 8)
    else (s, debugReply s (memReadN (if d.lane.isSome then d.mem else vget [] s.prog.inst s.prog.area) adr len))
  else if journalFull d then (s, st stBudgetExceeded)
  else if op = 2 then
    if adr = 0xFFFFFFFF then debugJournal 2 s { s with cpl := { s.cpl with attach := some { d with halted := true } } }
    else
      let t := { s with cpl := { s.cpl with attach := some { d with breakpoints := d.breakpoints ++ [adr] } } }
      (t, debugReply t [])
  else if op = 3 then
    let t := { s with cpl := { s.cpl with attach := some { d with halted := false, stepping := some len } } }
    (t, debugReply t [])
  else if op = 4 then
    debugJournal 4 s { s with cpl := { s.cpl with attach := some { d with halted := false, stepping := none } } }
  else if len = 0 ∨ 4000 < len then (s, stDetail stInconsistent 8)
  else if d.lane.isSome then
    debugJournal 5 s { s with cpl := { s.cpl with attach := some { d with mem := memWriteN d.mem adr (slice p 12 len) } } }
  else
    let inst := vmod s.prog.inst s.prog.area (fun a => memWriteN a adr (slice p 12 len))
    debugJournal 5 s { s with prog := { s.prog with inst := inst } }

end Sys2Proof.Machine
end

