-- ==== Sys2Proof/Machine/Program.lean ====
section
/-! DEFINITION. The program image: its header, task table, instance directory and type table (R110, R113, R114, R195), the checks of
`PROG_VERIFY` (R115), the Express test (R97, R198), and the verdicts and conversions of an exchange (R196, R200, R201). -/

namespace Sys2Proof.Machine

/-! ## The image (R113, R114) -/

/-- A little-endian field of an image. -/
def imN (m : Mem) (off n : Nat) : Nat := unle (memReadN m off n)

/-- IMAGE_SIZE (R113). -/
def imSize (m : Mem) : Nat := imN m 0x10 4
/-- TASK_COUNT (R113). -/
def imTaskCount (m : Mem) : Nat := imN m 0x18 2
/-- INSTANCE_COUNT (R113). -/
def imInstances (m : Mem) : Nat := imN m 0x24 4

/-- The class of a code (R114). -/
def classOf : Nat → TaskClass
  | 0 => .express
  | 1 => .standard
  | 2 => .slow
  | _ => .background

/-- Entry `i` of the task table, 64 bytes (R114). -/
def taskEntry (m : Mem) (i : Nat) : List Byte := memReadN m (imN m 0x14 4 + 64 * i) 64

/-- The entries of the task table. -/
def taskEntries (m : Mem) : List (List Byte) := (List.range (min 32 (imTaskCount m))).map (taskEntry m)

/-- A task definition from its entry (R114); the overrun limit of a safety task is 1 (R104). -/
def defOfEntry (e : List Byte) : TaskDef where
  cls := classOf (fld8 e 1)
  safety := fld8 e 2 == 1
  skip := fld8 e 3 == 1
  limit := if fld8 e 2 = 1 then 1 else fld8 e 4
  cycle := fld64 e 8
  offset := fld64 e 16
  wcet := fld64 e 24
  inputs := fld32 e 40
  outBytes := fld32 e 44
  scopes := fld16 e 56
  timeTol := fld16 e 58
  passLimit := fld32 e 60
  firstInst := fld32 e 48
  span := fld32 e 52

/-- The definition of task `t` in an image. -/
def imTask (m : Mem) (t : Nat) : Option TaskDef :=
  ((taskEntries m).find? fun e => fld8 e 0 == t).map defOfEntry

/-! ## The checks of `PROG_VERIFY` (R115) -/

/-- A task entry satisfies R85, R86, R87, R103 and the ranges of R114: a safety task has a scope for each of its one or more
functions beside the one for everything else. -/
def entryOk (e : List Byte) : Bool :=
  let n := fld8 e 0
  let c := fld8 e 1
  let cyc := fld64 e 8
  let off := fld64 e 16
  let within (lo hi g : Nat) : Bool :=
    decide (lo ≤ cyc) && decide (cyc ≤ hi) && cyc % g == 0 && decide (off + g ≤ cyc) && off % g == 0
  decide (n < 32) && decide (c < 4) && decide (fld8 e 2 < 2) && decide (fld8 e 3 < 2) &&
  decide (1 ≤ fld8 e 4) && decide (fld8 e 4 ≤ 16) && decide (1 + fld8 e 2 ≤ fld16 e 56) && decide (fld16 e 56 ≤ 257) &&
  (if n ≤ 3 then c == 0 && within (500 * us) (10 * ms) (50 * us) && fld8 e 3 == 0
   else if n ≤ 19 then c == 1 && within ms sec ms
   else if n ≤ 27 then c == 2 && within (10 * ms) (60 * sec) (10 * ms) && fld8 e 2 == 0
   else c == 3 && cyc == 0 && off == 0 && fld8 e 2 == 0 && fld8 e 3 == 0) &&
  (if c == 3 then decide (1 ≤ fld32 e 60) && decide (fld32 e 60 ≤ 600) else fld32 e 60 == 0)

/-- The task numbers are distinct and every entry is in order (check 6). -/
def tasksOk (m : Mem) : Bool :=
  let es := taskEntries m
  decide ((es.map fun e => fld8 e 0).Nodup) && es.all entryOk

/-- The response bound W of an Express task (R97), by fuel: none where it exceeds the cycle. -/
def responseBound (c t : Nat) (higher : List (Nat × Nat)) : Nat → Nat → Option Nat
  | 0, _ => none
  | fuel + 1, w =>
    let w' := c + 161300 + (higher.map fun p => (w + p.1 - 1) / max 1 p.1 * (p.2 + 20000)).sum
    if t < w' then none else if w' = w then some w else responseBound c t higher fuel w'

/-- Whether one Express task comes before another in priority order (R90): cycle, then number. -/
def expressBefore (a b : Nat × TaskDef) : Bool :=
  decide (a.2.cycle < b.2.cycle) || (a.2.cycle == b.2.cycle && decide (a.1 < b.1))

/-- Whether a set of Express tasks passes the tests of R97, each WCET raised by `extra`. -/
def expressOk (ts : List (Nat × TaskDef)) (extra : Nat → Nat) : Bool :=
  ts.all (fun p =>
    let c := p.2.wcet + extra p.1
    decide (1000 ≤ p.2.wcet) && decide (10 * c ≤ 6 * p.2.cycle) &&
    (responseBound c p.2.cycle ((ts.filter fun q => expressBefore q p).map fun q => (q.2.cycle, q.2.wcet + extra q.1))
      20000 (c + 161300)).isSome) &&
  -- Σ WCET / cycle ≤ 0.60, over the product of the cycles
  (let den := (ts.map fun p => p.2.cycle).foldl (· * ·) 1
   decide (10 * (ts.map fun p => (p.2.wcet + extra p.1) * (den / max 1 p.2.cycle)).sum ≤ 6 * den))

/-- The Express tasks of an image. -/
def expressTasks (m : Mem) : List (Nat × TaskDef) :=
  (taskEntries m).filterMap fun e => if fld8 e 1 = 0 then some (fld8 e 0, defOfEntry e) else none

/-- R46: an Express task's input items and output image. -/
def express46 (m : Mem) : Bool := (expressTasks m).all fun p => decide (p.2.inputs ≤ 1024) && decide (p.2.outBytes ≤ 8192)

/-! ## Instances and types (R110, R195) -/

/-- Entry `i` of an instance directory (R110). -/
def dirEntry (m : Mem) (i : Nat) : List Byte := memReadN m (imN m 0x28 4 + 48 * i) 48

/-- Type table entry `i` (R195). -/
def typeEntry (m : Mem) (i : Nat) : List Byte := memReadN m (imN m 0x1C 4 + 32 * i) 32

/-- A string of the string table, up to its zero byte, at most 4,096 bytes (the termination is PRESUMED). -/
def imString (m : Mem) (off : Nat) : List Byte :=
  (memReadN m (imN m 0x38 4 + off) 4096).takeWhile (fun b => b != 0)

/-- Bytes of the conversion directory and the conversion records, which follow the type table (R195). -/
def convDirBase (m : Mem) : Nat := imN m 0x1C 4 + 32 * imN m 0x20 4

/-- Entries of the conversion directory: up to the last one a type names. -/
def convDirCount (m : Mem) : Nat :=
  ((List.range (imN m 0x20 4)).map fun i =>
    let e := typeEntry m i
    if fld32 e 20 = 0xFFFFFFFF then 0 else fld32 e 20 + fld16 e 24).foldl max 0

/-- Conversion record `i`, 16 bytes. -/
def convRecord (m : Mem) (i : Nat) : List Byte := memReadN m (convDirBase m + 16 * convDirCount m + 16 * i) 16

/-- The conversion map of a type from an older version: its records (R195, R196). -/
def convMap (m : Mem) (typ version : Nat) : Option (List (List Byte)) :=
  let e := typeEntry m typ
  if fld32 e 20 = 0xFFFFFFFF then none
  else
    ((List.range (fld16 e 24)).map fun k => memReadN m (convDirBase m + 16 * (fld32 e 20 + k)) 16).find?
      (fun d => fld16 d 0 == version) |>.map fun d => (List.range (fld32 d 8)).map fun k => convRecord m (fld32 d 4 + k)

/-- Every conversion record uses a known RULE code (check 11, R200). -/
def convRulesOk (m : Mem) : Bool :=
  (List.range (convDirCount m)).all fun k =>
    let d := memReadN m (convDirBase m + 16 * k) 16
    (List.range (fld32 d 8)).all fun j => decide (fld8 (convRecord m (fld32 d 4 + j)) 12 ≤ 3)

/-- The offsets of the header lie within IMAGE_SIZE (R113). -/
def headerOffsetsOk (m : Mem) : Bool :=
  let n := imSize m
  decide (imN m 0x1C 4 + 32 * imN m 0x20 4 ≤ n) && decide (imN m 0x28 4 + 48 * imInstances m ≤ n) &&
  decide (imN m 0x2C 4 + imN m 0x30 4 ≤ n) && decide (imN m 0x34 4 ≤ n) && decide (imN m 0x38 4 ≤ n) &&
  decide (imN m 0x3C 4 ≤ n)

/-- A task's entry lies in the code, and its instances in the directory (R114). -/
def taskOffsetsOk (m : Mem) (e : List Byte) : Bool :=
  decide (fld32 e 32 < max 1 (imN m 0x30 4)) && decide (fld32 e 48 + fld32 e 52 ≤ imInstances m)

/-- A type's name, initial values and conversions lie in the image (R195). -/
def typeOffsetsOk (m : Mem) (e : List Byte) : Bool :=
  let n := imSize m
  decide (imN m 0x38 4 + fld32 e 0 < n) && decide (imN m 0x34 4 + fld32 e 16 + fld32 e 8 + fld32 e 12 ≤ n) &&
  (fld32 e 20 == 0xFFFFFFFF || (List.range (fld16 e 24)).all fun k =>
    let a := convDirBase m + 16 * (fld32 e 20 + k)
    let d := memReadN m a 16
    decide (a + 16 ≤ n) && decide (convDirBase m + 16 * convDirCount m + 16 * (fld32 d 4 + fld32 d 8) ≤ n))

/-- An instance's type, path and parent lie in the image, and its parts in their areas (R109 to R111). -/
def instanceOffsetsOk (m : Mem) (e : List Byte) : Bool :=
  decide (fld32 e 0 < imN m 0x20 4) && decide (imN m 0x38 4 + fld32 e 40 < imSize m) &&
  decide (fld32 e 16 + fld32 e 20 ≤ 2 ^ 30) && (fld32 e 24 == 0xFFFFFFFF || decide (fld32 e 24 + fld32 e 28 ≤ 240 * 2 ^ 20)) &&
  (fld32 e 32 == 0xFFFFFFFF || decide (fld32 e 32 < imInstances m))

/-- Every other offset and size lies within IMAGE_SIZE (check 7): those of the header, then of the task entries, the types, and the
instances, of which at most the 200,000 of check 8 are looked at. -/
def offsetsOk (m : Mem) : Bool :=
  headerOffsetsOk m && (taskEntries m).all (taskOffsetsOk m) &&
  (List.range (imN m 0x20 4)).all (fun i => typeOffsetsOk m (typeEntry m i)) &&
  (List.range (min 200000 (imInstances m))).all (fun i => instanceOffsetsOk m (dirEntry m i))

/-- The verdict on a new instance (R196). -/
inductive Verdict where
  | created
  | copy (old : Nat)
  | convert (old : Nat) (map : List (List Byte))
  /-- Reason: 0 TYPE_CHANGED, 1 TASK_CHANGED, 2 NO_MAP, and the old instance of the same path. -/
  | reinit (reason old : Nat)

/-- The verdict on instance `n` of a new image against an old one (R196). -/
def verdict (old new_ : Mem) (n : Nat) : Verdict :=
  let e := dirEntry new_ n
  let path := imString new_ (fld32 e 40)
  match (List.range (imInstances old)).find? (fun i =>
      let o := dirEntry old i
      fld64 o 8 == fld64 e 8 && imString old (fld32 o 40) == path) with
  | none => .created
  | some i =>
    let o := dirEntry old i
    if imString old (fld32 (typeEntry old (fld32 o 0)) 0) ≠ imString new_ (fld32 (typeEntry new_ (fld32 e 0)) 0) then .reinit 0 i
    else if fld8 o 36 ≠ fld8 e 36 then .reinit 1 i
    else if fld16 o 4 = fld16 e 4 then .copy i
    else
      match convMap new_ (fld32 e 0) (fld16 o 4) with
      | some map => .convert i map
      | none => .reinit 2 i

/-- The counts of a plan: COPY, CONVERT, CREATED, REINIT by reason, DELETED (R196).  An old instance is matched by a new one of the same
path, type name and task, whatever the verdict. -/
def planCounts (old new_ : Mem) : List Nat :=
  let vs := (List.range (imInstances new_)).map (verdict old new_)
  let count (p : Verdict → Bool) : Nat := (vs.filter p).length
  let used := vs.filterMap fun v => match v with
    | .copy o | .convert o _ | .reinit 2 o => some o
    | _ => none
  let gone := (List.range (imInstances old)).filter fun o => !used.contains o
  [count (fun v => match v with | .copy _ => true | _ => false),
   count (fun v => match v with | .convert _ _ => true | _ => false),
   count (fun v => match v with | .created => true | _ => false),
   count (fun v => match v with | .reinit 0 _ => true | _ => false),
   count (fun v => match v with | .reinit 1 _ => true | _ => false),
   count (fun v => match v with | .reinit 2 _ => true | _ => false),
   gone.length]

/-- A numeric value converted between types (R201): the bytes' value and whether it saturated or was NaN. -/
def convertNumeric (oldType newType : Nat) (v : Nat) : Nat × Bool :=
  let x := valueFp oldType (if typeSigned oldType ∨ oldType = 0x10 then BitVec.ofInt 64 (signed (8 * typeBytes oldType) v)
    else BitVec.ofNat 64 v)
  if newType = 0x01 then (match x with
    | .fin _ 0 _ => (0, false)
    | _ => (1, false))
  else if newType = 0x0A then ((pack32 (Config.nanPayload (BitVec.ofNat 64 v) 1) x).toNat, false)
  else if x == .nan ∧ newType ≠ 0x0A ∧ newType ≠ 0x0B then (0, true)
  else
    let r := toType newType (pack64 0 x)
    let exact := if typeSigned oldType ∨ typeUnsigned oldType then
        -- integers above 2^53 convert to integers exactly
        (let i : Int := if typeSigned oldType then signed (8 * typeBytes oldType) v else (v : Int)
         let g := typeRange newType
         if newType = 0x0A ∨ newType = 0x0B then none
         else some (if i < g.1 then (BitVec.ofInt 64 g.1, true) else if g.2 < i then (BitVec.ofInt 64 g.2, true)
           else (BitVec.ofInt 64 i, false)))
      else none
    let y := exact.getD r
    (y.1.toNat % 2 ^ (8 * typeBytes newType), y.2)

/-- One part of an instance filled by the records of a map (R200): the new bytes, and the conversions that saturated. -/
def convertPart (part : Nat) (recs : List (List Byte)) (old init : List Byte) : List Byte × Nat :=
  (recs.filter fun r => fld8 r 13 == part).foldl (fun acc r =>
    let no := fld32 r 0
    let oo := fld32 r 4
    let ns := fld16 r 8
    let os := fld16 r 10
    match fld8 r 12 with
    | 0 => (putAt acc.1 no (slice old oo ns), acc.2)
    | 1 =>
      let c := convertNumeric (fld8 r 14) (fld8 r 15) (fld old oo os)
      (putAt acc.1 no (le ns c.1), acc.2 + b2n c.2)
    | 3 => (putAt acc.1 no (slice old oo (min os ns)), acc.2)
    | _ => acc) (init, 0)

/-- Initial values of a part of a type, from the constant data: R195 gives one INIT_OFFSET, and the retained part's values are taken to lie
directly after those of the non-retained part (log 171, DESIGN CHOICE). -/
def initialPart (m : Mem) (typ : Nat) (retained_ : Bool) : List Byte :=
  let e := typeEntry m typ
  let base := imN m 0x34 4 + fld32 e 16
  if retained_ then memReadN m (base + fld32 e 8) (fld32 e 12) else memReadN m base (fld32 e 8)

/-- The initial values of a part of instance `e`: a timer starts idle with START 0; an edge detector with EDGE_ON_CREATE starts with the
M that makes a present input an edge, 0 for R_TRIG and 1 for F_TRIG (R112, R202, R203).  Without EDGE_ON_CREATE it takes M from its
input at its first evaluation, in the lane. -/
def freshPart (m : Mem) (e : List Byte) (retained_ : Bool) : List Byte :=
  let bs := initialPart m (fld32 e 0) retained_
  let flags := fld16 e 6
  let s1 := if bit flags 2 && decide (24 ≤ bs.length) then putAt (putAt bs 2 [0]) 16 (zeros 8) else bs
  if bit flags 3 && bit flags 4 && decide (3 ≤ bs.length) then
    putAt s1 2 [if imString m (fld32 (typeEntry m (fld32 e 0)) 0) = [0x46, 0x5F, 0x54, 0x52, 0x49, 0x47] then 1 else 0]
  else s1

/-- Bytes of the retained page space, from the pages. -/
def retBytes (pages : Tab (List Byte)) (off n : Nat) : List Byte :=
  (List.range n).map fun k => ((tabGet [] pages ((off + k) / 4096)).getD ((off + k) % 4096) 0)

/-- Writes bytes into the retained page space; pages are 4 KiB. -/
def retPut (pages : Tab (List Byte)) (off : Nat) (bs : List Byte) : Tab (List Byte) :=
  (bs.zipIdx).foldl (fun p b =>
    let a := off + b.2
    tabMod [] p (a / 4096) fun old => putAt (old ++ zeros (4096 - old.length)) (a % 4096) [b.1]) pages

/-- Fills one instance of the new area from the old area and the old pages, by its verdict (R200). -/
def fillInstance (old new_ : Mem) (oldArea : Mem) (oldPages : Tab (List Byte)) (acc : Mem × Tab (List Byte) × Nat) (n : Nat) :
    Mem × Tab (List Byte) × Nat :=
  let e := dirEntry new_ n
  let dOff := fld32 e 16
  let rOff := fld32 e 24
  let put (d r : List Byte) (k : Nat) : Mem × Tab (List Byte) × Nat :=
    (memWriteN acc.1 dOff d, if rOff = 0xFFFFFFFF then acc.2.1 else retPut acc.2.1 rOff r, acc.2.2 + k)
  match verdict old new_ n with
  | .created | .reinit _ _ => put (freshPart new_ e false) (freshPart new_ e true) 0
  | .copy i =>
    let o := dirEntry old i
    put (memReadN oldArea (fld32 o 16) (fld32 o 20))
      (if fld32 o 24 = 0xFFFFFFFF then [] else retBytes oldPages (fld32 o 24) (fld32 o 28)) 0
  | .convert i map =>
    let o := dirEntry old i
    let d := convertPart 0 map (memReadN oldArea (fld32 o 16) (fld32 o 20)) (freshPart new_ e false)
    let r := convertPart 1 map (if fld32 o 24 = 0xFFFFFFFF then [] else retBytes oldPages (fld32 o 24) (fld32 o 28))
      (freshPart new_ e true)
    put d.1 r.1 (d.2 + r.2)

/-- The instances of a task in an image. -/
def taskInstances (m : Mem) (t : Nat) : List Nat :=
  (List.range (imInstances m)).filter fun n => fld8 (dirEntry m n) 36 == t

/-- The retained pages of a task in an image: those its instances' retained parts lie in (R111). -/
def taskPages (m : Mem) (t : Nat) : List Nat :=
  ((taskInstances m t).flatMap fun n =>
    let e := dirEntry m n
    if fld32 e 24 = 0xFFFFFFFF ∨ fld32 e 28 = 0 then []
    else List.range' (fld32 e 24 / 4096) ((fld32 e 24 + fld32 e 28 - 1) / 4096 - fld32 e 24 / 4096 + 1)).eraseDups

/-- Retained pages are placed under R208: no page of one task is a page of another in the active program (check 12). -/
def pagesOk (old new_ : Mem) : Bool :=
  (List.range 32).all fun t => (taskPages new_ t).all fun p =>
    (List.range 32).all fun u => u == t || !(taskPages old u).contains p

/-- Instance pages a task can write, in an image: the 4 KiB pages its instances' data lies in (R197). -/
def taskInstPages (m : Mem) (t : Nat) : Nat :=
  (((taskInstances m t).flatMap fun n =>
    let e := dirEntry m n
    if fld32 e 20 = 0 then []
    else List.range' (fld32 e 16 / 4096) ((fld32 e 16 + fld32 e 20 - 1) / 4096 - fld32 e 16 / 4096 + 1)).eraseDups).length

/-- The pages the tasks of an image can write: those of their instances, their retained pages, and those of the signals they write, of
64 bytes each (R109, R130). -/
def writablePages (m : Mem) : Nat :=
  ((taskEntries m).map fun e =>
    let t := fld8 e 0
    taskInstPages m t + (taskPages m t).length +
      ((Config.taskWrites m t).map fun h => handleSig h / 64).eraseDups.length).sum

/-- Base of an instance area in lane memory (R109). -/
def instanceBase (area : Nat) : Nat := if area = 0 then 0x24000000 else 0x64000000
/-- Base of the version pool in lane memory (R109). -/
def poolBase : Nat := 0xB8000000
/-- Pages of the copy-on-write pre-image pool (R109). -/
def preImagePages : Nat := 65536

/-- S_i of R197, in ns. -/
def switchTime (m : Mem) (t : Nat) : Nat := 3000 + 1000 * taskInstPages m t

/-- The switch test of R198: the active Express set with S_i added. -/
def switchOk (active : Mem) : Bool := expressOk (expressTasks active) (switchTime active)

/-- The first check of R115 that fails: FAIL_CHECK and status.  `sigOk` is the signature check, `table` the sets whose signals
count as defined, `active` the running image where a slot is ACTIVE. -/
def verifyCheck (m : Mem) (sigOk : Bool) (table : List ConfigSet) (active : Option Mem) : Option (Nat × Nat) :=
  let n := imSize m
  let handles := (taskEntries m).flatMap fun e => Config.taskReads m (fld8 e 0) ++ Config.taskWrites m (fld8 e 0)
  if imN m 0 4 ≠ 0x49505359 ∨ imN m 4 2 ≠ 0x0200 ∨ n < 0x100 ∨ 0x10000000 < n then some (0x01, stInconsistent)
  else if Config.sha384 (memReadN m 0x100 (n - 0x100)) ≠ BitVec.ofNat 384 (imN m 0x50 48) then some (0x02, stInconsistent)
  else if sigOk = false then some (0x03, stInconsistent)
  else if imTaskCount m = 0 ∨ 32 < imTaskCount m then some (0x04, stInconsistent)
  else if n < imN m 0x14 4 + 64 * imTaskCount m then some (0x05, stInconsistent)
  else if tasksOk m = false then some (0x04, stInconsistent)
  else if offsetsOk m = false then some (0x05, stInconsistent)
  else if 200000 < imInstances m ∨ 0x40000000 < imN m 0x40 8 ∨ 240 * 2 ^ 20 < imN m 0x48 8 then some (0x06, stInconsistent)
  else if handles.any (fun h => decide (7 < handleAttr h)) then some (0x07, stInconsistent)
  else if handles.any (fun h => table.all fun c => definedIn c (handleSig h) == false) then some (0x08, stInconsistent)
  else if convRulesOk m = false then some (0x09, stInconsistent)
  else if (active.elim true fun a => pagesOk a m) = false then some (0x0A, stInconsistent)
  else if express46 m = false ∨ expressOk (expressTasks m) (fun _ => 0) = false then some (0x0B, stBudgetExceeded)
  else if (active.elim true switchOk) = false then some (0x0C, stBudgetExceeded)
  else none

/-- The signature of an image (R113): ECDSA over bytes 0x000 to 0x07F, with a key provisioned. -/
def imageSigned (m : Mem) (s : State) : Bool :=
  s.modes.signingKey && Config.ecdsaVerify 0 (Config.sha384 (memReadN m 0 128)) (memReadN m 0x80 96)

end Sys2Proof.Machine
end

