-- ==== Sys2Proof/Machine/Publish.lean ====
section
/-! DEFINITION. Publication by the active module: the send budget (R154), blocks and their numbering (R156 to R158, R163), the
refresh passes (R164), the lag (R155) and the stored sequence (R158). -/

namespace Sys2Proof.Machine

/-- The number of the next block: above every earlier start's at the first one (R158). -/
def nextBlockSeq (s : State) : Nat := if s.pub.first then s.pub.stored + 2 ^ 32 else s.pub.seq + 1

/-- The header of a block (R156). -/
def blockHeader (kind count : Nat) (s : State) : List Byte :=
  le 4 0x42505359 ++ le 1 2 ++ le 1 kind ++ le 1 (ownStation s) ++ le 1 (b2n s.pub.takeover) ++ le 8 (nextBlockSeq s) ++
    le 8 (now s) ++ le 4 (tableIdOf s.cfg.cur) ++ le 2 count ++ le 2 s.pub.pass

/-- The generation up to which every change of an own record is published: that of the image, but for the records still queued
(R163). -/
def publishedGen (s : State) : Nat := s.pub.queue.foldl (fun m q => min m ((sigRec q.1 s).gen - 1)) s.image.gen

/-- Sends a block of the given kind and records, all of the present generation (R156 to R158, R332), and reports its number to the
standby (R158, R163). -/
def sendBlock (kind : Nat) (gs : List Nat) (s : State) : State :=
  let bytes := blockHeader kind gs.length s ++ gs.flatMap fun g => pubEntry g (sigRec g s)
  let seq := nextBlockSeq s
  let t := emit (.block bytes) { s with pub := { s.pub with seq := seq, first := false, takeover := false, lastSent := now s } }
  if sendsToStandby t then emit (.control (.pubSequence seq (publishedGen t))) t else t

/-- Bytes of change entries that the budget still allows now: B_s averaged over 10 ms (R154). -/
def budgetLeft (s : State) : Nat :=
  sendBudget s * 1000 - (s.pub.window.filter fun w => decide (now s < w.1 + 10 * ms)).foldl (fun n w => n + w.2) 0

/-- Entries the next change block may hold. -/
def changeCount (s : State) : Nat := min (min 60 s.pub.queue.length) (budgetLeft s / 24)

/-- A record whose entry was sent: nothing is pending, and what was published is remembered (R152, R153), in the publication
mirror too (R456). -/
def published (g : Nat) (s : State) : State :=
  let r := sigRec g s
  let t := putRec g { r with pending := false, pubValue := r.value, pubStatus := r.status } s
  { t with cfg := { t.cfg with mirror := tabSet [] t.cfg.mirror (sigIndex g) (pubEntry g r) } }

/-- Sends a change block of what the budget allows from the head of the queue; a lag of 50 ms or more that ends with it is noted (R153 to
R155). -/
def sendChanges (s : State) : State :=
  let n := changeCount s
  if n = 0 then s
  else
    let gs := (s.pub.queue.take n).map (·.1)
    let t := { s with pub := { s.pub with
      queue := s.pub.queue.drop n
      lastHigh := if (s.pub.queue.take n).any fun q => decide (q.2 + 50 * ms ≤ now s) then now s else s.pub.lastHigh
      window := (s.pub.window.filter fun w => decide (now s < w.1 + 10 * ms)) ++ [(now s, 24 * n)] } }
    let u := pathMod 3 (fun q => { q with cur := { q.cur with delivered := q.cur.delivered + n, bytes := q.cur.bytes + 24 * n } }) t
    gs.foldl (fun v g => published g v) (sendBlock 0 gs u)

/-- Sends full change blocks as soon as they hold 60 entries (R332), at most `fuel` of them. -/
def fullBlocks : Nat → State → State
  | 0, s => s
  | fuel + 1, s => if isActive s && decide (60 ≤ changeCount s) then fullBlocks fuel (sendChanges s) else s

/-- What an image event makes ready to send is sent. -/
def publishFull (s : State) : State := fullBlocks (s.pub.queue.length / 60) s

/-- `PUB_CHANGE_BLOCK_CLOSE` (R332): 1 ms after the first entry of a change block. -/
def execPubChangeBlockClose (s : State) : Host.Outcome State Fault Refusal :=
  .next (
    match s.pub.queue with
    | [] => s
    | q :: _ => if isActive s && decide (q.2 + ms ≤ now s) then sendChanges s else s)

/-- `PUB_KEEPALIVE` (R158): no block for 10 ms. -/
def execPubKeepalive (s : State) : Host.Outcome State Fault Refusal :=
  .next (if isActive s && decide (s.pub.lastSent + 10 * ms ≤ now s) then sendBlock 2 [] s else s)

/-- Blocks of a refresh pass (R164). -/
def passBlocks (s : State) : Nat := (signalsOf s.cfg.cur (ownStation s) + 59) / 60

/-- `REFRESH_BLOCK` (R164): block k of the pass is due at its start plus k × 16 s / ceil(N_s / 60); the next pass starts 16 s
after this one.  A refresh entry does not count as the last published value of R152, of which the manual says nothing (log 166,
DESIGN CHOICE). -/
def execRefreshBlock (s : State) : Host.Outcome State Fault Refusal :=
  .next (
    let n := passBlocks s
    if isActive s = false ∨ n = 0 then s
    else
      let s1 := if n ≤ s.pub.block then
          { s with pub := { s.pub with block := 0, passStart := s.pub.passStart + 16 * sec } }
        else s
      let k := s1.pub.block
      if now s1 < s1.pub.passStart + k * (16 * sec) / n then s
      else
        let s2 := if k = 0 then { s1 with pub := { s1.pub with pass := (s1.pub.pass + 1) % 65536 } } else s1
        let count := min 60 (signalsOf s.cfg.cur (ownStation s) - 60 * k)
        let gs := (List.range count).map fun i => sigNo (ownStation s) (60 * k + i)
        let s3 := sendBlock 1 gs s2
        { s3 with pub := { s3.pub with block := k + 1 } })

/-- `PUB_SEQUENCE_STORE` (R158): the SEQUENCE of the last sent block goes to the configuration area. -/
def execPubSequenceStore (s : State) : Host.Outcome State Fault Refusal :=
  .next (if isActive s && !s.pub.first then { s with pub := { s.pub with stored := s.pub.seq } } else s)

/-- The publication lag: the age of the oldest pending change (R155). -/
def publicationLag (s : State) : Nat :=
  match s.pub.queue with
  | [] => 0
  | q :: _ => now s - q.2

/-- `PUB_LAG_WARNING` (R155): above 500 ms a WARNING; below 50 ms, for 10 s, the condition clears. -/
def execPubLagWarning (s : State) : Host.Outcome State Fault Refusal :=
  .next (
    let lag := publicationLag s
    if s.pub.lagging = false ∧ 500 * ms < lag ∧ isActive s then
      record sevWarning 0x0431 (srcUnit 3) [] { s with pub := { s.pub with lagging := true } }
    else if s.pub.lagging ∧ lag < 50 * ms ∧ s.pub.lastHigh + 10 * sec ≤ now s then { s with pub := { s.pub with lagging := false } }
    else s)

end Sys2Proof.Machine
end

