-- ==== Sys2Proof/Machine/Tasks.lean ====
section
/-! DEFINITION. The task cycle: release and Gather (R92, R107, R108), agreement at CP1 (R50, R51), comparison at CP2 (R53, R57),
commit at CP3 (R41, R93, R124, R125), the late lane (R42, R44), overruns (R102 to R106) and retained commits (R121 to R126). -/

namespace Sys2Proof.Machine

/-! ## The switch of a task to a new program (R197, R204 to R208) -/

/-- Fills the instances of task `t` in the new area from the task's committed state: the new area, the retained pages in the new
layout, and the conversions that saturated (R197, R200, R201). -/
def filledTask (old new_ : Mem) (oldArea newArea t : Nat) (s : State) : Mem × Tab (List Byte) × Nat :=
  let mine := taskPages old t
  (taskInstances new_ t).foldl (fillInstance old new_ (vget [] s.prog.inst oldArea) s.retained.pages)
    (vget [] s.prog.inst newArea, s.retained.pages.filter (fun p => !mine.contains p.1), 0)

/-- The instance directory of an image, with which an instance area begins (R110). -/
def directoryBytes (m : Mem) : List Byte := memReadN m (imN m 0x28 4) (48 * imInstances m)

/-- Re-conversion: after a commit the task's instances are filled again in the new area; before T_c that is the other area, and from
T_c on the area in use, until the task switches (R197). -/
def reconvert (t : Nat) (s : State) : State :=
  if s.prog.st = .ready ∨ (s.prog.st = .preparing ∧ s.prog.caught) then
    let r := filledTask (activeImage s) (slotImage s.prog.newSlot s) s.prog.area (otherArea s) t s
    { s with prog := { s.prog with inst := vset s.prog.inst (otherArea s) r.1 } }
  else if onOldProgram t s then
    let r := filledTask (taskImage t s) (activeImage s) (otherArea s) s.prog.area t s
    { s with prog := { s.prog with inst := vset s.prog.inst s.prog.area r.1 } }
  else s

/-- The task's instances and retained pages are filled for the new program from their committed state (R197, R200, R201). -/
def convertTask (t : Nat) (s : State) : State :=
  let r := filledTask ((slotIn .retiring s).elim [] (fun n => slotImage n s)) (activeImage s) (otherArea s) s.prog.area t s
  { s with
    prog := { s.prog with
      inst := vset s.prog.inst s.prog.area (memWriteN r.1 0 (directoryBytes (activeImage s)))
      saturated := tabMod 0 s.prog.saturated t (· + r.2.2) }
    retained := { s.retained with
      pages := r.2.1
      owner := (s.retained.owner.filter fun p => p.2 != t) } }

/-- An output or a signal that a task of the new program writes (R204). -/
def newWriter (f : Mem → Nat → Bool) (s : State) : Bool :=
  let img := activeImage s
  (taskEntries img).any fun e => f img (fld8 e 0)

/-- A task of the old program only is removed: outputs that no new task writes take their idle actions, and signals that none writes
become STALE; the others hold (R204). -/
def removeTask (t : Nat) (k : Task) (old : Mem) (s : State) : State :=
  let s1 := if driving s then
      idleOutputsOf (k.outputs.filter fun o => !newWriter (fun m u =>
        (Config.taskOutputs m u).any fun x => x.2.1 == o.digital && x.2.2 == o.chan) s) s else s
  let hs := (Config.taskWrites old t).filter fun h => !newWriter (fun m u => (Config.taskWrites m u).contains h) s1
  staleSignals 0x0E hs (funcsFollow (· == t) (taskMod t (fun k => { k with
    defn := none, st := .stopped, onNew := false, firstDone := true, outputs := [] }) s1))

/-- A task switches to the new program (R204, R205, R208): its data is converted, its definition replaced; a task that the new
program lacks is removed, one that only it has starts at its first release at or after T_c. -/
def switchTask (t : Nat) (s : State) : State :=
  match taskAt t s with
  | none => s
  | some k =>
    if k.switched then s
    else
      let old := taskImage t s
      let s1 := convertTask t (taskMod t (fun k => { k with switched := true }) s)
      let s2 := { s1 with prog := { s1.prog with
        lastOldSeq := tabSet 0xFFFFFFFFFFFFFFFF s1.prog.lastOldSeq t (lastSeqOf t s1) } }
      match imTask (activeImage s2) t with
      | none => removeTask t k old s2
      | some d =>
        let run := k.defn.isNone && (s.modes.mode == .run || (s.modes.mode == .hold && d.safety))
        let same := match k.defn with
          | some o => o.cycle == d.cycle && o.offset == d.offset
          | none => false
        funcsFollow (· == t) (taskMod t (fun k =>
          { k with
            defn := some d, onNew := true, allDirty := true, firstDone := false, areaDue := k.defn.isSome
            st := if run then .running else k.st
            next := if same then k.next else scheduleFrom d (max (now s2) s2.prog.cast) }) s2)

/-- Whether a task switches now: it executes no cycle, and none released before T_c is still to come (R205). -/
def switchesNow (t : Nat) (s : State) : Bool :=
  match taskAt t s with
  | none => false
  | some k =>
    s.prog.st == .switching && !k.switched && k.phase == .sleep &&
    (k.defn.isNone || k.st != .running || background t s || decide (s.prog.cast ≤ k.next))

/-- The exchange is complete when every task is first done: the old slot becomes EMPTY; AUDIT, with each task that saturated
conversions and their number (R190, R201, R207). -/
def settleCheck (s : State) : State :=
  if s.prog.st = .settling ∧ s.task.toList.all (fun k => k.defn.isNone || k.firstDone) then
    let slots := s.prog.slot.map fun x => if x.st = .retiring then { x with st := .empty, image := [], covered := [] } else x
    let data := s.prog.saturated.flatMap fun p => le 4 p.1 ++ le 4 p.2
    let s2 := { s with
      prog := { s.prog with slot := slots, st := .idle, saturated := [], resumed := false, cast := 0, rebuilt := [], caught := false }
      task := s.task.map fun k => { k with switched := false, firstDone := false, onNew := false } }
    audit 0x0F00 (srcUnit 8) s.prog.session data (writeExchange s2)
  else s

/-- The tasks that can switch do; those that switch together share one write of the exchange record, and the last switch brings
SETTLING (R190, R205, R207). -/
def switchTasks (s : State) : State :=
  let t := (taskNos.filter fun n => switchesNow n s).foldl (fun u n => switchTask n u) s
  settleCheck (writeExchange (if t.task.toList.all (·.switched) then { t with prog := { t.prog with st := .settling } } else t))

/-- What follows the end of a cycle, or of a task's run, between T_c and SETTLING (R205). -/
def switchSweep (s : State) : State := if taskNos.any fun n => switchesNow n s then switchTasks s else s

/-! ## Release and Gather (R92, R107, R108) -/

/-- Adds the steps of module time to the start of every running timer of a task (R108, R112). -/
def shiftTimers (t : Nat) (s : State) : State :=
  match taskAt t s with
  | none => s
  | some k =>
    if k.timerShift = 0 then s
    else
      let a := taskArea t s
      let m := vget [] s.prog.inst a
      let img := taskImage t s
      let m2 := (taskInstances img t).foldl (fun m n =>
        let e := dirEntry img n
        let off := fld32 e 16
        if bit (fld16 e 6) 2 && unle (memReadN m (off + 2) 1) == 1 then
          memWriteN m (off + 16) (le 8 (unsigned 64 (signed 64 (unle (memReadN m (off + 16) 8)) + k.timerShift)))
        else m) m
      taskMod t (fun k => { k with timerShift := 0 }) { s with prog := { s.prog with inst := vset s.prog.inst a m2 } }

/-- The module's role lets it run tasks: STOP, RUN or HOLD while it is active, or a standby that is in step or joining; never
while it demotes or while the hold-up runs (R30, R430, R438). -/
def runsTasks (s : State) : Bool :=
  !s.power.powerFail &&
  match s.modes.mode, s.pair.st with
  | .stop, .demoting | .run, .demoting | .hold, .demoting => false
  | .stop, _ | .run, _ | .hold, _ => true
  | .standby, .inStep | .standby, .handingOver => true
  | _, _ => false

/-- The nominal release that task `t` would be released for now (R92, R107). -/
def dueRelease (t : Nat) (s : State) : Nat :=
  (taskAt t s).elim 0 fun k => nominalRelease ((taskDefn t s).elim 0 (·.cycle)) k.next (now s)

/-- The release of task `t` has come, and no cycle of it is in execution (R107, R118, R119). -/
def releaseCome (t : Nat) (s : State) : Bool :=
  match taskAt t s with
  | none => false
  | some k =>
    runsTasks s && k.defn.isSome && k.phase == .sleep &&
    (k.st == .running || (k.st == .stepping && k.stepAsked)) && (background t s || decide (k.next ≤ now s))

/-- An Express task of higher priority is to be gathered first: it was released at the same instant (R91). -/
def gatherWaits (t : Nat) (s : State) : Bool :=
  match taskDefn t s with
  | none => false
  | some d =>
    d.cls == .express && taskNos.any fun u =>
      match taskDefn u s with
      | some e => e.cls == .express && decide (priorityKey u e < priorityKey t d) && releaseCome u s && dueRelease u s == dueRelease t s
      | none => false

/-- The cast point comes first: the release lies at or after a T_c that has not been taken yet (R205). -/
def castWaits (t : Nat) (s : State) : Bool :=
  s.prog.st == .ready && s.prog.cast != 0 && decide (s.prog.cast ≤ dueRelease t s)

/-- Whether task `t` is due for release. -/
def releaseDue (t : Nat) (s : State) : Bool := releaseCome t s && !gatherWaits t s && !castWaits t s

/-- The Gather of a released task: snapshot generation, discrete intake cut, lane membership, the safety functions' inputs (R49, R74,
R92, R140, R304, R310). -/
def gather (t : Nat) (s : State) : State :=
  let cyc := (taskDefn t s).elim 0 (·.cycle)
  let rel := dueRelease t s
  let snap := snapshotAt rel s
  let m := membership t s
  let cut := intakeCut ((lanes.find? fun l => vget false m (laneNo l)).getD .a) rel s
  let s1 := taskMod t (fun k =>
    { k with
      phase := .gathered, snap := snap, released := rel, next := rel + cyc, member := m, handed := true
      config := if s.cpl.handover && s.cpl.old == .split then .split else s.cpl.config
      cut := cut, entered := true, stepAsked := false, late := false
      items := [], tols := [], sigs := [], outs := [], badScopes := [], absent1 := [], absent2 := [], absent3 := [] }) s
  checkPending (rejoinCheck (handoverCheck (safetyGather t snap rel (shiftTimers t s1))))

/-- `TASK_RELEASE` (R24, R91, R92, R107). -/
def execTaskRelease (t : Fin 32) (s : State) : Host.Outcome State Fault Refusal :=
  .next (if releaseDue t.val s then lanesIdle (gather t.val s) else s)

/-- Background tasks whose pass has ended since `old` begin a new one at once (R74, R96, R103). -/
def passesBegin (old s : State) : State :=
  taskNos.foldl (fun u t =>
    if background t u && (taskAt t old).elim false (fun k => k.phase != .sleep) && releaseDue t u then gather t u else u) s

/-- What follows where cycles may have ended or tasks may have left RUNNING: tasks switch, passes begin, a change of mode completes,
and the lanes take up what they have to do. -/
def followTasks (old s : State) : State := lanesIdle (checkPending (passesBegin old (switchSweep s)))

/-! ## Agreement (R50, R51) -/

/-- What the agreement of one item gives (R51). -/
inductive Agreed where
  | agreed (v : ItemVal) (odd : List Lane)
  | unresolved
  | wait

/-- Two items are identical: items longer than 16 bytes by their 128-bit hashes (R50). -/
def sameItem (a b : ItemVal) : Bool :=
  match a, b with
  | .bytes x, .bytes y => if 16 < max x.length y.length then Config.hash128 x == Config.hash128 y else x == y
  | _, _ => a == b

/-- An item as an exact number. -/
def itemFp : ItemVal → Fp
  | .bytes _ => .nan
  | .int v => fpOfInt false v 0
  | .real x => fp64 x

/-- Whether two analog items differ by no more than a tolerance. -/
def withinTol (tol : F64) (a b : ItemVal) : Bool :=
  let d := fpAdd (itemFp a) (fpNeg (itemFp b))
  let m := match d with
    | .nan => Fp.nan
    | .inf _ => .inf false
    | .fin _ k e => .fin false k e
  fpLe m (fp64 tol)

/-- The mean of two analog items, formed exactly and rounded half to even (R50). -/
def itemMean (a b : ItemVal) : ItemVal :=
  match a, b with
  | .int x, .int y =>
    let n := x + y
    let h := n / 2
    .int (if n % 2 = 0 then h else if h % 2 = 0 then h else h + 1)
  | .real x, .real y => .real (pack64 (Config.nanPayload x y) (fpMul (fpAdd (fp64 x) (fp64 y)) (.fin false 1 (-1))))
  | _, _ => a

/-- The median of three analog items. -/
def itemMedian (a b c : ItemVal) : ItemVal :=
  let le (x y : ItemVal) : Bool := fpLe (itemFp x) (itemFp y)
  if le a b then (if le b c then b else if le a c then c else a)
  else if le a c then a else if le b c then c else b

/-- The lag limit of a task (R42). -/
def lagLimit (d : TaskDef) : Nat :=
  match d.cls with
  | .express => 25 * us
  | .standard => min (5 * ms) (max (50 * us) (d.cycle / 20))
  | .slow | .background => 5 * ms

/-- The agreement tolerance of an item of task `t` (R51). -/
def itemTol (t : Nat) (x : ItemSrc) (s : State) : F64 :=
  match x with
  | .discrete _ => 0
  | .uc ch =>
    let r := (s.uc[ch]).rcd
    let tol := f32At r 52
    if flt tol 0 then fmul (frac 5 10000) (fabs (fsub (f32At r 24) (f32At r 20))) else tol
  | .count ch =>
    let n := fld16 (digAt ch.val s).rcd 30
    fnum (if n = 0xFFFF then 2 else n)
  | .time =>
    match taskDefn t s with
    | none => 0
    | some d => fnum (if d.timeTol = 0xFFFF then 2 * lagLimit d else d.timeTol * us)

/-- Whether an item is analog (R50). -/
def itemAnalog : ItemSrc → Bool
  | .discrete _ => false
  | _ => true

/-- The agreement of one item among the lanes present, with the quorum (R50, R51).  With three lanes present two identical
proposals decide a discrete item, and the third lane is odd (R57). -/
def agreeItem (q : Nat) (analog : Bool) (tol : F64) (props : List (Lane × ItemVal)) : Agreed :=
  match props with
  | [] => .wait
  | [a] => if q ≤ 1 then .agreed a.2 [] else .wait
  | [a, b] =>
    if 2 < q then .wait
    else if analog then (if withinTol tol a.2 b.2 then .agreed (itemMean a.2 b.2) [] else .unresolved)
    else if sameItem a.2 b.2 then .agreed a.2 [] else .unresolved
  | a :: b :: c :: _ =>
    if analog then
      let m := itemMedian a.2 b.2 c.2
      let odd := ([a, b, c].filter fun p => !withinTol tol p.2 m).map (·.1)
      if odd.length ≤ 1 then .agreed m odd else .unresolved
    else if sameItem a.2 b.2 then .agreed a.2 (if sameItem a.2 c.2 then [] else [c.1])
    else if sameItem a.2 c.2 then .agreed a.2 [b.1]
    else if sameItem b.2 c.2 then .agreed b.2 [a.1]
    else .unresolved

/-- The agreed value of each item; unresolved as soon as one is. -/
def agreeAll (t q : Nat) (present : List Lane) (s : State) :
    List CpItem → Option (List (ItemSrc × ItemVal) × List F64 × List Lane)
  | [] => some ([], [], [])
  | i :: is =>
    let tol := itemTol t i.src s
    match agreeItem q (itemAnalog i.src) tol (i.props.filter fun p => present.contains p.1), agreeAll t q present s is with
    | .agreed v odd, some (vs, ts, os) => some ((i.src, v) :: vs, tol :: ts, odd ++ os)
    | _, _ => none

/-- The proposals for an item: a lane present that brings none for a discrete item brings what its intake cut holds of it (R49). -/
def proposals (k : Task) (here : List Lane) (i : CpItem) : CpItem :=
  match i.src with
  | .discrete id =>
    match k.cut.find? fun c => c.1 == id with
    | some c => { i with props := i.props ++
        (here.filter fun l => !i.props.any fun p => p.1 == l).map fun l => (l, .bytes c.2) }
    | none => i
  | _ => i

/-- The comparators between the lanes present: A and B, B and C, C and A. -/
def usedComparators (ls : List Lane) : BitVec 3 :=
  let on (x y : Lane) (n : Nat) : Nat := atBit (ls.contains x && ls.contains y) n
  BitVec.ofNat 3 (on .a .b 0 + on .b .c 1 + on .c .a 2)

/-- A match pair shows the wrong polarity: of the comparators used, one does not show what is expected of it (R54, R56). -/
def polarityWrong (shown expected used : BitVec 3) : Bool := (shown ^^^ expected) &&& used != 0

/-- A cycle that cannot be agreed or compared is discarded and counts as one execution, one that is no overrun (R57, R59; the count of
consecutive overruns goes to 0, DEDUCED, log 156): in triplex with three lanes every function of a safety task has the cause
UNRESOLVED; with two voting lanes, the functions whose scope disagreed have MISMATCH. -/
def discardDisagreed (t : Nat) (scopes : Option (List Nat)) (s : State) : State :=
  let three := decide (2 < (membersOf t s).length)
  let s1 := taskMod t (fun k => { k with overruns := 0 }) (discardCycle t s)
  if taskSafety t s1 = false then s1
  else if three then forceTaskSafe 0x03 t s1
  else match scopes with
    | some xs => scopesSafe 0x02 xs t s1
    | none => forceTaskSafe 0x02 t s1

/-- The cycle is discarded, and an unresolved mismatch counted (R57 to R59). -/
def discardUnresolved (t : Nat) (scopes : Option (List Nat)) (s : State) : State :=
  unresolvedMismatch (srcTask t) (discardDisagreed t scopes s)

/-- The cycle is discarded, and the comparator that showed the wrong polarity reported (R56). -/
def discardFaulty (t : Nat) (s : State) : State := couplerFault (srcTask t) (discardDisagreed t none s)

/-- What an odd lane leads to (R57): it is excluded from every task. -/
def oddLanes (os : List Lane) (s : State) : State := os.eraseDups.foldl (fun u l => excludeLane l u) s

/-- The agreed inputs a standby holds for the cycle in execution (R430). -/
def agreedFor (t : Nat) (s : State) : Option (List (ItemSrc × ItemVal)) :=
  match taskAt t s with
  | none => none
  | some k => ((tabGet [] s.pair.agreed t).find? fun c => c.cycle == k.cycleNo).map (·.items)

/-- CP1 is decided: the task executes on the agreed values (R41, R50). -/
def beginExecute (t : Fin 32) (vs : List (ItemSrc × ItemVal)) (tols : List F64) (absent : List Lane) (s : State) : State :=
  taskMod t.val (fun k => { k with phase := .executing, items := vs, tols := tols, absent1 := absent }) s

/-- The whiffletree compares the proposals of the lanes present; `shown` is the polarity of its match pairs (R50, R54, R57). -/
def whiffletree (t : Fin 32) (items : List CpItem) (here absent : List Lane) (shown : BitVec 3) (s : State) : State :=
  let k := s.task[t]
  let used := usedComparators here
  let s0 := { s with cpl := { s.cpl with pol1 := s.cpl.pol1 ^^^ used } }
  if polarityWrong shown s.cpl.pol1 used then discardFaulty t.val s0
  else
    match agreeAll t.val (quorum t.val s) here s (items.map (proposals k here)) with
    | none => discardUnresolved t.val none s0
    | some (vs, tols, odd) =>
      if 1 < odd.eraseDups.length then discardUnresolved t.val none s0
      else
        let s1 := beginExecute t vs tols absent s0
        oddLanes odd (if sendsToStandby s1 then emit (.agreed (.cycle t k.cycleNo vs)) s1 else s1)

/-- `CP1_AGREE` (R43, R50, R51, R54, R57, R430). -/
def execCp1Agree (t : Fin 32) (items : List CpItem) (present : List Lane) (shown : BitVec 3) (s : State) :
    Host.Outcome State Fault Refusal :=
  .next (
    let here := (membersOf t.val s).filter fun l => present.contains l
    let absent := (membersOf t.val s).filter fun l => !present.contains l
    if (s.task[t]).phase ≠ .gathered ∨ here.length < quorum t.val s then s
    else
      match agreedFor t.val s with
      | some vs => followTasks s (beginExecute t vs (vs.map fun v => itemTol t.val v.1 s) absent s)
      | none => if s.modes.mode = .standby then s else followTasks s (whiffletree t items here absent shown s))

/-! ## Comparison (R53, R57, R199) -/

/-- The scope for everything that no safety function writes (R53). -/
def controlScope : Nat := 0xFFFF

/-- The additional scope of the area signature (R199). -/
def areaScope : Nat := 0x10000

/-- A lane's signature of a scope: the exclusive-or of the keyed hashes of its dirty lines, each over address, contents and cycle
number (R53). -/
def lineSig (key : BitVec 128) (cycle x : Nat) (ls : List DirtyLine) : BitVec 128 :=
  (ls.filter fun l => l.scope == x).foldl (fun h l =>
    h ^^^ Config.hash128 (le 16 key.toNat ++ le 4 l.addr.toNat ++ slice l.bytes 0 64 ++ le 8 cycle)) 0

/-- What a lane delivers for a scope: its signature, or the area signature, which may be missing (R53, R199). -/
def scopeSig (key : BitVec 128) (cycle x : Nat) (r : LaneResult) : Option (BitVec 128) :=
  if x = areaScope then r.area else some (lineSig key cycle x r.lines)

/-- A lane's value for an output. -/
def outOf (r : LaneResult) (o : OutWrite) : Option OutWrite :=
  r.outs.find? fun p => p.digital == o.digital && p.chan == o.chan

/-- The scopes of task `t` that are compared: the one for everything else, one for each safety function, any other a lane wrote, and at
the first CP2 under a new program the area signature (R53, R199). -/
def scopesOf (t : Nat) (rs : List LaneResult) (s : State) : List Nat :=
  (controlScope :: funcsOfTask t s ++ (rs.flatMap fun r => r.lines.map (·.scope) ++ r.outs.map (·.scope))).eraseDups ++
    (if (taskAt t s).elim false (·.areaDue) then [areaScope] else [])

/-- Whether two lanes agree on a scope: its signature and the outputs it writes (R53). -/
def scopeMatch (key : BitVec 128) (cycle x : Nat) (a b : LaneResult) : Bool :=
  (scopeSig key cycle x a).isSome && scopeSig key cycle x a == scopeSig key cycle x b &&
  ((a.outs ++ b.outs).filter fun o => o.scope == x).all fun o => outOf a o == outOf b o

/-- The comparison of one scope, `same` telling whether two lanes agree on it: the odd lanes, or none where no quorum agrees (R50,
R53). -/
def compareScope (same : LaneResult → LaneResult → Bool) (rs : List LaneResult) : Option (List Lane) :=
  match rs with
  | [] => none
  | [_] => some []
  | [a, b] => if same a b then some [] else none
  | a :: b :: c :: _ =>
    if same a b then (if same a c then some [] else some [c.lane])
    else if same a c then some [b.lane]
    else if same b c then some [a.lane]
    else none

/-- Removes the writes of scopes that disagreed. -/
def goodOuts (bad : List Nat) (os : List OutWrite) : List OutWrite := os.filter fun o => !bad.contains o.scope

/-- A standby compares its signatures with the active module's digest: a difference makes it leave step (R430). -/
def digestCheck (t : Nat) (sigs : List (Nat × BitVec 128)) (s : State) : State :=
  match taskAt t s with
  | none => s
  | some k =>
    match (tabGet [] s.pair.digests t).find? (fun d => d.cycle == k.cycleNo) with
    | some d => if sigs.all (fun p => (d.sigs.find? fun x => x.1 == p.1).elim true fun x => x.2 == p.2) then s else leaveStep s
    | none => s

/-- The Coupler compares what the lanes present deliver, scope by scope (R53, R57).  In a safety task with one lane odd the scopes that
disagreed do not commit, the one for everything else like the others where it disagreed itself, of which R57 says nothing (log 157,
DESIGN CHOICE). -/
def compareResults (t : Nat) (here : List LaneResult) (absent : List Lane) (s : State) : State :=
  let key := s.cpl.key
  let cycle := (taskAt t s).elim 0 (·.cycleNo)
  let xs := scopesOf t here s
  let cmp := xs.map fun x => (x, compareScope (scopeMatch key cycle x) here)
  let bad := (cmp.filter fun p => p.2 != some []).map (·.1)
  let odd := (cmp.flatMap fun p => p.2.getD []).eraseDups
  let s0 := taskMod t (fun k => { k with areaDue := false }) s
  match here.find? fun r => !odd.contains r.lane with
  | none => discardUnresolved t (some bad) s0
  | some r =>
    if cmp.any (fun p => p.2.isNone) ∨ 1 < odd.length then discardUnresolved t (some bad) s0
    else
      let badHere := if taskSafety t s then bad else []
      let sigs := xs.map fun x => (x, (scopeSig key cycle x r).getD 0)
      let s1 := taskMod t (fun k =>
        { k with phase := .compared, sigs := sigs, outs := r.outs, badScopes := badHere, absent2 := absent }) s0
      digestCheck t sigs (oddLanes odd (scopesSafe 0x02 badHere t s1))

/-- `CP2_COMPARE` (R43, R53, R54, R56, R57, R79, R199, R430). -/
def execCp2Compare (t : Fin 32) (rs : List LaneResult) (shown : BitVec 3) (s : State) : Host.Outcome State Fault Refusal :=
  .next (
    let mem := membersOf t.val s
    let here := mem.filterMap fun l => rs.find? fun r => r.lane == l
    let used := usedComparators (here.map (·.lane))
    let s0 := { s with cpl := { s.cpl with pol2 := s.cpl.pol2 ^^^ used } }
    if (s.task[t]).phase ≠ .executing ∨ here.length < quorum t.val s ∨ haltedTask t.val s then s
    else if polarityWrong shown s.cpl.pol2 used then followTasks s (discardFaulty t.val s0)
    else followTasks s (compareResults t.val here (mem.filter fun l => !(here.map (·.lane)).contains l) s0))

/-! ## Commit (R41, R93, R124, R125) -/

/-- Puts committed writes over the output image of a task. -/
def mergeOuts (old new_ : List OutWrite) : List OutWrite :=
  (old.filter fun o => !(new_.any fun p => p.digital == o.digital && p.chan == o.chan)) ++ new_

/-- The writes of a write set but for those of scopes that disagreed (R57). -/
def goodWrites (bad : List Nat) (ws : WriteSet) : WriteSet where
  sigs := ws.sigs.filter fun w => !bad.contains w.scope
  alarms := ws.alarms.filter fun a => !bad.contains a.1
  loops := ws.loops.filter fun l => !bad.contains l.1
  retained := ws.retained.filter fun p => !bad.contains p.scope
  instPages := ws.instPages.filter fun p => !bad.contains p.scope

/-- Whether task `t` is the source of a signal: its record says so, or the task's program declares that it writes it (R129). -/
def sourceTask (t g : Nat) (s : State) : Bool :=
  (sigRec g s).source == srcTask t || (Config.taskWrites (taskImage t s) t).any fun h => handleSig h == g

/-- The record of a signal as its source task writes it: a TIMESTAMP written by the source stands (R129, R181). -/
def taskWrite (g : Nat) (w : SigWrite) (status src : Word) (r : SigRec) (s : State) : SigRec :=
  let x := sourceWrite g (w.raw.getD w.value) status src (w.stamp.getD (now s)) r s
  match w.stamp with
  | some t => { x with stamp := t, srcStamp := t }
  | none => x

/-- One signal write of task `t` in the image generation `gen`.  A write to a signal that the task is not the source of has no effect; a
cycle of the old program has its writes to records that the table merge rebuilt or deleted discarded and counted (R129, R210). -/
def commitSignal (t gen : Nat) (u : State) (w : SigWrite) : State :=
  let g := sigNo (ownStation u) w.index
  let q := if (taskAt t u).elim false (·.st == .stepping) then withReason (w.status ||| stStale) 0x10 else w.status
  if readable g u = false ∨ (onOldProgram t u ∧ u.prog.rebuilt.contains g) then
    { u with image := { u.image with tableDiscards := u.image.tableDiscards + 1 } }
  else if sourceTask t g u then changeRec g (fun r => taskWrite g w q (srcTask t) r u) (w.stamp.getD (now u)) gen (now u) u
  else u

/-- One alarm write of task `t`: only the task named as alarm writer of an own signal writes its ALARM (R129, R137, R505). -/
def commitAlarm (t gen : Nat) (u : State) (a : Nat × Nat × BitVec 16) : State :=
  let g := sigNo (ownStation u) a.2.1
  if readable g u && sigAttrs g u != [] && fld8 (sigAttrs g u) 2 == t then
    changeRec g (fun r => { r with alarm := a.2.2 &&& 0x070F#16 }) (now u) gen (now u) u
  else u

/-- The signals of task `t` that are STALE because it had left RUNNING (R136). -/
def staleOf (t : Nat) (s : State) : List Nat :=
  (s.image.recs.filter fun p => sigOwn p.1 s && p.2.source == srcTask t && p.2.srcStatus &&& stStale != 0 &&
    (reasonOf p.2.srcStatus == 0x0E || reasonOf p.2.srcStatus == 0x10)).map (·.1)

/-- STALE of a task's signals clears at its first commit after it returned to RUNNING (R136). -/
def freshenTask (t gen : Nat) (s : State) : State :=
  (staleOf t s).foldl (fun u g =>
    changeRec g (fun r => { r with srcStatus := withReason (r.srcStatus &&& ~~~stStale) 0 }) (now u) gen (now u) u) s

/-- The signal writes of a commit, in one image event where there are any (R136 to R139). -/
def commitSignals (t : Nat) (ws : WriteSet) (s : State) : State :=
  let running := (taskAt t s).elim false (·.st == .running)
  if ws.sigs = [] ∧ ws.alarms = [] ∧ (running = false ∨ staleOf t s = []) then s
  else
    let gen := s.image.gen + 1
    let s1 := { s with image := { s.image with gen := gen } }
    let s2 := if running then freshenTask t gen s1 else s1
    noteEvent gen (ws.alarms.foldl (commitAlarm t gen) (ws.sigs.foldl (commitSignal t gen) s2))

/-- The loop fields of a commit, with the time they were committed at (R223, R226). -/
def commitLoops (ws : WriteSet) (s : State) : State :=
  ws.loops.foldl (fun u l =>
    let x := tabGet loopReset u.loop.loops l.2.1
    let put (xs : List (F64 × Nat)) : List (F64 × Nat) := (l.2.2.2, now u) :: xs.take 1
    let y := match l.2.2.1 with
      | .sp => { x with progSp := put x.progSp }
      | .modeReq => { x with progMode := put x.progMode }
      | .manOut => { x with progMan := put x.progMan }
    if l.2.1 < 256 then { u with loop := { u.loop with loops := tabSet loopReset u.loop.loops l.2.1 y } } else u) s

/-- The instance pages of a commit. -/
def commitInstances (t : Nat) (ws : WriteSet) (s : State) : State :=
  { s with prog := { s.prog with
    inst := vmod s.prog.inst (taskArea t s) fun m => ws.instPages.foldl (fun m p => memWriteN m (p.page * 4096) (slice p.bytes 0 4096)) m } }

/-! ## The retained queue (R124, R125) -/

/-- The retained pages of the commit area (R121). -/
def retainedPages : Nat := 61440

/-- The commit that is served next: class by class, Express first, each class in arrival order (R124). -/
def nextCommit (s : State) : Option QueuedCommit :=
  let rank (c : QueuedCommit) : Nat := (taskDefn c.task s).elim 4 fun d => classNo d.cls
  s.retained.queue.find? fun c => s.retained.queue.all fun d => decide (rank c ≤ rank d)

/-- The persistent memory controller takes up the next commit when it writes none (R124); a power failure lets only the commit in
progress complete (R30). -/
def startWriting (s : State) : State :=
  match s.retained.writing, nextCommit s with
  | none, some c =>
    if s.power.powerFail then s
    else { s with retained := { s.retained with writing := some c, queue := s.retained.queue.filter fun d => d.task != c.task } }
  | _, _ => s

/-- A commit of a task joins the queue; where its previous one is still queued the two are merged (R124, R125). -/
def enqueueCommit (c : QueuedCommit) (s : State) : State :=
  let q := s.retained.queue
  let q2 := if q.any fun d => d.task == c.task then
      q.map fun d => if d.task = c.task then
        { c with since := d.since, pages := c.pages.foldl (fun m p => tabInsert p.1 p.2 m) d.pages } else d
    else q ++ [c]
  startWriting { s with retained := { s.retained with queue := q2 } }

/-- Retained pages of a commit are committed and queued with their contents (R124, R125); at its first commit under a new program every
page of the task is dirty (R208). -/
def queueRetained (t : Nat) (written : List PageWrite) (s : State) : State :=
  match taskAt t s with
  | none => s
  | some k =>
    let mine := written.filter fun p => decide (p.page < retainedPages)
    let all := if k.allDirty then taskPages (taskImage t s) t else []
    let ps := (mine.map (·.page) ++ all).eraseDups
    let s1 := taskMod t (fun k => { k with allDirty := false }) { s with retained := { s.retained with
      pages := mine.foldl (fun m p => tabSet [] m p.page (slice p.bytes 0 4096)) s.retained.pages
      owner := ps.foldl (fun m p => tabInsert p t m) s.retained.owner } }
    if ps = [] then s1
    else
      let c : QueuedCommit := {
        task := t, cycle := k.cycleNo, time := now s, since := now s, onNew := k.onNew
        pages := ps.foldl (fun m p => tabInsert p (slice (tabGet [] s1.retained.pages p) 0 4096) m) [] }
      enqueueCommit c s1

/-- A task of the new program without retained pages is first done at its first completed cycle (R190). -/
def exchFirst (t : Nat) (s : State) : State :=
  match taskAt t s with
  | none => s
  | some k =>
    if k.onNew && !k.firstDone && (taskPages (taskImage t s) t == []) then
      settleCheck (writeExchange (taskMod t (fun k => { k with firstDone := true }) s))
    else s

/-- The bytes of a commit that the commit stream of a resynchronisation forwards: 64 for each signal, 4,096 for each page (R67). -/
def commitBytes (ws : WriteSet) : Nat := 64 * ws.sigs.length + 4096 * (ws.instPages.length + ws.retained.length)

/-- CP3 is served: the write set `ws` of task `t` commits (R41, R52, R93, R94, R103, R104, R117, R124, R139, R197, R305, R429, R430). -/
def commitCycle (t : Fin 32) (ws : WriteSet) (late : List Lane) (s : State) : State :=
  let k := s.task[t]
  let s1 := commitSignals t.val ws (taskMod t.val (fun k => { k with phase := .sleep, absent3 := late }) s)
  let moved := s1.image.gen != s.image.gen
  let outs := goodOuts k.badScopes k.outs
  let s2 := safetyCommit t.val (taskMod t.val (fun k => { k with outputs := mergeOuts k.outputs outs }) s1)
  let s3 := if isActive s2 || (s2.pair.st == .handingOver && s2.pair.fading) then reachingSafe t.val (applyOutputs outs) s2 else s2
  let s4 := commitStream (commitBytes ws) (queueRetained t.val ws.retained (commitLoops ws (commitInstances t.val ws s3)))
  let s5 := if sendsToStandby s4 then emit (.digest t.val k.cycleNo k.sigs s4.image.gen) s4 else s4
  let s6 := taskMod t.val (fun k =>
    { k with
      overruns := if k.late then k.overruns else 0
      next := if k.late then
          (match k.defn with
           | some d => releaseFrom d k.next (now s)
           | none => k.next)
        else k.next }) s5
  let s7 := if moved then subFillAll (publishFull (outputsAfter s6.image.gen s6)) else s6
  poolSweep (followTasks s (endCycle t.val (exchFirst t.val (reconvert t.val s7))))

/-- `CP3_COMMIT` (R41, R42, R43, R57, R79). -/
def execCp3Commit (t : Fin 32) (ws : WriteSet) (s : State) (present : List Lane := lanes) : Host.Outcome State Fault Refusal :=
  .next (
    let k := s.task[t]
    let here := (membersOf t.val s).filter fun l => present.contains l
    let late := (membersOf t.val s).filter fun l => !present.contains l
    if k.phase ≠ .compared ∨ here.length < quorum t.val s ∨ haltedTask t.val s then s
    else commitCycle t (goodWrites k.badScopes ws) late s)

/-! ## The late lane (R42, R44) -/

/-- Whether a late lane's contribution differs from what was decided without it (R44): proposals from the agreed values; a result from
the signatures and outputs decided, in the cycle they were decided for. -/
def lateDiffers (k : Task) (key : BitVec 128) (c : LateContribution) : Bool :=
  match c with
  | .proposals items =>
    (k.items.zipIdx).any fun p =>
      match items.find? (fun i => i.1 == p.1.1) with
      | none => true
      | some i =>
        if itemAnalog i.1 then !withinTol (k.tols.getD p.2 0) i.2 p.1.2 else !sameItem i.2 p.1.2
  | .result r =>
    let cycle := if k.phase = .sleep then k.cycleNo - 1 else k.cycleNo
    k.sigs.any (fun x => scopeSig key cycle x.1 r != some x.2) || r.lines.any (fun l => !(k.sigs.any fun x => x.1 == l.scope)) ||
      k.outs.any (fun o => outOf r o != some o) || r.outs.any (fun o => !k.outs.contains o)
  | .release => false

/-- `LATE_LANE_CHECK` (R44): a lane that differs is the odd lane. -/
def execLateLaneCheck (t : Fin 32) (l : Lane) (c : LateContribution) (s : State) : Host.Outcome State Fault Refusal :=
  .next (
    let k := s.task[t]
    let late := match c with
      | .proposals _ => k.absent1.contains l
      | .result _ => k.absent2.contains l
      | .release => k.absent3.contains l
    if late = false then s
    else
      let s1 := taskMod t.val (fun k => match c with
        | .proposals _ => { k with absent1 := k.absent1.filter (· != l) }
        | .result _ => { k with absent2 := k.absent2.filter (· != l) }
        | .release => { k with absent3 := k.absent3.filter (· != l) }) s
      if lateDiffers k s.cpl.key c then followTasks s (excludeLane l s1) else s1)

/-- The lag limit of a halted debugged task is suspended in duplex (R79). -/
def lagSuspended (t : Nat) (s : State) : Bool :=
  match s.cpl.attach with
  | some d => d.task == t && d.halted && d.lane.isNone
  | none => false

/-- `LAG_LIMIT_EXPIRY` (R42): the first voting lane arrived at `first` in the present cycle, the lag limit has passed since, and lane `l`
has not arrived: it is the odd lane. -/
def execLagLimitExpiry (t : Fin 32) (l : Lane) (s : State) (first : Nat := 0) : Host.Outcome State Fault Refusal :=
  .next (
    let k := s.task[t]
    let waiting := k.phase != .sleep && (membersOf t.val s).contains l
    let expired := decide (k.released ≤ first) && decide (first + (taskDefn t.val s).elim 0 lagLimit < now s)
    if (waiting || k.absent1.contains l || k.absent2.contains l || k.absent3.contains l) && expired && !lagSuspended t.val s then
      followTasks s (excludeLane l s)
    else s)

/-! ## Overruns (R102 to R106) -/

/-- `WCET_EXCEEDED` (R105). -/
def execWcetExceeded (t : Fin 32) (s : State) : Host.Outcome State Fault Refusal :=
  .next (
    let k := s.task[t]
    if k.phase ≠ .executing then s
    else
      let s1 := taskMod t.val (fun k => { k with wcetExceeded := k.wcetExceeded + 1 }) s
      if due k.lastCaution (60 * sec) (now s) then
        record sevCaution 0x0311 (srcTask t.val) [] (taskMod t.val (fun k => { k with lastCaution := some (now s) }) s1)
      else s1)

/-- An overrun of a cycle or a pass: WARNING; at the limit a control task that is RUNNING is FAULTED with an ALARM, and the functions of a
safety task go to their safe states (R103, R104, R118); a standby leaves step (R430). -/
def overrun (t : Nat) (s : State) : State :=
  match taskAt t s, taskDefn t s with
  | some k, some d =>
    let s1 := record sevWarning 0x0310 (srcTask t) [] (taskMod t (fun k =>
      { k with overruns := k.overruns + 1, totalOverruns := k.totalOverruns + 1 }) s)
    let s2 := if d.skip then taskMod t (fun k => { k with late := true }) s1 else discardCycle t s1
    if s.modes.mode = .standby then leaveStep s2
    else if d.safety then record sevAlarm 0x0310 (srcTask t) [] (forceTaskSafe 0x04 t s2)
    else if d.limit ≤ k.overruns + 1 ∧ (taskAt t s2).elim false (·.st == .running) then
      record sevAlarm 0x0304 (srcTask t) [] (leaveRunning t .faulted s2)
    else s2
  | _, _ => s

/-- `DEADLINE_OVERRUN` (R102, R103, R106). -/
def execDeadlineOverrun (t : Fin 32) (s : State) : Host.Outcome State Fault Refusal :=
  .next (
    let k := s.task[t]
    if k.phase = .sleep ∨ background t.val s ∨ k.late ∨ now s < k.next then s
    else followTasks s (overrun t.val s))

/-- `PASS_LIMIT_EXPIRY` (R102, R103). -/
def execPassLimitExpiry (t : Fin 32) (s : State) : Host.Outcome State Fault Refusal :=
  .next (
    let k := s.task[t]
    let limit := (taskDefn t.val s).elim 0 (·.passLimit) * sec
    if k.phase = .sleep ∨ background t.val s = false ∨ now s < k.released + limit then s
    else followTasks s (overrun t.val s))

/-! ## Retained commits (R121 to R126) -/

/-- The size of a ring of commit records: 16 MiB (R121). -/
def ringSize : Nat := 16777216

/-- Bytes of a commit record: the header and the page list, padded to a multiple of 64 (R122). -/
def recordSize (r : CommitRecord) : Nat := 64 + (4 * r.pages.length + 63) / 64 * 64

/-- The page list of a record: page number and slot written (R122). -/
def pageList (ps : List (Nat × Bool)) : List Byte := ps.flatMap fun p => le 4 (p.1 % 65536 + atBit p.2 31)

/-- The bytes of a commit record (R122). -/
def commitRecordBytes (r : CommitRecord) : List Byte :=
  slice (le 4 0x43525359 ++ le 1 r.task ++ zeros 3 ++ le 8 r.seq ++ le 8 r.cycle ++ le 8 r.time ++ le 4 r.pages.length ++ zeros 4 ++
    le 16 r.digest.toNat ++ le 8 r.close ++ pageList r.pages) 0 (recordSize r)

/-- What a ring holds of its records, newest first: as many as fit.  What becomes of the oldest ones where the ring is full the manual
does not say: the newest overwrite them (log 159, DESIGN CHOICE). -/
def ringKeep (room : Nat) : List CommitRecord → List CommitRecord
  | [] => []
  | r :: rs => if recordSize r ≤ room then r :: ringKeep (room - recordSize r) rs else []

/-- The slot a page is written to: the one that does not hold its last committed copy; slot 0 for a page that has none, of which R121
says nothing (log 158, DESIGN CHOICE). -/
def slotFor (p : Nat) (s : State) : Bool := tabGet 0 s.retained.lastSlot p == 1

/-- A commit is written: the pages, the page list, the header and CLOSE (R121 to R123). -/
def writeCommit (c : QueuedCommit) (s : State) : State :=
  let ps := c.pages.map fun p => (p.1, slotFor p.1 s)
  let r : CommitRecord := {
    task := c.task, seq := s.retained.nextSeq, cycle := c.cycle, time := c.time, pages := ps
    digest := Config.hash128 (pageList ps ++ c.pages.flatMap (·.2)), close := 0xFFFFFFFFFFFFFFFF - s.retained.nextSeq }
  { s with retained := { s.retained with
    slots := c.pages.foldl (fun m p => tabSet [] m (2 * p.1 + b2n (slotFor p.1 s)) p.2) s.retained.slots
    lastSlot := ps.foldl (fun m p => tabSet 0 m p.1 (b2n p.2 + 1)) s.retained.lastSlot
    rings := vmod s.retained.rings (r.seq % 2) fun rs => ringKeep ringSize (r :: rs)
    nextSeq := r.seq + 1
    lastHigh := if c.since + 10 * ms ≤ now s then now s else s.retained.lastHigh } }

/-- What a closed commit means for an exchange: a task's first commit under the new program is done; one that was still queued when its
task switched is its last under the old program (R190, R206). -/
def commitDone (c : QueuedCommit) (s : State) : State :=
  let k := vget taskReset s.task c.task
  match s.prog.st with
  | .switching | .settling =>
    if c.onNew then
      (if k.firstDone then s else settleCheck (writeExchange (taskMod c.task (fun k => { k with firstDone := true }) s)))
    else if k.switched then
      writeExchange { s with prog := { s.prog with
        lastOldSeq := tabSet 0xFFFFFFFFFFFFFFFF s.prog.lastOldSeq c.task (lastSeqOf c.task s) } }
    else s
  | _ => s

/-- `RETAINED_COMMIT_CLOSED` (R121 to R125, R190): the controller closes the commit it is writing, and takes up the next. -/
def execRetainedCommitClosed (t : Fin 32) (s : State) : Host.Outcome State Fault Refusal :=
  .next (
    match s.retained.writing with
    | some c =>
      if c.task = t.val then
        startWriting (commitDone c (writeCommit c { s with retained := { s.retained with writing := none } }))
      else s
    | none => s)

/-- The pages that the persistent memory controller writes in the 5 ms of a hold-up at 512 KiB/ms (R30, R124). -/
def holdUpPages : Nat := 640

/-- The commit record in progress, where it can be written within the hold-up, is completed; another stays without its CLOSE and is
ignored (R30, R123). -/
def settleWriting (s : State) : State :=
  match s.retained.writing with
  | some c =>
    let t := { s with retained := { s.retained with writing := none } }
    if c.pages.length ≤ holdUpPages then commitDone c (writeCommit c t) else t
  | none => s

/-- The largest retention lag of any task (R126). -/
def retentionLag (s : State) : Nat :=
  (s.retained.writing.toList ++ s.retained.queue).foldl (fun m c => max m (now s - c.since)) 0

/-- `RETENTION_LAG_WARNING` (R126): above 100 ms a WARNING; below 10 ms, for 10 s, the condition clears. -/
def execRetentionLagWarning (s : State) : Host.Outcome State Fault Refusal :=
  .next (
    let lag := retentionLag s
    if s.retained.lagging = false ∧ 100 * ms < lag then
      record sevWarning 0x0312 (srcUnit 9) [] { s with retained := { s.retained with lagging := true } }
    else if s.retained.lagging ∧ lag < 10 * ms ∧ s.retained.lastHigh + 10 * sec ≤ now s then
      { s with retained := { s.retained with lagging := false } }
    else s)

end Sys2Proof.Machine
end

