-- ==== Sys2Proof/Machine/Loops.lean ====
section
/-! DEFINITION. The loop section: modes (R225 to R227), samples, agreement and deadlines (R230 to R234), tuning and groups (R238 to
R243), checkpoints (R246), the state entries of the pair (R245) and the loop commands (R249, R502, R513). -/

namespace Sys2Proof.Machine

/-- Changes the loop section. -/
def leMod (f : LoopEngine → LoopEngine) (s : State) : State := { s with loop := f s.loop }

/-- Loops run in STOP, RUN and HOLD of the module that drives, the hold-up included (R30, R227). -/
def loopsRun (s : State) : Bool := isActive s

/-- A loop drives its output channel at a value (R224, R225): narrowed to binary32, unless a safe state holds the channel. -/
def loopDrive (n : Nat) (u : F64) (s : State) : State :=
  match outChannel (loopAt n s).rcd with
  | some ch => if driving s && isActive s && !heldSafe false ch s then ucCommand ch (widen (narrow u)) s else s
  | none => s

/-- A loop's channel output is driven to 0 mA or 0 V (R225, R244). -/
def loopZero (n : Nat) (s : State) : State :=
  match outChannel (loopAt n s).rcd with
  | some ch => if driving s && !heldSafe false ch s then ucCommandRaw ch 0 s else s
  | none => s

/-- Outputs are unvoted: SOLE or split (R231). -/
def loopUnvoted (s : State) : Bool := s.cpl.config == .split || lanesOf .sole s != []

/-- FLAGS of the state record (R249). -/
def loopFlags (x : Loop) (s : State) : Nat :=
  let w := x.work
  atBit w.ramping 0 + atBit w.outLimited 1 + atBit w.rateLimited 2 + atBit w.repActive 3 + atBit w.repFrozen 4 +
    atBit w.pvUncertain 5 + atBit w.spHeld 6 + atBit w.ffHeld 7 + atBit w.paused 8 + atBit (x.pend != 0) 9 +
    atBit x.sched.isSome 10 + atBit (loopUnvoted s) 11

/-- The signals of an agreed sample (R224). -/
def loopSignals (n : Nat) (s : State) : State :=
  let x := loopAt n s
  let r := x.rcd
  let w := x.work
  let q := if x.mode = .fallback then 1 else w.quality
  let stale := x.mode == .off || x.mode == .fallback
  let st := capStatus (mkStatus q 0 ||| (if stale then stStale else 0))
  let src := 0x60000000 + n
  let s1 := if fld8 r 7 = 1 then deliverOwn (fldW r 20) w.u st src s else s
  let s2 := deliverOwn (fldW r 140) w.rEff st src s1
  let word := loopModeCode x.mode * 2 ^ 24 + x.reason * 2 ^ 16 + loopFlags x s % 65536
  let s3 := deliverInt (fldW r 144) (BitVec.ofNat 64 word) st src (now s) s2
  deliverInt (fldW r 148) (BitVec.ofNat 64 x.delay) st src (now s) s3

/-- The signals a loop writes (R224). -/
def loopHandles (r : List Byte) : List Word :=
  ((if fld8 r 7 = 1 then [fldW r 20] else []) ++ [fldW r 140, fldW r 144, fldW r 148]).filter (· != noHandle)

/-- A loop that is OFF keeps its signals STALE (R170). -/
def loopOff (n : Nat) (s : State) : State :=
  if (loopHandles (loopAt n s).rcd).any fun h => sigOwn (handleSig h) s && (sigRec (handleSig h) s).srcStatus &&& stStale == 0 then
    loopSignals n s
  else s

/-- A loop enters a mode with a reason: EVENT, WARNING into FALLBACK (R226). -/
def loopEnter (n : Nat) (m : LoopMode) (reason : Nat) (s : State) : State :=
  let x := loopAt n s
  let r := x.rcd
  let present := fclamp (f32At r 76) (f32At r 80) x.work.u
  let y := match m with
    | .manual => { x with mode := .manual, reason := reason, manual := if x.mode = .off then present else x.work.u, manualAt := now s }
    | .auto => { x with mode := .auto, reason := reason, work := { x.work with ramping := true, rEff := x.work.yf } }
    | .fallback => { x with mode := .fallback, reason := reason }
    | .off => { x with mode := .off, reason := reason }
  let s1 := leMod (fun e => { e with dirty := true }) (loopMod n (fun _ => y) s)
  let s2 := record (if m = .fallback then sevWarning else sevEvent) (0x0500 + reason) (srcLoop n) [] s1
  if m = .off then loopSignals n (loopZero n s2) else s2

/-- The present output of a loop that is OFF is 0 mA or 0 V: the value its manual mode starts from (R226). -/
def loopPresentZero (n : Nat) (s : State) : State :=
  loopMod n (fun x => if x.mode = .off then
    { x with work := { x.work with u := match outChannel x.rcd with
      | some ch => ucEng (ucAt ch s).rcd 0
      | none => x.work.u } } else x) s

/-- The output channel of a loop is FAILED. -/
def loopOutFailed (r : List Byte) (s : State) : Bool :=
  match outChannel r with
  | some ch => (ucAt ch s).st == .failed
  | none => false

/-- A request of a mode is granted (R226, R227). -/
def loopGrants (x : Loop) (m : LoopMode) (t : Nat) (s : State) : Bool :=
  let pv := (loopPv x.rcd t s).2 != 0
  match x.mode, m with
  | .off, .manual => loopEnabled x.rcd
  | .manual, .auto => pv && s.modes.mode != .stop
  | .auto, .manual | .fallback, .manual => true
  | .fallback, .auto => pv && !loopOutFailed x.rcd s && s.modes.mode != .stop
  | .manual, .off | .auto, .off | .fallback, .off => true
  | _, _ => false

/-- A mode request at a tick; a refused one of a program leaves REASON REFUSED (R226). -/
def loopRequest (n : Nat) (m : LoopMode) (program : Bool) (t : Nat) (s : State) : State :=
  let s1 := loopPresentZero n s
  if loopGrants (loopAt n s1) m t s1 then loopEnter n m 0x01 s1
  else if program then loopMod n (fun x => { x with reason := 0x0A }) s1 else s1

/-- Clears the cells of a record's range (R242, R243). -/
def clearCells (r : List Byte) (s : State) : State :=
  let lo := fld32 r 96
  let hi := lo + repCells r
  leMod (fun e => { e with pool := tabKeep (fun k => decide (k < lo) || decide (hi ≤ k)) e.pool }) s

/-- The fields of a group, offset and size (R238). -/
def groupFields (g : Nat) : List (Nat × Nat) := (tuneFields.filter fun f => f.2.2 == g).map fun f => (f.1, f.2.1)

/-- Copies the fields of a mask of groups from one record into another. -/
def copyGroups (mask : BitVec 3) (src dst : List Byte) : List Byte :=
  ((List.range 3).filter fun g => mask.getLsbD g).foldl (fun r g =>
    (groupFields g).foldl (fun r f => putAt r f.1 (slice src f.1 f.2)) r) dst

/-- Whether a mask of groups clears the memory when it is applied (R242). -/
def groupsClear (mask : BitVec 3) (old new_ : List Byte) : Bool :=
  (mask.getLsbD 1 && (slice old 96 6 != slice new_ 96 6)) ||
  (mask.getLsbD 2 && (slice old 102 2 != slice new_ 102 2 || slice old 116 2 != slice new_ 116 2))

/-- The scheduled groups take effect at K: the generation moves on and their pending bits clear, but for shadows written again
(R240, R242).  Answers whether the memory was cleared. -/
def applySched (n t : Nat) (s : State) : State × Bool :=
  let x := loopAt n s
  match x.sched with
  | some (k, mask, snap) =>
    if k ≤ t then
      let r := copyGroups mask snap x.rcd
      let clear := groupsClear mask x.rcd r
      let s1 := if clear then clearCells r (clearCells x.rcd s) else s
      (loopMod n (fun x =>
        { x with rcd := r, sched := none, gen := x.gen + 1, pend := (x.pend &&& ~~~mask) ||| (x.again &&& mask), again := 0 }) s1,
        clear)
    else (s, false)
  | none => (s, false)

/-- Tuning accepted early enough takes effect: the new record (R239). -/
def applyTune (n t : Nat) (s : State) : State :=
  let x := loopAt n s
  let due := x.tune.filter fun e => decide (e.1 ≤ t)
  if due = [] then s
  else
    let put (r : List Byte) : List Byte := due.foldl (fun r e => e.2.foldl (fun r f => putAt r f.1 f.2) r) r
    loopMod n (fun x => { x with rcd := put x.rcd, tune := x.tune.filter fun e => decide (t < e.1) }) s

/-- A record that a commit changed reaches its loop at its tick: Tune fields as tuning, grouped fields as an apply (R244). -/
def applyFresh (n : Nat) (s : State) : State × Bool :=
  let x := loopAt n s
  match x.fresh with
  | none => (s, false)
  | some r =>
    let old := x.rcd
    let moved := slice old 4 4 != slice r 4 4 || slice old 8 16 != slice r 8 16
    let timing := slice old 24 16 != slice r 24 16
    let clear := groupsClear 7 old r
    let grouped := copyGroups 7 r old != old
    let s1 := if clear then clearCells r (clearCells old s) else s
    let s3 := loopMod n (fun x =>
      { x with
        rcd := r, fresh := none
        gen := if grouped then x.gen + 1 else x.gen
        work := if timing then { x.work with d := 0 } else x.work }) s1
    if s.modes.mode = .standby then (s3, clear)
    else
    let s4 := if moved ∧ x.mode = .auto then loopEnter n .manual 0x08 s3 else s3
    (if loopEnabled r = false ∧ x.mode ≠ .off then loopEnter n .off 0x01 s4 else s4, clear)

/-- A repetitive reset that is due clears the memory (R243). -/
def applyReset (n t : Nat) (s : State) : State × Bool :=
  let x := loopAt n s
  match x.repReset with
  | some k => if k ≤ t then (loopMod n (fun x => { x with repReset := none }) (clearCells x.rcd s), true) else (s, false)
  | none => (s, false)

/-- A loop whose PV or output has failed falls back (R226). -/
def loopFaults (n t : Nat) (s : State) : State :=
  let x := loopAt n s
  match x.mode with
  | .auto => if (loopPv x.rcd t s).2 = 0 then loopEnter n .fallback 0x02 s
      else if loopOutFailed x.rcd s then loopEnter n .fallback 0x04 s else s
  | .manual => if loopOutFailed x.rcd s then loopEnter n .fallback 0x04 s else s
  | _ => s

/-- What the host asked of a loop takes effect (R226). -/
def loopHostAsk (n t : Nat) (s : State) : State :=
  match (loopAt n s).hostAsk with
  | none => s
  | some (m, v) =>
    let u := loopMod n (fun x => { x with hostAsk := none }) s
    let w := match loopModeOf m with
      | some y => if (loopAt n u).mode = y then u else loopRequest n y false t u
      | none => u
    if m = 1 ∧ ffinite v ∧ (loopAt n w).mode = .manual then loopMod n (fun x => { x with manual := v }) w else w

/-- A mode request of the program takes effect where it differs from the last one taken; the first after a start asks for nothing where
it names the present mode (R226). -/
def loopProgMode (n t : Nat) (s : State) : State :=
  let y := loopAt n s
  match progAt y.progMode t with
  | some p =>
    if some p.1 = y.modeSeen then s
    else
      let u := loopMod n (fun x => { x with modeSeen := some p.1 }) s
      (match (fround p.1).bind fun v => loopModeOf v.toNat with
       | some m => if y.modeSeen = none ∧ (loopAt n u).mode = m then u else loopRequest n m true t u
       | none => loopMod n (fun x => { x with reason := 0x0A }) u)
  | none => s

/-- The mode changes of a tick: FALLBACK first, then the owner's request (R226). -/
def loopModes (n t : Nat) (s : State) : State :=
  let s2 := loopHostAsk n t (loopFaults n t s)
  if loopFlag (loopAt n s).rcd 1 then s2
  else
    match progAt (loopAt n s2).progMan t with
    | some p => loopMod n (fun x =>
        if x.mode = .manual && decide (x.manualAt < p.2) then { x with manual := p.1 } else x) (loopProgMode n t s2)
    | none => loopProgMode n t s2

/-- A record with the fields of the law that R221 names as another record has them: KP, TD, N, B, C, KFF and FF_BIAS. -/
def tunedAs (from_ r : List Byte) : List Byte := [40, 48, 52, 56, 60, 68, 72].foldl (fun r o => putAt r o (slice from_ o 4)) r

/-- What falls due at tick `t` before a sample is computed: a commit's record, a scheduled apply, a repetitive reset and tuning (R239 to
R244).  Answers also the record with the old tuning, which the integral absorbs (R221), and whether the memory was cleared (R236). -/
def loopDue (n t : Nat) (s : State) : State × List Byte × Bool :=
  let x := loopAt n s
  let f := applyFresh n s
  let g := applySched n t f.1
  let c := applyReset n t g.1
  let r := (loopAt n c.1).rcd
  (applyTune n t c.1, if x.fresh.isSome then tunedAs x.rcd r else r, f.2 || g.2 || c.2)

/-- The loop waits for its next tick (R223). -/
def loopAdvance (n t : Nat) (s : State) : State := loopMod n (fun x => { x with next := t + max 1 (loopPeriod x.rcd) }) s

/-- `LOOP_SAMPLE_TICK` (R219, R223, R226, R239 to R245): the copies take their inputs and compute the sample; a standby applies what falls
due at the tick and computes nothing. -/
def execLoopSampleTick (n : Fin 256) (s : State) : Host.Outcome State Fault Refusal :=
  .next (
    let x := loopAt n.val s
    let pendingSample := x.sample.any fun p => p.agreed.isNone
    if (loopsRun s = false ∧ s.modes.mode ≠ .standby) ∨ x.rcd = [] ∨ now s < x.next ∨ pendingSample then s
    else if s.modes.mode = .standby then loopAdvance n.val x.next (loopDue n.val x.next s).1
    else
      let t := x.next
      let due := loopDue n.val t s
      let s2 := loopAdvance n.val t (loopModes n.val t due.1)
      if (loopAt n.val s2).mode = .off then loopOff n.val (loopMod n.val (fun x => { x with sample := none }) s2)
      else
        let w := loopCompute n.val due.2.1 due.2.2 t s2
        loopMod n.val (fun x => { x with sample := some { tick := t, work := w, got := [], agreed := none } }) s2)

/-! ## Agreement (R231 to R233) -/

/-- The lanes whose copies vote in a sample of tick `t`: that of a lane in REJOIN_PENDING from the first tick after it entered (R231). -/
def loopVoters (t : Nat) (s : State) : List Lane :=
  match s.cpl.config with
  | .split => [.a]
  | _ =>
    match lanesOf .sole s with
    | l :: _ => [l]
    | [] => lanes.filter fun l =>
        (laneAt l s).st == .inVote || ((laneAt l s).st == .rejoinPending && decide ((laneAt l s).since < t))

/-- The 72-byte state entry of a loop (R245). -/
def loopEntry (n : Nat) (s : State) : List Byte :=
  let x := loopAt n s
  let w := x.work
  le 2 n ++ le 1 (loopModeCode x.mode) ++ le 1 (atBit w.ramping 0 + atBit w.repActive 1 + atBit w.repFrozen 2) ++
    le 2 x.gen.toNat ++ le 2 ((w.learned).elim 0xFFFF (·.1)) ++ le 8 x.samples ++ le 8 w.u.toNat ++ le 8 w.i.toNat ++
    le 8 w.d.toNat ++ le 8 w.yf.toNat ++ le 8 w.edPrev.toNat ++ le 8 w.rEff.toNat ++
    le 4 ((w.learned).elim 0 fun c => c.2.toNat) ++ zeros 4

/-- A sample is agreed: its state is the loop's, one cell is learned, the output is applied (R224, R230, R232, R235). -/
def loopAgreed (n : Nat) (u : F64) (sig : BitVec 128) (s : State) : State :=
  let x := loopAt n s
  match x.sample with
  | none => s
  | some p =>
    let w := { p.work with u := u }
    let d := now s - p.tick
    let s1 := loopMod n (fun x =>
      { x with
        work := w, samples := x.samples + 1, tickTime := p.tick, consec := 0, delay := d, delayMax := max x.delayMax d
        ring := (d :: x.ring).take 1024
        copied := .replicate 3 true
        sample := some { p with agreed := some (u, sig) } }) s
    let pool := match w.learned with
      | some c => tabSet 0 s1.loop.pool (fld32 x.rcd 96 + c.1) c.2
      | none => s1.loop.pool
    let s2 := leMod (fun e =>
      { e with pool := pool, delayMax := if e.delayMax.toNat < d then BitVec.ofNat 32 (min d 0xFFFFFFFF) else e.delayMax }) s1
    let s3 := loopSignals n (loopDrive n u s2)
    if sendsToStandby s3 then emit (.loopEntry (loopEntry n s3)) s3 else s3

/-- The signature of a copy's working state after a sample, computed with the key of R53 (R231). -/
def loopSignature (work : List Byte) (s : State) : BitVec 128 := Config.hash128 (le 16 s.cpl.key.toNat ++ work)

/-- `LOOP_COPY_DELIVERY` (R231 to R233): `work` is the loop's working state after the sample, as the copy holds it. -/
def execLoopCopyDelivery (n : Fin 256) (l : Lane) (u : F64) (work : List Byte) (s : State) : Host.Outcome State Fault Refusal :=
  .next (
    let x := loopAt n.val s
    let sig := loopSignature work s
    match x.sample with
    | none => s
    | some p =>
      if (loopVoters p.tick s).contains l = false then s
      else if p.got.any (fun g => g.1 == l) then s
      else
        let p2 := { p with got := p.got ++ [(l, u, sig)] }
        let s1 := loopMod n.val (fun x => { x with sample := some p2 }) s
        match p.agreed with
        | some a => if a = (u, sig) then s1 else followTasks s (excludeLane l s1)
        | none =>
          if (loopVoters p.tick s).length ≤ 1 ∨ p.got.any (fun g => g.2 == (u, sig)) then
            let odd := (p.got.filter fun g => g.2 != (u, sig)).map (·.1)
            followTasks s (odd.foldl (fun t k => excludeLane k t) (loopAgreed n.val u sig s1))
          else s1)

/-- A missed sample (R232): counted; at MISS_LIMIT a loop in MANUAL or AUTO enters FALLBACK. -/
def loopMissed (n : Nat) (s : State) : State :=
  let s1 := loopMod n (fun x => { x with sample := none, missed := x.missed + 1, consec := x.consec + 1 }) s
  let s2 := leMod (fun e => { e with missed := if e.missed = 0xFFFFFFFF then e.missed else e.missed + 1 }) s1
  let x := loopAt n s2
  if fld8 x.rcd 136 ≤ x.consec ∧ (x.mode = .manual ∨ x.mode = .auto) then loopEnter n .fallback 0x03 s2 else s2

/-- `LOOP_SAMPLE_DEADLINE` (R232): absent copies are odd, or the sample is MISSED; without a quorum among differing results it is
unresolved as well. -/
def execLoopSampleDeadline (n : Fin 256) (s : State) : Host.Outcome State Fault Refusal :=
  .next (
    let x := loopAt n.val s
    match x.sample with
    | none => s
    | some p =>
      if now s < p.tick + loopDelta x.rcd then s
      else
        match p.agreed with
        | some _ =>
          let late := (loopVoters p.tick s).filter fun l => !(p.got.any fun g => g.1 == l)
          followTasks s (late.foldl (fun t l => excludeLane l t) (loopMod n.val (fun x => { x with sample := none }) s))
        | none =>
          let s1 := loopMissed n.val s
          if 2 ≤ p.got.length then
            let s2 := leMod (fun e => { e with unresolved := if e.unresolved = 0xFF then 0xFF else e.unresolved + 1 }) s1
            let s3 := if (loopAt n.val s2).mode = .off then s2 else loopEnter n.val .fallback 0x05 s2
            followTasks s (unresolvedMismatch (srcLoop n.val) s3)
          else s1)

/-! ## Checkpoints (R246) and the pair (R245) -/

/-- What a checkpoint holds of a loop. -/
def loopSave (x : Loop) : LoopSaved where
  mode := x.mode
  manual := x.manual
  rEff := x.work.rEff
  target := x.work.target
  i := x.work.i
  u := x.work.u

/-- The newest valid checkpoint (R206, R246). -/
def checkNewest (s : State) : Option LoopCheckpoint :=
  let a := s.loop.check[0]
  let b := s.loop.check[1]
  if a.valid && (!b.valid || decide (b.update ≤ a.update)) then some a else if b.valid then some b else none

/-- `LOOP_CHECKPOINT_WRITE` (R246): every 10 s, or after a change of mode, once the retained queue is served; the copies alternate. -/
def execLoopCheckpointWrite (s : State) : Host.Outcome State Fault Refusal :=
  .next (
    if (s.loop.dirty = false ∧ now s < s.loop.lastCheck + 10 * sec) ∨ s.retained.queue ≠ [] then s
    else
      let up := (checkNewest s).elim 0 (·.update) + 1
      let c : LoopCheckpoint := { update := up, valid := true,
                                  loops := s.loop.loops.map fun p => (p.1, loopSave p.2), pool := s.loop.pool }
      leMod (fun e => { e with check := vset e.check (up % 2) c, lastCheck := now s, dirty := false }) s)

/-- The 72 bytes of a loop's state are taken over (R245). -/
def loopTake (e : List Byte) (s : State) : State :=
  let n := fld16 e 0
  if 256 ≤ n ∨ e.length ≠ 72 then s
  else
    let x := loopAt n s
    match loopModeOf (fld8 e 2) with
    | none => s
    | some m =>
      let cell := fld16 e 6
      let w := { x.work with
        ramping := bit (fld8 e 3) 0, repActive := bit (fld8 e 3) 1, repFrozen := bit (fld8 e 3) 2
        u := fldL e 16, i := fldL e 24, d := fldL e 32, yf := fldL e 40, edPrev := fldL e 48, rEff := fldL e 56
        started := true, cell := cell }
      let s1 := loopMod n (fun x =>
        { x with mode := m, gen := BitVec.ofNat 16 (fld16 e 4), samples := fld64 e 8, work := w }) s
      if cell = 0xFFFF then s1
      else leMod (fun g => { g with pool := tabSet 0 g.pool (fld32 x.rcd 96 + cell) (fldW e 64) }) s1

/-- `LOOP_STATE_ENTRY_RECEIVED` (R245): a standby takes the active module's state of a loop. -/
def execLoopStateEntryReceived (e : List Byte) (s : State) : Host.Outcome State Fault Refusal :=
  .next (if s.modes.mode = .standby then loopTake e s else s)

/-! ## Commands (R239 to R243, R502, R507, R513) -/

/-- The first tick of a loop at or after a time. -/
def loopTickFrom (x : Loop) (t : Nat) : Nat :=
  let p := max 1 (loopPeriod x.rcd)
  if t ≤ x.next then x.next - (x.next - t) / p * p else x.next + (t - x.next + p - 1) / p * p

/-- A new active module drives each loop's output at the last U received, and computes the loop from its first tick after the
takeover (R245, R436). -/
def loopsTakeover (s : State) : State :=
  s.loop.loops.foldl (fun t p =>
    if p.2.rcd = [] then t
    else
      let u := loopMod p.1 (fun x => { x with next := loopTickFrom x (now t), sample := none }) t
      if p.2.mode = .off then u else loopDrive p.1 p.2.work.u u) s

/-- Records of the other loops whose cells a check counts: active ranges, and scheduled ones (R241). -/
def otherLoops (n : Nat) (s : State) : List (List Byte) :=
  (s.loop.loops.filter fun p => p.1 != n).flatMap fun p =>
    p.2.rcd :: (match p.2.sched with
      | some (_, mask, snap) => [copyGroups mask snap p.2.rcd]
      | none => [])

/-- The record in force follows tuning, so that the values survive a start (R507). -/
def storeLoop (n : Nat) (r : List Byte) (s : State) : State :=
  { s with cfg := { s.cfg with cur := { s.cfg.cur with recs := tabSet [] s.cfg.cur.recs (0x0040 * 2 ^ 32 + n) r } } }

/-- The group of a tunable field; 3 for an ungrouped one (R238). -/
def fieldGroup (o : Nat) : Nat := ((tuneFields.find? fun f => f.1 == o).map (·.2.2)).getD 3

/-- Puts fields into a record, offset and bytes. -/
def putFields (fs : List (Nat × List Byte)) (r : List Byte) : List Byte := fs.foldl (fun r f => putAt r f.1 f.2) r

/-- A tuning write is taken: ungrouped fields apply from `t`, or at once in MAINTENANCE, where no loop runs; grouped ones go to the
shadows (R239, R507). -/
def takeTune (n t : Nat) (fs : List (Nat × List Byte)) (s : State) : State :=
  let x := loopAt n s
  let plain := fs.filter fun f => fieldGroup f.1 == 3
  let grouped := fs.filter fun f => fieldGroup f.1 != 3
  let mask : BitVec 3 := grouped.foldl (fun b f => b ||| BitVec.ofNat 3 (2 ^ fieldGroup f.1)) 0
  let still := s.modes.mode == .maintenance
  if x.rcd = [] then s
  else
    storeLoop n (putFields plain (cfgRec 0x0040 n s)) (loopMod n (fun x => { x with
      shadow := putFields grouped (if x.shadow = [] then x.rcd else x.shadow), pend := x.pend ||| mask
      again := if x.sched.isSome then x.again ||| mask else x.again
      rcd := if still then putFields plain x.rcd else x.rcd
      tune := if plain = [] ∨ still then x.tune else x.tune ++ [(t, plain)] }) s)

/-- A group apply is scheduled for tick K with its snapshot (R240, R507). -/
def takeApply (n k : Nat) (mask : BitVec 3) (snap : List Byte) (s : State) : State :=
  if (loopAt n s).rcd = [] then s
  else loopMod n (fun x => { x with sched := some (k, mask, snap), again := 0 }) (storeLoop n (copyGroups mask snap (cfgRec 0x0040 n s)) s)

/-- A repetitive reset is scheduled for the first tick at or after `t` (R243). -/
def takeReset (n t : Nat) (s : State) : State :=
  if (loopAt n s).rcd = [] then s else loopMod n (fun x => { x with repReset := some t }) s

/-- What the standby needs to follow a loop's tuning is sent to it (R245). -/
def tellStandby (c : PairControl) (s : State) : State := if sendsToStandby s then emit (.control c) s else s

/-- `TUNE_WRITE` (R239, R507). -/
def execTuneWrite (m : MbxId) (s : State) : Host.Outcome State Fault Refusal :=
  .next (runCommand 0x0306 m (fun q s =>
    let n := fld16 q.pay 0
    let cnt := fld16 q.pay 2
    let x := loopAt n s
    let ents := (List.range cnt).map fun k => slice q.pay (4 + 16 * k) 16
    let look (e : List Byte) : Option (Nat × Nat × Nat) := tuneFields.find? fun f => f.1 == fld16 e 0 && f.2.1 == fld16 e 2
    if 256 ≤ n ∨ x.rcd = [] ∨ cnt = 0 ∨ 32 < cnt then (s, st stInconsistent)
    else
      let bad := (ents.zipIdx).find? fun e =>
        match look e.1 with
        | none => true
        | some f => !loopFieldOk (putAt x.rcd f.1 (slice e.1 8 f.2.1)) f.1
      match bad with
      | some e => (s, stDetail stInconsistent e.2)
      | none =>
        let fs := ents.filterMap fun e => (look e).map fun f => (f.1, slice e 8 f.2.1)
        let tick := if fs.all (fun f => fieldGroup f.1 != 3) then 0
          else if s.modes.mode = .maintenance then now s else loopTickFrom x (now s + 20 * us)
        let t := takeTune n (now s + 20 * us) fs s
        (tellStandby (.loopTune n (now s + 20 * us) fs) t, ok (le 8 tick ++ le 1 (loopAt n t).pend.toNat ++ zeros 7))) s)

/-- `GROUP_APPLY` (R240 to R242). -/
def execGroupApply (m : MbxId) (s : State) : Host.Outcome State Fault Refusal :=
  .next (runCommand 0x0307 m (fun q s =>
    let n := fld16 q.pay 0
    let ask := BitVec.ofNat 3 (fld8 q.pay 2)
    let x := loopAt n s
    let answer (k : Nat) (g : BitVec 16) (mask : BitVec 3) : Resp := ok (le 8 k ++ le 2 g.toNat ++ le 1 mask.toNat ++ zeros 5)
    if 256 ≤ n ∨ x.rcd = [] ∨ 7 < fld8 q.pay 2 then (s, st stInconsistent)
    else if x.sched.isSome then (s, st stBusy)
    else
      let mask := if ask = 0 then x.pend else ask
      if mask &&& x.pend = 0 then (s, answer 0 x.gen 0)
      else
        let snap := if x.shadow = [] then x.rcd else x.shadow
        let r := copyGroups (mask &&& x.pend) snap x.rcd
        if groupOk r (otherLoops n s) (fun c => (digAt c s).rcd) = false then (s, st stInconsistent)
        else
          let app := mask &&& x.pend
          if s.modes.mode = .maintenance then
            ((applySched n (now s) (takeApply n (now s) app snap s)).1, answer (now s) (x.gen + 1) app)
          else
            let k := loopTickFrom x (now s + 20 * us)
            (tellStandby (.loopApply n k app snap) (takeApply n k app snap s), answer k (x.gen + 1) app)) s)

/-- The 64-byte state record of a loop (R249). -/
def loopStateRecord (n : Nat) (s : State) : List Byte :=
  let x := loopAt n s
  let w := x.work
  le 2 n ++ le 1 (loopModeCode x.mode) ++ le 1 x.reason ++ le 4 (loopFlags x s) ++ le 8 x.tickTime ++ le 8 x.samples ++
    le 4 (narrow w.yf).toNat ++ le 4 (narrow w.rEff).toNat ++ le 4 (narrow w.u).toNat ++ le 4 (narrow w.i).toNat ++
    le 4 x.delay ++ le 4 x.delayMax ++ le 4 x.missed ++ le 2 w.cell ++ le 2 x.gen.toNat ++ le 4 w.skips ++ zeros 4

/-- `LOOP_STATE_GET` (R230, R249, R513): DELAY_MAX_NS of each loop read restarts. -/
def execLoopStateGet (m : MbxId) (s : State) : Host.Outcome State Fault Refusal :=
  .next (runCommand 0x0601 m (fun q s =>
    let first := fld16 q.pay 0
    let cnt := fld16 q.pay 2
    let trace := bit (fld32 q.pay 4) 0
    let ns := List.range' first cnt
    if 256 < first + cnt ∨ 63 < cnt then (s, st stInconsistent)
    else if trace ∧ claimRoom q < 4096 * cnt then (s, stDetail stBadLength (4096 * cnt))
    else
      let ring (n : Nat) : List Byte :=
        let bs := ((loopAt n s).ring.reverse).flatMap (le 4)
        slice bs 0 4096
      let r : Resp := { status := stOk, pay := le 2 cnt ++ zeros 6 ++ ns.flatMap fun n => loopStateRecord n s,
                        data := if trace then ns.flatMap ring else [] }
      (ns.foldl (fun t n => if (loopAt n t).rcd = [] then t else loopMod n (fun x => { x with delayMax := 0 }) t) s, r)) s)

/-- `LOOP_MODE_SET` (R226, R227, R513). -/
def execLoopModeSet (m : MbxId) (s : State) : Host.Outcome State Fault Refusal :=
  .next (runCommand 0x0602 m (fun q s =>
    let n := fld16 q.pay 0
    let x := loopAt n s
    let v := f32At q.pay 4
    match loopModeOf (fld8 q.pay 2) with
    | none => (s, st stInconsistent)
    | some md =>
      let tick := loopTickFrom x (now s)
      if 256 ≤ n ∨ x.rcd = [] then (s, st stInconsistent)
      else if loopFlag x.rcd 1 = false then (s, st stRefusedState)
      else if x.mode = .manual ∧ md = .manual then
        ((if ffinite v then loopMod n (fun x => { x with hostAsk := some (1, v) }) s else s), ok (le 8 tick))
      else if loopGrants x md (now s) s = false then (s, st stRefusedState)
      else (loopMod n (fun x => { x with hostAsk := some (fld8 q.pay 2, v) }) s, ok (le 8 tick))) s)

/-- `LOOP_REP_RESET` (R243, R513). -/
def execLoopRepReset (m : MbxId) (s : State) : Host.Outcome State Fault Refusal :=
  .next (runCommand 0x0603 m (fun q s =>
    let n := fld16 q.pay 0
    let mark (t : State) (k : Nat) : State :=
      record sevEvent 0x0501 (srcLoop k) [] (tellStandby (.loopReset k (now s + 20 * us)) (takeReset k (now s + 20 * us) t))
    if n = 0xFFFF then ((s.loop.loops.map (·.1)).foldl mark s, ok (le 8 0))
    else if 256 ≤ n ∨ (loopAt n s).rcd = [] then (s, st stInconsistent)
    else (mark s n, ok (le 8 (loopTickFrom (loopAt n s) (now s + 20 * us))))) s)

/-! ## A commit reaches the loops (R244) -/

/-- The first tick of a record at or after a time (R223). -/
def firstTick (r : List Byte) (t : Nat) : Nat :=
  let p := max 1 (loopPeriod r)
  let off := fld64 r 32
  if t ≤ off then off % p + (t - off % p + p - 1) / p * p else off + (t - off + p - 1) / p * p

/-- A commit that changes a loop's record discards its shadows, and a CAUTION is recorded where a group was pending (R239). -/
def dropShadows (n : Nat) (new_ : List Byte) (s : State) : State :=
  let t := loopMod n (fun x => { x with sched := none, pend := 0, again := 0, shadow := new_ }) s
  if (loopAt n s).pend = 0 then t else record sevCaution 0x0500 (srcLoop n) [] t

/-- A loop's record changes by configuration commit (R218, R244). -/
def loopConfigure (n : Nat) (new_ : List Byte) (s : State) : State :=
  let x := loopAt n s
  if new_ = x.rcd then s
  else if new_ = [] then loopMod n (fun _ => loopReset) (clearCells x.rcd (loopZero n s))
  else if x.rcd = [] then
    clearCells new_ (loopMod n (fun _ => { loopReset with rcd := new_, shadow := new_, next := firstTick new_ (now s) }) s)
  else
    let timing := slice x.rcd 24 16 != slice new_ 24 16
    let s1 := dropShadows n new_
      (loopMod n (fun x => { x with fresh := some new_, next := if timing then firstTick new_ (now s) else x.next }) s)
    if s.modes.mode = .maintenance then (applyFresh n s1).1 else s1

/-- The loops whose MODE_REQ a task writes (R226). -/
def loopsOfTask (t : Nat) (s : State) : List Nat := ((Config.taskLoopFields (taskImage t s) t).filter fun f => f.2 == 1).map (·.1)

/-- A cold restart of the task that writes a loop's MODE_REQ: a loop in AUTO enters MANUAL, REASON RESTART (R244). -/
def loopsRestart (ts : List Nat) (s : State) : State :=
  let ns := ts.flatMap fun t => loopsOfTask t s
  (s.loop.loops.map (·.1)).foldl (fun t n =>
    if (loopAt n t).mode = .auto ∧ ns.contains n then loopEnter n .manual 0x09 t else t) s

/-- Loops whose output channel is marked FAILED enter FALLBACK (R226, R267). -/
def loopsOutFailed (ch : Nat) (s : State) : State :=
  if loopsRun s = false ∨ (ucAt ch s).st ≠ .failed then s
  else
    (s.loop.loops.map (·.1)).foldl (fun t n =>
      let x := loopAt n t
      if outChannel x.rcd = some ch ∧ (x.mode = .manual ∨ x.mode = .auto) then loopEnter n .fallback 0x04 t else t) s

/-- `CONVERTER_REGULATION_FAULT` (R226, R267, R302). -/
def execConverterRegulationFault (ch : Fin 16) (s : State) : Host.Outcome State Fault Refusal :=
  .next (loopsOutFailed ch.val (reacting (stepConverterRegulationFault ch) s))

end Sys2Proof.Machine
end

