-- ==== Sys2Proof/Machine/Panels.lean ====
section
/-! DEFINITION. The panels (R402 to R421, R520): the panel record, waveform sets, updates and their admission, the frames, the panel
power, temperature and bands, the checkpoint, and the commands of the host. -/

namespace Sys2Proof.Machine

/-- Panel `p`. -/
def panelAt (p : Nat) (s : State) : Panel := vget panelReset s.panel p

/-- Changes panel `p`. -/
def panelMod (p : Nat) (f : Panel → Panel) (s : State) : State := { s with panel := vmod s.panel p f }

/-- SOURCE of a panel port's records (R457, R529). -/
def srcPanel (p : Nat) : Word := srcUnit (0x0D + p)

/-- Whether a panel record is in force and ENABLED (R404, R420). -/
def panelEnabled (r : List Byte) : Bool := r != [] && bit (fld8 r 1) 0

/-- WIDTH of a panel record. -/
def panelWidth (r : List Byte) : Nat := fld16 r 2

/-- HEIGHT of a panel record. -/
def panelHeight (r : List Byte) : Nat := fld16 r 4

/-- Where the pixel of a row and a column stands in a panel's pixels. -/
def pixelKey (row col : Nat) : Nat := row * 2400 + col

/-- The line time t_L in ns (R405). -/
def lineTime (r : List Byte) : Nat := fld16 r 2 / 8 * fld8 r 7 * 5 + fld16 r 8 + fld16 r 10

/-- The first failing field of a panel record, as its offset (R404, R405). -/
def panelRecFail (index : Nat) (r : List Byte) : Option Nat :=
  let hz := fld8 r 6
  let w := fld16 r 2
  if fld8 r 0 ≠ index ∨ 1 < fld8 r 0 then some 0
  else if w < 8 ∨ 2400 < w ∨ w % 8 ≠ 0 then some 2
  else if fld16 r 4 < 1 ∨ 1600 < fld16 r 4 then some 4
  else if hz < 25 ∨ 85 < hz then some 6
  else if fld8 r 7 < 4 ∨ 16 < fld8 r 7 then some 7
  else if fld16 r 8 < 20 ∨ 1000 < fld16 r 8 ∨ fld16 r 8 % 5 ≠ 0 then some 8
  else if 5000 < fld16 r 10 ∨ fld16 r 10 % 5 ≠ 0 then some 10
  else if 128 ≤ fld8 r 12 then some 12
  else if 128 ≤ fld8 r 13 then some 13
  else if 1 < fld8 r 18 then some 18
  else if fld8 r 19 < 16 ∨ 127 < fld8 r 19 then some 19
  else if fld32 r 20 < 1 ∨ 100000 < fld32 r 20 then some 20
  else if fld16 r 24 < 1 ∨ 100 < fld16 r 24 then some 24
  else if 60000 < fld16 r 26 then some 26
  else if 3600 < fld16 r 28 then some 28
  else if sec < ((fld16 r 4 + 1) * lineTime r + 100 * us) * hz then some 4
  else none

/-! ## Waveform sets (R406, R407) -/

/-- The drive code of no drive. -/
def codeNone : BitVec 2 := 0b00#2
/-- The positive drive code. -/
def codePositive : BitVec 2 := 0b01#2
/-- The negative drive code. -/
def codeNegative : BitVec 2 := 0b10#2

/-- The 8-byte index entry of a mode, band, old and new level (R406). -/
def waveEntry (w : List Byte) (mode band old new : Nat) : List Byte :=
  slice w (fld32 w 28 + 8 * (((mode * 16 + band) * 16 + old) * 16 + new)) 8

/-- The codes of an index entry (R406). -/
def waveCodes (w e : List Byte) : List (BitVec 2) :=
  (List.range (fld8 e 4)).map fun k => BitVec.ofNat 2 (fld8 w (fld32 w 32 + fld32 e 0 + k / 4) / 4 ^ (k % 4))

/-- The overdrive of a band, previous and next level (R406). -/
def overdrive (w : List Byte) (band prev new : Nat) : Int := signed 8 (fld8 w (fld32 w 36 + (band * 16 + prev) * 16 + new))

/-- A code's contribution to the ledger: +1 positive, −1 negative (R407). -/
def codeSign (c : BitVec 2) : Int := if c = codePositive then 1 else if c = codeNegative then -1 else 0

/-- Whether the running sums of a waveform stay within −48 to +48 and it sums to 0 (R407). -/
def sumsOk : Int → List (BitVec 2) → Bool
  | x, [] => x == 0
  | x, c :: cs => let y := x + codeSign c; decide (-48 ≤ y) && decide (y ≤ 48) && sumsOk y cs

/-- Whether an index entry is allowed (R406, R407). -/
def waveEntryOk (w : List Byte) (mode : Nat) (e : List Byte) : Bool :=
  let n := fld8 e 4
  let cs := waveCodes w e
  decide (n ≤ 96) && decide (fld32 w 32 + fld32 e 0 + (n + 3) / 4 ≤ fld32 w 16) && cs.all (fun c => c != 0b11#2) && sumsOk 0 cs &&
    (fld8 e 5 == 0xFF || decide (fld8 e 5 < n)) && (if mode = 3 then decide (fld8 e 6 < n) else fld8 e 6 == 0xFF)

/-- Threshold `k` of a set, in 0.1 °C (R406). -/
def waveThreshold (w : List Byte) (k : Nat) : Int := signed 16 (fld16 w (fld32 w 24 + 2 * k))

/-- Whether a set of `n` bytes passes the checks of R407. -/
def waveSetOk (w : List Byte) (n : Nat) : Bool :=
  let bands := fld8 w 20
  let fits (off len : Nat) : Bool := decide (off + len ≤ n)
  fld32 w 0 == 0x57465359 && fld16 w 4 == 1 && fld32 w 16 == n && fldW w 44 == crc32c ((w.drop 64).take (n - 64)) &&
    decide (1 ≤ bands) && decide (bands ≤ 16) && fits (fld32 w 24) 30 && fits (fld32 w 28) (16384 * 8) && fits (fld32 w 32) 0 &&
    fits (fld32 w 36) 4096 && fits (fld32 w 40) 128 &&
    (List.range (bands - 2)).all (fun k => decide (waveThreshold w k < waveThreshold w (k + 1))) &&
    (List.range 4).all (fun mode => (List.range bands).all fun b => (List.range 16).all fun o => (List.range 16).all fun l =>
      waveEntryOk w mode (waveEntry w mode b o l)) &&
    (List.range bands).all (fun b => (List.range 16).all fun q => (List.range 16).all fun l =>
      decide (-16 ≤ overdrive w b q l) && decide (overdrive w b q l ≤ 16)) &&
    (List.range bands).all (fun b =>
      let v := fld32 w 40 + 8 * b
      let vcom := signed 16 (fld16 w v)
      let vneg := signed 16 (fld16 w (v + 4))
      decide (-5000 ≤ vcom) && decide (vcom ≤ 0) && decide (10000 ≤ fld16 w (v + 2)) && decide (fld16 w (v + 2) ≤ 16000) &&
        decide (-16000 ≤ vneg) && decide (vneg ≤ -10000))

/-! ## Updates (R408 to R412) -/

/-- The updates of a panel that hold a slot. -/
def updatesOf (p : Nat) (s : State) : List Update := s.updates.filter fun u => u.panel == p

/-- The updates of a panel in flight. -/
def runningOf (p : Nat) (s : State) : List Update := (updatesOf p s).filter fun u => u.st == .running

/-- Whether all 32 slots of the engine are taken (R408). -/
def slotsFull (s : State) : Bool := decide (32 ≤ s.updates.length)

/-- Changes the update of an order of acceptance. -/
def updateMod (order : Nat) (f : Update → Update) (s : State) : State :=
  { s with updates := s.updates.map fun u => if u.order = order then f u else u }

/-- The order of acceptance that comes next across both panels (R411). -/
def nextOrder (s : State) : Nat := s.updates.foldl (fun n u => max n (u.order + 1)) 1

/-- Identity of the next update of a panel (R408). -/
def nextUpdateId (p : Nat) (s : State) : Nat := (panelAt p s).nextId

/-- The pixels of a rectangle in row order. -/
def rectKeys (x y w h : Nat) : List Nat := (List.range (w * h)).map fun k => pixelKey (y + k / w) (x + k % w)

/-- The levels the pixels of a rectangle hold. -/
def rectLevels (p x y w h : Nat) (s : State) : List Nat :=
  (rectKeys x y w h).map fun k => (tabGet pixelReset (panelAt p s).pix k).level

/-- The levels of a packed image: two per byte, the even column in bits [3:0], rows at a stride of ceil(W / 2) (R408). -/
def imageLevels (img : List Byte) (w h : Nat) : List Nat :=
  (List.range (w * h)).map fun k => bits (fld8 img (k / w * ((w + 1) / 2) + k % w / 2)) (k % w % 2 * 4) 4

/-- Queues an update on a panel (R408). -/
def queueUpdate (p mode x y w h : Nat) (levels : List Nat) (cleaning : Bool) (s : State) : State :=
  let u : Update :=
    { panel := p, id := nextUpdateId p s, order := nextOrder s, st := .queued, mode := mode, x := x, y := y, w := w, h := h,
      image := levels, superseded := 0, excursion := false, cleaning := cleaning }
  let t := panelMod p (fun q => { q with nextId := (q.nextId + 1) % 2 ^ 32, lastUpdate := now s }) s
  { t with updates := t.updates ++ [u] }

/-- An update that completes: its identity joins the last 32 (R410). -/
def completeUpdate (p id : Nat) (faulted : Bool) (s : State) : State :=
  panelMod p (fun q => { q with completed := ((id, faulted) :: q.completed).take 32 }) s

/-- The target that a mode drives a level to (R409). -/
def modeTarget (mode level : Nat) : Nat := if mode = 2 then (if level ≤ 7 then 0 else 15) else level

/-- Removes up to `n` leading codes while they equal `c`. -/
def dropEqual : Nat → BitVec 2 → List (BitVec 2) → List (BitVec 2)
  | 0, _, cs => cs
  | _ + 1, _, [] => []
  | n + 1, c, x :: cs => if x = c then dropEqual n c cs else x :: cs

/-- The codes of a pixel's waveform, formed at its start (R412). -/
def startCodes (w : List Byte) (mode band new : Nat) (x : Pixel) : List (BitVec 2) :=
  let e := waveEntry w mode band x.level new
  let cs := waveCodes w e
  if mode ≤ 1 then
    let a := fld8 e 5
    if a = 0xFF then cs
    else
      let n := overdrive w band x.prev new
      let c := (cs[a]?).getD codeNone
      let rest := if 0 ≤ n then List.replicate n.toNat c ++ cs.drop (a + 1) else dropEqual (-n).toNat c (cs.drop (a + 1))
      (cs.take (a + 1) ++ rest).take 96
  else if mode = 3 ∧ x.ledger ≠ 0 then
    let b := fld8 e 6
    cs.take (b + 1) ++ List.replicate x.ledger.natAbs (if 0 < x.ledger then codeNegative else codePositive) ++ cs.drop (b + 1)
  else cs

/-- Ends a pixel's waveform: PREV and LEVEL follow (R412). -/
def endFlight (x : Pixel) : Pixel :=
  match x.flight with
  | some f => if f.codes = [] then { x with prev := x.level, level := f.new, flight := none } else x
  | none => x

/-- Starts a pixel's pending waveform where none is in flight (R409, R412). -/
def startPixel (w : List Byte) (band : Nat) (x : Pixel) : Pixel :=
  match x.flight, x.next with
  | none, some (upd, new, mode) =>
    let y := { x with next := none }
    if (mode = 1 ∨ mode = 2) ∧ new = x.level then y
    else
      let cs := startCodes w mode band new x
      if fld8 (waveEntry w mode band x.level new) 4 = 0 then { y with prev := x.level, level := new }
      else { y with flight := some { upd := upd, new := new, codes := cs } }
  | _, _ => x

/-- The code a pixel is driven with in this frame. -/
def pixelCode (x : Pixel) : Option (BitVec 2) :=
  match x.flight with
  | some f => f.codes.head?
  | none => none

/-- Drives one frame of a pixel: the ledger follows the code, held at ±127 (R412). -/
def drivePixel (x : Pixel) : Pixel :=
  match x.flight with
  | some f => { x with
      ledger := max (-127) (min 127 (x.ledger + codeSign ((f.codes.head?).getD codeNone)))
      flight := some { f with codes := f.codes.drop 1 } }
  | none => x

/-- Whether driving a pixel's next code saturates its ledger. -/
def saturates (x : Pixel) : Bool :=
  match x.flight with
  | some f => let y := x.ledger + codeSign ((f.codes.head?).getD codeNone); decide (y < -127) || decide (127 < y)
  | none => false

/-- Whether an update still has a pixel in flight or pending. -/
def updateOpen (u : Update) (q : Panel) : Bool :=
  q.pix.any fun e =>
    (match e.2.flight with
     | some f => f.upd == u.order
     | none => false) ||
    (match e.2.next with
     | some n => n.1 == u.order
     | none => false)

/-- Whether a pixel is marked: |L| is at or above LEDGER_LIMIT (R413). -/
def pixelMarked (r : List Byte) (x : Pixel) : Bool := decide (fld8 r 19 ≤ x.ledger.natAbs)

/-- An update whose every pixel ended becomes CHECKPOINTING; the pixels are marked, and an excursion queues its CLEAN (R410, R413,
R414). -/
def finishUpdate (p : Nat) (s : State) (u : Update) : State :=
  if updateOpen u (panelAt p s) then s
  else
    let t := updateMod u.order (fun v => { v with st := .checkpointing }) s
    let t2 := panelMod p (fun q => { q with
      ledgerOver := q.pix.any (fun e => pixelMarked q.rcd e.2)
      lastUpdate := now s }) t
    if u.excursion then queueUpdate p 3 u.x u.y u.w u.h (rectLevels p u.x u.y u.w u.h t2) false t2 else t2

/-- Ends the waveforms that have no code left, and finishes the updates that this completes. -/
def endFlights (p : Nat) (s : State) : State :=
  let t := panelMod p (fun q => { q with pix := tabMap pixelReset (fun _ x => endFlight x) q.pix }) s
  (runningOf p t).foldl (finishUpdate p) t

/-! ## Bands and power (R414 to R416) -/

/-- Removes panel power. -/
def panelOff (p : Nat) (s : State) : State :=
  panelMod p (fun q => { q with pwrEn := false, pwrGood := false, confirmed := false, framing := false }) s

/-- A panel power or voltage fault: panel power is removed and a WARNING made (R415, R416). -/
def panelPowerFault (p : Nat) (s : State) : State :=
  record sevWarning 0x0B08 (srcPanel p) [] (panelMod p (fun q => { q with powerFault := true }) (panelOff p s))

/-- The panel band follows the measured band while no update is in flight; voltages already up are written and read back (R414,
R415).  What a read-back answers is open: a free value. -/
def changeBand (p : Nat) (s : State) : State :=
  let q := panelAt p s
  if runningOf p s != [] then s
  else
    let t := panelMod p (fun q => { q with band := q.meas, held := false, differs := none }) s
    if q.band = q.meas ∨ !q.confirmed then t
    else if (freeValue t).getLsbD 0 then nextFree t
    else panelPowerFault p (nextFree t)

/-- Whether an update fits a panel record. -/
def updateFits (r : List Byte) (u : Update) : Bool :=
  panelEnabled r && decide (u.x + u.w ≤ panelWidth r) && decide (u.y + u.h ≤ panelHeight r)

/-- A record takes effect on a panel: what no longer fits ends FAULTED (R405). -/
def takePanelRecord (p : Nat) (r : List Byte) (s : State) : State :=
  let gone := (updatesOf p s).filter fun u => u.st == .queued && !updateFits r u
  let t := panelMod p (fun q => { q with rcd := r, newRcd := none }) s
  let t2 := { t with updates := t.updates.filter fun u => !(u.panel == p && u.st == .queued && !updateFits r u) }
  healthFollows (0x0D + p) (panelEnabled r) (gone.foldl (fun v u => completeUpdate p u.id true v) t2)

/-- A changed record waits until no update of the panel is in flight (R405). -/
def panelConfigure (p : Nat) (r : List Byte) (s : State) : State :=
  if r = (panelAt p s).rcd then panelMod p (fun q => { q with newRcd := none }) s
  else if runningOf p s = [] then takePanelRecord p r s
  else panelMod p (fun q => { q with newRcd := some r }) s

/-- What waited for the flights of a panel to end: a changed record, and a change of band. -/
def panelIdleWork (p : Nat) (s : State) : State :=
  if runningOf p s != [] then s
  else
    let t :=
      match (panelAt p s).newRcd with
      | some r => takePanelRecord p r s
      | none => s
    changeBand p t

/-- The panel supplies and voltages are up for at least 1 ms (R416). -/
def panelPowered (q : Panel) (t : Nat) : Bool := q.pwrEn && q.pwrGood && q.confirmed && decide (q.enabledAt + ms ≤ t)

/-! ## Admission (R411, R418) -/

/-- Bytes of pixel state per second of an update (R411). -/
def updateTraffic (u : Update) (s : State) : Nat := 4 * u.w * u.h * fld8 (panelAt u.panel s).rcd 6

/-- Whether an update is admitted beside those in flight (R411, R414). -/
def admissible (u : Update) (s : State) : Bool :=
  let q := panelAt u.panel s
  let sum := (s.updates.filter fun v => v.st == .running).foldl (fun n v => n + updateTraffic v s) (updateTraffic u s)
  decide (sum ≤ 1400000000) && !q.held && q.newRcd.isNone &&
    (match q.tempAt with
     | some x => decide (now s ≤ x + sec)
     | none => false)

/-- The pending start of a pixel that an update reaches: the pixel of an earlier one is superseded (R412). -/
def reachPixel (u : Update) (s : State) (e : Nat × Nat) : State :=
  let x := tabGet pixelReset (panelAt u.panel s).pix e.1
  let t :=
    match x.next with
    | some n => updateMod n.1 (fun v => { v with superseded := v.superseded + 1 }) s
    | none => s
  panelMod u.panel (fun q => { q with
    pix := tabSet pixelReset q.pix e.1 { x with next := some (u.order, modeTarget u.mode e.2, u.mode) } }) t

/-- The open intent record that an update writes before its first frame (R418). -/
def openIntent (u : Update) (s : State) : State :=
  panelMod u.panel (fun q =>
    if q.intents.any (fun i => i.id == u.id) then q
    else { q with intents := q.intents ++ [{ id := u.id, mode := u.mode, x := u.x, y := u.y, w := u.w, h := u.h }] }) s

/-- Admits an update (R410, R412, R418). -/
def admitUpdate (u : Update) (s : State) : State :=
  let t := openIntent u (updateMod u.order (fun v => { v with st := .running }) s)
  ((rectKeys u.x u.y u.w u.h).zip u.image).foldl (reachPixel u) t

/-- Admits from the head of the queue while the head is an update of panel `p` that may be admitted: at most `n` (R411). -/
def admitQueued (p : Nat) : Nat → State → State
  | 0, s => s
  | n + 1, s =>
    match s.updates.find? (fun u => u.st == .queued) with
    | some u => if u.panel = p ∧ admissible u s then admitQueued p n (admitUpdate u s) else s
    | none => s

/-! ## The frame (R405, R412, R416) -/

/-- Where a pixel stands in the order in which a frame sends it (R403). -/
def sendPlace (r : List Byte) (k : Nat) : Nat :=
  let row := k / 2400
  let col := k % 2400
  pixelKey (if bit (fld8 r 1) 2 then panelHeight r - 1 - row else row) (if bit (fld8 r 1) 1 then panelWidth r - 1 - col else col)

/-- The codes of a frame in sending order: pixels in flight only; all others are sent as no drive. -/
def frameCodes (q : Panel) : List (Nat × BitVec 2) :=
  (q.pix.foldl (fun (t : Tab (Nat × BitVec 2)) e =>
    match pixelCode e.2 with
    | some c => tabInsert (sendPlace q.rcd e.1) (e.1, c) t
    | none => t) []).map (·.2)

/-- Starts the pending pixels of a panel and drives one frame, where a pixel is in flight. -/
def driveFrame (p : Nat) (s : State) : State :=
  let t := panelMod p (fun q => { q with pix := tabMap pixelReset (fun _ x => startPixel q.waves q.band.toNat x) q.pix }) s
  let q := panelAt p t
  if q.pix.any (fun e => e.2.flight.isSome) then
    let u := panelMod p (fun q => { q with
      framing := true
      lastFrame := now s
      ledgerSat := q.ledgerSat || q.pix.any (fun e => saturates e.2)
      pix := tabMap pixelReset (fun _ x => drivePixel x) q.pix }) t
    emit (.panelFrame p (frameCodes q)) u
  else panelMod p (fun q => { q with framing := false }) t

/-- Whether a panel has work for a frame: an update in flight, or the head of the queue. -/
def panelWork (p : Nat) (s : State) : Bool :=
  runningOf p s != [] || (s.updates.find? (fun u => u.st == .queued)).any (fun u => u.panel == p)

/-- A frame start of an ENABLED panel (R411 to R416). -/
def frameStart (p : Nat) (s : State) : State :=
  let t := panelIdleWork p (endFlights p s)
  let q := panelAt p t
  if !panelWork p t then panelMod p (fun q => { q with framing := false }) t
  else if !q.pwrEn then panelMod p (fun q => { q with pwrEn := true, enabledAt := now s, framing := false }) t
  else if !panelPowered q (now s) then t
  else (runningOf p (driveFrame p (admitQueued p 32 t))).foldl (finishUpdate p) (driveFrame p (admitQueued p 32 t))

/-- The panel engine or the port failed its BIST: the panel is not driven (R457). -/
def panelHeldDown (p : Nat) (s : State) : Bool := healthOf 0x0C s == 2 || healthOf (0x0D + p) s == 2

/-- `PANEL_FRAME_START` (R405, R411, R412, R416). -/
def execPanelFrameStart (p : Fin 2) (s : State) : Host.Outcome State Fault Refusal :=
  let q := panelAt p s
  .next (
    if s.modes.mode = .plinth ∨ s.power.powerFail ∨ !panelEnabled q.rcd ∨ panelHeldDown p.val s then s
    else if q.framing ∧ now s * fld8 q.rcd 6 < q.lastFrame * fld8 q.rcd 6 + sec then s
    else frameStart p s)

/-! ## Temperature (R414, R415) -/

/-- A reading in 1/256 °C (R404). -/
def panelReading (r : List Byte) (v : BitVec 16) : BitVec 16 := if fld8 r 18 = 1 then BitVec.ofNat 16 ((v.toNat % 256) * 256) else v

/-- Thresholds of a set that a temperature in 1/256 °C reaches, lowered by `less` in 0.1 °C. -/
def bandsReached (w : List Byte) (temp : Int) (less : Int) : Nat :=
  ((List.range (fld8 w 20 - 1)).filter fun k => decide ((waveThreshold w k - less) * 256 ≤ temp * 10)).length

/-- The measured band: it rises at a threshold and falls only 0.5 °C below one (R414). -/
def measuredBand (w : List Byte) (present : Nat) (temp : Int) : Nat :=
  max (bandsReached w temp 0) (min present (bandsReached w temp 5))

/-- How far apart two bands are. -/
def bandGap (a b : Nat) : Nat := max a b - min a b

/-- What the measured band asks for after a reading (R414). -/
def followBand (p : Nat) (s : State) : State :=
  let q := panelAt p s
  if q.meas = q.band then panelMod p (fun q => { q with differs := none }) s
  else if runningOf p s = [] then changeBand p s
  else
    let t := panelMod p (fun q => { q with differs := some (q.differs.getD (now s)) }) s
    if bandGap q.meas.toNat q.band.toNat ≤ 2 then t
    else
      let u := panelMod p (fun q => { q with excursion := true, held := true }) t
      let v := { u with updates := u.updates.map fun x => if x.panel = p ∧ x.st = .running then { x with excursion := true } else x }
      if (runningOf p s).all (fun x => x.excursion) then v else record sevWarning 0x0B09 (srcPanel p) [] v

/-- `PANEL_TEMP_READ` (R414, R415): a reading, or a read that failed. -/
def execPanelTempRead (p : Fin 2) (reading : Option (BitVec 16)) (s : State) : Host.Outcome State Fault Refusal :=
  let q := panelAt p s
  .next (
    if s.modes.mode = .plinth ∨ !panelEnabled q.rcd ∨ updatesOf p s = [] ∨ !due q.tempAt sec (now s) then s
    else
      match reading with
      | some v =>
        let x := panelReading q.rcd v
        followBand p (panelMod p (fun q => { q with
          temp := x
          tempFails := 0
          tempFault := false
          tempAt := some (now s)
          meas := BitVec.ofNat 4 (measuredBand q.waves q.meas.toNat x.toInt) }) s)
      | none =>
        let t := panelMod p (fun q => { q with
          i2cError := true
          tempFails := q.tempFails + 1
          tempFault := q.tempFault || decide (2 ≤ q.tempFails)
          tempAt := some (now s) }) s
        if !q.tempFault ∧ 2 ≤ q.tempFails then record sevWarning 0x0B0A (srcPanel p) [] t else t)

/-- `PANEL_BAND_HOLD` (R414): the bands have differed for 10 s. -/
def execPanelBandHold (p : Fin 2) (s : State) : Host.Outcome State Fault Refusal :=
  .next (
    match (panelAt p s).differs with
    | some x => if x + 10 * sec ≤ now s then panelIdleWork p (panelMod p (fun q => { q with held := true }) s) else s
    | none => s)

/-! ## Panel power (R416, R417) -/

/-- `PWR_GOOD_RISE` (R416): the voltages of the panel band are written and confirmed, or removed (R415). -/
def execPwrGoodRise (p : Fin 2) (confirmed : Bool) (s : State) : Host.Outcome State Fault Refusal :=
  let q := panelAt p s
  .next (
    if !q.pwrEn ∨ q.pwrGood then s
    else if confirmed then panelMod p (fun q => { q with pwrGood := true, confirmed := true, enabledAt := now s }) s
    else panelPowerFault p s)

/-- `PWR_GOOD_TIMEOUT` (R416): the update stays QUEUED for the next frame start. -/
def execPwrGoodTimeout (p : Fin 2) (s : State) : Host.Outcome State Fault Refusal :=
  let q := panelAt p s
  .next (if q.pwrEn && !q.pwrGood && decide (q.enabledAt + fld16 q.rcd 24 * ms ≤ now s) then panelPowerFault p s else s)

/-- `PANEL_POWER_OFF` (R416). -/
def execPanelPowerOff (p : Fin 2) (s : State) : Host.Outcome State Fault Refusal :=
  let q := panelAt p s
  .next (
    if panelPowered q (now s) && !q.framing && decide (max q.lastFrame q.enabledAt + fld16 q.rcd 26 * ms ≤ now s) then
      panelOff p s
    else s)

/-- The level a pixel of an update was being driven to (R417). -/
def drivenTo (u : Update) (x : Pixel) : Nat :=
  match x.next, x.flight with
  | some n, some f => if n.1 = u.order then n.2.1 else f.new
  | some n, none => if n.1 = u.order then n.2.1 else x.level
  | none, some f => f.new
  | none, none => x.level

/-- An update in flight ends FAULTED: its slot goes to the CLEAN of its rectangle, which takes over its open intent (R417). -/
def faultUpdate (p : Nat) (before : Panel) (s : State) (u : Update) : State :=
  let id := nextUpdateId p s
  let t := completeUpdate p u.id true { s with updates := s.updates.filter fun v => v.order != u.order }
  let levels := (rectKeys u.x u.y u.w u.h).map fun k => drivenTo u (tabGet pixelReset before.pix k)
  let v := queueUpdate p 3 u.x u.y u.w u.h levels u.cleaning t
  panelMod p (fun q => { q with intents := q.intents.map fun i => if i.id = u.id then { i with id := id, mode := 3 } else i }) v

/-- `PWR_GOOD_LOW` during a frame (R417). -/
def execPwrGoodLow (p : Fin 2) (s : State) : Host.Outcome State Fault Refusal :=
  let q := panelAt p s
  .next (
    if !q.framing ∨ !q.pwrGood then s
    else
      let t := panelMod p (fun q => { q with pix := tabMap pixelReset (fun _ x => { x with flight := none, next := none }) q.pix }) s
      panelPowerFault p ((runningOf p s).foldl (faultUpdate p q) t))

/-! ## Balancing and the checkpoint (R413, R418) -/

/-- The smallest rectangle that holds the marked pixels: x, y, w, h; none where none is marked (R413). -/
def markedRect (q : Panel) : Option (Nat × Nat × Nat × Nat) :=
  let ks := (q.pix.filter fun e => pixelMarked q.rcd e.2).map (·.1)
  match ks with
  | [] => none
  | k :: rest =>
    let lo (f : Nat → Nat) : Nat := rest.foldl (fun n j => min n (f j)) (f k)
    let hi (f : Nat → Nat) : Nat := rest.foldl (fun n j => max n (f j)) (f k)
    let row (j : Nat) : Nat := j / 2400
    let col (j : Nat) : Nat := j % 2400
    some (lo col, lo row, hi col - lo col + 1, hi row - lo row + 1)

/-- `PANEL_CLEAN_IDLE` (R413). -/
def execPanelCleanIdle (p : Fin 2) (s : State) : Host.Outcome State Fault Refusal :=
  let q := panelAt p s
  .next (
    if panelEnabled q.rcd ∧ fld16 q.rcd 28 ≠ 0 ∧ q.lastUpdate + fld16 q.rcd 28 * sec ≤ now s ∧ updatesOf p s = [] ∧ !slotsFull s then
      match markedRect q with
      | some (x, y, w, h) => queueUpdate p 3 x y w h (rectLevels p x y w h s) false s
      | none => s
    else s)

/-- Writes the rows of a rectangle to the checkpoint (R418). -/
def checkpointRows (y h : Nat) (q : Panel) : Tab (Nat × Int) :=
  let inside (k : Nat) : Bool := decide (y ≤ k / 2400) && decide (k / 2400 < y + h)
  let kept := tabKeep (fun k => !inside k) q.savedPix
  q.pix.foldl (fun t e => if inside e.1 then tabSet (0, (0 : Int)) t e.1 (e.2.level, e.2.ledger) else t) kept

/-- `PANEL_CHECKPOINT_WRITTEN` (R410, R418): levels and ledger are written, the intent is cleared and the update is DONE.  The
retained queue (R124) and the loop checkpoint (R246) are served first. -/
def execPanelCheckpointWritten (p : Fin 2) (id : Nat) (s : State) : Host.Outcome State Fault Refusal :=
  .next (
    match (updatesOf p s).find? (fun u => u.id == id && u.st == .checkpointing && s.retained.queue.isEmpty && !s.loop.dirty) with
    | none => s
    | some u =>
      let t := panelMod p (fun q => { q with
        savedPix := checkpointRows u.y u.h q
        savedValid := q.savedValid || (u.y == 0 && decide (panelHeight q.rcd ≤ u.h))
        intents := q.intents.filter fun i => i.id != id }) s
      let v := completeUpdate p id false { t with updates := t.updates.filter fun w => w.order != u.order }
      panelMod p (fun q => { q with dirty := q.dirty && (updatesOf p v).any (fun w => w.cleaning) }) v)

/-- A panel at a start: the checkpoint is read, and dirty pixels are cleaned at once (R408, R418). -/
def panelStart (p : Nat) (r : List Byte) (s : State) : State :=
  let old := panelAt p s
  let pix : Tab Pixel := old.savedPix.map fun e => (e.1, { pixelReset with level := e.2.1, prev := e.2.1, ledger := e.2.2 })
  let t := panelMod p (fun q => { panelReset with
    rcd := r
    waves := q.waves
    pix := if q.savedValid then pix else []
    savedPix := q.savedPix
    savedValid := q.savedValid
    lastUpdate := now s }) s
  if !panelEnabled r then panelMod p (fun q => { q with intents := old.intents }) t
  else if !old.savedValid then
    let w := panelWidth r
    let h := panelHeight r
    let u := queueUpdate p 3 0 0 w h (List.replicate (w * h) 15) true (panelMod p (fun q => { q with dirty := true }) t)
    record sevWarning 0x0B0B (srcPanel p) [] u
  else if old.intents = [] then t
  else
    let u := old.intents.foldl (fun v i =>
      let id := nextUpdateId p v
      let x := queueUpdate p 3 i.x i.y i.w i.h (rectLevels p i.x i.y i.w i.h v) true v
      panelMod p (fun q => { q with dirty := true, intents := q.intents ++ [{ i with id := id, mode := 3 }] }) x) t
    record sevEvent 0x0B0B (srcPanel p) (old.intents.flatMap fun i => le 4 i.id) u

/-- The panels at a start (R418). -/
def panelsStart (s : State) : State :=
  (List.range 2).foldl (fun t p =>
    let r := cfgRec 0x0060 p t
    healthFollows (0x0D + p) (panelEnabled r) (panelStart p r t)) { s with updates := [] }

/-! ## Commands (R407, R408, R410, R413, R519, R520) -/

/-- Whether the active module forwards what a panel accepted (R419, R520). -/
def panelForwards (p : Nat) (s : State) : Bool := bit (fld8 (panelAt p s).rcd 1) 3 && sendsToStandby s

/-- Sends a panel's command to the standby (R419). -/
def forwardPanel (p : Nat) (c : PairControl) (s : State) : State := if panelForwards p s then emit (.control c) s else s

/-- What stands against a rectangle of a panel (R408): the first refusal. -/
def rectRefused (p x y w h : Nat) (s : State) : Option Resp :=
  let r := (panelAt p s).rcd
  if !panelEnabled r then some (st stRefusedState)
  else if panelWidth r < x + w ∨ panelHeight r < y + h then some (st stInconsistent)
  else none

/-- An update of zero width or height: it is DONE with its identity at once (R408). -/
def emptyUpdate (p : Nat) (s : State) : State × Resp :=
  let id := nextUpdateId p s
  (completeUpdate p id false (panelMod p (fun q => { q with nextId := (q.nextId + 1) % 2 ^ 32 }) s), ok (le 4 id))

/-- `PANEL_UPDATE` (R408, R519, R520). -/
def execPanelUpdate (m : MbxId) (s : State) : Host.Outcome State Fault Refusal :=
  .next (runCommand 0x0B01 m (fun q t =>
    let p := fld8 q.pay 0
    let mode := fld8 q.pay 1
    let x := fld16 q.pay 4
    let y := fld16 q.pay 6
    let w := fld16 q.pay 8
    let h := fld16 q.pay 10
    let n := (w + 1) / 2 * h
    match (if hp : p < 2 then some (⟨p, hp⟩ : Fin 2) else none) with
    | none => (t, stDetail stInconsistent 0)
    | some pf =>
      if 3 < mode then (t, stDetail stInconsistent 1)
      else
        match rectRefused p x y w h t with
        | some r => (t, r)
        | none =>
          if w = 0 ∨ h = 0 then emptyUpdate p t
          else if claimRoom q < n then (t, st stBadCarriage)
          else if slotsFull t then (t, st stBusy)
          else
            let img := claimBytes q 0 n t
            let id := nextUpdateId p t
            (forwardPanel p (.panelUpdate pf mode x y w h img) (queueUpdate p mode x y w h (imageLevels img w h) false t),
              { status := stAccepted, pay := le 4 id })) s)

/-- Sets the ledger of a rectangle to 0 (R413). -/
def resetLedger (p x y w h : Nat) (s : State) : State :=
  panelMod p (fun q => { q with
    pix := tabMap pixelReset (fun k e =>
      if decide (y ≤ k / 2400) && decide (k / 2400 < y + h) && decide (x ≤ k % 2400) && decide (k % 2400 < x + w) then
        { e with ledger := 0 }
      else e) q.pix }) s

/-- Queues a balancing CLEAN of a rectangle, with its ledger reset first where asked (R413). -/
def queueClean (p x y w h : Nat) (reset : Bool) (s : State) : State :=
  let t := if reset then resetLedger p x y w h s else s
  queueUpdate p 3 x y w h (rectLevels p x y w h t) false t

/-- `PANEL_CLEAN` (R413, R519, R520). -/
def execPanelClean (m : MbxId) (s : State) : Host.Outcome State Fault Refusal :=
  .next (runCommand 0x0B04 m (fun q t =>
    let p := fld8 q.pay 0
    let flags := fld8 q.pay 1
    let r := (panelAt p t).rcd
    let whole := bit flags 0
    let reset := bit flags 1
    let x := if whole then 0 else fld16 q.pay 4
    let y := if whole then 0 else fld16 q.pay 6
    let w := if whole then panelWidth r else fld16 q.pay 8
    let h := if whole then panelHeight r else fld16 q.pay 10
    match (if hp : p < 2 then some (⟨p, hp⟩ : Fin 2) else none) with
    | none => (t, stDetail stInconsistent 0)
    | some pf =>
      match rectRefused p x y w h t with
      | some z => (t, z)
      | none =>
        if w = 0 ∨ h = 0 then emptyUpdate p t
        else if slotsFull t then (t, st stBusy)
        else if reset && !roleIncludes (roleOf q t) 3 then (t, st stAuthRequired)
        else
          let id := nextUpdateId p t
          (forwardPanel p (.panelClean pf x y w h reset) (queueClean p x y w h reset t), { status := stAccepted, pay := le 4 id })) s)

/-- `PANEL_WAVEFORM_LOAD` (R407, R519). -/
def execPanelWaveformLoad (m : MbxId) (s : State) : Host.Outcome State Fault Refusal :=
  .next (runCommand 0x0B03 m (fun q t =>
    let p := fld8 q.pay 0
    let n := fld32 q.pay 4
    match (if hp : p < 2 then some (⟨p, hp⟩ : Fin 2) else none) with
    | none => (t, stDetail stInconsistent 0)
    | some pf =>
      if updatesOf p t != [] then (t, st stBusy)
      else if n < 64 ∨ 1048576 < n then (t, stDetail stInconsistent 4)
      else if claimRoom q < n then (t, st stBadCarriage)
      else
        let w := claimBytes q 0 n t
        if !waveSetOk w n then (t, st stInconsistent)
        else
          (forwardPanel p (.panelWaveform pf w) (panelMod p (fun x => { x with waves := w }) t), ok (slice w 8 8))) s)

/-- `PNL_STATUS` of a panel (R420). -/
def pnlStatus (p : Nat) (s : State) : Word :=
  let q := panelAt p s
  BitVec.ofNat 32 (q.band.toNat * 2 ^ 28 + q.meas.toNat * 2 ^ 24 + (updatesOf p s).length % 64 * 2 ^ 18 + atBit q.held 12 +
    atBit q.dirty 11 + atBit q.tempFault 10 + atBit q.excursion 9 + atBit q.powerFault 8 + atBit q.ledgerOver 7 +
    atBit q.ledgerSat 6 + atBit q.i2cError 5 + atBit q.pwrGood 4 + atBit q.pwrEn 3 + atBit q.framing 2 +
    atBit (panelEnabled q.rcd) 1)

/-- A write to `PNL_STATUS`: the W1C bits (R420). -/
def pnlWrite (p : Nat) (v : Word) (s : State) : State :=
  panelMod p (fun q => { q with
    excursion := q.excursion && !v.getLsbD 9
    powerFault := q.powerFault && !v.getLsbD 8
    ledgerSat := q.ledgerSat && !v.getLsbD 6
    i2cError := q.i2cError && !v.getLsbD 5 }) s

/-- `PNL_TEMP` of a panel (R421). -/
def pnlTemp (p : Nat) (s : State) : Word := (panelAt p s).temp.setWidth 32

/-- The code of an update's state, of those that hold a slot (R519). -/
def updateCode : UpdState → Nat
  | .queued => 0
  | .running => 1
  | .checkpointing => 2
  | .done => 3
  | .faulted => 4

/-- `PANEL_STATUS` (R410, R519). -/
def execPanelStatus (m : MbxId) (s : State) : Host.Outcome State Fault Refusal :=
  .next (readCommand 0x0B02 m (fun q t =>
    let p := fld8 q.pay 0
    if 1 < p then stDetail stInconsistent 0
    else
      let x := panelAt p t
      let us := updatesOf p t
      ok (le 4 (pnlStatus p t).toNat ++ le 4 (pnlTemp p t).toNat ++ slice x.waves 8 8 ++ le 1 us.length ++ zeros 3 ++
        slice (x.completed.flatMap fun e => le 4 e.1) 0 128 ++
        slice (us.flatMap fun u => le 4 u.id ++ le 1 (updateCode u.st) ++ le 1 u.mode ++ zeros 2) 0 256)) s)

/-! ## Commands of the active module (R419) -/

/-- Carries out a forwarded `PANEL_UPDATE` on the standby's panel, where it fits and a slot is free (R419). -/
def panelUpdateHere (p mode x y w h : Nat) (img : List Byte) (s : State) : State :=
  if (rectRefused p x y w h s).isSome ∨ slotsFull s ∨ w = 0 ∨ h = 0 ∨ 3 < mode then s
  else queueUpdate p mode x y w h (imageLevels img w h) false s

/-- Carries out a forwarded `PANEL_CLEAN` (R419). -/
def panelCleanHere (p x y w h : Nat) (reset : Bool) (s : State) : State :=
  if (rectRefused p x y w h s).isSome ∨ slotsFull s ∨ w = 0 ∨ h = 0 then s else queueClean p x y w h reset s

/-- Carries out a forwarded `PANEL_WAVEFORM_LOAD` (R419). -/
def panelWaveformHere (p : Nat) (w : List Byte) (s : State) : State :=
  if updatesOf p s != [] || !waveSetOk w w.length then s else panelMod p (fun x => { x with waves := w }) s

end Sys2Proof.Machine
end

