-- ==== Sys2Proof/Machine/PlinthOps.lean ====
section
/-! DEFINITION. The Plinth (R381 to R400): the tick edge with its loads, weekday and alarms, the backup memory, and the commands and
events of the chapter. -/

namespace Sys2Proof.Machine

/-- Changes the Plinth. -/
def plinthMod (f : Plinth → Plinth) (s : State) : State := { s with plinth := f s.plinth }

/-- Main power is present: every mode but PLINTH (R448). -/
def mainPower (s : State) : Bool := s.modes.mode != .plinth

/-- A message of the drawbar arrives: a demand of its kind, while the module has main power (R17). -/
def drawbarArrives (s : State) : State := if mainPower s then demandClock .drawbar s else s

/-- Management firmware runs: after the beginning of a start. -/
def firmwareRuns (s : State) : Bool := s.modes.mode != .plinth && s.modes.mode != .boot

/-- Ticks of a day (R389). -/
def dayTicks : Nat := 2831155200

/-! ## Alarms (R390, R391) -/

/-- An alarm is armed (R390). -/
def alarmArmed (a : Alarm) : Bool := a.enable && a.mask != 0 && a.wdays != 0

/-- An alarm is armed and matches a count and a weekday (R390). -/
def alarmMatches (a : Alarm) (ticks : BitVec 48) (wday : BitVec 3) : Bool :=
  alarmArmed a && ((ticks ^^^ a.value) &&& a.mask == 0) && a.wdays.getLsbD wday.toNat

/-- Alarm `n`'s flag. -/
def alarmFlag (n : Nat) (p : Plinth) : Bool := if n = 0 then p.alarm0 else p.alarm1

/-- Sets or clears alarm `n`'s flag. -/
def setAlarmFlag (n : Nat) (v : Bool) (p : Plinth) : Plinth :=
  if n = 0 then { p with alarm0 := v } else { p with alarm1 := v }

/-- Firmware finds a flag of an alarm: an EVENT that names it and says whether main power was present, and the flag is cleared
(R391). -/
def noticeAlarm (n : Nat) (main : Bool) (s : State) : State :=
  if alarmFlag n s.plinth then
    record sevEvent (0x0A00 + n) (srcUnit 8) (le 1 n ++ le 1 (b2n main)) (plinthMod (setAlarmFlag n false) s)
  else s

/-! ## The tick edge (R383, R386, R387, R389) -/

/-- The count, the weekday and the day phase after the next edge. -/
def edgeCounts (p : Plinth) : BitVec 48 × BitVec 3 × Word :=
  let load := p.loadWait = 0
  let ticks := if p.pendTicks ∧ load then p.loadHi ++ p.loadLo else p.ticks + 1
  if p.pendWday ∧ load then
    (ticks, if p.loadWday = 7 then 0 else p.loadWday, if p.loadDay.toNat < dayTicks then p.loadDay else 0)
  else if p.phase.toNat + 1 < dayTicks then (ticks, p.wday, p.phase + 1)
  else (ticks, if p.wday.toNat < 6 then p.wday + 1 else 0, 0)

/-- An alarm at an edge: whether it matches now. -/
def alarmEdge (ticks : BitVec 48) (wday : BitVec 3) (a : Alarm) : Alarm := { a with matched := alarmMatches a ticks wday }

/-- One edge of the crystal domain; alarms see the values after it (R387, R390).  `main` says that main power is present: without
it, `CELL_USED` sets (R381), and the edge, 30 µs from the next, ends the 2 µs that a load waits for (R386). -/
def edgePlinth (main : Bool) (p : Plinth) : Plinth :=
  let c := edgeCounts p
  let rise (n : Nat) : Bool :=
    let a := vget alarmReset p.alarms n
    alarmMatches a c.1 c.2.1 && !a.matched
  { p with
    ticks := c.1, wday := c.2.1, phase := c.2.2
    pendTicks := p.pendTicks && p.loadWait != 0, pendWday := p.pendWday && p.loadWait != 0
    alarms := p.alarms.map (alarmEdge c.1 c.2.1)
    alarm0 := p.alarm0 || rise 0, alarm1 := p.alarm1 || rise 1
    loadWait := if main then p.loadWait else 0
    cellUsed := p.cellUsed || !main }

/-- The edge, and what firmware does about alarms that it finds. -/
def plinthEdge (s : State) : State :=
  let t := plinthMod (edgePlinth (mainPower s)) s
  if firmwareRuns t then noticeAlarm 1 true (noticeAlarm 0 true t) else t

/-- Reference ticks of 25 MHz in a second, in units of 1/32,768 of a tick: an edge comes when the crystal phase reaches it. -/
def crystalSpan : Nat := 25000000

/-- Reference ticks from now to the first edge that lies at least 2 µs ahead (R386). -/
def ticksToLoad (p : Plinth) : Nat :=
  let n := (crystalSpan - p.crystal + 32767) / 32768
  if 50 ≤ n then n else n + (crystalSpan + 32767) / 32768

/-- TAI seconds from 1970-01-01 to 2000-01-01, in ns (R375). -/
def tai2000 : Nat := 946684800 * sec

/-- The count of a module time (R388). -/
def ticksOf (t : Nat) : Nat := (t - tai2000) * 32768 / sec

/-- Module time of a count (R375). -/
def timeOfTicks (n : Nat) : Nat := tai2000 + n * sec / 32768

/-! ## The backup memory (R392) -/

/-- The CHECK of words BKP_1 to BKP_15. -/
def bkpCheck (b : Vector Word 16) : Word := crc32c ((b.toList.drop 1).flatMap fun w => le 4 w.toNat)

/-- CHECK is valid. -/
def bkpValid (b : Vector Word 16) : Bool := vget 0 b 0 == bkpCheck b

/-- Puts a new CHECK. -/
def bkpSeal (b : Vector Word 16) : Vector Word 16 := vset b 0 (bkpCheck b)

/-- The initial values of the words, with their CHECK. -/
def bkpInitial : Vector Word 16 := bkpSeal (vset (.replicate 16 0) 1 1)

/-- Firmware writes one word with a new CHECK. -/
def bkpWrite (i : Nat) (v : Word) (s : State) : State :=
  plinthMod (fun p => { p with bkp := bkpSeal (vset p.bkp i v) }) s

/-- Writes words from `i` with a new CHECK. -/
def bkpWrites (i : Nat) (ws : List Word) (s : State) : State :=
  plinthMod (fun p => { p with bkp := bkpSeal ((ws.zipIdx).foldl (fun b w => vset b (i + w.2) w.1) p.bkp) }) s

/-! ## Loads (R386, R387) -/

/-- A write of `RTC_CTRL`: a load bit schedules its load, and while one is pending is ignored with `LOAD_COLLISION`; MARK_LOST sets
`RETAIN_LOST` (R386, R387, R398). -/
def rtcCtrl (loadTicks loadWday markLost : Bool) (p : Plinth) : Plinth :=
  let q := { p with retainLost := p.retainLost || markLost }
  if !(loadTicks || loadWday) then q
  else if p.pendTicks || p.pendWday then { q with collision := true }
  else { q with pendTicks := loadTicks, pendWday := loadWday, loadWait := 50 }

/-- A write of a load register: ignored with `LOAD_COLLISION` while a load is pending (R387). -/
def rtcLoadWrite (f : Plinth → Plinth) (p : Plinth) : Plinth :=
  if p.pendTicks || p.pendWday then { p with collision := true } else f p

/-- A read of `RTC_TICKS_LO` latches the snapshots (R385). -/
def rtcLatch (p : Plinth) : Plinth :=
  { p with hiSnap := p.ticks.extractLsb' 32 16, wdaySnap := p.wday, daySnap := p.phase }

/-! ## Registers (R397 to R400) -/

/-- `RTC_STATUS` (R399). -/
def rtcStatus (p : Plinth) : Word :=
  BitVec.ofNat 32 (atBit p.alarm1 7 + atBit p.alarm0 6 + atBit p.collision 5 + atBit (p.pendTicks || p.pendWday) 4 +
    atBit p.cellUsed 3 + atBit p.battLow 2 + atBit p.retainLost 1)

/-- A write of 1 clears a flag of `RTC_STATUS` (R399). -/
def rtcStatusWrite (v : Word) (p : Plinth) : Plinth :=
  { p with
    alarm1 := p.alarm1 && !v.getLsbD 7, alarm0 := p.alarm0 && !v.getLsbD 6, collision := p.collision && !v.getLsbD 5
    cellUsed := p.cellUsed && !v.getLsbD 3, retainLost := p.retainLost && !v.getLsbD 1 }

/-- Changes alarm `n`. -/
def alarmMod (n : Nat) (f : Alarm → Alarm) (p : Plinth) : Plinth := { p with alarms := vmod p.alarms n f }

/-- What a register of the Plinth reads as (R397); a read of `RTC_TICKS_LO` latches first. -/
def plinthRead (off : Nat) (p : Plinth) : Word :=
  let alarm (n r : Nat) : Word :=
    let a := vget alarmReset p.alarms n
    match r with
    | 0 => a.value.setWidth 32
    | 1 => (a.value >>> 32).setWidth 32
    | 2 => a.mask.setWidth 32
    | 3 => (a.mask >>> 32).setWidth 32
    | _ => BitVec.ofNat 32 (atBit a.enable 8 + a.wdays.toNat)
  match off with
  | 0x000 => p.ticks.setWidth 32
  | 0x004 => p.hiSnap.setWidth 32
  | 0x008 => p.wdaySnap.setWidth 32
  | 0x00C => p.daySnap
  | 0x010 => p.loadLo
  | 0x014 => p.loadHi.setWidth 32
  | 0x018 => p.loadWday.setWidth 32
  | 0x01C => p.loadDay
  | 0x024 => rtcStatus p
  | 0x030 => alarm 0 0
  | 0x034 => alarm 0 1
  | 0x038 => alarm 0 2
  | 0x03C => alarm 0 3
  | 0x040 => alarm 0 4
  | 0x050 => alarm 1 0
  | 0x054 => alarm 1 1
  | 0x058 => alarm 1 2
  | 0x05C => alarm 1 3
  | 0x060 => alarm 1 4
  | _ => if 0x080 ≤ off ∧ off < 0x0C0 then vget 0 p.bkp ((off - 0x80) / 4) else 0

/-- A write of a register of the Plinth (R386, R387, R397 to R400). -/
def plinthWrite (off : Nat) (v : Word) (p : Plinth) : Plinth :=
  let n := if off < 0x050 then 0 else 1
  let lo (x : BitVec 48) : BitVec 48 := (x &&& 0xFFFF00000000#48) ||| v.setWidth 48
  let hi (x : BitVec 48) : BitVec 48 := (x &&& 0xFFFFFFFF#48) ||| ((v &&& 0xFFFF#32).setWidth 48 <<< 32)
  match off with
  | 0x010 => rtcLoadWrite (fun p => { p with loadLo := v }) p
  | 0x014 => rtcLoadWrite (fun p => { p with loadHi := v.setWidth 16 }) p
  | 0x018 => rtcLoadWrite (fun p => { p with loadWday := v.setWidth 3 }) p
  | 0x01C => rtcLoadWrite (fun p => { p with loadDay := v }) p
  | 0x020 => rtcCtrl (v.getLsbD 0) (v.getLsbD 1) (v.getLsbD 2) p
  | 0x024 => rtcStatusWrite v p
  | 0x030 | 0x050 => alarmMod n (fun a => { a with value := lo a.value }) p
  | 0x034 | 0x054 => alarmMod n (fun a => { a with value := hi a.value }) p
  | 0x038 | 0x058 => alarmMod n (fun a => { a with mask := lo a.mask }) p
  | 0x03C | 0x05C => alarmMod n (fun a => { a with mask := hi a.mask }) p
  | 0x040 | 0x060 => alarmMod n (fun a => { a with enable := v.getLsbD 8, wdays := v.setWidth 7 }) p
  | _ => if 0x080 ≤ off ∧ off < 0x0C0 then { p with bkp := vset p.bkp ((off - 0x80) / 4) v } else p

/-! ## Events -/

/-- RTC_TICKS_LO_READ: R385. -/
def execRtcTicksLoRead (s : State) : Host.Outcome State Fault Refusal :=
  .next { plinthMod rtcLatch s with host := { s.host with readValue := s.plinth.ticks.setWidth 32 } }

/-- RTC_CTRL_LOAD_TICKS: R386, R387. -/
def execRtcCtrlLoadTicks (s : State) : Host.Outcome State Fault Refusal := .next (plinthMod (rtcCtrl true false false) s)

/-- RTC_CTRL_LOAD_WDAY: R386, R387. -/
def execRtcCtrlLoadWday (s : State) : Host.Outcome State Fault Refusal := .next (plinthMod (rtcCtrl false true false) s)

/-- RTC_CTRL_MARK_LOST: R398. -/
def execRtcCtrlMarkLost (s : State) : Host.Outcome State Fault Refusal := .next (plinthMod (rtcCtrl false false true) s)

/-- RTC_LOAD_APPLY: the edge at which a pending load applies (R386). -/
def execRtcLoadApply (s : State) : Host.Outcome State Fault Refusal :=
  .next (if (s.plinth.pendTicks || s.plinth.pendWday) ∧ s.plinth.loadWait = 0 then plinthEdge s else s)

/-- RTC_WRAP: the edge at which the count wraps (R383). -/
def execRtcWrap (s : State) : Host.Outcome State Fault Refusal :=
  .next (if s.plinth.ticks = 0xFFFFFFFFFFFF#48 ∧ s.plinth.pendTicks = false then plinthEdge s else s)

/-- DAY_PHASE_ROLLOVER: the edge at which the day phase returns to 0 (R389). -/
def execDayPhaseRollover (s : State) : Host.Outcome State Fault Refusal :=
  .next (if s.plinth.phase.toNat + 1 = dayTicks ∧ s.plinth.pendWday = false then plinthEdge s else s)

/-- RTC_ALARM_MATCH: the edge at which alarm `n` begins to match (R390). -/
def execRtcAlarmMatch (n : Fin 2) (s : State) : Host.Outcome State Fault Refusal :=
  let c := edgeCounts s.plinth
  let a := s.plinth.alarms[n]
  .next (if alarmMatches a c.1 c.2.1 ∧ a.matched = false then plinthEdge s else s)

/-- CELL_MEASUREMENT: R393; the reading in mV. -/
def execCellMeasurement (millivolts : Nat) (s : State) : Host.Outcome State Fault Refusal :=
  .next (
    if mainPower s = false then s
    else if millivolts < 2500 ∧ s.plinth.battLow = false then
      record sevWarning 0x0A02 (srcUnit 8) [] (plinthMod (fun p => { p with battLow := true }) s)
    else if 2600 ≤ millivolts ∧ s.plinth.battLow then
      record sevEvent 0x0A02 (srcUnit 8) [] (plinthMod (fun p => { p with battLow := false }) s)
    else s)

/-- RETENTION_MONITOR_TRIP: R394. -/
def execRetentionMonitorTrip (s : State) : Host.Outcome State Fault Refusal :=
  .next (plinthMod (fun p => { p with retainLost := true }) s)

/-- PLINTH_POWER_ON_RESET: the counters, the weekday, the day phase and the alarms reset, `RETAIN_LOST` sets (R394); the backup memory's
contents are undefined: free values (R392). -/
def execPlinthPowerOnReset (s : State) : Host.Outcome State Fault Refusal :=
  let words := (List.range 16).foldl (fun (b : Vector Word 16) i =>
    vset b i ((Config.freeWord (s.fresh + i)).setWidth 32)) (.replicate 16 0)
  .next { s with
    plinth := { plinthReset with bkp := words, crystal := s.plinth.crystal, battLow := s.plinth.battLow }
    fresh := s.fresh + 16 }

/-! ## Commands -/

/-- RTC_ALARM_SET (R391): the request names an alarm above 1, or would match always or never while enabled. -/
def execRtcAlarmSet (m : MbxId) (s : State) : Host.Outcome State Fault Refusal :=
  .next (runCommand 0x0805 m (fun q s =>
    let n := fld8 q.pay 0
    let on := bit (fld8 q.pay 1) 0
    let mask := BitVec.ofNat 48 (fld64 q.pay 12)
    let wdays := BitVec.ofNat 7 (fld8 q.pay 2)
    if 1 < n ∨ (on ∧ (mask = 0 ∨ wdays = 0)) then (s, st stInconsistent)
    else
      (plinthMod (alarmMod n (fun a =>
        { a with value := BitVec.ofNat 48 (fld64 q.pay 4), mask := mask, wdays := wdays, enable := on })) s,
        st stOk)) s)

/-- BACKUP_READ (R392). -/
def execBackupRead (m : MbxId) (s : State) : Host.Outcome State Fault Refusal :=
  .next (readCommand 0x0806 m (fun q s =>
    let first := fld8 q.pay 0
    let n := fld8 q.pay 1
    if n = 0 ∨ 16 < n ∨ 16 < first + n then st stInconsistent
    else ok ((List.range' first n).flatMap fun i => le 4 (vget 0 s.plinth.bkp i).toNat)) s)

/-- BACKUP_WRITE (R392). -/
def execBackupWrite (m : MbxId) (s : State) : Host.Outcome State Fault Refusal :=
  .next (runCommand 0x0807 m (fun q s =>
    let first := fld8 q.pay 0
    let n := fld8 q.pay 1
    if n = 0 ∨ 8 < n ∨ 16 < first + n then (s, st stInconsistent)
    else if first < 8 then (s, st stRefusedState)
    else (bkpWrites first ((List.range n).map fun i => fldW q.pay (4 + 4 * i)) s, st stOk)) s)

end Sys2Proof.Machine
end

