-- ==== Sys2Proof/Machine/Time.lean ====
section
/-! DEFINITION. The time unit (R361 to R379): the counter and its tick, steps and sessions, the servo with its sources, and the
commands and events of the chapter. -/

namespace Sys2Proof.Machine

/-- Changes the time unit. -/
def timeMod (f : TimeUnit → TimeUnit) (s : State) : State := { s with time := f s.time }

/-! ## The time configuration (R370) -/

/-- The record that the last start took; none gives the default record (R370). -/
def timeRec (s : State) : List Byte := cfgGet s.cfg.started 0x0002 0

/-- The configured SOURCE: 0 PTP, 1 PPS_10M, 2 HOST. -/
def timeSource (s : State) : Nat := if timeRec s = [] then 2 else fld8 (timeRec s) 0

/-- FALLBACK; none where there is none. -/
def timeFallback (s : State) : Option Nat :=
  if timeRec s = [] ∨ fld8 (timeRec s) 1 = 0xFF then none else some (fld8 (timeRec s) 1)

/-- PTP_DOMAIN. -/
def ptpDomain (s : State) : Nat := fld8 (timeRec s) 2

/-- USE_10MHZ. -/
def use10Mhz (s : State) : Bool := bit (fld8 (timeRec s) 3) 0

/-- PPS_OUT_ENABLE. -/
def ppsOutEnable (s : State) : Bool := bit (fld8 (timeRec s) 3) 1

/-- STEP_THRESHOLD_NS. -/
def stepThreshold (s : State) : Nat := if timeRec s = [] then 1000 else fld32 (timeRec s) 4

/-- The exact value of a finite binary32 number; 0 for another. -/
def ratOf32 (x : F32) : Rat :=
  match fp32 x with
  | .fin neg m e => (fpInt neg m : Rat) * (if 0 ≤ e then ((2 ^ e.toNat : Nat) : Rat) else 1 / ((2 ^ (-e).toNat : Nat) : Rat))
  | _ => 0

/-- KP. -/
def servoKp (s : State) : Rat := if timeRec s = [] then 7 / 10 else ratOf32 (fldW (timeRec s) 8)

/-- KI. -/
def servoKi (s : State) : Rat := if timeRec s = [] then 3 / 10 else ratOf32 (fldW (timeRec s) 12)

/-- LATENCY_NS of a port: sending, or receiving. -/
def portLatency (p : Nat) (rx : Bool) (s : State) : Nat := fld16 (timeRec s) (16 + 4 * p + 2 * b2n rx)

/-- The first offset of a time configuration record that a commit refuses (R370). -/
def timeRecFail (r : List Byte) : Option Nat :=
  let real (off : Nat) (lo hi : F32) : Bool := fpLe (fp32 lo) (fp32 (fldW r off)) && fpLe (fp32 (fldW r off)) (fp32 hi)
  let checks : List (Nat × Bool) :=
    [(0, decide (fld8 r 0 ≤ 2)), (1, decide (fld8 r 1 ≤ 2) && fld8 r 1 != fld8 r 0 || fld8 r 1 == 0xFF),
      (2, decide (fld8 r 2 ≤ 127)), (4, decide (1000 ≤ fld32 r 4) && decide (fld32 r 4 ≤ 1000000000)),
      (8, real 8 0x3DCCCCCD#32 0x40000000#32), (12, real 12 0x3C23D70A#32 0x3F800000#32)] ++
    (List.range 8).map fun i => (16 + 2 * i, decide (fld16 r (16 + 2 * i) ≤ 1000))
  (checks.find? fun c => !c.2).map (·.1)

/-! ## The rate (R361, R363, R367, R372) -/

/-- INC_NOM (R361). -/
def incNom : Nat := 0x28000000

/-- Clamps an increment (R363). -/
def clampInc (v : Int) : Int := max 0x27FEF9DB (min 0x28010625 v)

/-- INC_NOM × (1 − r × 10^-9), rounded to nearest. -/
def incRat (r : Rat) : Int := Rat.floor ((incNom : Rat) * (1 - r / 1000000000) + 1 / 2)

/-- Takes a rate in ppb; a clamp that the servo asked for sets `OFFSET_LARGE` (R363). -/
def setRate (r : Rat) (servo : Bool) (s : State) : State :=
  let v := incRat r
  timeMod (fun x =>
    { x with
      inc := BitVec.ofInt 32 (clampInc v)
      offsetLarge := x.offsetLarge || (servo && clampInc v != v) }) s

/-- Extends a 32-bit stamp against module time (R364). -/
def extend (stamp : Word) (ref : Nat) : Int := (ref : Int) + (stamp - BitVec.ofNat 32 ref).toInt

/-- Module time as the tick after this one leaves it, without a step. -/
def nextTickTime (s : State) : Nat :=
  (s.time.wraps.toNat * 2 ^ 56 + s.time.acc.toNat + s.time.inc.toNat) / 2 ^ 24

/-! ## Steps (R366, R368, R369) -/

/-- A time of the state moved by a step: elapsed times stay as they were (R369). -/
def mv (d : Int) (t : Nat) : Nat := movedTime d t

/-- Moves the tasks' schedule, and gives the shift to their running timers (R108). -/
def shiftTasks (d : Int) (s : State) : State :=
  { s with
    task := s.task.map fun k =>
      { k with
        next := mv d k.next, released := mv d k.released, timerShift := k.timerShift + d
        lastCaution := k.lastCaution.map (mv d) }
    retained := { s.retained with
      queue := s.retained.queue.map fun c => { c with since := mv d c.since }
      writing := s.retained.writing.map fun c => { c with since := mv d c.since }
      lastHigh := mv d s.retained.lastHigh }
    cpl := { s.cpl with
      copyStart := mv d s.cpl.copyStart
      copies := s.cpl.copies.map fun c => c.map fun p => (p.1, p.2.map fun x => { x with arrival := mv d x.arrival }) }
    image := { s.image with
      events := s.image.events.map fun e => (e.1, mv d e.2)
      recs := s.image.recs.map fun p => (p.1, { p.2 with past := p.2.past.map fun x => (mv d x.1, x.2) })
      nextMerge := mv d s.image.nextMerge, lastArrival := s.image.lastArrival.map (mv d)
      lastFull := s.image.lastFull.map (mv d), lastConflict := s.image.lastConflict.map (mv d)
      stations := s.image.stations.map fun x =>
        { x with
          lastTime := mv d x.lastTime, lastUndef := x.lastUndef.map (mv d)
          held := x.held.map fun b => { b with arrival := mv d b.arrival } } }
    pub := { s.pub with
      queue := s.pub.queue.map fun e => (e.1, mv d e.2), lastSent := mv d s.pub.lastSent, lastHigh := mv d s.pub.lastHigh
      window := s.pub.window.map fun e => (mv d e.1, e.2), passStart := mv d s.pub.passStart } }

/-- Moves the loops' ticks and what waits for them (R223). -/
def shiftLoops (d : Int) (s : State) : State :=
  let field (xs : List (F64 × Nat)) : List (F64 × Nat) := xs.map fun x => (x.1, mv d x.2)
  { s with loop := { s.loop with
    lastCheck := mv d s.loop.lastCheck
    loops := s.loop.loops.map fun p => (p.1,
      { p.2 with
        next := mv d p.2.next, sample := p.2.sample.map fun x => { x with tick := mv d x.tick }
        tune := p.2.tune.map fun x => (mv d x.1, x.2), repReset := p.2.repReset.map (mv d), manualAt := mv d p.2.manualAt
        progSp := field p.2.progSp, progMode := field p.2.progMode, progMan := field p.2.progMan }) } }

/-- Moves the channels' times; a digital group follows at its next alignment (R254, R278, R290). -/
def shiftField (d : Int) (s : State) : State :=
  { s with
    uc := s.uc.map fun u => { u with sampled := mv d u.sampled, recent := u.recent.map (fun x => (mv d x.1, x.2)), convAt := mv d u.convAt, nextPulse := mv d u.nextPulse }
    dig := s.dig.map fun x => { x with commanded := mv d x.commanded, retryAt := x.retryAt.map (mv d), seen := mv d x.seen, turned := mv d x.turned }
    counter := s.counter.map fun c =>
      { c with tp := mv d c.tp, lastEdge := mv d c.lastEdge, edges := c.edges.map fun e => (mv d e.1, e.2) }
    group := s.group.map fun g => { g with sent := mv d g.sent, skew := g.skew - d }
    safety := { s.safety with
      func := s.safety.func.map fun p => (p.1, { p.2 with timer := p.2.timer.map (mv d) })
      pairs := s.safety.pairs.map fun p => (p.1, { p.2 with tDiff := p.2.tDiff.map (mv d) })
      failures := s.safety.failures.map (mv d), lockout := s.safety.lockout.map (mv d) } }

/-- Moves the networks' times (R351). -/
def shiftNet (d : Int) (s : State) : State :=
  let dups (xs : List DupEntry) : List DupEntry := xs.map fun x => { x with last := mv d x.last }
  { s with
    net := { s.net with
      port := s.net.port.map fun p =>
        { p with lastSup := mv d p.lastSup, lastWrong := p.lastWrong.map (mv d), lastOver := p.lastOver.map (mv d) }
      dup := dups s.net.dup, supNodes := dups s.net.supNodes
      nodes := s.net.nodes.map fun p => (p.1, { p.2 with last := mv d p.2.last, takeover := p.2.takeover.map (mv d) })
      outs := s.net.outs.map fun p => (p.1, { p.2 with sent := p.2.sent.map (mv d) })
      heard := tabMap 0 (fun _ t => mv d t) s.net.heard
      egress := s.net.egress.map fun e => { e with busy := mv d e.busy, hostFrom := mv d e.hostFrom } }
    can := s.can.map fun c =>
      { c with
        busoffs := c.busoffs.map (mv d), recoverAt := c.recoverAt.map (mv d), foreign := c.foreign.map (mv d)
        nextRef := mv d c.nextRef, lastRef := mv d c.lastRef }
    panel := s.panel.map fun p =>
      { p with
        enabledAt := mv d p.enabledAt, tempAt := p.tempAt.map (mv d), differs := p.differs.map (mv d)
        lastFrame := mv d p.lastFrame, lastUpdate := mv d p.lastUpdate } }

/-- Moves the times of the host interface, the lanes, the pair and the modes. -/
def shiftRest (d : Int) (s : State) : State :=
  let sess (x : Session) : Session := { x with lastCommand := mv d x.lastCommand }
  { s with
    host := { s.host with
      sess := s.host.sess.map sess
      tls := s.host.tls.map fun o => o.map fun c =>
        { c with session := sess c.session, lastSent := mv d c.lastSent, lastReceived := mv d c.lastReceived }
      subs := s.host.subs.map fun o => o.map fun u => { u with since := mv d u.since } }
    power := { s.power with
      warmAt := s.power.warmAt.map (mv d), hotAt := s.power.hotAt.map (mv d)
      demanded := s.power.demanded.map fun o => o.map (mv d) }
    cpl := { s.cpl with
      lane := s.cpl.lane.map fun l => { l with exclusions := l.exclusions.map (mv d), since := mv d l.since }
      lastUnresolved := s.cpl.lastUnresolved.map (mv d) }
    pair := { s.pair with
      lastHb := mv d s.pair.lastHb, leftAt := mv d s.pair.leftAt, demoteAt := mv d s.pair.demoteAt
      verifyAt := s.pair.verifyAt.map (mv d), reachSince := s.pair.reachSince.map (mv d), hb := s.pair.hb.map fun x => x.map (mv d) }
    modes := { s.modes with
      plan := s.modes.plan.map fun p => { p with at_ := mv d p.at_ }
      start := s.modes.start.map fun p => { p with at_ := mv d p.at_ }
      roleWait := s.modes.roleWait.map (mv d), lastTck := s.modes.lastTck.map (mv d)
      loginFails := s.modes.loginFails.map fun p => (p.1, p.2.map (mv d))
      loginLocks := s.modes.loginLocks.map fun p => (p.1, mv d p.2) } }

/-- Moves the time unit's own times. -/
def shiftTime (d : Int) (x : TimeUnit) : TimeUnit :=
  { x with
    quietSince := x.quietSince.map (mv d), lastMeasured := mv d x.lastMeasured, tempEnd := mv d x.tempEnd
    plinthAt := mv d x.plinthAt, ppsOutEnd := mv d x.ppsOutEnd, ppsLast := x.ppsLast.map (· + d), lastNotValid := x.lastNotValid.map (mv d)
    exchange := x.exchange.map fun p => (p.1, p.2.map fun e => { e with rx := e.rx + d }) }

/-- Firmware loads the Plinth from module time: the load applies at the first edge at least 2 µs ahead, with the count of that edge's
module time (R386, R388). -/
def loadPlinth (s : State) : State :=
  if s.plinth.pendTicks || s.plinth.pendWday then s
  else
    let te := (s.time.wraps.toNat * 2 ^ 56 + s.time.acc.toNat + ticksToLoad s.plinth * s.time.inc.toNat) / 2 ^ 24
    let v := BitVec.ofNat 48 (ticksOf te)
    timeMod (fun x => { x with plinthLoaded := true, plinthAt := now s })
      (plinthMod (fun p => rtcCtrl true false false { p with loadLo := v.setWidth 32, loadHi := v.extractLsb' 32 16 }) s)

/-- Whether a step of `d` at the next tick leaves module time within its range (R362, R366). -/
def stepInRange (d : Int) (s : State) : Bool :=
  decide (0 ≤ (nextTickTime s : Int) + d) && decide ((nextTickTime s : Int) + d < 2 ^ 63)

/-- A step of `d` takes effect: module time changes as one 64-bit value, everything of R369 moves with it, and an AUDIT records it
(R366 to R369, R372). -/
def applyStep (d : Int) (s : State) : State :=
  let before := now s
  let v := ((s.time.wraps.toNat * 2 ^ 56 + s.time.acc.toNat : Int) + d * 2 ^ 24).toNat
  let host := s.time.source = 2
  let s1 := timeMod (fun x =>
    { shiftTime d x with
      acc := BitVec.ofNat 56 v, wraps := BitVec.ofNat 32 (v / 2 ^ 56)
      stepped := true, valid := true, integral := 0
      servo := if x.source = 1 ∧ x.servo = .acquiring then .locking else x.servo, run := 0 }) s
  let s2 := shiftRest d (shiftNet d (shiftField d (shiftLoops d (shiftTasks d s1))))
  let s3 := audit 0x0900 (srcUnit 0x0B) 0
    (le 2 s.time.session.toNat ++ zeros 6 ++ le 8 (unsigned 64 d) ++ le 8 before ++ le 8 (now s2)) s2
  if host then loadPlinth s3 else s3

/-- A step is accepted: it is added at the next tick; with a standby in step it is announced and applied by both modules 1 ms ahead
(R366, R376). -/
def beginStep (d : Int) (s : State) : State :=
  let t := timeMod (fun x => { x with stepUsed := true }) s
  if sendsToStandby t then
    let at_ := now t + ms
    emit (.control (.timeStep d at_)) (timeMod (fun x => { x with pairStep := some (d, at_) }) t)
  else timeMod (fun x => { x with stepDue := some d }) t

/-! ## Sessions (R365) -/

/-- A time session begins: the number increments, and the step is available again (R365). -/
def beginSession (x : TimeUnit) : TimeUnit :=
  { x with session := x.storedSession + 1, storedSession := x.storedSession + 1, stepUsed := false, integral := 0, acq := [], run := 0
           ppsTheta := none }

/-- A session restart: the servo enters ACQUIRING, or stays FREE under HOST; an AUDIT records it (R367, R368). -/
def restartSession (s : State) : State :=
  let t := timeMod (fun x => { beginSession x with servo := if x.source = 2 then .free else .acquiring }) s
  let u := audit 0x0901 (srcUnit 0x0B) 0
    (le 2 t.time.session.toNat ++ zeros 6 ++ le 8 0 ++ le 8 (now t) ++ le 8 (now t)) t
  if sendsToStandby u then emit (.control (.timeSession u.time.session)) u else u

/-! ## The tick (R361, R374, R383) -/

/-- Ends a PPS output pulse, or begins one at a whole second (R374). -/
def ppsTick (old : Nat) (s : State) : State :=
  let on := s.time.ppsOutEn && s.time.valid
  let t := now s
  if on = false then (if s.time.ppsOut then timeMod (fun x => { x with ppsOut := false }) s else s)
  else if old / sec ≠ t / sec ∧ s.time.ppsOut = false then
    emit .pps (timeMod (fun x => { x with ppsOut := true, ppsOutEnd := t / sec * sec + 100 * ms }) s)
  else if s.time.ppsOut ∧ s.time.ppsOutEnd ≤ t then timeMod (fun x => { x with ppsOut := false }) s
  else s

/-- The crystal domain moves on by one reference tick; its edge comes every 25,000,000 / 32,768 of them (R383, R386). -/
def crystalTick (s : State) : State :=
  let t := plinthMod (fun p => { p with loadWait := p.loadWait - 1 }) s
  if crystalSpan ≤ s.plinth.crystal + 32768 then
    plinthEdge (plinthMod (fun p => { p with crystal := s.plinth.crystal + 32768 - crystalSpan }) t)
  else plinthMod (fun p => { p with crystal := p.crystal + 32768 }) t

/-- One tick of the 25 MHz reference: module time moves by `TIME_INC`, a step accepted before takes effect, and the Plinth's crystal
domain moves with it (R361, R366, R383). -/
def refTick (s : State) : State :=
  let v := s.time.acc.toNat + s.time.inc.toNat
  let s1 := timeMod (fun x =>
    { x with acc := BitVec.ofNat 56 v, wraps := x.wraps + BitVec.ofNat 32 (v / 2 ^ 56), stepDue := none }) s
  let s2 := match s.time.stepDue with
    | some d => applyStep d s1
    | none => s1
  crystalTick (ppsTick (now s) s2)

/-- What happens when no command waits: one reference tick, at which the ports send; without main power, one edge of the Plinth's crystal
domain (R2, R330, R383). -/
def idleTick (s : State) : State := if mainPower s then egressTick (refTick s) else plinthEdge s

/-! ## The servo (R372) -/

/-- The median of numbers: the lower of two middle ones. -/
def medianOf (xs : List Int) : Int := (xs.mergeSort (· ≤ ·)).getD ((xs.length - 1) / 2) 0

/-- The servo enters HOLDOVER, where the rate is the integral term held (R372). -/
def holdOver (s : State) : State :=
  setRate s.time.integral false (timeMod (fun x => { x with servo := .holdover, run := 0, acq := [] }) s)

/-- The source of a measurement is lost: HOLDOVER, and FALLBACK from ACQUIRING where one is configured (R370, R372). -/
def sourceLost (s : State) : State :=
  let t := if s.time.servo = .locking ∨ s.time.servo = .locked then holdOver s
    else timeMod (fun x => { x with run := 0, acq := [] }) s
  match timeFallback s with
  | some f =>
    if t.time.source.toNat = timeSource s then
      let u := timeMod (fun x =>
        { x with source := BitVec.ofNat 2 f, servo := if f = 2 then .free else .acquiring }) t
      if f = 2 then setRate u.time.hostRate false u else u
    else t
  | none => t

/-- A source becomes valid: FREE and HOLDOVER become ACQUIRING; HOST stays FREE (R372). -/
def sourceValid (s : State) : State :=
  if s.time.source = 2 then s
  else timeMod (fun x =>
    { x with
      servo := if x.servo = .free ∨ x.servo = .holdover then .acquiring else x.servo
      acq := if x.servo = .free ∨ x.servo = .holdover then [] else x.acq }) s

/-- The law of R372 at a measurement: with REF10_OK the measured ratio replaces the integral term (R373). -/
def servoLaw (theta : Int) (T : Rat) (s : State) : State :=
  let lim (x : Rat) : Rat := max (-100000) (min 100000 x)
  let i := if s.time.source = 1 ∧ use10Mhz s ∧ s.time.ref10Ok then (s.time.ref10Error.toInt : Rat)
    else lim (s.time.integral + servoKi s * theta / T)
  setRate (lim (servoKp s * theta / T + i)) true (timeMod (fun x => { x with integral := i }) s)

/-- The servo reaches LOCKED: firmware loads the Plinth clock (R375). -/
def becomeLocked (s : State) : State :=
  let t := timeMod (fun x => { x with servo := .locked, run := 0 }) s
  if t.time.valid then loadPlinth t else t

/-- On leaving ACQUIRING: a step of −θ when it is available and θ is large enough, else the slew; under PTP an entry without a step
makes module time valid (R372, R375). -/
def leaveAcquiring (theta : Int) (s : State) : State :=
  if s.time.source = 1 ∧ s.time.valid = false then s
  else
    let t := timeMod (fun x => { x with servo := .locking, run := 0, acq := [] }) s
    if stepThreshold s ≤ theta.natAbs ∧ s.time.stepUsed = false ∧ stepInRange (-theta) s then beginStep (-theta) t
    else if t.time.source = 0 then timeMod (fun x => { x with valid := true }) t
    else t

/-- Offsets above 1 ms in a session whose step is used, and their end (R372). -/
def offsetWatch (theta : Int) (s : State) : State :=
  let big := s.time.stepUsed && decide (1000000 < theta.natAbs)
  let t := timeMod (fun x =>
    { x with
      offsetLarge := x.offsetLarge || big, large := x.large || big
      quietSince := if theta.natAbs < 1000 then some (x.quietSince.getD (now s)) else none }) s
  if big ∧ s.time.large = false then record sevWarning 0x0903 (srcUnit 0x0B) (le 8 (unsigned 64 theta)) t else t

/-- `TIME_OFFSET` of an offset, saturating (R377). -/
def offsetWord (theta : Int) : Word := BitVec.ofInt 32 (max (-(2 ^ 31 - 1)) (min (2 ^ 31 - 1) theta))

/-- A valid measurement by the source that steers (R372). -/
def servoStep (theta : Int) (T : Rat) (s : State) : State :=
  let s0 := sourceValid (timeMod (fun x => { x with lastMeasured := now s, offset := offsetWord theta }) s)
  let s1 := offsetWatch theta s0
  match s1.time.servo with
  | .free | .holdover => s1
  | .acquiring =>
    let acq := (theta :: s1.time.acq).take 4
    let t := timeMod (fun x => { x with acq := acq }) s1
    let hi := acq.foldl max theta
    let lo := acq.foldl min theta
    if acq.length = 4 ∧ hi - lo ≤ 1000 then leaveAcquiring theta t else t
  | .locking =>
    let run := if theta.natAbs < 100 then s1.time.run + 1 else 0
    let t := servoLaw theta T (timeMod (fun x => { x with run := run }) s1)
    if 16 ≤ run then becomeLocked t else t
  | .locked =>
    let run := if 1000 ≤ theta.natAbs then s1.time.run + 1 else 0
    let t := servoLaw theta T (timeMod (fun x => { x with run := run }) s1)
    if 4 ≤ run then timeMod (fun x => { x with servo := .locking, run := 0 }) t else t

/-- A measurement by a source: it steers when it is the active one; the configured source takes over again from the fallback by rate;
a standby only keeps it (R370, R376). -/
def measured (src : Nat) (theta : Int) (T : Rat) (s : State) : State :=
  let s0 := if src = timeSource s then timeMod (fun x => { x with lastTheta := some theta }) s else s
  if s0.time.source = 3 then s0
  else if s0.time.source.toNat = src then servoStep theta T s0
  else if src = timeSource s then
    servoStep theta T (timeMod (fun x =>
      { x with source := BitVec.ofNat 2 src, servo := if x.valid then .locking else .acquiring, run := 0, acq := [] }) s0)
  else s0

/-! ## PTP (R371, R372) -/

/-- Whether one dataset is better than another, as IEEE 1588-2019 compares them (R371). -/
def datasetBetter (a b : PtpDataset) : Bool :=
  let key (d : PtpDataset) : List Nat :=
    [d.priority1, d.clockClass, d.clockAccuracy, d.variance, d.priority2, d.grandmaster.toNat]
  if a.grandmaster = b.grandmaster then
    decide (a.stepsRemoved < b.stepsRemoved) || (a.stepsRemoved == b.stepsRemoved && decide (a.master.toNat < b.master.toNat))
  else decide (key a < key b)

/-- The best master over the ports, and the port that receives it with the lowest median path delay (R371). -/
def bestMaster (masters : Tab (Option PtpDataset)) (delays : Tab (List Int)) : Option (Nat × PtpDataset) :=
  let all := masters.filterMap fun p => p.2.map fun d => (p.1, d)
  match all with
  | [] => none
  | x :: xs =>
    let best := xs.foldl (fun m y => if datasetBetter y.2 m.2 then y else m) x
    let same := all.filter fun y => y.2.master == best.2.master && y.2.grandmaster == best.2.grandmaster
    some (same.foldl (fun m y => if medianOf (tabGet [] delays y.1) < medianOf (tabGet [] delays m.1) then y else m) best)

/-- The sync interval of the selected master in seconds (R371). -/
def syncInterval (s : State) : Rat :=
  match tabGet none s.time.masters s.time.masterPort with
  | some d => 1 / ((2 ^ (-d.logSyncInterval).toNat : Nat) : Rat)
  | none => 1

/-- The master that a port hears: the one announced last, unless another master that the port heard is better (R371). -/
def heardMaster (old : Option PtpDataset) (d : PtpDataset) : PtpDataset :=
  match old with
  | some o => if o.master != d.master && datasetBetter o d then o else d
  | none => d

/-- The selected master is no longer heard: the best of the other ports' is selected, if there is one (R371, R372). -/
def masterLost (s : State) : State :=
  let masters := tabSet none s.time.masters s.time.masterPort none
  match bestMaster masters s.time.delays with
  | none => timeMod (fun x => { x with masters := masters, masterSeen := false }) s
  | some b => timeMod (fun x => { x with masters := masters, masterPort := b.1, utcOffset := b.2.utcOffset, utcValid := b.2.utcValid }) s

/-- PTP_ANNOUNCE: R371, R374. -/
def execPtpAnnounce (p : Fin 4) (d : PtpDataset) (s : State) : Host.Outcome State Fault Refusal :=
  .next (
    if portUp p.val s = false ∨ d.domain ≠ ptpDomain s ∨ d.logSyncInterval < -4 ∨ 0 < d.logSyncInterval then s
    else
      let masters := tabSet none s.time.masters p.val (some (heardMaster (tabGet none s.time.masters p.val) d))
      let s1 := timeMod (fun x => { x with masters := masters }) s
      match bestMaster masters s.time.delays with
      | none => s1
      | some b =>
        let s2 := timeMod (fun x =>
          { x with masterPort := b.1, masterSeen := true, utcOffset := b.2.utcOffset, utcValid := b.2.utcValid }) s1
        if s2.time.source = 0 ∧ s2.time.servo = .free then sourceValid s2 else s2)

/-- PTP_SYNC: R371; the Delay_Req of the exchange is sent. -/
def execPtpSync (p : Fin 4) (seq : BitVec 16) (twoStep : Bool) (origin : Nat) (correction : Int) (rx : Word) (s : State) :
    Host.Outcome State Fault Refusal :=
  .next (
    if portUp p.val s = false ∨ (tabGet none s.time.masters p.val).isNone then s
    else
      let e : PtpExchange := {
        seq := seq, rx := extend rx (now s) - (portLatency p.val true s : Int) - correction
        origin := if twoStep then none else some origin }
      emit (.frame p.val 0x88F7 (be 2 seq.toNat)) (timeMod (fun x => { x with exchange := tabSet none x.exchange p.val (some e) }) s))

/-- PTP_FOLLOW_UP: R371. -/
def execPtpFollowUp (p : Fin 4) (seq : BitVec 16) (origin : Nat) (correction : Int) (s : State) :
    Host.Outcome State Fault Refusal :=
  .next (match tabGet none s.time.exchange p.val with
    | some e =>
      if e.seq = seq ∧ e.origin.isNone then
        timeMod (fun x => { x with exchange := tabSet none x.exchange p.val (some { e with origin := some (origin + correction) }) }) s
      else s
    | none => s)

/-- PTP_DELAY_RESP: R371, R372: the exchange gives an offset, unless its path delay is too far above the median of the last eight. -/
def execPtpDelayResp (p : Fin 4) (tx : Word) (received : Nat) (correction : Int) (s : State) :
    Host.Outcome State Fault Refusal :=
  .next (match tabGet none s.time.exchange p.val with
    | some e =>
      match e.origin with
      | none => s
      | some t1 =>
        let down := e.rx - t1
        let up := (received : Int) - correction - (extend tx (now s) + portLatency p.val false s)
        let delay := (down + up) / 2
        let theta := (down - up) / 2
        let old := tabGet [] s.time.delays p.val
        let bad := old != [] && decide (medianOf old + 1000 < delay)
        let s1 := timeMod (fun x =>
          { x with
            exchange := tabSet none x.exchange p.val none, delays := tabSet [] x.delays p.val ((delay :: old).take 8)
            delayDiscards := if bad then x.delayDiscards + 1 else x.delayDiscards }) s
        if bad ∨ s1.time.masterPort ≠ p.val then s1 else measured 0 theta (syncInterval s1) s1
    | none => s)

/-- SYNC_TIMEOUT: no valid measurement for three sync intervals (R372). -/
def execSyncTimeout (s : State) : Host.Outcome State Fault Refusal :=
  .next (
    let T : Rat := if s.time.source = 0 then syncInterval s else if s.time.source = 3 then 1 / 1000 else 1
    let limit := (Rat.floor (3 * T * 1000000000)).toNat
    if (s.time.servo = .locking ∨ s.time.servo = .locked) ∧ s.time.lastMeasured + limit ≤ now s then
      sourceLost (if s.time.source = 0 then masterLost s else s)
    else s)

/-- OFFSET_QUIET: |θ| below 1 µs for 10 s (R372). -/
def execOffsetQuiet (s : State) : Host.Outcome State Fault Refusal :=
  .next (match s.time.quietSince with
    | some t =>
      if s.time.large ∧ t + 10 * sec ≤ now s then
        record sevEvent 0x0903 (srcUnit 0x0B) [] (timeMod (fun x => { x with large := false }) s)
      else s
    | none => s)

/-! ## Pulse and reference inputs (R373, R374) -/

/-- PPS_EDGE: R373; an edge that comes too early is captured and otherwise ignored. -/
def execPpsEdge (stamp : Word) (s : State) : Host.Outcome State Fault Refusal :=
  .next (
    let t := extend stamp (now s)
    let s1 := timeMod (fun x => { x with ppsCapture := stamp, ppsLast := some t }) s
    match s.time.ppsLast with
    | none => s1
    | some t0 =>
      if t - t0 < (sec : Int) - ms ∧ t0 ≤ t then timeMod (fun x => { x with ppsCapture := stamp }) s
      else if (t - t0 - sec).natAbs ≤ ms then
        let theta := t - (t + sec / 2) / sec * sec
        measured 1 theta 1 (timeMod (fun x => { x with ppsOk := true, ppsTheta := some theta }) s1)
      else s1)

/-- PPS_MISSING: three missing edges (R373). -/
def execPpsMissing (s : State) : Host.Outcome State Fault Refusal :=
  .next (match s.time.ppsLast with
    | some t =>
      if s.time.ppsOk ∧ t + 3 * sec + ms ≤ now s then
        let s1 := timeMod (fun x => { x with ppsOk := false }) s
        if s1.time.source = 1 then sourceLost s1 else s1
      else s
    | none => s)

/-- REF10_MEASURE: R373. -/
def execRef10Measure (ppb : Int) (s : State) : Host.Outcome State Fault Refusal :=
  .next (
    if use10Mhz s = false then s
    else
      let good := decide (ppb.natAbs ≤ 5000)
      let s1 := timeMod (fun x => { x with ref10Error := BitVec.ofInt 32 ppb, ref10Ok := good }) s
      if s1.time.source = 1 ∧ s1.time.servo = .acquiring ∧ s1.time.valid = false then
        setRate (if good then (ppb : Rat) else 0) true s1
      else s1)

/-- PPS_OUT_SECOND: the output rises at a whole second of valid module time (R374). -/
def execPpsOutSecond (s : State) : Host.Outcome State Fault Refusal :=
  .next (
    if s.time.ppsOutEn ∧ s.time.valid ∧ s.time.ppsOut = false ∧ now s % sec < s.time.inc.toNat / 2 ^ 24 then
      emit .pps (timeMod (fun x => { x with ppsOut := true, ppsOutEnd := now s / sec * sec + 100 * ms }) s)
    else s)

/-! ## The Plinth, validity and the pair (R375, R376) -/

/-- PLINTH_RELOAD: an hour after the last, when the two differ by more than two ticks (R375). -/
def execPlinthReload (s : State) : Host.Outcome State Fault Refusal :=
  .next (
    let d := (ticksOf (now s) : Int) - s.plinth.ticks.toNat
    if s.time.plinthLoaded = false ∨ s.time.valid = false ∨ now s < s.time.plinthAt + 3600 * sec then s
    else if 2 < d.natAbs then loadPlinth s
    else timeMod (fun x => { x with plinthAt := now s }) s)

/-- TIME_NOT_VALID_WARNING: once per hour without valid time (R375). -/
def execTimeNotValidWarning (s : State) : Host.Outcome State Fault Refusal :=
  .next (
    if s.time.valid ∨ firmwareRuns s = false ∨ due s.time.lastNotValid (3600 * sec) (now s) = false then s
    else record sevWarning 0x0904 (srcUnit 0x0B) [] (timeMod (fun x => { x with lastNotValid := some (now s) }) s))

/-- Whether this module follows the active module's time: it is the standby of a pair (R376). -/
def followsTime (s : State) : Bool := s.modes.mode == .standby

/-- DRAWBAR_TIME: R376. -/
def execDrawbarTime (theta : Int) (s : State) : Host.Outcome State Fault Refusal :=
  .next (
    if followsTime s = false then s
    else servoStep theta (1 / 1000) (timeMod (fun x => { x with source := 3 }) s))

/-- TIME_STREAM_STOP: R376. -/
def execTimeStreamStop (s : State) : Host.Outcome State Fault Refusal :=
  .next (
    if followsTime s ∧ s.time.source = 3 then holdOver s else s)

/-- PAIR_TIME_STEP: at the module time that the active module sent, both modules apply the step (R376). -/
def execPairTimeStep (s : State) : Host.Outcome State Fault Refusal :=
  .next (match s.time.pairStep with
    | some (d, t) =>
      if t ≤ now s then applyStep d (timeMod (fun x => { x with pairStep := none, stepUsed := true }) s) else s
    | none => s)

/-- A new active module moves to its configured source without a step (R376). -/
def timeTakeover (s : State) : State :=
  if s.time.source ≠ 3 then s
  else
    let src := timeSource s
    let servo : Servo := if src = 2 then .free else if s.time.lastTheta.any fun x => decide (x.natAbs < 100) then .locked else .locking
    let t := timeMod (fun x => { x with source := BitVec.ofNat 2 src, servo := servo, run := 0, acq := [], lastMeasured := now s }) s
    if src = 2 then setRate t.time.hostRate false t else t

/-! ## Registers (R377 to R379) -/

/-- The code of a servo state (R378). -/
def servoCode : Servo → Nat
  | .free => 0
  | .acquiring => 1
  | .locking => 2
  | .locked => 3
  | .holdover => 4

/-- `TIME_STATUS` (R378). -/
def timeStatus (x : TimeUnit) : Word :=
  BitVec.ofNat 32 (x.session.toNat * 2 ^ 16 + servoCode x.servo * 2 ^ 13 + x.source.toNat * 2 ^ 11 + atBit x.offsetLarge 9 +
    atBit x.stepped 8 + atBit x.stepUsed 7 + atBit x.valid 6 + atBit x.ppsOk 5 + atBit x.ref10Ok 4 +
    atBit (x.ppsOutEn && x.valid) 3 + atBit x.tempRate 2 + atBit x.masterSeen 1)

/-- A read of `TIME_NS` latches `TIME_WRAPS_SNAP` (R362). -/
def timeLatch (x : TimeUnit) : TimeUnit := { x with wrapsSnap := x.wraps }

/-- What a register of the time unit reads as (R377). -/
def timeRead (off : Nat) (x : TimeUnit) : Word :=
  match off with
  | 0x000 => BitVec.ofNat 32 (x.acc.toNat / 2 ^ 24)
  | 0x004 => x.wrapsSnap
  | 0x008 => x.inc
  | 0x00C => timeStatus x
  | 0x010 => x.adj.setWidth 32
  | 0x014 => (x.adj >>> 32).setWidth 32
  | 0x018 => BitVec.ofNat 32 (atBit x.ppsOutEn 1)
  | 0x01C => x.ppsCapture
  | 0x020 => x.offset
  | 0x024 => x.ref10Error
  | _ => 0

/-- A write of `TIME_INC` (R363). -/
def writeInc (v : Word) (s : State) : State := timeMod (fun x => { x with inc := BitVec.ofInt 32 (clampInc v.toNat) }) s

/-- A write of `TIME_CTRL` (R366, R379). -/
def writeTimeCtrl (step newSession ppsOut : Bool) (s : State) : State :=
  let d := s.time.adj.toInt
  let s1 := timeMod (fun x => { x with ppsOutEn := ppsOut }) s
  let wanted := step && (newSession || !s.time.stepUsed)
  if wanted && !stepInRange d s then s1
  else
    let s2 := if newSession then restartSession s1 else s1
    if wanted && d != 0 then beginStep d s2 else s2

/-- A write of a register of the time unit (R377 to R379). -/
def timeWrite (off : Nat) (v : Word) (s : State) : State :=
  match off with
  | 0x008 => writeInc v s
  | 0x00C => timeMod (fun x => { x with offsetLarge := x.offsetLarge && !v.getLsbD 9, stepped := x.stepped && !v.getLsbD 8 }) s
  | 0x010 => timeMod (fun x => { x with adj := (x.adj &&& 0xFFFFFFFF00000000#64) ||| v.setWidth 64 }) s
  | 0x014 => timeMod (fun x => { x with adj := (x.adj &&& 0xFFFFFFFF#64) ||| (v.setWidth 64 <<< 32) }) s
  | 0x018 => writeTimeCtrl (v.getLsbD 0) (v.getLsbD 2) (v.getLsbD 1) s
  | _ => s

/-- TIME_WRAP: the tick at which `TIME_NS` wraps (R361). -/
def execTimeWrap (s : State) : Host.Outcome State Fault Refusal :=
  .next (if mainPower s ∧ 2 ^ 56 ≤ s.time.acc.toNat + s.time.inc.toNat then refTick s else s)

/-- TIME_NS_READ: R362. -/
def execTimeNsRead (s : State) : Host.Outcome State Fault Refusal :=
  .next { timeMod timeLatch s with host := { s.host with readValue := timeRead 0 s.time } }

/-- TIME_INC_WRITE: R363. -/
def execTimeIncWrite (v : Word) (s : State) : Host.Outcome State Fault Refusal := .next (writeInc v s)

/-- TIME_CTRL_STEP: R379. -/
def execTimeCtrlStep (ppsOutEn : Bool) (s : State) : Host.Outcome State Fault Refusal := .next (writeTimeCtrl true false ppsOutEn s)

/-- TIME_CTRL_NEW_SESSION: R379. -/
def execTimeCtrlNewSession (step ppsOutEn : Bool) (s : State) : Host.Outcome State Fault Refusal :=
  .next (writeTimeCtrl step true ppsOutEn s)

/-- TEMP_RATE_EXPIRY: R367. -/
def execTempRateExpiry (s : State) : Host.Outcome State Fault Refusal :=
  .next (
    if s.time.tempRate ∧ s.time.tempEnd ≤ now s then
      let t := timeMod (fun x => { x with tempRate := false, hostRate := x.priorRate }) s
      if t.time.source = 2 then setRate t.time.hostRate false t else t
    else s)

/-! ## Commands (R366, R367, R388, R515) -/

/-- TIME_GET (R515): the Plinth fields come from one latch. -/
def execTimeGet (m : MbxId) (s : State) : Host.Outcome State Fault Refusal :=
  .next (runCommand 0x0801 m (fun _ s =>
    let p := rtcLatch s.plinth
    let pay := le 8 (now s) ++ le 4 (timeStatus s.time).toNat ++ le 4 s.time.offset.toNat ++ le 2 (unsigned 16 s.time.utcOffset) ++
      le 2 (b2n s.time.utcValid) ++ le 4 s.time.inc.toNat ++ le 8 p.ticks.toNat ++ le 4 p.phase.toNat ++ le 1 p.wday.toNat ++
      zeros 3 ++ le 4 (rtcStatus p).toNat ++ zeros 4
    ({ s with plinth := p }, ok pay)) s)

/-- The step that a request makes: under PPS_10M with the phase correction of the last valid edge (R367). -/
def stepAmount (delta : Int) (s : State) : Int :=
  if s.time.source = 1 then (match s.time.ppsTheta with
    | some x => delta - x
    | none => delta) else delta

/-- What `TIME_STEP` answers where it does not step: the status by the rows of R366, in their order; none where it applies. -/
def stepRefusal (delta : Int) (new_ : Bool) (s : State) : Option Nat :=
  let src := s.time.source
  let pps := src = 1
  if new_ = false ∧ src ≠ 2 ∧ src ≠ 1 then some stRefusedState
  else if new_ ∧ s.modes.manoeuvring then some stRefusedState
  else if new_ = false ∧ delta = 0 then some stOk
  else if new_ = false ∧ s.time.stepUsed then some stRefusedState
  else if (pps ∧ delta % sec ≠ 0) ∨ (new_ ∧ src = 0 ∧ delta ≠ 0) then some stInconsistent
  else if pps ∧ delta ≠ 0 ∧ (s.time.ppsOk = false ∨ s.time.ppsTheta.isNone) then some stRefusedState
  else if delta ≠ 0 ∧ stepInRange (stepAmount delta s) s = false then some stInconsistent
  else none

/-- TIME_STEP (R366, R367). -/
def execTimeStep (m : MbxId) (s : State) : Host.Outcome State Fault Refusal :=
  .next (runCommand 0x0802 m (fun q s =>
    let delta := signed 64 (fld64 q.pay 0)
    let new_ := bit (fld32 q.pay 8) 0
    let reply (t : State) (at_ : Nat) : List Byte := le 2 t.time.session.toNat ++ zeros 6 ++ le 8 at_
    match stepRefusal delta new_ s with
    | some x => (s, if x = stOk then ok (reply s (now s)) else st x)
    | none =>
      if auditRoom s = false then (s, st stBusy)
      else
        let s1 := if new_ then restartSession s else s
        if delta = 0 then (s1, ok (reply s1 (now s1)))
        else
          let d := stepAmount delta s
          (beginStep d s1, ok (reply s1 ((nextTickTime s1 : Int) + d).toNat))) s)

/-- TIME_RATE (R367). -/
def execTimeRate (m : MbxId) (s : State) : Host.Outcome State Fault Refusal :=
  .next (runCommand 0x0803 m (fun q s =>
    let ppb := signed 32 (fld32 q.pay 0)
    let dur := fld32 q.pay 4
    let reply (t : State) : Resp := ok (le 4 t.time.inc.toNat)
    if 100000 < ppb.natAbs ∨ 600000 < dur then (s, st stInconsistent)
    else if s.time.source ≠ 2 then (s, st stRefusedState)
    else if ppb = 0 then (s, reply s)
    else
      let base := if s.time.tempRate then s.time.priorRate else s.time.hostRate
      let s1 := timeMod (fun x =>
        { x with
          hostRate := base + ppb, priorRate := base, tempRate := dur != 0
          tempEnd := now s + dur * ms }) s
      let s2 := setRate s1.time.hostRate false s1
      let s3 := if s2.time.inc = s.time.inc then s2
        else admitRecord (plainRecord sevEvent 0x0902 (srcUnit 0x0B) noHandle (reqSession q s)
          (le 4 (unsigned 32 ppb) ++ le 4 dur) s2) s2
      (s3, reply s3)) s)

/-- RTC_SET (R388): the checks in their order; the load applies at its edge, and the answer names the count of that edge. -/
def execRtcSet (m : MbxId) (s : State) : Host.Outcome State Fault Refusal :=
  .next (runCommand 0x0804 m (fun q s =>
    let t := fld64 q.pay 0
    let wday := fld8 q.pay 8
    let phase := fld32 q.pay 12
    let edge := (ticksToLoad s.plinth * s.time.inc.toNat) / 2 ^ 24
    let edges := if crystalSpan < s.plinth.crystal + 50 * 32768 then 2 else 1
    if s.time.valid ∧ t ≠ 0 then (s, st stRefusedState)
    else if t ≠ 0 ∧ (t < tai2000 ∨ 2 ^ 48 ≤ ticksOf (t + edge)) then (s, st stInconsistent)
    else if 6 < wday ∧ wday ≠ 0xFF then (s, st stInconsistent)
    else if dayTicks ≤ phase ∧ phase ≠ 0xFFFFFFFF then (s, st stInconsistent)
    else
      let v := BitVec.ofNat 48 (ticksOf (t + edge))
      let day := (s.plinth.phase.toNat + edges) % dayTicks
      let s1 := plinthMod (fun p =>
        { p with
          loadLo := if t = 0 then p.loadLo else v.setWidth 32, loadHi := if t = 0 then p.loadHi else v.extractLsb' 32 16
          loadWday := if wday = 0xFF then p.wday else BitVec.ofNat 3 wday
          loadDay := if phase = 0xFFFFFFFF then BitVec.ofNat 32 day else BitVec.ofNat 32 phase
          pendTicks := t != 0, pendWday := wday != 0xFF || phase != 0xFFFFFFFF, loadWait := 50 }) s
      let s2 := admitRecord (plainRecord sevEvent 0x0A04 (srcUnit 8) noHandle (reqSession q s) [] s1) s1
      (s2, ok (le 8 (if t = 0 then (s.plinth.ticks + BitVec.ofNat 48 edges).toNat else v.toNat)))) s)

end Sys2Proof.Machine
end

