-- ==== Sys2Proof/Machine/Commit.lean ====
section
/-! DEFINITION. The checks of a configuration commit (R88, R97, R130, R131, R144, R152, R172, R218, R229, R252, R273, R299, R309,
R327, R335, R345, R347, R370, R404, R422, R505), its report (R506), and how a committed set reaches its objects. -/

namespace Sys2Proof.Machine

/-- What a check refuses with: the status, and the kind, field and index it reports (R502). -/
structure CfgFail where
  /-- STATUS. -/
  status : Nat
  /-- FAIL_KIND. -/
  kind : Nat
  /-- FAIL_FIELD. -/
  field : Nat
  /-- FAIL_INDEX. -/
  index : Nat
deriving DecidableEq, Repr

/-- A record refused as inconsistent. -/
def bad (kind index : Nat) (field : Option Nat) : Option CfgFail :=
  field.map fun f => { status := stInconsistent, kind := kind, field := f, index := index }

/-- The first field of a list of checks that fails. -/
def firstField (cs : List (Nat × Bool)) : Option Nat := (cs.find? fun c => !c.2).map (·.1)

/-- The first record of a kind that a check refuses. -/
def checkKind (kind : Nat) (s : State) (f : Nat → List Byte → Option Nat) : Option CfgFail :=
  (cfgKind s.cfg.cur kind).findSome? fun p => bad kind p.1 (f p.1 p.2)

/-! ## Own signals -/

/-- A handle field names no signal. -/
def noSignal (r : List Byte) (off : Nat) : Bool := fld32 r off == 0xFFFFFFFF

/-- A handle field names an own signal's value whose TYPE satisfies `p` and whose SOURCE is `src`; `s` holds the candidate set. -/
def ownSignal (h : Word) (p : Nat → Bool) (src : Nat) (s : State) : Bool :=
  let g := handleSig h
  handleAttr h == 0 && sigOwn g s && sigDefined g s && p (typeOf s.cfg.cur (sigStation g) (sigIndex g)) &&
    configSource g s == BitVec.ofNat 32 src

/-- A handle field names a defined signal's value whose TYPE satisfies `p`. -/
def anySignal (h : Word) (p : Nat → Bool) (s : State) : Bool :=
  let g := handleSig h
  handleAttr h == 0 && sigDefined g s && p (typeOf s.cfg.cur (sigStation g) (sigIndex g))

/-- Numeric, other than BOOL. -/
def isNumeric (t : Nat) : Bool := typeNumeric t

/-! ## Channels -/

/-- The tasks that write an output channel, by the outputs the program declares (R88). -/
def outputTasks (img : Mem) (digital : Bool) (ch : Nat) : List (Nat × Nat) :=
  (taskEntries img).flatMap fun e =>
    ((Config.taskOutputs img (fld8 e 0)).filter fun o => o.2.1 == digital && o.2.2 == ch).map fun o => (fld8 e 0, o.1)

/-- The enabled loops of a set whose output is a universal channel. -/
def outputLoops (ch : Nat) (s : State) : List Nat :=
  ((cfgKind s.cfg.cur 0x0040).filter fun p => loopEnabled p.2 && fld8 p.2 7 == 0 && fld32 p.2 20 == ch).map (·.1)

/-- Whether a channel is written by more than one task or loop (R88). -/
def writtenTwice (img : Mem) (digital : Bool) (ch : Nat) (s : State) : Bool :=
  decide (1 < ((outputTasks img digital ch).map (·.1)).eraseDups.length + (if digital then 0 else (outputLoops ch s).length))

/-- A REAL field is finite. -/
def realOk (r : List Byte) (off : Nat) : Bool := f32Finite (fldW r off)

/-- The first offset of a universal channel's record that a commit refuses (R251, R252, R253). -/
def ucRecFail (img : Mem) (s : State) (n : Nat) (r : List Byte) : Option Nat :=
  let mode := fld8 r 1
  let rate := fld8 r 2
  let resistive := mode == 8 || mode == 9
  let phase := fld32 r 48
  firstField (
    [(0, fld8 r 0 == n && decide (n ≤ 15)), (1, decide (mode ≤ 0xA)), (2, decide (rate ≤ 0xB)),
      (2, !(decide (8 ≤ rate) && (resistive || mode == 0xA))), (2, !ucOutputMode mode || decide (4 ≤ rate)),
      (4, if resistive then fld8 r 4 == 2 || fld8 r 4 == 3 || fld8 r 4 == 4 else fld8 r 4 == 0),
      (5, decide (fld8 r 5 ≤ 7)), (6, decide (fld8 r 6 ≤ 3)), (7, decide (fld8 r 7 ≤ 1))] ++
    [12, 16, 20, 24, 28, 32, 36, 40, 44, 52].map (fun o => (o, realOk r o)) ++
    [(12, !feq (f32At r 12) (f32At r 16)), (20, !feq (f32At r 20) (f32At r 24)), (28, f32Within (fldW r 28) 0 10),
      (32, f32Within (fldW r 32) (-50) 120), (36, f32Within (fldW r 36) 0 100), (44, fpLe (.fin false 0 0) (fp32 (fldW r 44))),
      (48, phase % 1000 == 0 && decide (phase + 1000 ≤ ucPeriod rate)),
      (8, noSignal r 8 || ownSignal (fldW r 8) isNumeric (0x40000000 + n) s),
      (1, !ucOutputMode mode || !writtenTwice img false n s)])

/-- The record of a digital channel in a set. -/
def digRec (s : State) (n : Nat) : List Byte := cfgRec 0x0031 n s

/-- A digital channel's record names an input. -/
def digIsInput (r : List Byte) : Bool := fld8 r 1 == 1 || fld8 r 1 == 2

/-- Whether a channel is the counted track of a counting function other than channel `n`'s (R273). -/
def countedTrack (s : State) (n x : Nat) : Bool :=
  (List.range 4).any fun c => c != n && fld8 (digRec s c) 2 != 0 &&
    (c == x || (bit (fld8 (digRec s c) 3) 4 && fld8 (digRec s c) 20 == x))

/-- A channel may serve as PARTNER, INDEX_CHAN or REF_CHAN of channel `n` (R273). -/
def auxOk (s : State) (n x : Nat) : Bool := decide (x ≤ 3) && x != n && digIsInput (digRec s x) && !countedTrack s n x

/-- The loops of a set that take their angle from a digital channel suit its function (R241, R273). -/
def angleOk (s : State) (n : Nat) (r : List Byte) : Bool :=
  (cfgKind s.cfg.cur 0x0040).all fun p =>
    let l := p.2
    fld8 l 102 == 0 || repCells l == 0 || fld8 l 103 != n ||
      (if fld8 l 102 = 1 then fld8 r 2 == 2 && fld32 r 16 == fld32 l 112 else decide (2 ≤ fld8 r 2))

/-- TYPE of the channel signal of a function (R277, R288). -/
def digType : Nat → Nat
  | 0 => 0x01
  | 1 => 0x05
  | 2 => 0x08
  | _ => 0x10

/-- The first offset of a digital channel's record that a commit refuses (R272, R273). -/
def digRecFail (img : Mem) (s : State) (n : Nat) (r : List Byte) : Option Nat :=
  let dir := fld8 r 1
  let fn := fld8 r 2
  let quad := bit (fld8 r 3) 4
  let src := 0x40000000 + 16 + n
  firstField
    [(0, fld8 r 0 == n && decide (n ≤ 47)), (1, decide (dir ≤ 3)), (2, decide (fn ≤ 3)),
      (2, fn == 0 || (decide (n ≤ 3) && dir != 3)), (3, !(bit (fld8 r 3) 2 && bit (fld8 r 3) 3)),
      (6, decide (fld16 r 6 ≤ 1000) && fld16 r 6 % 20 == 0),
      (16, fn != 2 || (decide (1 ≤ fld32 r 16) && decide (fld32 r 16 ≤ 65536))),
      (20, if quad then auxOk s n (fld8 r 20) else fld8 r 20 == 0xFF),
      (21, fn != 2 || auxOk s n (fld8 r 21)), (22, fn != 2 || fld8 r 22 == 0xFF || auxOk s n (fld8 r 22)),
      (24, fn == 0 || (decide (1 ≤ fld32 r 24) && decide (fld32 r 24 ≤ 60000))),
      (30, (fn != 0 && decide (n ≤ 3)) || fld16 r 30 == 0xFFFF),
      (8, noSignal r 8 || (dir != 0 && ownSignal (fldW r 8) (· == digType fn) src s)),
      (12, noSignal r 12 || (dir != 0 && fn != 0 && ownSignal (fldW r 12) (· == 0x0A) src s)),
      (2, angleOk s n r), (1, dir != 3 || !writtenTwice img true n s)]

/-! ## Loops, functions, dual contacts -/

/-- The first offset of a loop record that a commit refuses (R217, R218). -/
def loopRecFail (img : Mem) (s : State) (n : Nat) (r : List Byte) : Option Nat :=
  let src := 0x60000000 + n
  let pv := cfgRec 0x0030 (fld32 r 8) s
  let out := cfgRec 0x0030 (fld32 r 20) s
  let pvMode := fld8 pv 1
  let real (t : Nat) : Bool := t == 0x0A || t == 0x0B
  match loopRangeFail n r with
  | some f => some f
  | none =>
    firstField
      [(8, if fld8 r 4 = 0 then pv != [] && pvMode != 0 && !ucOutputMode pvMode else anySignal (fldW r 8) isNumeric s),
        (8, fld8 r 4 != 0 || decide (ucPeriod (fld8 pv 2) ≤ loopPeriod r)),
        (12, fld8 r 5 != 1 || anySignal (fldW r 12) isNumeric s),
        (12, fld8 r 5 != 2 || (fld32 r 12 != n && loopEnabled (cfgRec 0x0040 (fld32 r 12) s))),
        (16, fld8 r 6 != 1 || anySignal (fldW r 16) isNumeric s),
        (20, if fld8 r 7 = 0 then ucOutputMode (fld8 out 1) else ownSignal (fldW r 20) real src s),
        (20, fld8 r 7 != 0 || !loopEnabled r || !writtenTwice img false (fld32 r 20) s),
        (140, noSignal r 140 || ownSignal (fldW r 140) real src s),
        (144, noSignal r 144 || ownSignal (fldW r 144) (· == 0x0E) src s),
        (148, noSignal r 148 || ownSignal (fldW r 148) (· == 0x08) src s)]

/-- The scopes of a task in an image (R110). -/
def taskScopes (img : Mem) (t : Nat) : List Nat := (taskInstances img t).map fun n => fld16 (dirEntry img n) 38

/-- A task of an image is a safety task (R87). -/
def imSafety (img : Mem) (t : Nat) : Bool := (imTask img t).elim false (·.safety)

/-- Whether a task of an image writes a signal. -/
def writesSig (img : Mem) (g : Nat) : Bool :=
  (taskEntries img).any fun e => (Config.taskWrites img (fld8 e 0)).any fun h => handleSig h == g

/-- The first offset of a function record that a commit refuses (R297, R299). -/
def funcRecFail (img : Mem) (s : State) (n : Nat) (r : List Byte) : Option Nat :=
  let t := fld8 r 2
  let dos := funcDos r
  let uos := funcUos r
  let fo := fld8 r 12
  let soleWriter (digital : Bool) (ch : Nat) : Bool :=
    let w := outputTasks img digital ch
    w.contains (t, n) && w.all (· == (t, n)) && (digital || (outputLoops ch s).isEmpty)
  firstField
    [(0, fld16 r 0 == n && decide (n ≤ 255)), (2, decide (t ≤ 19)), (12, decide (fo ≤ 47) || fo == 0xFF),
      (13, decide (fld8 r 13 ≤ 8)), (14, decide (fld8 r 14 ≤ 2)),
      (16, dos.all (fun c => decide (c ≤ 47)) && ((List.range 8).drop dos.length).all (fun k => fld8 r (16 + k) == 0xFF)),
      (24, uos.all (fun c => decide (c ≤ 15) && ucOutputMode (fld8 (cfgRec 0x0030 c s) 1)) &&
        ((List.range 2).drop uos.length).all (fun k => fld8 r (24 + k) == 0xFF)),
      (26, decide (fld16 r 26 ≤ 4320)), (28, realOk r 28), (32, realOk r 32), (2, imSafety img t),
      (0, (taskScopes img t).contains n), (16, dos.all (soleWriter true)), (24, uos.all (soleWriter false)),
      (12, fo == 0xFF || ((cfgKind s.cfg.cur 0x0050).all (fun p => !(funcDos p.2).contains fo) && (outputTasks img true fo).isEmpty)),
      (8, noSignal r 8 || (ownSignal (fldW r 8) (· == 1) (0x10000000 + t) s && !writesSig img (handleSig (fldW r 8)))),
      (4, anySignal (fldW r 4) (· == 1) s),
      (16, !funcEnergise r || dos.all fun c => !bit (fld8 (digRec s c) 3) 2)]

/-- The first offset of a dual-contact record that a commit refuses (R308, R309). -/
def contactRecFail (s : State) (n : Nat) (r : List Byte) : Option Nat :=
  let a := fld8 r 1
  let b := fld8 r 2
  let ra := digRec s a
  let rb := digRec s b
  let f := cfgRec 0x0050 (fld16 r 4) s
  let elsewhere (c : Nat) : Bool := (cfgKind s.cfg.cur 0x0051).any fun p => p.1 != n && (fld8 p.2 1 == c || fld8 p.2 2 == c)
  firstField
    [(0, fld8 r 0 == n && decide (n ≤ 23)), (1, decide (a ≤ 47)), (2, decide (b ≤ 47)), (2, a / 12 != b / 12),
      (8, decide (1 ≤ fld32 r 8) && decide (fld32 r 8 ≤ 10000)), (1, digIsInput ra && fld8 ra 2 == 0),
      (2, digIsInput rb && fld8 rb 2 == 0), (2, fld16 ra 4 == fld16 rb 4 && bit (fld8 ra 3) 0 == bit (fld8 rb 3) 0),
      (1, !elsewhere a), (2, !elsewhere b), (4, f != []),
      (12, noSignal r 12 || ownSignal (fldW r 12) (· == 1) (0x10000000 + fld8 f 2) s)]

/-! ## The whole set -/

/-- The vessel signal table (R130, R505): its size, its counts and its types. -/
def tableFail (s : State) : Option CfgFail :=
  let c := s.cfg.cur
  let total := baseOf c 64
  if c.tableLen = 0 then none
  else
    match (List.range 64).find? (fun k => decide (1048576 < signalsOf c k)) with
    | some k => some { status := stInconsistent, kind := 0x0010, field := 0, index := 16 + 4 * k }
    | none =>
      if 5242880 < total then some { status := stBudgetExceeded, kind := 0x0010, field := 0, index := 16 }
      else if c.tableLen ≠ 272 + total then some { status := stInconsistent, kind := 0x0010, field := 0, index := 272 }
      else
        ((List.range total).find? fun k => decide (0x11 < (memRead c.table (272 + k)).toNat)).map fun k =>
          { status := stInconsistent, kind := 0x0010, field := 0, index := 272 + k }

/-- The program against the set (R46, R86, R87, R88, R97, R109, R131, R144). -/
def programFail (img : Mem) (s : State) : Option CfgFail :=
  let ts := (taskEntries img).map fun e => fld8 e 0
  let reads := ts.flatMap fun t => Config.taskReads img t
  let writes := ts.flatMap fun t => Config.taskWrites img t
  let once (f : Nat → List Nat) : Bool := decide ((ts.flatMap fun t => (f t).eraseDups).Nodup)
  let say (st_ : Nat) : Option CfgFail := some { status := st_, kind := 0x0010, field := 0, index := 0 }
  if (reads ++ writes).any (fun h => !sigDefined (handleSig h) s) || !tasksOk img then say stInconsistent
  else if !once (fun t => (Config.taskWrites img t).map handleSig) ||
      !once (fun t => (Config.taskOutputs img t).map fun o => o.2.2 * 2 + b2n o.2.1) ||
      !once (fun t => (Config.taskLoopFields img t).map fun o => o.1 * 4 + o.2) then say stInconsistent
  else if 8126464 < reads.length + writes.length ∨ preImagePages < writablePages img ∨ express46 img = false ∨
      expressOk (expressTasks img) (fun _ => 0) = false then say stBudgetExceeded
  else none

/-- The dispatch entries name own signals of no other source, and no signal twice as an input (R129, R174). -/
def dispatchSourceFail (s : State) : Option CfgFail :=
  let es := cfgKind s.cfg.cur 0x0020
  es.findSome? fun p =>
    let e := p.2
    if entryOut e then none
    else
      let first := handleSig (fldW e 4)
      let src := BitVec.ofNat 32 (keySource (fld32 e 0))
      let shared := es.any fun q => decide (q.1 < p.1) && !entryOut q.2 && decide (handleSig (fldW q.2 4) < first + fld16 e 8) &&
        decide (first < handleSig (fldW q.2 4) + fld16 q.2 8)
      bad 0x0020 p.1 (if shared || !(List.range (fld16 e 8)).all (fun k => configSource (first + k) s == src) then some 4 else none)

/-- The first check of a commit that fails; `s` holds the candidate set as if it were in force, `img` is the program (R506). -/
def commitFail (img : Mem) (s : State) : Option CfgFail :=
  let c := s.cfg.cur
  let net := cfgGet c 0x0001 0
  let nodes := (cfgKind c 0x0021).map (·.2)
  let within (v lo hi : Nat) : Bool := decide (lo ≤ v) && decide (v ≤ hi)
  let orElse (a b : Option CfgFail) : Option CfgFail := match a with
    | some x => some x
    | none => b
  [checkKind 0x0001 s (fun _ r => netRecFail r),
    checkKind 0x0002 s (fun _ r => timeRecFail r),
    checkKind 0x0003 s (fun _ r => firstField [(2, within (fld16 r 2) 50 2000), (4, within (fld16 r 4) 1 4096),
      (6, within (fld16 r 6) 100 10000)]),
    checkKind 0x0004 s (fun _ r => firstField [(0, decide (fld8 r 0 ≤ 2)), (2, within (fld16 r 2) 100 1000 && fld16 r 2 % 50 == 0),
      (4, within (fld16 r 4) 20 1000), (6, within (fld16 r 6) 1 600)]),
    tableFail s,
    checkKind 0x0011 s (fun _ r => firstField [(0, bits (fld16 r 0) 1 2 != 3), (2, decide (fld8 r 2 ≤ 31) || fld8 r 2 == 0xFF),
      (4, fpLe (.fin false 0 0) (fp32 (fldW r 4)))]),
    (dispatchFail (fld8 net 4) (signalsOf c (fld8 net 4)) nodes ((cfgKind c 0x0020).map (·.2))).bind fun p => bad 0x0020 p.1 (some p.2),
    dispatchSourceFail s,
    if 4096 < nodes.length then bad 0x0021 4096 (some 0)
    else (nodeTableFail net nodes).bind fun p => bad 0x0021 p.1 (some p.2),
    checkKind 0x0022 s (fun n r => canFail n r),
    checkKind 0x0023 s (fun n r => objFail n r (cfgRec 0x0022 (n / 128) s)
      (((cfgKind c 0x0023).filter fun p => p.1 / 128 == n / 128 && p.1 != n).map (·.2))),
    checkKind 0x0030 s (ucRecFail img s), checkKind 0x0031 s (digRecFail img s),
    checkKind 0x0032 s (fun _ r => firstField [(0, decide (fld8 r 0 ≤ 1))]),
    checkKind 0x0040 s (loopRecFail img s),
    if loopBudgetOk (cfgKind c 0x0040) then none else some { status := stBudgetExceeded, kind := 0x0040, field := 0, index := 0 },
    checkKind 0x0050 s (funcRecFail img s), checkKind 0x0051 s (contactRecFail s),
    checkKind 0x0060 s (fun n r => panelRecFail n r),
    if img = [] then none else programFail img s].foldl orElse none

/-- The state with a candidate set as if it were in force. -/
def withSet (c : ConfigSet) (s : State) : State := { s with cfg := { s.cfg with cur := c } }

/-! ## The report (R506) -/

/-- W_i of an Express task (R97); 0 where it has none. -/
def expressBound (img : Mem) (t : Nat) : Nat :=
  let ts := expressTasks img
  match ts.find? (fun p => p.1 == t) with
  | none => 0
  | some p =>
    (responseBound p.2.wcet p.2.cycle ((ts.filter fun q => expressBefore q p).map fun q => (q.2.cycle, q.2.wcet)) 20000
      (p.2.wcet + 161300)).getD 0

/-- t_M of a function (R257, R292, R311): the longest debounce of its dual contacts, and the path of its outputs. -/
def reactionTime (img : Mem) (s : State) (n : Nat) (r : List Byte) : Nat :=
  let contacts := (cfgKind s.cfg.cur 0x0051).filter fun p => fld16 p.2 4 == n
  let tin := (contacts.flatMap fun p => [fld16 (digRec s (fld8 p.2 1)) 4 * us, fld16 (digRec s (fld8 p.2 2)) 4 * us]).foldl max 0
  let stage (c : Nat) : Nat := if fld8 (cfgRec 0x0030 c s) 1 = 7 then 40 else 60
  let last := if funcDos r = [] ∧ funcUos r ≠ [] then ((funcUos r).map stage).foldl max 0 else 70
  let path := (50 + last) * us
  match imTask img (fld8 r 2) with
  | none => 0
  | some d =>
    if d.cls = .express then tin + d.cycle + expressBound img (fld8 r 2) + path else tin + 2 * d.cycle + 40 * us + path

/-- The report of a commit, 3,136 bytes (R506). -/
def commitReport (img : Mem) (s : State) : List Byte :=
  let ex := expressTasks img
  let ls := cfgKind s.cfg.cur 0x0040
  let rate := ((taskEntries img).map fun e => Config.taskRetainedRate img (fld8 e 0)).sum
  let load := (ex.map fun p => (p.2.wcet : Rat) / (max 1 p.2.cycle : Rat)).sum * 1000000
  let loop (k : Nat) : Nat := if loopEnabled (cfgRec 0x0040 k s) then loopDmax ls (k, cfgRec 0x0040 k s) else 0
  let func (k : Nat) : Nat := if cfgRec 0x0050 k s = [] then 0 else reactionTime img s k (cfgRec 0x0050 k s)
  slice (le 4 load.floor.toNat ++ le 4 (loopLoad ls) ++ le 4 ((ls.filter fun y => loopEnabled y.2).map fun y => repCells y.2).sum ++
    le 4 rate) 0 32 ++ (List.range 4).flatMap (fun k => le 8 (expressBound img k)) ++
    (List.range 256).flatMap (fun k => le 4 (loop k)) ++ (List.range 256).flatMap fun k => le 8 (func k)

/-! ## How a set takes effect -/

/-- A record as it is built: VALUE 0 of its type, QUALITY BAD, REASON NO_DATA (R139, R210). -/
def builtRec (g : Nat) (s : State) : SigRec :=
  { sigRecReset with
    typ := typeOf s.cfg.cur (sigStation g) (sigIndex g)
    status := badNoData, srcStatus := badNoData, stamp := now s
    source := if sigOwn g s then configSource g s else BitVec.ofNat 32 (0x70000000 + sigStation g) }

/-- The signals a set defines. -/
def signalsIn (c : ConfigSet) : List Nat :=
  (List.range 64).flatMap fun st_ => (List.range (signalsOf c st_)).map fun i => sigNo st_ i

/-- The image's records follow a new table: what becomes defined and every own record whose type changes is built anew, what is
deleted becomes undefined (R210); a mirrored record keeps its contents under its new type. -/
def rebuildImage (old : ConfigSet) (gen : Nat) (s : State) : State :=
  let c := s.cfg.cur
  let gone := (s.image.recs.map (·.1)).filter fun g => !definedIn c g
  let s1 := gone.foldl (fun t g => { t with image := { t.image with recs := tabErase g t.image.recs } }) s
  (signalsIn c).foldl (fun t g =>
    let typ := typeOf c (sigStation g) (sigIndex g)
    if !definedIn old g || (sigRec g t).typ == 0 then putRec g { builtRec g t with gen := gen } t
    else if typeOf old (sigStation g) (sigIndex g) = typ then t
    else if sigOwn g t then changeRec g (fun r => { builtRec g t with alarm := r.alarm, slot := r.slot }) (now t) gen (now t) t
    else putRec g { sigRec g t with typ := typ } t) s1

/-- The station table follows a new table: ABSENT without signals and for the own station, else WAITING until a block (R167). -/
def stationsFollow (s : State) : State :=
  (List.range 64).foldl (fun t n =>
    let there := decide (0 < signalsOf t.cfg.cur n) && n != ownStation t
    let x := (stationAt n t).st
    if there && x == .absent then stationMod n (fun y => { stationReset with st := .waiting, lastUndef := y.lastUndef }) t
    else if !there && x != .absent then stationMod n (fun _ => stationReset) t
    else t) s

/-- AUDIT of a force or simulation set, changed or removed: handle, old and new VALUE, role and session (R183). -/
def auditForce (session : Word) (role g : Nat) (old new : BitVec 64) (s : State) : State :=
  admitRecord (plainRecord sevAudit 0x0420 (srcUnit 8) (sigHandle g) session (le 8 old.toNat ++ le 8 new.toNat ++ le 1 role) s) s

/-- A force or simulation on a signal that is deleted or changes its type is dropped, with an AUDIT record: the signal's new VALUE is 0
(R183, R209, R210). -/
def dropForces (old : ConfigSet) (session : Word) (role : Nat) (s : State) : State :=
  let c := s.cfg.cur
  let gone (f : ForceSlot) : Bool := !definedIn c f.sig ||
    typeOf old (sigStation f.sig) (sigIndex f.sig) != typeOf c (sigStation f.sig) (sigIndex f.sig)
  let fs := s.image.forces.filter fun p => gone p.2
  let t := { s with image := { s.image with forces := s.image.forces.filter fun p => !gone p.2 } }
  fs.foldl (fun u p => auditForce session role p.2.sig (sigRec p.2.sig s).value 0 u) t

/-- Merge ticks fall at whole multiples of the merge period: a new one realigns the next tick (R146). -/
def realignMerge (old : State) (s : State) : State :=
  let p := max 1 (mergePeriod s)
  if mergePeriod old = mergePeriod s then s else { s with image := { s.image with nextMerge := (now s / p + 1) * p } }

/-- A committed set takes effect at the objects, each as its chapter says: the network, time and pair records at the next start
(R328, R370, R422); the functions of the tasks that satisfy `p` now. `gen` is the image generation of the records rebuilt, `who` the
session and the role that the records name. -/
def takeSet (c : ConfigSet) (p : Nat → Bool) (gen : Nat) (who : Word × Nat) (s : State) : State :=
  let old := s.cfg.cur
  let s0 := realignMerge s { s with cfg := { s.cfg with cur := c, valid := true } }
  let s1 := if old.table = c.table ∧ cfgGet old 1 0 = cfgGet c 1 0 then s0
    else rebuildImage old gen (stationsFollow (dropForces old who.1 who.2 s0))
  let d := (cfgKind c 0x0020).map (·.2)
  let nt := (cfgKind c 0x0021).map (·.2)
  let s2 := if d = s1.net.dispatch ∧ nt = s1.net.nodeTable then { s1 with net := { s1.net with newTables := none } }
    else { s1 with net := { s1.net with newTables := some (d, nt) } }
  let s3 := (List.range 8).foldl (fun t n => canConfigure n (cfgRec 0x0022 n t) t) s2
  let objs := (((cfgKind old 0x0023) ++ (cfgKind c 0x0023)).map (·.1)).eraseDups
  let s4 := objs.foldl (fun t n => objConfigure (n / 128) (n % 128) (cfgRec 0x0023 n t) t) s3
  let s5 := (List.range 16).foldl (fun t n => ucConfigure n (cfgRec 0x0030 n t) t) s4
  let s6 := (List.range 48).foldl (fun t n => digConfigure n (cfgRec 0x0031 n t) t) s5
  let loops := (((cfgKind old 0x0040) ++ (cfgKind c 0x0040)).map (·.1)).eraseDups
  let s7 := loops.foldl (fun t n => loopConfigure n (cfgRec 0x0040 n t) t) s6
  let s8 := (List.range 2).foldl (fun t n => panelConfigure n (cfgRec 0x0060 n t) t) s7
  let s9 := { s8 with safety := { s8.safety with pairs := tabKeep (fun k => cfgRec 0x0051 k s8 != []) s8.safety.pairs } }
  funcsFollow p s9

/-- The records in which two sets differ: kind, index and the new bytes, none for a record that is gone. -/
def setChanges (old c : ConfigSet) : List (Nat × Nat × List Byte) :=
  let keys := ((old.recs ++ c.recs).map (·.1)).eraseDups
  let ks := keys.filter fun k => tabGet [] old.recs k != tabGet [] c.recs k
  ks.map (fun k => (k / 2 ^ 32, k % 2 ^ 32, tabGet [] c.recs k)) ++
    (if old.table = c.table ∧ old.tableLen = c.tableLen then [] else [(0x0010, 0, memReadN c.table 0 c.tableLen)])

/-- Sends what a commit changed to the standby (R429, R506). -/
def sendSet (old c : ConfigSet) (id : Nat) (s : State) : State :=
  if sendsToStandby s then
    emits ((setChanges old c).map (fun x => .control (.configRecord x.1 x.2.1 x.2.2)) ++ [.control (.configCommitted id)]) s
  else s

/-- Whether a set changes a function record or a pair record of the safety functions (R315). -/
def safetyChange (old c : ConfigSet) : Bool := cfgKind old 0x0050 != cfgKind c 0x0050 || cfgKind old 0x0051 != cfgKind c 0x0051

/-- The bytes of a set's safety records, as the change log hashes them (R317). -/
def safetyBytes (c : ConfigSet) : List Byte := (cfgKind c 0x0050).flatMap (·.2) ++ (cfgKind c 0x0051).flatMap (·.2)

/-- The CAUTION on the declared retained write rates (R126): above 512 KiB per ms. -/
def retainedCaution (img : Mem) (s : State) : State :=
  if 524288 < ((taskEntries img).map fun e => Config.taskRetainedRate img (fld8 e 0)).sum then
    record sevCaution 0x0313 (srcUnit 8) [] s
  else s

/-- Carries a commit out (R506). -/
def commitSet (c : ConfigSet) (p : Nat → Bool) (gen : Nat) (img : Mem) (who : Word × Nat) (s : State) : State :=
  let id := now s
  let s1 := sendSet s.cfg.cur c id s
  let s2 := takeSet c p gen who { s1 with cfg := { s1.cfg with configId := id, session := none } }
  retainedCaution img (audit 0x0D00 (srcUnit 8) who.1 (le 8 id) s2)

/-! ## The session (R502, R503, R504) -/

/-- `CFG_SESSION_OPEN` (R502, R503). -/
def execCfgSessionOpen (m : MbxId) (s : State) : Host.Outcome State Fault Refusal :=
  .next (runCommand 0x0301 m (fun q t =>
    match t.cfg.session with
    | some c => (t, stDetail stBusy (sessionId c.holder t).toNat)
    | none =>
      let n := t.cfg.nextSession
      let c : CfgSession := { number := n, holder := mbxSession q.mbx, set := t.cfg.cur, bound := false }
      ({ t with cfg := { t.cfg with session := some c, nextSession := (n + 1) % 0xFFFFFFFF } },
        ok (le 4 n ++ zeros 4 ++ le 8 t.cfg.configId))) s)

/-- How many records a kind has room for; of the table kinds, and of the signal table, their own limits hold (R504). -/
def kindLimit : Nat → Nat
  | 0x0001 | 0x0002 | 0x0003 | 0x0004 => 1
  | 0x0010 => 0x40000000
  | 0x0011 => 1048576
  | 0x0022 => 8
  | 0x0023 => 1024
  | 0x0030 => 16
  | 0x0031 => 48
  | 0x0032 => 64
  | 0x0040 | 0x0050 => 256
  | 0x0051 => 24
  | 0x0060 => 2
  | 0x00F0 => 4096
  | _ => 0

/-- The bytes of a record that hold reserved bits, with the bits that do not (R9, R504). -/
def kindMasks : Nat → List (Nat × Byte)
  | 0x0001 => [(7, 0), (10, 0), (11, 0), (25, 0), (33, 0)] ++ (List.range' 36 28).map fun o => (o, 0)
  | 0x0002 => [(3, 3)]
  | 0x0003 => [(0, 3), (1, 0)] ++ (List.range' 8 8).map fun o => (o, 0)
  | 0x0004 => [(1, 0)] ++ (List.range' 8 8).map fun o => (o, 0)
  | 0x0011 => [(0, 7), (1, 0), (3, 0)] ++ (List.range' 24 8).map fun o => (o, 0)
  | 0x0020 => [(10, 7), (11, 0), (13, 0)]
  | 0x0021 => [(2, 1)] ++ (List.range' 10 6).map fun o => (o, 0)
  | 0x0022 => [(1, 7), (11, 0), (15, 0x9F)] ++ (List.range' 25 7).map fun o => (o, 0)
  | 0x0023 => [(2, 0x3F), (3, 0), (13, 0), (14, 0), (15, 0), (22, 0), (23, 0)]
  | 0x0030 => [(3, 7)] ++ (List.range' 56 8).map fun o => (o, 0)
  | 0x0031 => [(3, 0x1F)]
  | 0x0032 => [(1, 0), (2, 0), (3, 0)]
  | 0x0040 => [(2, 0x0F), (3, 0), (137, 0), (138, 0), (139, 0)] ++ (List.range' 152 8).map fun o => (o, 0)
  | 0x0050 => [(3, 7), (15, 0)] ++ (List.range' 36 28).map fun o => (o, 0)
  | 0x0051 => [(3, 1), (6, 0), (7, 0)]
  | 0x0060 => [(1, 0x0F), (30, 0), (31, 0)]
  | _ => []

/-- A record as the set keeps it: its reserved bits zero (R9). -/
def keptRecord (kind : Nat) (r : List Byte) : List Byte :=
  (kindMasks kind).foldl (fun x m => putAt x m.1 [BitVec.ofNat 8 (fld8 x m.1) &&& m.2]) r

/-- The record slots of the table kinds. -/
def tableKind (kind : Nat) : Bool := kind == 0x0020 || kind == 0x0021

/-- How many records, or bytes, of a kind a set holds (R502). -/
def kindTotal (kind : Nat) (c : ConfigSet) (s : State) : Nat :=
  if kind = 0x0010 then c.tableLen else if kind = 0x00F0 then s.image.forces.length else (cfgKind c kind).length

/-- Whether a range lies within a kind: in a table, a write starts at most at its end, and a deletion or a read stays within it
(R504). -/
def rangeOk (kind index count : Nat) (writes : Bool) (c : ConfigSet) : Bool :=
  if tableKind kind then
    let n := (cfgKind c kind).length
    if writes then decide (index ≤ n) else decide (index + count ≤ n)
  else decide (index + count ≤ kindLimit kind)

/-- Writes a set's records of a table kind anew. -/
def setRecords (kind : Nat) (rs : List (List Byte)) (c : ConfigSet) : ConfigSet :=
  let others := c.recs.filter fun p => p.1 / 2 ^ 32 != kind
  { c with recs := (rs.zipIdx).foldl (fun t r => tabSet [] t (cfgKey kind r.2) r.1) others }

/-- Writes records into a set (R504). -/
def writeRecords (kind index : Nat) (rs : List (List Byte)) (c : ConfigSet) : ConfigSet :=
  (rs.zipIdx).foldl (fun x r => { x with recs := tabSet [] x.recs (cfgKey kind (index + r.2)) (keptRecord kind r.1) }) c

/-- Deletes records of a set: a table closes the gap (R504); bytes of the signal table become zero, and the end is cut off. -/
def deleteRecords (kind index count : Nat) (c : ConfigSet) : ConfigSet :=
  if kind = 0x0010 then
    { c with table := memZero c.table index count
             tableLen := if c.tableLen ≤ index + count then min c.tableLen index else c.tableLen }
  else if tableKind kind then
    let rs := (cfgKind c kind).map (·.2)
    setRecords kind (rs.take index ++ rs.drop (index + count)) c
  else { c with recs := tabKeep (fun k => !(decide (cfgKey kind index ≤ k) && decide (k < cfgKey kind index + count))) c.recs }

/-- The session a request holds, by its number (R503). -/
def heldSession (q : Req) (n : Nat) (s : State) : Option CfgSession :=
  match s.cfg.session with
  | some c => if c.number = n ∧ c.holder = mbxSession q.mbx then some c else none
  | none => none

/-- Puts a session's set. -/
def sessionSet (c : ConfigSet) (s : State) : State :=
  { s with cfg := { s.cfg with session := s.cfg.session.map fun x => { x with set := c } } }

/-- `CFG_WRITE` (R502, R504). -/
def execCfgWrite (m : MbxId) (s : State) : Host.Outcome State Fault Refusal :=
  .next (runCommand 0x0302 m (fun q t =>
    let kind := fld16 q.pay 0
    let del := bit (fld16 q.pay 2) 0
    let index := fld32 q.pay 8
    let n := fld32 q.pay 12
    match heldSession q (fld32 q.pay 4) t, kindSize kind with
    | some c, some size =>
      if kind = 0x00F0 ∨ !rangeOk kind index n (!del) c.set then (t, st stInconsistent)
      else if c.bound then (t, st stBusy)
      else if n = 0 then (t, st stLengthZero)
      else if !del ∧ (if q.count = 0 then q.pay.length ≠ 16 + n * size else claimRoom q < n * size) then
        (t, stDetail stBadLength (if q.count = 0 then 16 + n * size else n * size))
      else
        let data := if del then [] else inlineOrC q 16 (n * size) t
        let new_ :=
          if del then deleteRecords kind index n c.set
          else if kind = 0x0010 then
            -- bytes 4 to 15 of the table are reserved (R9, R505)
            { c.set with
              table := memZero (memWriteN c.set.table index data) 4 12, tableLen := max c.set.tableLen (index + n) }
          else writeRecords kind index ((List.range n).map fun k => slice data (k * size) size) c.set
        (sessionSet new_ t, ok (le 4 (kindTotal kind new_ t)))
    | _, _ => (t, st stInconsistent)) s)

/-- A slot of the force table as `CFG_READ` returns it (R505). -/
def forceRecord (k : Nat) (s : State) : List Byte :=
  match s.image.forces.find? (fun p => p.1 == k) with
  | none => le 4 0xFFFFFFFF ++ zeros 28
  | some p => le 4 (sigHandle p.2.sig).toNat ++ le 2 (b2n p.2.simulate + 2 * b2n p.2.safety) ++ zeros 2 ++ le 8 p.2.value.toNat ++
      le 4 p.2.status.toNat ++ zeros 4 ++ le 8 p.2.setTime

/-- `CFG_READ` (R502, R504). -/
def execCfgRead (m : MbxId) (s : State) : Host.Outcome State Fault Refusal :=
  .next (readCommand 0x0303 m (fun q t =>
    let kind := fld16 q.pay 0
    let src := fld8 q.pay 2
    let index := fld32 q.pay 8
    let n := fld32 q.pay 12
    let set_ : Option ConfigSet :=
      if src = 0 then some t.cfg.cur
      else if src = 1 then t.cfg.session.bind fun c => if c.number = fld32 q.pay 4 then some c.set else none
      else none
    match set_, kindSize kind with
    | some c, some size =>
      let inside := if kind = 0x0010 then decide (index + n ≤ c.tableLen) else rangeOk kind index n false c
      if !inside then st stInconsistent
      else
        let data := if kind = 0x0010 then memReadN c.table index n
          else if kind = 0x00F0 then (List.range n).flatMap fun k => forceRecord (index + k) t
          else (List.range n).flatMap fun k => slice (cfgGet c kind (index + k)) 0 size
        let head := le 4 (kindTotal kind c t) ++ le 4 n
        if n = 0 then ok head
        else if q.count = 0 then (if 4056 < data.length then stDetail stBadLength (8 + data.length) else ok (head ++ data))
        else if claimRoom q < data.length then stDetail stBadLength data.length
        else { status := stOk, pay := head, data := data }
    | _, _ => st stInconsistent) s)

/-- `CFG_ABANDON` (R502, R503). -/
def execCfgAbandon (m : MbxId) (s : State) : Host.Outcome State Fault Refusal :=
  .next (runCommand 0x0305 m (fun q t =>
    match t.cfg.session with
    | none => (t, st stInconsistent)
    | some c =>
      if c.number ≠ fld32 q.pay 0 then (t, st stInconsistent)
      else if c.holder ≠ mbxSession q.mbx ∧ roleOf q t ≠ 5 ∧ roleOf q t ≠ 6 then (t, st stAuthRequired)
      else if c.bound then (t, st stBusy)
      else (abandonSession t, ok [])) s)

/-- The response of `CFG_COMMIT` (R502): the identity, and what failed. -/
def commitPay (id : Nat) (f : Option CfgFail) : List Byte :=
  le 8 id ++ (match f with
    | some x => le 2 x.kind ++ le 2 x.field ++ le 4 x.index
    | none => zeros 8)

/-- `CFG_COMMIT` (R315, R502, R506). -/
def execCfgCommit (m : MbxId) (s : State) : Host.Outcome State Fault Refusal :=
  .next (runCommand 0x0304 m (fun q t =>
    match heldSession q (fld32 q.pay 0) t with
    | none => (t, st stInconsistent)
    | some c =>
      let only := bit (fld32 q.pay 4) 0
      let img := activeImage t
      let safety := !only && safetyChange t.cfg.cur c.set
      if t.prog.st = .switching ∨ t.prog.st = .settling ∨ c.bound then (t, st stBusy)
      else
        let auth := if safety then safetyChangeCheck q (q.pay.drop 8) t else (none, t)
        match auth.1 with
        | some x => (auth.2, st x)
        | none =>
          let t1 := auth.2
          if safety ∧ logFull t1 then (t1, st stRefusedState)
          else if only = false ∧ auditRoom t1 = false then (t1, st stBusy)
          else
            let cand := withSet c.set t1
            let f := commitFail img cand
            let report := if q.count = 0 then [] else commitReport img cand
            match f with
            | some x => (t1, { status := x.status, pay := commitPay t1.cfg.configId f, data := report })
            | none =>
              if only then (t1, { status := stOk, pay := commitPay t1.cfg.configId none, data := report })
              else
                let t2 := if safety then
                    changeLogBy q 0x0001 0 (safetyBytes t1.cfg.cur) (safetyBytes c.set) [] t1
                  else t1
                let t3 := commitSet c.set (fun _ => true) t2.image.gen img (reqSession q t2, roleOf q t2) t2
                (t3, { status := stOk, pay := commitPay t3.cfg.configId none, data := report })) s)

end Sys2Proof.Machine
end

