-- ==== Sys2Proof/Machine/Exchange.lean ====
section
/-! DEFINITION. Loading and verifying a program, the exchange from its acceptance to its cast point (R186 to R212), restarts (R215,
R216) and the task commands (R118, R119, R508). -/

namespace Sys2Proof.Machine

/-! ## Byte ranges received -/

/-- Adds the range from `a` up to `b` to a list of ranges. -/
def addRange (a b : Nat) (rs : List (Nat × Nat)) : List (Nat × Nat) := (a, b) :: rs

/-- Bytes received from `x` on without a gap, at most as many steps as there are ranges. -/
def reachOf : Nat → List (Nat × Nat) → Nat → Nat
  | 0, _, x => x
  | n + 1, rs, x =>
    match rs.find? (fun r => decide (r.1 ≤ x) && decide (x < r.2)) with
    | some r => reachOf n rs r.2
    | none => x

/-- Bytes received from 0 without a gap. -/
def coveredTo (rs : List (Nat × Nat)) : Nat := reachOf rs.length rs 0

/-! ## Loading (R186) -/

/-- The code of a slot state (R508). -/
def slotCode : SlotState → Nat
  | .empty => 0
  | .loading => 1
  | .loaded => 2
  | .verified => 3
  | .active => 4
  | .retiring => 5

/-- The slot that `PROG_LOAD` writes: the one that is not ACTIVE, slot 0 where neither is (R186). -/
def loadSlot (s : State) : Nat := if s.prog.slot[0].st = .active then 1 else 0

/-- Changes a slot. -/
def slotMod (n : Nat) (f : Slot → Slot) (s : State) : State := { s with prog := { s.prog with slot := vmod s.prog.slot n f } }

/-- Whether the blocks received complete an image (R186). -/
def imageComplete (x : Slot) : Bool :=
  let c := coveredTo x.covered
  let n := imSize x.image
  decide (0x100 ≤ c) && (decide (n < 0x100) || decide (0x10000000 < n) || decide (n ≤ c))

/-- `PROG_LOAD` (R186, R508). -/
def execProgLoad (m : MbxId) (s : State) : Host.Outcome State Fault Refusal :=
  .next (runCommand 0x0401 m (fun q t =>
    let off := fld32 q.pay 0
    let n := fld32 q.pay 4
    let k := loadSlot t
    let x := vget slotReset t.prog.slot k
    if n = 0 then (t, st stLengthZero)
    else if 65536 < n then (t, stDetail stBadLength 65536)
    else if 0x10000000 < off + n then (t, stDetail stBadLength 0x10000000)
    else if q.count ≠ 0 ∧ claimRoom q < n then (t, stDetail stBadLength (claimRoom q))
    else if t.prog.st ≠ .idle then (t, st stBusy)
    else if x.st ≠ .loading ∧ off ≠ 0 then (t, st stRefusedState)
    else
      let base : Slot := if x.st = .loading then x else { slotReset with st := .loading }
      let y : Slot := { base with
        image := memWriteN base.image off (inlineOrC q 8 n t), covered := addRange off (off + n) base.covered }
      let z : Slot := if imageComplete y then { y with st := .loaded } else y
      (slotMod k (fun _ => z) t, ok (le 1 k ++ le 1 (slotCode z.st) ++ zeros 2 ++ le 4 (coveredTo z.covered)))) s)

/-! ## Findings on an exchange (R192, R196, R209, R210) -/

/-- The instances of a task as R192 compares them: path, type name, version and scope. -/
def instanceKeys (img : Mem) (t : Nat) : List (List Byte × List Byte × Nat × Nat) :=
  (taskInstances img t).map fun n =>
    let e := dirEntry img n
    (imString img (fld32 e 40), imString img (fld32 (typeEntry img (fld32 e 0)) 0), fld16 e 4, fld16 e 38)

/-- The timing of a task (R192). -/
def taskTiming (img : Mem) (t : Nat) : Option (Nat × Nat × Nat × Nat × Bool) :=
  (imTask img t).map fun d => (d.cycle, d.offset, d.wcet, d.limit, d.skip)

/-- Whether an exchange changes, creates or deletes a safety task, or moves an instance into or out of a safety scope (R192). -/
def safetyExchange (old new_ : Mem) : Bool :=
  taskNos.any fun t => (imSafety old t || imSafety new_ t) &&
    (imSafety old t != imSafety new_ t || Config.taskCode old t != Config.taskCode new_ t || taskTiming old t != taskTiming new_ t ||
      instanceKeys old t != instanceKeys new_ t || taskScopes old t != taskScopes new_ t)

/-- Whether a safety task of a program reads or writes a signal (R209). -/
def safetySignalOf (img : Mem) (g : Nat) : Bool :=
  taskNos.any fun t => imSafety img t &&
    ((Config.taskReads img t).any (fun h => handleSig h == g) || (Config.taskWrites img t).any (fun h => handleSig h == g))

/-- What an exchange does to a force or simulation (R209): whether it is dropped, and whether that needs FORCE_RELEASE. -/
def forceEffect (new_ : Mem) (c : ConfigSet) (s : State) (f : ForceSlot) : Bool × Bool :=
  let moved := !definedIn c f.sig ||
    typeOf s.cfg.cur (sigStation f.sig) (sigIndex f.sig) != typeOf c (sigStation f.sig) (sigIndex f.sig)
  let was := safetySignal f.sig s
  let becomes := !was && safetySignalOf new_ f.sig
  if f.simulate then (moved || becomes, false)
  else if moved then (true, was)
  else (becomes, becomes)

/-- The forces and simulations that an exchange drops: the signal, whether a simulation, and whether that needs FORCE_RELEASE. -/
def forceDrops (new_ : Mem) (c : ConfigSet) (s : State) : List (Nat × Bool × Bool) :=
  s.image.forces.filterMap fun p =>
    let e := forceEffect new_ c s p.2
    if e.1 then some (p.2.sig, p.2.simulate, e.2) else none

/-- The signals a program names. -/
def programSigs (img : Mem) : List Nat :=
  (taskEntries img).flatMap fun e => ((Config.taskReads img (fld8 e 0)) ++ Config.taskWrites img (fld8 e 0)).map handleSig

/-- The instances that lose retained values: REINIT or DELETED, with a retained part (R196). -/
def retainedLost (old new_ : Mem) : List Nat :=
  let kept := ((List.range (imInstances new_)).map (verdict old new_)).filterMap fun v => match v with
    | .copy o | .convert o _ => some o
    | _ => none
  (List.range (imInstances old)).filter fun o => !kept.contains o && decide (0 < fld32 (dirEntry old o) 28)

/-- The set an exchange is judged by: the open session's where there is one (R187, R210). -/
def judgedSet (s : State) : ConfigSet := s.cfg.session.elim s.cfg.cur (·.set)

/-- The report of `PROG_VERIFY`, 192 bytes (R509). -/
def verifyReport (img : Mem) (fail : Nat) (s : State) : List Byte :=
  let old := activeImage s
  let running := (slotIn .active s).isSome
  let good := fail == 0
  let drops := if good && running then forceDrops img (judgedSet s) s else []
  let counts := if good then planCounts old img else List.replicate 7 0
  let tableChange := good && (programSigs img).any fun g => !sigDefined g s
  let findings := if good then b2n (safetyExchange old img) + 2 * b2n tableChange + 4 * b2n (drops.any (·.2.2)) else 0
  let judged := if running then old else img
  slice (le 8 (imageId img) ++ counts.flatMap (le 4) ++ le 4 findings ++ le 4 drops.length ++
    le 4 (if good then (retainedLost old img).length else 0) ++ le 4 fail) 0 64 ++
    taskNos.flatMap fun t => le 4 (if (imTask judged t).isSome then switchTime judged t else 0)

/-- The paths of the instances that lose retained values, as far as they fit (R509). -/
def lostPaths (old new_ : Mem) (room : Nat) : List Byte :=
  (retainedLost old new_).foldl (fun bs o =>
    let p := imString old (fld32 (dirEntry old o) 40) ++ [0]
    if bs.length + p.length ≤ room then bs ++ p else bs) []

/-- `PROG_VERIFY` (R115, R187, R188, R508, R509). -/
def execProgVerify (m : MbxId) (s : State) : Host.Outcome State Fault Refusal :=
  .next (runCommand 0x0402 m (fun q t =>
    match slotIn .loaded t with
    | none => (t, st stRefusedState)
    | some k =>
      if t.prog.st ≠ .idle then (t, st stBusy)
      else
        let img := slotImage k t
        let sets := t.cfg.cur :: t.cfg.session.toList.map (·.set)
        let active := if (slotIn .active t).isSome then some (activeImage t) else none
        match verifyCheck img (imageSigned img t) sets active with
        | some f => (t, { status := f.2, pay := verifyReport img f.1 t })
        | none =>
          let data := if q.count = 0 then [] else lostPaths (activeImage t) img (claimRoom q)
          let r : Resp := { status := stOk, pay := verifyReport img 0 t, data := data }
          let t1 := slotMod k (fun x => { x with st := .verified }) t
          (if sendsToStandby t1 then emit (.control (.maquette (memReadN img 0 (imSize img)))) t1 else t1, r)) s)

/-! ## The exchange (R191 to R194, R205, R211, R212) -/

/-- The session, or on a standby its copy, that the exchange commits at the table merge (R210). -/
def tableDue (s : State) : Option ConfigSet :=
  if s.prog.table = false then none
  else match s.cfg.session with
    | some c => if c.bound then some c.set else s.cfg.incoming
    | none => s.cfg.incoming

/-- The set that an exchange is carried out with (R210). -/
def castSet (s : State) : ConfigSet := (tableDue s).getD s.cfg.cur

/-- Rounds a time up to a whole microsecond (R191). -/
def ceilUs (t : Nat) : Nat := (t + us - 1) / us * us

/-- Both halves of a pair are in step under this active module. -/
def pairInStep (s : State) : Bool := s.pair.st == .activePaired

/-- An exchange begins: it names the old image, and no last sequence yet (R206). -/
def nameOld (s : State) : State := { s with prog := { s.prog with oldId := imageId (activeImage s), lastOldSeq := [] } }

/-- At T_c the new slot becomes ACTIVE, the old one RETIRING, and the instance areas change places; what the exchange does to each force
and simulation is decided as they stand now (R190, R205, R209). -/
def turnSlots (s : State) : State :=
  let n := s.prog.newSlot
  let slots := s.prog.slot.map fun x => if x.st = .active then { x with st := .retiring } else x
  let drops := forceDrops (slotImage n s) (castSet s) s
  { s with prog := { s.prog with
    slot := vmod slots n (fun x => { x with st := .active })
    area := otherArea s
    st := .switching
    drops := drops
    mergeDue := s.prog.table || drops != [] } }

/-- The loop fields that the tasks of an image write (R88). -/
def loopFieldsOf (img : Mem) : List (Nat × Nat) := ((taskEntries img).flatMap fun e => Config.taskLoopFields img (fld8 e 0)).eraseDups

/-- A loop field that no task of the new program writes any more holds its value; a CAUTION names the loop and the field (R244). -/
def orphanFields (s : State) : State :=
  let new_ := loopFieldsOf (activeImage s)
  let gone := (loopFieldsOf ((slotIn .retiring s).elim [] fun n => slotImage n s)).filter fun f => !new_.contains f
  gone.foldl (fun t f => record sevCaution 0x0502 (srcLoop f.1) (le 1 f.2) t) s

/-- The cast point: the tasks that can switch at once do, in one write of the exchange record (R190, R205, R207). -/
def castNow (s : State) : State := switchTasks (orphanFields (turnSlots s))

/-- Lanes fill the maquette's instance area: its directory, and every instance with its verdict (R197, R200). -/
def fillArea (s : State) : State :=
  let new_ := slotImage s.prog.newSlot s
  let a := otherArea s
  let empty := { s with prog := { s.prog with inst := vset s.prog.inst a (memWriteN [] 0 (directoryBytes new_)) } }
  taskNos.foldl (fun t n =>
    { t with prog := { t.prog with inst := vset t.prog.inst a (filledTask (activeImage t) new_ t.prog.area a n t).1 } }) empty

/-- A task's retained pages are written as one commit; a task without any needs none (R211). -/
def stopCommit (s : State) (t : Nat) : State := if taskPages (activeImage s) t = [] then s else queueRetained t [] s

/-- A task without retained pages needs no commit to be first done in STOP (R206, R211). -/
def stopDone (s : State) (t : Nat) : State :=
  if taskPages (activeImage s) t = [] then taskMod t (fun k => { k with firstDone := true, allDirty := false }) s else s

/-- An exchange accepted in STOP: every task switches at acceptance, the exchange record is written once, with every SWITCHED bit and
STATE SETTLING, and the commits of the new program's retained pages follow (R207, R211). -/
def castInStop (s : State) : State :=
  let s1 := taskNos.foldl (fun t n => switchTask n (discardCycle n t)) (orphanFields (turnSlots (fillArea (nameOld s))))
  let s2 := taskNos.foldl stopDone { s1 with prog := { s1.prog with st := .settling } }
  settleCheck (taskNos.foldl stopCommit (writeExchange s2))

/-- `CAST_POINT` (R190, R205): in a pair in step only with the standby's acknowledgement (R194). -/
def execCastPoint (s : State) : Host.Outcome State Fault Refusal :=
  .next (
    if s.prog.st ≠ .ready ∨ s.prog.cast = 0 ∨ now s < s.prog.cast then s
    else if pairInStep s ∧ s.prog.acked = false then abandonExchange s
    else castNow s)

/-- FLAGS of the exchange record (R206). -/
def exchFlags (s : State) : Nat := b2n s.prog.forceRelease + 2 * b2n s.prog.safety + 4 * b2n s.prog.table

/-- The message with which a pair speaks of the cast point; bit 4 says that the exchange was accepted in STOP (R211, R212). -/
def castMessage (t : Nat) (stop : Bool) (s : State) : Output := .control (.castPoint t (exchFlags s + 16 * b2n stop))

/-- READY: where CAST_AT was 0, T_c is 20 ms ahead, and the standby is told it, and to acknowledge it (R191, R194, R212). -/
def becomeReady (s : State) : State :=
  let t := { s with prog := { s.prog with st := .ready } }
  if t.prog.castAt ≠ 0 then t
  else
    let c := ceilUs (now t + 20 * ms)
    let u := { t with prog := { t.prog with cast := c, acked := false } }
    if sendsToStandby u then emit (castMessage c false u) u else u

/-- `PREPARATION_CAUGHT_UP` (R190, R191, R197, R212): this module's own preparation has caught up.  A standby acknowledges; an active
module with a standby in step waits for its acknowledgement before it is READY. -/
def execPreparationCaughtUp (s : State) : Host.Outcome State Fault Refusal :=
  .next (
    if s.prog.st ≠ .preparing ∨ s.prog.caught then s
    else
      let u := fillArea s
      let t := { u with prog := { u.prog with caught := true } }
      if t.modes.mode = .standby then
        emit (castMessage t.prog.cast false t) { t with prog := { t.prog with st := .ready } }
      else if pairInStep t ∧ t.prog.acked = false then t
      else becomeReady t)

/-- The standby's acknowledgement reaches the active module (R190, R212). -/
def standbyReady (s : State) : State :=
  if (s.prog.st = .preparing ∨ s.prog.st = .ready) ∧ pairInStep s then
    let t := { s with prog := { s.prog with acked := true } }
    if t.prog.st = .preparing ∧ t.prog.caught then becomeReady t else t
  else s

/-- `STANDBY_READY_ACK` (R212). -/
def execStandbyReadyAck (s : State) : Host.Outcome State Fault Refusal := .next (standbyReady s)

/-- `CAST_ABANDON_DEADLINE` (R194): 2 ms before the cast point without READY, or without the standby's acknowledgement. -/
def execCastAbandonDeadline (s : State) : Host.Outcome State Fault Refusal :=
  .next (
    if s.prog.cast = 0 ∨ now s + 2 * ms < s.prog.cast then s
    else if s.prog.st = .preparing ∨ (s.prog.st = .ready ∧ pairInStep s ∧ s.prog.acked = false) then abandonExchange s
    else s)

/-- What stands against an exchange, in the order of R193, but for the password's correctness: the first refusal.  `img` is the
maquette, `c` the set it is committed with, `safe` that it is a safety exchange, `change` that its session changes safety records,
which asks for what R315 asks of a commit.  The checks 13 and 14 of R115 are repeated last (R198); a program with a safety task is
refused in split (R70, R76). -/
def exchangeRefused (q : Req) (img : Mem) (c : ConfigSet) (named safe change : Bool) (s : State) : Option Resp :=
  let castAt := fld64 q.pay 0
  let release := bit (fld32 q.pay 8) 0
  let drops := forceDrops img c s
  let partner := s.pair.partner.elim 0 (fun h => h.imageId.toNat)
  if safe ∧ (!roleIncludes (roleOf q s) 4 ∨ (pwGiven (q.pay.drop 16)).isNone ∨ s.safety.password.isNone) then
    some (st stAuthRequired)
  else if (slotIn .verified s).isNone then some (st stRefusedState)
  else if ownerLocked s then some (st stRefusedState)
  else if s.prog.st ≠ .idle then some (st stBusy)
  else if s.cpl.handover ∨ s.cpl.attach.isSome then some (st stBusy)
  else if pairInStep s ∧ partner ≠ imageId img then some (st stBusy)
  else if safe ∧ logFull s then some (st stRefusedState)
  else if drops.any (·.2.2) ∧ release = false then some (st stRefusedState)
  else if s.modes.mode ≠ .stop ∧ castAt ≠ 0 ∧ castAt < now s + 20 * ms then some (st stInconsistent)
  else if fld32 q.pay 12 ≠ 0xFFFFFFFF ∧ named = false then some (st stInconsistent)
  else if (programSigs img).any (fun g => !definedIn c g) then some (st stInconsistent)
  else if s.cpl.config = .split ∧ taskNos.any (imSafety img) then some (st stInconsistent)
  else if change ∧ (!roleIncludes (roleOf q s) 4 ∨ (pwGiven (q.pay.drop 16)).isNone ∨ s.safety.password.isNone) then
    some (st stAuthRequired)
  else if change ∧ logFull s then some (st stRefusedState)
  else
    match (if named then commitFail img (withSet c s) else none) with
    | some f => some (st f.status)
    | none =>
      let own := express46 img && expressOk (expressTasks img) (fun _ => 0)
      let switch := (slotIn .active s).isNone || switchOk (activeImage s)
      if own && switch then none else some (st stBudgetExceeded)

/-- Sends the standby the set that an exchange commits, which it holds until the table merge (R210, R429). -/
def sendBound (c : ConfigSet) (s : State) : State :=
  if sendsToStandby s then emits ((setChanges s.cfg.cur c).map fun x => .control (.configRecord x.1 x.2.1 x.2.2)) s else s

/-- Accepts an exchange (R190, R191, R206, R211).  The standby is told T_c at once where it is fixed; where CAST_AT is 0 it is told 0, so
that it prepares its own exchange (log 163). -/
def acceptExchange (q : Req) (k : Nat) (c : ConfigSet) (named safe : Bool) (s : State) : State :=
  let stop := s.modes.mode == .stop
  let castAt := if stop then 0 else fld64 q.pay 0
  let s1 := { s with
    prog := { s.prog with
      newSlot := k, castAt := castAt, cast := if stop then now s else castAt
      forceRelease := bit (fld32 q.pay 8) 0, safety := safe, table := named, mergeDue := false, acked := false, caught := false
      session := reqSession q s, role := roleOf q s, saturated := [], drops := [], rebuilt := []
      st := if stop then .settling else .preparing }
    cfg := { s.cfg with session := s.cfg.session.map fun x => if named then { x with bound := true } else x }
    task := s.task.map fun x => { x with switched := false, firstDone := false, onNew := false } }
  let s2 := if named then sendBound c s1 else s1
  let s3 := if sendsToStandby s2 then emit (castMessage s2.prog.cast stop s2) s2 else s2
  if stop then castInStop s3 else writeExchange (nameOld s3)

/-- `PROG_EXCHANGE` (R191 to R194, R508). -/
def execProgExchange (m : MbxId) (s : State) : Host.Outcome State Fault Refusal :=
  .next (runCommand 0x0403 m (fun q t =>
    let flags := fld32 q.pay 8
    if bit flags 1 then
      if (t.prog.st = .preparing ∨ t.prog.st = .ready) ∧ (t.prog.cast = 0 ∨ now t + 2 * ms < t.prog.cast) then
        (abandonExchange t, ok (le 8 0 ++ le 8 (imageId (slotImage t.prog.newSlot t))))
      else (t, st stRefusedState)
    else
      let k := (slotIn .verified t).getD 0
      let img := if (slotIn .verified t).isSome then slotImage k t else []
      let session := heldSession q (fld32 q.pay 12) t
      let named := fld32 q.pay 12 != 0xFFFFFFFF && session.isSome
      let c := if named then session.elim t.cfg.cur (·.set) else t.cfg.cur
      let released := bit flags 0 && (forceDrops img c t).any (·.2.2)
      let safe := (slotIn .verified t).isSome && (safetyExchange (activeImage t) img || released)
      let change := named && safetyChange t.cfg.cur c
      match exchangeRefused q img c named safe change t with
      | some r => (t, r)
      | none =>
        let auth := if safe || change then checkPassword (q.pay.drop 16) (reqSession q t) t else (none, t)
        match auth.1 with
        | some x => (auth.2, st x)
        | none =>
          let t1 := auth.2
          let ids := le 8 (imageId (activeImage t1)) ++ le 8 (imageId img)
          let t2 := if safe then changeLogBy q 0x0004 0 (le 8 (imageId (activeImage t1))) (le 8 (imageId img)) ids t1 else t1
          let t3 := acceptExchange q k c named safe t2
          let cast := if t2.modes.mode = .stop then now t2 else t3.prog.cast
          (t3, { status := stAccepted, pay := le 8 cast ++ le 8 (imageId img) })) s)

/-! ## The merge that an exchange waits for (R209, R210) -/

/-- A force or simulation dropped at the merge: AUDIT with the old VALUE and the new one, and an entry of the change log where a safety
force is released (R183, R209). -/
def dropForce (gen : Nat) (s : State) (d : Nat × Bool × Bool) : State :=
  match forceSlot d.1 d.2.1 s with
  | none => s
  | some p =>
    let f := p.2
    let v := if definedIn (castSet s) f.sig ∧
        typeOf s.cfg.cur (sigStation f.sig) (sigIndex f.sig) = typeOf (castSet s) (sigStation f.sig) (sigIndex f.sig)
      then valueWithout p.1 f.sig s else 0
    let s1 := auditForce s.prog.session s.prog.role f.sig (sigRec f.sig s).value v s
    let s2 := { s1 with image := { s1.image with forces := s1.image.forces.filter fun x => x.1 != p.1 } }
    let s3 := if d.2.2 then
        changeLog 0x0005 s.prog.role s.prog.session (sigHandle f.sig).toNat (le 8 f.value.toNat) [] []
          (le 8 f.value.toNat ++ le 4 f.status.toNat) s2
      else s2
    if readable f.sig s3 then changeRec f.sig id (now s3) gen (now s3) s3 else s3

/-- The own signals whose records a new table rebuilds or deletes (R210). -/
def rebuiltBy (old c : ConfigSet) (s : State) : List Nat :=
  ((signalsIn old ++ signalsIn c).eraseDups).filter fun g => sigOwn g s &&
    (!definedIn c g || !definedIn old g || typeOf old (sigStation g) (sigIndex g) != typeOf c (sigStation g) (sigIndex g))

/-- The first merge at or after T_c: forces are dropped, and a bound session is committed with its table (R209, R210). -/
def exchangeMerge (gen : Nat) (s : State) : State :=
  if s.prog.mergeDue = false ∨ now s < s.prog.cast then s
  else
    let s1 := s.prog.drops.foldl (dropForce gen) s
    let s2 := { s1 with prog := { s1.prog with mergeDue := false, drops := [] } }
    match tableDue s2 with
    | some c =>
      let t1 := if safetyChange s2.cfg.cur c then
          changeLog 0x0001 s2.prog.role s2.prog.session 0 (safetyBytes s2.cfg.cur) (safetyBytes c) [] [] s2
        else s2
      let t2 := { t1 with
        prog := { t1.prog with rebuilt := rebuiltBy t1.cfg.cur c t1 }, cfg := { t1.cfg with incoming := none } }
      commitSet c (fun n => (taskAt n t2).elim true fun k => k.switched || t2.prog.st != .switching) gen (activeImage t2)
        (t2.prog.session, t2.prog.role) t2
    | none => s2

/-! ## Restarts (R215, R216) -/

/-- The data of a task at a restart: its part of the instance directory, and the initial values of its non-retained variables, at a cold
one of the retained ones too; timers idle, edge detectors as created (R110, R203, R216). -/
def restartData (t : Nat) (cold : Bool) (s : State) : State :=
  let img := taskImage t s
  let a := taskArea t s
  let r := (taskInstances img t).foldl (fun (acc : Mem × Tab (List Byte)) n =>
    let e := dirEntry img n
    let m := memWriteN (memWriteN acc.1 (48 * n) e) (fld32 e 16) (freshPart img e false)
    (m, if cold && fld32 e 24 != 0xFFFFFFFF then retPut acc.2 (fld32 e 24) (freshPart img e true) else acc.2))
    (vget [] s.prog.inst a, s.retained.pages)
  { s with
    prog := { s.prog with inst := vset s.prog.inst a r.1 }
    retained := { s.retained with pages := r.2 } }

/-- A restart of a task, warm or cold: at a cold one its functions are forced safe and every retained page is written at its first
commit (R216). -/
def restartTask (cold : Bool) (s : State) (t : Nat) : State :=
  let s1 := restartData t cold s
  if cold then forceTaskSafe 0x0A t (taskMod t (fun k => { k with allDirty := true }) s1) else s1

/-- A restart before the cast point abandons an exchange (R194, R215). -/
def restartAbandons (s : State) : State := abandonExchange s

/-- The authority a cold restart of safety tasks needs (R216): the refusing status, and the state after a check of the password. -/
def coldAuth (q : Req) (pw : List Byte) (needed : Bool) (s : State) : Option Nat × State :=
  if needed = false then (none, s)
  else
    let a := safetyChangeCheck q pw s
    match a.1 with
    | some x => (some x, a.2)
    | none => if logFull a.2 then (some stRefusedState, a.2) else (none, a.2)

/-! ## The task commands (R118, R119, R508) -/

/-- The response of a task command: the task's state at acceptance (R508). -/
def taskAnswer (t : Nat) (s : State) : Resp := ok (le 1 ((taskAt t s).elim 0 fun k => taskCode k.st) ++ zeros 3)

/-- Changes the task a task command names; `f` answers a refusal or the change. -/
def taskCommand (q : Req) (s : State) (f : Nat → Task → Option Nat × State) : State × Resp :=
  let t := fld8 q.pay 0
  match taskAt t s, taskDefined t s with
  | some k, true =>
    let r := f t k
    match r.1 with
    | some x => (r.2, st x)
    | none => (r.2, taskAnswer t s)
  | _, _ => (s, st stInconsistent)

/-- `PROG_START` (R118, R215, R216, R508). -/
def execProgStart (m : MbxId) (s : State) : Host.Outcome State Fault Refusal :=
  .next (runCommand 0x0404 m (fun q u =>
    let cold := fld8 q.pay 1 == 1
    if u.modes.mode ≠ .run then (u, st stWrongMode)
    else taskCommand q u fun t k =>
      if 1 < fld8 q.pay 1 then (some stInconsistent, u)
      else if k.st ≠ .stopped ∧ k.st ≠ .faulted then (some stRefusedState, u)
      else if u.prog.st = .switching ∨ u.prog.st = .settling then (some stBusy, u)
      else
        let safe := cold && taskSafety t u
        let a := coldAuth q (q.pay.drop 4) safe u
        match a.1 with
        | some x => (some x, a.2)
        | none =>
          let u1 := if safe then changeLogBy q 0x0006 t [] [] [] a.2 else a.2
          let u2 := restartTask cold (restartAbandons u1) t
          let u3 := if cold then loopsRestart [t] u2 else u2
          (none, followTasks u (enterRunning t u3))) s)

/-- `PROG_STOP` (R118, R119, R508). -/
def execProgStop (m : MbxId) (s : State) : Host.Outcome State Fault Refusal :=
  .next (runCommand 0x0405 m (fun q u => taskCommand q u fun t k =>
    if u.modes.manoeuvring ∨ k.st ≠ .running then (some stRefusedState, u) else (none, followTasks u (leaveRunning t .stopped u))) s)

/-- `PROG_HOLD` (R118, R119, R508): SERVICE while IN_SERVICE. -/
def execProgHold (m : MbxId) (s : State) : Host.Outcome State Fault Refusal :=
  .next (runCommand 0x0406 m (fun q u =>
    if u.modes.life = .inService ∧ roleOf q u ≠ 6 then (u, st stAuthRequired)
    else taskCommand q u fun t k =>
      if taskSafety t u ∨ u.modes.manoeuvring ∨ k.st ≠ .running then (some stRefusedState, u) else (none, followTasks u (leaveRunning t .held u))) s)

/-- `PROG_STEP` (R118, R119, R508): the cycle runs at the task's next nominal release time. -/
def execProgStep (m : MbxId) (s : State) : Host.Outcome State Fault Refusal :=
  .next (runCommand 0x0407 m (fun q u => taskCommand q u fun t k =>
    if k.st = .stepping then (some stBusy, u)
    else if k.st ≠ .held then (some stRefusedState, u)
    else
      let v := takeState t .stepping u
      (none, followTasks u (match taskDefn t v with
        | some d => taskMod t (fun k => { k with stepAsked := true, next := releaseFrom d k.next (now v) }) v
        | none => v))) s)

/-- `PROG_RESUME` (R118, R119, R508): a stepped cycle in execution completes first. -/
def execProgResume (m : MbxId) (s : State) : Host.Outcome State Fault Refusal :=
  .next (runCommand 0x0408 m (fun q u => taskCommand q u fun t k =>
    if k.st ≠ .held ∧ k.st ≠ .stepping then (some stRefusedState, u)
    else if k.phase = .sleep then (none, followTasks u (enterRunning t u))
    else (none, taskMod t (fun k => { k with leaving := some .running }) u)) s)

end Sys2Proof.Machine
end

