-- ==== Sys2Proof/Machine/Signals.lean ====
section
/-! DEFINITION. The host's signal commands (group 0x05: R145, R180 to R184, R508, R510 to R512). -/

namespace Sys2Proof.Machine

/-- The `n` handles of a list of bytes. -/
def handleList (n : Nat) (b : List Byte) : List Word := (List.range n).map fun i => fldW b (4 * i)

/-- Carriages that a list of `n` handles takes (R511, R512). -/
def handleCarriages (n : Nat) : Nat := (4 * n + 65535) / 65536

/-- `SIG_READ` (R145, R508). -/
def execSigRead (m : MbxId) (s : State) : Host.Outcome State Fault Refusal :=
  .next (readCommand 0x0501 m (fun q t =>
    let n := fld16 q.pay 0
    let hs := handleList n (q.pay.drop 4)
    if 63 < n ∨ hs.any (fun h => (attrBytes h t).isNone) then st stInconsistent
    else ok (le 8 t.image.gen ++ le 2 n ++ zeros 6 ++ hs.flatMap fun h => slice ((attrBytes h t).getD []) 0 64)) s)

/-! ## SIG_WRITE (R184, R508, R510) -/

/-- An entry of `SIG_WRITE`: the status that refuses it, or the image entry it makes (R184, R510). -/
def hostEntry (e : List Byte) (s : State) : Nat ⊕ Entry :=
  let h := fldW e 0
  let g := handleSig h
  let v := fldL e 8
  let own := sigOwn g s && sigDefined g s
  if handleAttr h = 4 then
    if own = false then .inl stRefusedState
    else if v.getLsbD 1 then .inl stInconsistent
    else .inr { sig := g, kind := .ack }
  else if handleAttr h ≠ 0 then .inl stInconsistent
  else if own = false ∨ hostSource g s = false then .inl stRefusedState
  else if typeHolds (typeOf s.cfg.cur (sigStation g) (sigIndex g)) v = false ∨ quality (fldW e 4) = 2 then .inl stInconsistent
  else
    let stamp := fld64 e 16
    .inr { sig := g, kind := .source v (fldW e 4 &&& 0xC000FF00#32) 0x50000000#32 (if stamp = 0 then none else some stamp) }

/-- The first entry refused, by its index, or all the image entries. -/
def hostEntries (k : Nat) (s : State) : List (List Byte) → (Nat × Nat) ⊕ List Entry
  | [] => .inr []
  | e :: es =>
    match hostEntry e s with
    | .inl x => .inl (x, k)
    | .inr y =>
      match hostEntries (k + 1) s es with
      | .inl x => .inl x
      | .inr ys => .inr (y :: ys)

/-- `SIG_WRITE` (R150, R184, R508, R510). -/
def execSigWrite (m : MbxId) (s : State) : Host.Outcome State Fault Refusal :=
  .next (runCommand 0x0502 m (fun q t =>
    let n := fld16 q.pay 0
    let es := (List.range n).map fun i => slice q.pay (4 + 24 * i) 24
    if n = 0 then (t, st stLengthZero)
    else if es.any (fun e => handleAttr (fldW e 0) != 4) && !roleIncludes (roleOf q t) 3 then (t, stDetail stAuthRequired 3)
    else if 160 < n then (t, st stInconsistent)
    else
      match hostEntries 0 t es with
      | .inl x => (t, stDetail x.1 x.2)
      | .inr ys => if intakeRoom ys.length t then (intake .host ys t, ok []) else (t, st stBusy)) s)

/-! ## Forces and simulations (R180 to R183, R209, R508, R510) -/

/-- The lowest free slot of the force table. -/
def freeForceSlot : Nat → Tab ForceSlot → Nat
  | k, [] => k
  | k, (j, _) :: t => if j = k then freeForceSlot (k + 1) t else k

/-- The first checks of `SIG_FORCE` and `SIG_UNFORCE` on one signal (R180, R318, R508, R510). -/
def forceRefused (h : Word) (sim : Bool) (s : State) : Option Nat :=
  let g := handleSig h
  if handleAttr h ≠ 0 ∨ sigDefined g s = false then some stInconsistent
  else if sigOwn g s = false then some stRefusedState
  else if sim && safetySignal g s then some stRefusedState
  else if safetySignal g s && logFull s then some stRefusedState
  else none

/-- Sends a message of the control stream where a standby follows (R429). -/
def toStandby (c : PairControl) (s : State) : State := if sendsToStandby s then emit (.control c) s else s

/-- Puts a force or simulation into its slot, where it enters the image at the next merge (R181). -/
def setForce (k : Nat) (f : ForceSlot) (s : State) : State :=
  intake .host [{ sig := f.sig, kind := .force f.simulate f.value f.status }]
    { s with image := { s.image with forces := tabInsert k f s.image.forces } }

/-- `SIG_FORCE` (R180 to R183, R508, R510). -/
def execSigForce (m : MbxId) (s : State) : Host.Outcome State Fault Refusal :=
  .next (runCommand 0x0503 m (fun q t =>
    let h := fldW q.pay 0
    let g := handleSig h
    let flags := fld32 q.pay 4
    let sim := bit flags 0
    let v := fldL q.pay 8
    let given := quality (fldW q.pay 16)
    let bad := handleAttr h == 0 && sigDefined g t &&
      (!typeHolds (typeOf t.cfg.cur (sigStation g) (sigIndex g)) v || (bit flags 1 && given == 2))
    let open_ := t.modes.life == .commissioning || t.modes.life == .serviceOpen
    let safe := safetySignal g t
    match (if bad then some stInconsistent else (forceRefused h sim t).or (if sim && !open_ then some stRefusedState else none)) with
    | some x => (t, st x)
    | none =>
      let auth := if safe then safetyChangeCheck q (q.pay.drop 24) t else (none, t)
      match auth.1 with
      | some x => (auth.2, st x)
      | none =>
        let t1 := auth.2
        let old := forceSlot g sim t1
        let k := (old.map (·.1)).getD (freeForceSlot 0 t1.image.forces)
        if 4096 ≤ k then (t1, st stBudgetExceeded)
        else if intakeRoom 1 t1 = false ∨ auditRoom t1 = false then (t1, st stBusy)
        else
          let w := mkStatus (if bit flags 1 then given else 3) 0
          let f : ForceSlot := { sig := g, simulate := sim, value := v, status := w, setTime := now t1, safety := safe,
                                 live := old.bind (·.2.live), going := false }
          let t2 := auditForce (reqSession q t1) (roleOf q t1) g (sigRec g t1).value v t1
          let t3 := if safe then
              changeLogBy q 0x0002 h.toNat ((old.map fun p => le 8 p.2.value.toNat).getD []) (le 8 v.toNat)
                (le 8 v.toNat ++ le 4 w.toNat) t2
            else t2
          let t4 := toStandby (.force h sim v w) (setForce k f t3)
          (t4, ok (le 2 k ++ le 2 (4096 - t4.image.forces.length)))) s)

/-- A force or simulation is marked for removal at the next merge (R181, R183). -/
def removeForce (q : Req) (s : State) (p : Nat × ForceSlot) : State :=
  let f := p.2
  let s1 := auditForce (reqSession q s) (roleOf q s) f.sig (sigRec f.sig s).value (valueWithout p.1 f.sig s) s
  let s2 := if f.safety then
      changeLogBy q 0x0003 (sigHandle f.sig).toNat (le 8 f.value.toNat) [] (le 8 f.value.toNat ++ le 4 f.status.toNat) s1
    else s1
  let s3 := { s2 with image := { s2.image with forces := tabInsert p.1 { f with going := true } s2.image.forces } }
  toStandby (.unforce (sigHandle f.sig) f.simulate) (intake .host [{ sig := f.sig, kind := .unforce f.simulate }] s3)

/-- `SIG_UNFORCE` (R180 to R183, R508, R510). -/
def execSigUnforce (m : MbxId) (s : State) : Host.Outcome State Fault Refusal :=
  .next (runCommand 0x0504 m (fun q t =>
    let h := fldW q.pay 0
    let g := handleSig h
    let sim := bit (fld32 q.pay 4) 0
    let all := h == noHandle
    let safe := !all && safetySignal g t
    match (if all then none else forceRefused h false t) with
    | some x => (t, st x)
    | none =>
      let auth := if safe then safetyChangeCheck q (q.pay.drop 8) t else (none, t)
      match auth.1 with
      | some x => (auth.2, st x)
      | none =>
        let t1 := auth.2
        let ps := t1.image.forces.filter fun p =>
          p.2.simulate == sim && !p.2.going && (if all then !p.2.safety && !safetySignal p.2.sig t1 else p.2.sig == g)
        if intakeRoom ps.length t1 = false ∨ auditRoom t1 = false then (t1, st stBusy)
        else (ps.foldl (removeForce q) t1, ok (le 4 ps.length))) s)

/-! ## Subscriptions (R483, R511) -/

/-- `SIG_SUBSCRIBE` (R483, R508, R511). -/
def execSigSubscribe (m : MbxId) (s : State) : Host.Outcome State Fault Refusal :=
  .next (runCommand 0x0505 m (fun q t =>
    let op := fld8 q.pay 0
    let me := mbxSession q.mbx
    if op = 1 then
      match t.host.subs.toList.findIdx? (fun o => o.any fun u => u.id == fld32 q.pay 4 && u.owner == me) with
      | none => (t, st stInconsistent)
      | some i =>
        match vget none t.host.subs i with
        | none => (t, st stInconsistent)
        | some u =>
          let t1 := { t with host := { t.host with subs := vset t.host.subs i none } }
          let t2 := u.ring.foldl (fun w k => if carriageFlag q.mbx k w = 2 then poison q.mbx k w else w) t1
          (t2, ok (le 4 u.id ++ le 2 0 ++ zeros 2))
    else
      let n := fld32 q.pay 12
      let us_ := fld32 q.pay 8
      let lists := handleCarriages n
      if op ≠ 0 ∨ us_ < 100 ∨ 1000000 < us_ ∨ n < 1 ∨ 65536 < n then (t, st stInconsistent)
      else if q.count ≤ lists then (t, stDetail stBadCarriage 0xFFFFFFFF)
      else
        let hs := handleList n (claimBytes q 0 (4 * n) t)
        let held := (t.host.subs.toList.map fun o => o.elim 0 (·.handles.length)).sum
        if hs.any (fun h => handleAttr h != 0) then (t, st stInconsistent)
        else
          match t.host.subs.toList.findIdx? (·.isNone) with
          | none => (t, st stBudgetExceeded)
          | some i =>
            if 262144 < held + n then (t, st stBudgetExceeded)
            else
              let ring := List.range' (q.first + lists) (q.count - lists)
              let u : Subscription := { owner := me, id := t.host.nextSub, ring := ring, at_ := 0, handles := hs,
                                        interval := us_ * us, entries := [], firstGen := 0, superseded := 0, since := now t }
              let t1 := { t with host := { t.host with
                subs := vset t.host.subs i (some u), nextSub := (t.host.nextSub + 1) % 2 ^ 32 } }
              (t1, { status := stOk, pay := le 4 u.id ++ le 2 ring.length ++ zeros 2, keep := ring })) s)

/-- `SUBSCRIPTION_INTERVAL_EXPIRY` (R511): what is due in the subscription goes into its ring. -/
def execSubscriptionIntervalExpiry (slot : Fin 8) (s : State) : Host.Outcome State Fault Refusal := .next (subFill slot.val 4096 s)

/-- `SIG_BULK_READ` (R145, R508, R512). -/
def execSigBulkRead (m : MbxId) (s : State) : Host.Outcome State Fault Refusal :=
  .next (readCommand 0x0506 m (fun q t =>
    let n := fld32 q.pay 0
    let slot := fld8 q.pay 4
    let lists := handleCarriages n
    if (slot ≠ 8 ∧ slot ≠ 64) ∨ 262144 < n then st stInconsistent
    else if n = 0 then ok (le 8 t.image.gen ++ le 4 0 ++ le 2 0 ++ zeros 2)
    else if claimRoom q < lists * 65536 + slot * n then stDetail stBadLength (lists * 65536 + slot * n)
    else
      let hs := handleList n (claimBytes q 0 (4 * n) t)
      if hs.any (fun h => (attrBytes h t).isNone || (slot == 8 && handleAttr h == 7)) then st stInconsistent
      else
        { status := stOk, pay := le 8 t.image.gen ++ le 4 n ++ le 2 (q.first + lists) ++ zeros 2
          data := hs.flatMap fun h => slice ((attrBytes h t).getD []) 0 slot, dataAt := lists * 65536 }) s)

end Sys2Proof.Machine
end

