-- ==== Sys2Proof/Machine/Pair.lean ====
section
/-! DEFINITION. The redundant pair (R422 to R447, R522, R523): heartbeats and lines, the takeover, demotion, the planned
switchover, the standby's streams and its catch-up. -/

namespace Sys2Proof.Machine

/-- SOURCE of the pair's records: the management section (R457). -/
def srcPair : Word := srcUnit 8

/-- The firmware image that runs. -/
def runImage (s : State) : Mem := vget [] s.fw.bank s.fw.running.val

/-- FW_VERSION of the running firmware (R546). -/
def fwVersion (s : State) : Nat := unle (memReadN (runImage s) 8 4)

/-- PAIR_PROTOCOL of the running firmware (R444, R546). -/
def pairProtocol (s : State) : Nat := unle (memReadN (runImage s) 0x0C 2)

/-- Changes the pair. -/
def pairUnit (f : Pair → Pair) (s : State) : State := { s with pair := f s.pair }

/-- IMAGE_ID of the VERIFIED slot; 0 where there is none (R188). -/
def verifiedId (s : State) : Nat :=
  match slotIn .verified s with
  | some k => imageId (slotImage k s)
  | none => 0

/-- IMAGE_ID of the program that runs; 0 where none is ACTIVE. -/
def activeId (s : State) : Nat := if (slotIn .active s).isSome then imageId (activeImage s) else 0

/-- Both links of the publication network are up at this module (R435). -/
def pubLinksUp (s : State) : Bool := (netPorts (pubNet s) s).all fun p => portUp p s

/-- The heartbeat that the Coupler sends (R429). -/
def heartbeatOf (s : State) : Heartbeat where
  seq := s.pair.hbSeq
  state := pairCode s.pair.st
  owner := s.net.owner
  reach := reach s
  imageId := BitVec.ofNat 64 (verifiedId s)
  activeImageId := BitVec.ofNat 64 (activeId s)
  fw := BitVec.ofNat 32 (fwVersion s)
  protocol := pairProtocol s
  mode := modeCode s.modes.mode
  pubLinksUp := pubLinksUp s
  mgmtAlive := true

/-- The standby stands where a takeover is possible: in step, or in a hand-over that has not yet made it the active module (R434). -/
def takesOver (s : State) : Bool := s.pair.st == .inStep || (s.pair.st == .handingOver && !isActive s)

/-! ## The takeover (R425, R436) -/

/-- The mode a new active module takes: the one the former active module last reported (R449). -/
def takenMode (s : State) : Mode :=
  match s.pair.partner.bind fun h => modeOf h.mode with
  | some .run => .run
  | some .hold => .hold
  | _ => .stop

/-- Publication is taken over (R163): the next block carries TAKEOVER and lies 2^32 above the last one reported, and every own
record newer than the generation reported as published is queued ahead of new changes, with those still pending. -/
def pubTakeover (s : State) : State :=
  let st := ownStation s
  let gs := (s.image.recs.filter fun p =>
    sigStation p.1 == st && (p.2.pending || decide (s.pub.partnerGen < p.2.gen))).map (·.1)
  let s1 := { s with pub := { s.pub with
    takeover := true, first := false, seq := s.pub.partnerSeq + 2 ^ 32 - 1, queue := []
    block := 0, passStart := now s, lastSent := now s, window := [] } }
  gs.foldl (fun t g => queuePublication g (putRec g { sigRec g t with pending := false } t)) s1

/-- The active module reports its publication up to a generation: a standby's copies of those changes are published (R152, R153,
R163). -/
def followPublished (seq gen : Nat) (s : State) : State :=
  let done := (s.pub.queue.map (·.1)).filter fun g => decide ((sigRec g s).gen ≤ gen)
  let s1 := { s with pub := { s.pub with
    partnerSeq := seq, partnerGen := gen, queue := s.pub.queue.filter fun q => decide (gen < (sigRec q.1 s).gen) } }
  done.foldl (fun t g => published g t) s1

/-- The output stages are driven at the held image: what each task committed last, the idle actions of tasks that do not run, and
the safe states; voltage outputs only where `volt` says so (R436, R438, R440). -/
def driveHeld (volt : Bool) (s : State) : State :=
  let keep (o : OutWrite) : Bool := o.digital || volt || ucMode (ucAt o.chan s) != 7
  let s1 := taskNos.foldl (fun t n =>
    match taskAt n t with
    | none => t
    | some k =>
      let os := k.outputs.filter keep
      match k.st with
      | .stopped | .faulted => idleOutputsOf os (applyOutputs os t)
      | _ => applyOutputs os t) s
  driveSafety s1

/-- Steps 5 and 6 of R436. -/
def takeoverUnits (trigger : Nat) (s : State) : State :=
  let s1 := timeTakeover (ownerTakeover (pubTakeover (canTakeover s)))
  let s2 := hostSwitchover false s1
  record sevAlarm 0x0C01 srcPair (le 1 trigger) s2

/-- A standby takes over on a loss (trigger 1) or a demotion (trigger 2): the six steps of R436; after a demotion the current
outputs cross-fade (R438).  An exchange before its cast point is abandoned (R194). -/
def takeover (trigger : Nat) (s : State) : State :=
  let s0 := abandonExchange s
  let s1 := { s0 with modes := { s0.modes with mode := takenMode s, pending := none } }
  let s2 := pairUnit (fun p =>
    { p with
      st := .activeAlone, actOut := true, lastTrigger := trigger, lastSwitchover := now s1, verifyAt := some (now s1 + 20 * ms)
      share := if trigger = 2 then 0 else 32
      fading := trigger == 2, handAt := none, former := false, handed := false, merges := [], digests := [] }) s1
  let s3 := taskNos.foldl (fun t n =>
    match taskAt n t with
    | none => t
    | some k => if k.phase = .gathered && (agreedFor n t).isNone then discardCycle n t else t) s2
  takeoverUnits trigger (loopsTakeover (driveHeld true (followTasks s2 s3)))

/-- A standby that cannot take over meets a condition for it: ALARM, and it stays standby (R434). -/
def takeoverRefused (s : State) : State := record sevAlarm (0x0C00 + pairCode s.pair.st) srcPair [] s

/-- The partner's heartbeats are lost and its lines show it gone (R433). -/
def lossShown (s : State) : Bool := s.pair.partnerLost && (s.pair.liveStale || !s.pair.actIn)

/-- What a change of the lines or of the heartbeats leads to on a standby: a takeover on a loss (R433, R434). -/
def lossCheck (before : Bool) (s : State) : State :=
  if s.modes.mode ≠ .standby ∨ before ∨ lossShown s = false then s
  else if takesOver s then takeover 1 s
  else takeoverRefused s

/-! ## Heartbeats (R429, R433, R435, R441) -/

/-- `HEARTBEAT_SEND` (R429): both links carry the same one. -/
def execHeartbeatSend (s : State) : Host.Outcome State Fault Refusal :=
  .next (
    if pairConfigured s = false ∨ s.modes.mode = .plinth then s
    else emit (.heartbeat (heartbeatOf s)) (pairUnit (fun p => { p with hbSeq := p.hbSeq + 1 }) s))

/-- The conditions of R435 hold: NET_DEMOTE is set, the standby has both links of PUB_NET and this module has not, and the standby
reaches at least REACH_MARGIN nodes more, or this module has lost PUB_NET. -/
def reachLost (s : State) : Bool :=
  match s.pair.partner with
  | none => false
  | some h =>
    let lead := decide (reach s + fld16 s.pair.rcd 4 ≤ h.reach)
    let alone := (netPorts (pubNet s) s).all fun p => !portUp p s
    bit (fld8 s.pair.rcd 0) 1 && h.pubLinksUp && !pubLinksUp s && (lead || alone)

/-- The conditions of R435 are looked at with each heartbeat: a break starts their time again (log 180). -/
def reachFollow (s : State) : State :=
  pairUnit (fun p => { p with reachSince := if reachLost s && s.pair.st == .activePaired then some (p.reachSince.getD (now s)) else none }) s

/-- What a new heartbeat says (R428, R430, R435, R443, R444). -/
def heartbeatNews (h : Heartbeat) (s : State) : State :=
  let s1 := reachFollow (pairUnit (fun p =>
    { p with
      partner := some h, liveStale := p.liveStale && !h.mgmtAlive, demoted := p.demoted && h.state == 6
      suspended := p.suspended && h.state == 3 }) s)
  match s1.pair.st with
  | .activeAlone => if operating s1 && h.state = 4 then pairUnit (fun p => { p with st := .activePaired }) s1 else s1
  | .activePaired => if h.state = 3 ∨ h.state = 5 then goAlone s1 else s1
  | .handingOver => if s1.pair.former && !s1.pair.handed && decide (h.state = 3 ∨ h.state = 5) then goAlone s1 else s1
  | .inStep | .catchingUp => if h.protocol ≠ pairProtocol s1 then leaveStep s1 else s1
  | _ => s1

/-- `HEARTBEAT_RECEIVED` (R429): the first copy counts, by its sequence number. -/
def execHeartbeatReceived (link : Fin 2) (h : Heartbeat) (s : State) : Host.Outcome State Fault Refusal :=
  .next (
    if pairConfigured s = false then s
    else
      let fresh := s.pair.partnerLost || s.pair.partner.elim true fun x => decide (x.seq < h.seq)
      let s1 := drawbarArrives (pairUnit (fun p => { p with hb := p.hb.set link (some (now s)), lastHb := now s, partnerLost := false }) s)
      if fresh then heartbeatNews h s1 else s1)

/-- `HEARTBEAT_LOSS` (R428, R433, R434, R441): 1,550 µs after the last heartbeat. -/
def execHeartbeatLoss (s : State) : Host.Outcome State Fault Refusal :=
  .next (
    if pairConfigured s = false ∨ s.pair.partnerLost ∨ now s < s.pair.lastHb + 1550 * us then s
    else
      let before := lossShown s
      let s1 := pairUnit (fun p =>
        { p with partnerLost := true, hbLost := true, hello := none, hb := .replicate 2 none, reachSince := none, suspended := false }) s
      if isActive s1 then goAlone s1 else lossCheck before s1)

/-- `REACH_DEMOTE` (R435): the conditions have held for REACH_TIME_MS without a break. -/
def execReachDemote (s : State) : Host.Outcome State Fault Refusal :=
  .next (
    match s.pair.reachSince with
    | none => s
    | some t =>
      if s.pair.st = .activePaired ∧ operating s ∧ reachLost s ∧ t + fld16 s.pair.rcd 6 * ms ≤ now s then
        selfDemote causeR435 false s
      else s)

/-! ## The pair lines (R423 to R426) -/

/-- `PAIR_LIVE_TOGGLE` (R423, R426, R576): the line toggles and the field section is refreshed; the line stays low in a start and in
SAFE. -/
def execPairLiveToggle (s : State) : Host.Outcome State Fault Refusal :=
  .next (
    match s.modes.mode with
    | .plinth => s
    | .boot | .safe => pairUnit (fun p => { p with liveOut := false, refreshed := now s }) s
    | _ => pairUnit (fun p => { p with liveOut := !p.liveOut, refreshed := now s }) s)

/-- `PAIR_LIVE_STALE` (R423, R433): 750 µs without an edge. -/
def execPairLiveStale (s : State) : Host.Outcome State Fault Refusal :=
  .next (
    let s1 := pairUnit (fun p => { p with liveStale := true }) s
    if pairConfigured s then lossCheck (lossShown s) s1 else s1)

/-- A demoting module releases its outputs from the moment the partner's PAIR_ACT rises: the current outputs cross-fade, voltage
outputs break at once, and its host interface follows the switchover (R438, R484). -/
def beginRelease (s : State) : State :=
  let s1 := pairUnit (fun p =>
    { p with former := true, fading := true, share := 32, handAt := some (now s + ms), verifyAt := some (now s + 20 * ms)
             lastSwitchover := now s }) s
  hostSwitchover true { s1 with uc := s1.uc.map fun u => if ucMode u = 7 then ucOff u else u }

/-- `PAIR_ACT_I_CHANGE` (R425, R433, R438). -/
def execPairActIChange (level : Bool) (s : State) : Host.Outcome State Fault Refusal :=
  .next (
    let s1 := pairUnit (fun p => { p with actIn := level }) s
    if pairConfigured s = false then s1
    else if level then (if s1.pair.st = .demoting ∧ s1.pair.handAt = none then beginRelease s1 else s1)
    else lossCheck (lossShown s) s1)

/-- `ACTIVITY_CONFLICT` (R425, R428, R450): both lines high for 100 µs; position 1 steps down. -/
def execActivityConflict (s : State) : Host.Outcome State Fault Refusal :=
  .next (
    let quiet := s.pair.st == .activeAlone || s.pair.st == .activePaired
    if operating s = false ∨ s.pair.actOut = false ∨ s.pair.actIn = false ∨ s.pair.liveStale ∨ s.pair.demoted ∨ quiet = false then s
    else
      let s1 := record sevAlarm (0x0C00 + pairCode s.pair.st) srcPair [] (pairUnit (fun p => { p with actConflict := true }) s)
      if s.pair.position then
        let s2 := pairUnit (fun p =>
          { p with actOut := false, st := .outOfStep, leftAt := now s1, share := 32, fading := false }) (discardAll s1)
        canFollow (outputsOff { s2 with modes := { s2.modes with mode := .standby, pending := none } })
      else s1)

/-- `FIELD_REFRESH_TIMEOUT` (R426): the field section was not refreshed for 1 ms. -/
def execFieldRefreshTimeout (s : State) : Host.Outcome State Fault Refusal :=
  .next (if s.pair.refreshed + ms ≤ now s then outputsOff s else s)

/-! ## Demotion (R428, R433, R434, R438) -/

/-- `DEMOTE_RECEIVED` (R433, R434): the first copy counts. -/
def execDemoteReceived (_link : Fin 2) (s : State) : Host.Outcome State Fault Refusal :=
  .next (
    if pairConfigured s = false ∨ s.pair.demoted ∨ s.modes.mode ≠ .standby then s
    else
      let s1 := drawbarArrives (pairUnit (fun p => { p with demoted := true }) s)
      if takesOver s1 then takeover 2 s1 else takeoverRefused s1)

/-- `DEMOTION_TAKEOVER_TIMEOUT` (R428): no takeover within 5 ms. -/
def execDemotionTakeoverTimeout (s : State) : Host.Outcome State Fault Refusal :=
  .next (
    if operating s ∧ s.pair.st = .demoting ∧ s.pair.handAt = none ∧ s.pair.demoteAt + 5 * ms ≤ now s then admitWaiting (enterSafe s)
    else s)

/-- The former active module has released its outputs: standby, in step after a planned switchover and out of step after a
demotion; SAFE where the cause requires it (R428, R440, R450).  Commands submitted since the demotion began are admitted (R474, R484). -/
def endRelease (s : State) : State :=
  let demoted := s.pair.st == .demoting
  if demoted ∧ s.pair.toSafe then admitWaiting (enterSafe s)
  else
    let s1 := pairUnit (fun p =>
      { p with
        st := if demoted then .outOfStep else .inStep
        actOut := false, former := false, handed := false, fading := false, handAt := none, share := 32, leftAt := now s }) s
    let s2 := outputsOff { s1 with modes := { s1.modes with mode := .standby, pending := none } }
    if demoted then admitWaiting (canFollow (record sevWarning 0x0C05 srcPair [] s2)) else canFollow s2

/-! ## The drawbar links (R431, R447) -/

/-- `DRAWBAR_LINK_CHANGE` (R431). -/
def execDrawbarLinkChange (link : Fin 2) (up : Bool) (s : State) : Host.Outcome State Fault Refusal :=
  .next (
    if s.pair.up[link] = up ∨ healthOf (0x30 + link.val) s = 2 then s
    else if up then pairUnit (fun p => { p with up := p.up.set link true }) s
    else
      let s1 := pairUnit (fun p =>
        { p with up := p.up.set link false, hb := p.hb.set link none, lost := p.lost.set link true }) s
      let s2 := record sevWarning 0x0800 (srcUnit (0x30 + link.val)) [] s1
      if s2.pair.up.toList.any id ∨ pairConfigured s = false then s2
      else
        let alarm := record sevAlarm (0x0C00 + pairCode s.pair.st) srcPair []
        match s2.pair.st with
        | .inStep | .catchingUp => if s2.pair.actIn && !s2.pair.liveStale then leaveStep (alarm s2) else s2
        | .activePaired | .handingOver => if isActive s2 && !s2.pair.liveStale then goAlone (alarm s2) else s2
        | _ => s2)

/-! ## Catch-up (R442 to R444, R523) -/

/-- The first check of R444 that fails with a partner's hello: 1 protocol, 2 keys, 3 life cycle, 4 lane configuration; 0 none. -/
def helloFail (h : Hello) (s : State) : Nat :=
  if h.protocol ≠ pairProtocol s then 1
  else if !(h.signingKey && h.credential && s.modes.signingKey && s.modes.pairCred) then 2
  else if h.lifecycle ≠ lifeCode s.modes.life then 3
  else if h.split ∨ s.cpl.config = .split then 4
  else 0

/-- A check of R444 fails: the standby stays OUT_OF_STEP, with an ALARM that names it, and does not retry by itself (R523). -/
def helloRefused (n : Nat) (s : State) : State :=
  record sevAlarm 0x0C05 srcPair (le 1 n) (pairUnit (fun p => { p with st := .outOfStep, failed := n, leftAt := now s, phase := 0 }) s)

/-- A standby begins its catch-up with the hello (R442, R444). -/
def beginCatchup (s : State) : State :=
  let fail := s.pair.hello.elim 0 fun h => helloFail h s
  if fail ≠ 0 then helloRefused fail s
  else emit .hello (pairUnit (fun p =>
    { p with st := .catchingUp, phase := 0, progress := 0, failed := 0, agreed := [], merges := [], digests := [] }) s)

/-- A hello on a standby in catch-up or in step (R430, R444). -/
def helloStandby (h : Hello) (s : State) : State :=
  let fail := helloFail h s
  match s.pair.st with
  | .catchingUp =>
    if fail ≠ 0 then helloRefused fail s
    else if s.pair.phase = 0 then pairUnit (fun p => { p with phase := 1 }) s
    else s
  | .inStep => if fail ≠ 0 then pairUnit (fun p => { p with failed := fail }) (leaveStep s) else s
  | _ => s

/-- The tasks of the ACTIVE program are defined as it says (R114). -/
def defineTasks (s : State) : State :=
  let img := activeImage s
  taskNos.foldl (fun t n => taskMod n (fun k => { k with defn := imTask img n }) t) s

/-- The configuration phase: the configuration area with the change log and the forces (R442). -/
def copyConfiguration (recs : List (Nat × Nat × List Byte)) (id : Nat) (log : List (List Byte)) (forces : List ForceCopy)
    (s : State) : State :=
  let table := (recs.find? fun r => r.1 == 0x0010).elim [] (·.2.2)
  let set : ConfigSet := {
    recs := recs.foldl (fun m r => if r.1 = 0x0010 then m else tabSet [] m (cfgKey r.1 r.2.1) r.2.2) []
    table := memWriteN [] 0 table, tableLen := table.length }
  let s1 := takeSet set (fun _ => true) s.image.gen (0, 0) { s with cfg := { s.cfg with configId := id, incoming := none } }
  let slots : Tab ForceSlot := (forces.zipIdx).map fun p =>
    (p.2, { sig := handleSig p.1.handle, simulate := p.1.simulate, value := p.1.value, status := p.1.status,
            setTime := p.1.setTime, safety := p.1.safety, live := some (p.1.value, p.1.status), going := false })
  let entries : List LogEntry := log.map fun b => { seq := fld64 b 0, bytes := b }
  { s1 with
    image := { s1.image with forces := slots }
    safety := { s1.safety with
      log := entries, nextSeq := (entries.getLast?).elim s1.safety.nextSeq (·.seq + 1)
      chain := (log.getLast?).elim s1.safety.chain fun b => BitVec.ofNat 128 (unle (slice b 112 16)) } }

/-- The program phase: the ACTIVE image and any VERIFIED maquette (R442). -/
def copyProgram (active : List Byte) (maquette : Option (List Byte)) (s : State) : State :=
  let slot (x : SlotState) (b : List Byte) : Slot := { st := x, image := memWriteN [] 0 b, covered := [(0, b.length)] }
  let two : Vector Slot 2 := (Vector.replicate 2 slotReset).set 0 (slot .active active)
  let both := match maquette with
    | some b => two.set 1 (slot .verified b)
    | none => two
  defineTasks { s with prog := { s.prog with slot := both, st := .idle } }

/-- A signal record as copied (R442). -/
def copySignal (s : State) (c : SignalCopy) : State :=
  let r := sigRec c.sig s
  putRec c.sig { r with
    raw := c.raw, srcStatus := c.srcStatus, value := c.value, status := c.status, stamp := c.stamp, gen := c.gen
    source := c.source, alarm := c.alarm, received := now s, srcStamp := c.stamp, pubValue := c.value, pubStatus := c.status
    typ := typeOf s.cfg.cur (sigStation c.sig) (sigIndex c.sig) } s

/-- The state of a task as copied (R442). -/
def copyTask (s : State) (c : TaskCopy) : State :=
  let x : TaskState := match c.state with
    | 1 => .running
    | 2 => .held
    | 3 => .stepping
    | 4 => .faulted
    | _ => .stopped
  taskMod c.task.val (fun k => { asleep k with st := x, cycleNo := c.cycleNo, next := c.next, leaving := none, entered := true }) s

/-- The lane state phase: instance data, the signal image and the tasks (R442). -/
def copyLaneState (gen : Nat) (inst : List (Nat × List Byte)) (sigs : List SignalCopy) (tasks : List TaskCopy) (s : State) : State :=
  let area := inst.foldl (fun m p => memWriteN m (p.1 * 4096) (slice p.2 0 4096)) []
  let s1 := { s with
    prog := { s.prog with inst := vset s.prog.inst s.prog.area area }
    image := { s.image with gen := gen, pool := [], events := [(gen, now s)] } }
  let s2 := tasks.foldl copyTask (sigs.foldl copySignal s1)
  pairUnit (fun p => { p with merges := p.merges.filter fun m => decide (gen < m.generation) }) s2

/-- The retained phase: retained pages as one commit per task, loop state and used cells (R245, R442). -/
def copyRetained (pages : List (Nat × List Byte)) (loops : List (List Byte)) (s : State) : State :=
  let img := activeImage s
  let s1 := { s with retained := { s.retained with
    pages := pages.foldl (fun m p => tabSet [] m p.1 (slice p.2 0 4096)) [], queue := [] } }
  let s2 := taskNos.foldl (fun t n =>
    let ps := taskPages img n
    if ps = [] then t
    else enqueueCommit {
      task := n, cycle := (taskAt n t).elim 0 (·.cycleNo), time := now t, since := now t, onNew := false
      pages := ps.foldl (fun m p => tabInsert p (slice (tabGet [] t.retained.pages p) 0 4096) m) [] } t) s1
  loops.foldl (fun t e => loopTake e t) s2

/-- `CATCHUP_PHASE_COMPLETE` (R442): the phase now running has brought its content; after the join the standby is in step. -/
def execCatchupPhaseComplete (c : CatchupCopy) (s : State) : Host.Outcome State Fault Refusal :=
  .next (
    if s.pair.st ≠ .catchingUp ∨ s.modes.mode ≠ .standby then s
    else
      let step (n : Nat) (t : State) : State := pairUnit (fun p => { p with phase := n }) t
      match c, s.pair.phase with
      | .hello, 0 => (match s.pair.hello with
        | some h => helloStandby h s
        | none => s)
      | .configuration recs id log forces, 1 => step 2 (copyConfiguration recs id log forces s)
      | .program a m, 2 => step 3 (copyProgram a m s)
      | .laneState gen inst sigs tasks, 3 =>
        step 4 (pairUnit (fun p => { p with progress := 1000 }) (copyLaneState gen inst sigs tasks s))
      | .retained pages loops, 4 => step 5 (copyRetained pages loops s)
      | .join, 5 => pairUnit (fun p => { p with st := .inStep, phase := 0 }) s
      | _, _ => s)

/-- The partner catches up, as its heartbeats say. -/
def partnerCatching (s : State) : Bool := !s.pair.partnerLost && s.pair.partner.elim false (·.state == 3)

/-- `CATCHUP_SUSPEND` (R443): the active module suspends the catch-up that runs, or starts its copy again. -/
def execCatchupSuspend (restart : Bool) (s : State) : Host.Outcome State Fault Refusal :=
  .next (
    if isActive s = false ∨ partnerCatching s = false ∨ s.pair.suspended = !restart then s
    else if restart then pairUnit (fun p => { p with suspended := false, progress := 0 }) s
    else record sevWarning 0x0C03 srcPair [] (pairUnit (fun p => { p with suspended := true }) s))

/-- `OUT_OF_STEP_RETRY` (R428, R523): a link up, and 5 s since it left step. -/
def execOutOfStepRetry (s : State) : Host.Outcome State Fault Refusal :=
  .next (
    if s.pair.st = .outOfStep ∧ s.modes.mode = .standby ∧ s.pair.up.toList.any id ∧ s.pair.leftAt + 5 * sec ≤ now s ∧
        s.pair.failed = 0 then beginCatchup s
    else s)

/-! ## The streams to a standby (R429, R430) -/

/-- `AGREED_INPUTS_RECEIVED` (R429, R430): the first copy of each is kept until its cycle or merge. -/
def execAgreedInputsReceived (i : AgreedInputs) (s : State) : Host.Outcome State Fault Refusal :=
  .next (
    if s.modes.mode ≠ .standby then s
    else
      match i with
      | .cycle t n items =>
        let c := (taskAt t.val s).elim 0 (·.cycleNo)
        let held := (tabGet [] s.pair.agreed t.val).filter fun x => decide (c ≤ x.cycle)
        if n < c ∨ held.any (fun x => x.cycle == n) then s
        else drawbarArrives (pairUnit (fun p => { p with agreed := tabSet [] p.agreed t.val (held ++ [{ cycle := n, items := items }]) }) s)
      | .merge gen es =>
        if gen ≤ s.image.gen ∨ s.pair.merges.any (fun m => m.generation == gen) then s
        else drawbarArrives (pairUnit (fun p => { p with merges := p.merges ++ [{ generation := gen, entries := es }] }) s))

/-- `AGREED_INPUTS_TIMEOUT` (R430): none at the cycle's deadline plus 1 ms. -/
def execAgreedInputsTimeout (t : Fin 32) (s : State) : Host.Outcome State Fault Refusal :=
  .next (
    let k := s.task[t]
    if s.modes.mode = .standby ∧ takesOver s ∧ k.phase = .gathered ∧ (agreedFor t.val s).isNone ∧ k.next + ms ≤ now s then leaveStep s
    else s)

/-- `COMMIT_DIGEST_RECEIVED` (R430): kept for its cycle, and compared with a cycle already at CP2. -/
def execCommitDigestReceived (t : Fin 32) (cycleNo : Nat) (sigs : List (Nat × BitVec 128)) (generation : Nat) (s : State) :
    Host.Outcome State Fault Refusal :=
  .next (
    if s.modes.mode ≠ .standby then s
    else
      let k := s.task[t]
      let held := (tabGet [] s.pair.digests t.val).filter fun x => decide (k.cycleNo ≤ x.cycle)
      if held.any (fun x => x.cycle == cycleNo) then s
      else
        let d : CycleDigest := { cycle := cycleNo, sigs := sigs, generation := generation }
        let s1 := drawbarArrives (pairUnit (fun p => { p with digests := tabSet [] p.digests t.val (held ++ [d]) }) s)
        if k.phase = .compared ∧ k.cycleNo = cycleNo then followTasks s1 (digestCheck t.val k.sigs s1) else s1)

/-- A record of the active module's configuration joins what is being received: the signal table is kind 0x0010, and no data
deletes a record (R429). -/
def incomingRecord (kind index : Nat) (data : List Byte) (s : State) : State :=
  let c := s.cfg.incoming.getD s.cfg.cur
  let d := if kind = 0x0010 then { c with table := memWriteN [] 0 data, tableLen := data.length }
    else { c with recs := tabSet [] c.recs (cfgKey kind index) data }
  { s with cfg := { s.cfg with incoming := some d } }

/-- The commit of what was received (R429, R506). -/
def incomingCommit (id : Nat) (s : State) : State :=
  match s.cfg.incoming with
  | none => { s with cfg := { s.cfg with configId := id } }
  | some c => takeSet c (fun _ => true) s.image.gen (0, 0) { s with cfg := { s.cfg with configId := id, incoming := none } }

/-- A force or simulation of the active module takes its slot; its merge comes with the agreed entries (R182, R429). -/
def incomingForce (h : Word) (sim : Bool) (v : BitVec 64) (w : Word) (s : State) : State :=
  let g := handleSig h
  let old := forceSlot g sim s
  let k := (old.map (·.1)).getD (freeForceSlot 0 s.image.forces)
  let f : ForceSlot := { sig := g, simulate := sim, value := v, status := w, setTime := now s, safety := safetySignal g s,
                         live := old.bind (·.2.live), going := false }
  if 4096 ≤ k then s else { s with image := { s.image with forces := tabInsert k f s.image.forces } }

/-- A maquette forwarded by the active module: loaded and verified here (R188). -/
def incomingMaquette (b : List Byte) (s : State) : State :=
  let k := loadSlot s
  let img := memWriteN [] 0 b
  let active := if (slotIn .active s).isSome then some (activeImage s) else none
  let good := (verifyCheck img (imageSigned img s) [s.cfg.cur] active).isNone
  slotMod k (fun _ => { st := if good then .verified else .loaded, image := img, covered := [(0, b.length)] }) s

/-- The cast point of the active module: a standby prepares its own exchange, or answers when it is READY; in STOP its tasks switch at once
(R211, R212).  `flags` are FLAGS of the exchange record; bit 3 abandons the exchange, bit 4 says that it was accepted in STOP (log 163). -/
def incomingCast (t flags : Nat) (s : State) : State :=
  if bit flags 3 then abandonExchange s
  else
    match s.prog.st with
    | .ready => emit (.control (.castPoint t flags)) { s with prog := { s.prog with cast := t, castAt := t } }
    | .preparing => { s with prog := { s.prog with cast := t, castAt := t } }
    | .idle =>
      match slotIn .verified s with
      | none => s
      | some k =>
        let s1 := nameOld { s with
          prog := { s.prog with
            newSlot := k, castAt := t, cast := t, forceRelease := bit flags 0, safety := bit flags 1, table := bit flags 2
            mergeDue := false, acked := false, caught := false, saturated := [], drops := [], rebuilt := []
            st := if bit flags 4 then .settling else .preparing }
          task := s.task.map fun x => { x with switched := false, firstDone := false, onNew := false } }
        if bit flags 4 then castInStop s1 else writeExchange s1
    | _ => s

/-- A planned hand-over announced by the active module (R440). -/
def incomingHandover (t : Nat) (s : State) : State :=
  if s.pair.st = .inStep then
    emit (.control (.plannedHandover t)) (pairUnit (fun p =>
      { p with st := .handingOver, handAt := some t, former := false, handed := false, fading := false, share := 0 }) s)
  else s

/-- What a message of the control stream does on a standby (R429). -/
def applyControl (c : PairControl) (s : State) : State :=
  match c with
  | .modeChange m => (match modeOf m with
    | some x => followTasks s (if x = .stop then loopsStop (tasksFollow x s) else tasksFollow x s)
    | none => s)
  | .configRecord kind index data => incomingRecord kind index data s
  | .configCommitted id => incomingCommit id s
  | .force h sim v w => incomingForce h sim v w s
  | .unforce h sim =>
    let going (p : Nat × ForceSlot) : Nat × ForceSlot :=
      if p.2.sig = handleSig h ∧ p.2.simulate = sim then (p.1, { p.2 with going := true }) else p
    { s with image := { s.image with forces := s.image.forces.map going } }
  | .changeLogEntry e =>
    { s with safety := { s.safety with
      log := s.safety.log ++ [{ seq := fld64 e 0, bytes := e }], nextSeq := fld64 e 0 + 1
      chain := BitVec.ofNat 128 (unle (slice e 112 16)) } }
  | .maquette b => incomingMaquette b s
  | .castPoint t flags => incomingCast t flags s
  | .panelUpdate p mode x y w h img => panelUpdateHere p.val mode x y w h img s
  | .panelClean p x y w h reset => panelCleanHere p.val x y w h reset s
  | .panelWaveform p set => panelWaveformHere p.val set s
  | .pubSequence seq gen => followPublished seq gen s
  | .ownerCount n => { s with net := { s.net with owner := n } }
  | .lifecycle x => (match lifeOf x with
    | some l => { s with modes := { s.modes with life := l } }
    | none => s)
  | .plannedHandover t => incomingHandover t s
  | .loopTune n t fs => takeTune n t fs s
  | .loopApply n k mask snap => takeApply n k mask snap s
  | .loopReset n t => takeReset n t s
  | .resync => if s.pair.st = .outOfStep then beginCatchup (pairUnit (fun p => { p with hello := none }) s) else s
  | .timeStep d t => { s with time := { s.time with pairStep := some (d, t) } }
  | .timeSession x => { s with time := { beginSession s.time with session := x, storedSession := x } }

/-- `PAIR_CONTROL_MESSAGE` (R212, R429): a standby applies it; to the active module a cast point is the standby's answer. -/
def execPairControlMessage (c : PairControl) (s : State) : Host.Outcome State Fault Refusal :=
  .next (
    let s1 := drawbarArrives (pairUnit (fun p => { p with ctrlSeq := p.ctrlSeq + 1 }) s)
    if s.modes.mode = .standby then applyControl c s1
    else
      match c with
      | .castPoint t _ => if s.prog.cast = t then standbyReady s1 else s1
      | _ => s1)

/-! ## The planned switchover (R439 to R441) -/

/-- `CROSSFADE_START` (R440): 1 ms before T_h. -/
def execCrossfadeStart (s : State) : Host.Outcome State Fault Refusal :=
  .next (
    match s.pair.handAt with
    | none => s
    | some t =>
      if s.pair.st ≠ .handingOver ∨ s.pair.fading ∨ s.pair.handed ∨ now s + ms < t then s
      else
        let s1 := pairUnit (fun p => { p with fading := true, verifyAt := some (t + 20 * ms), share := if p.former then 32 else 0 }) s
        if s.pair.former then s1 else driveHeld false s1)

/-- `CROSSFADE_STEP` (R437, R440): each share moves by 1/32. -/
def execCrossfadeStep (s : State) : Host.Outcome State Fault Refusal :=
  .next (
    if s.pair.fading = false then s
    else if s.pair.former then pairUnit (fun p => { p with share := p.share - 1 }) s
    else
      let n := min 32 (s.pair.share + 1)
      pairUnit (fun p => { p with share := n, fading := p.fading && !(n == 32 && p.st == .activeAlone) }) s)

/-- `HANDOVER_TIME` (R194, R440): at T_h the PAIR_ACT lines exchange; an exchange before its cast point is abandoned. -/
def execHandoverTime (s : State) : Host.Outcome State Fault Refusal :=
  .next (
    match s.pair.handAt with
    | none => s
    | some t =>
      if s.pair.st ≠ .handingOver ∨ s.pair.handed ∨ now s < t then s
      else if s.pair.former then
        let s1 := pairUnit (fun p => { p with handed := true, fading := false, share := 0, actOut := false }) (abandonExchange s)
        hostSwitchover true { s1 with uc := s1.uc.map fun u => if ucMode u = 7 then ucOff u else u }
      else if s.modes.mode ≠ .standby then s
      else
        let s1 := pairUnit (fun p => { p with handed := true, fading := false, share := 32, actOut := true, lastTrigger := 3 }) (abandonExchange s)
        let s2 := driveHeld true { s1 with modes := { s1.modes with mode := takenMode s1, pending := none } }
        let s3 := takeoverUnits 3 (loopsTakeover s2)
        toStandby (.ownerCount s3.net.owner) s3)

/-- `HANDOVER_END` (R438, R440): 1 ms later the former active module's digital outputs are off. -/
def execHandoverEnd (s : State) : Host.Outcome State Fault Refusal :=
  .next (
    match s.pair.handAt with
    | none => s
    | some t =>
      if now s < t + ms ∨ operating s = false then s
      else if s.pair.st = .demoting then endRelease s
      else if s.pair.st ≠ .handingOver ∨ s.pair.handed = false then s
      else
        let s1 := pairUnit (fun p => { p with lastTrigger := 3, lastSwitchover := t }) s
        if s.pair.former then audit 0x0C04 srcPair 0 [] (endRelease s1)
        else
          audit 0x0C02 srcPair 0 [] (pairUnit (fun p =>
            { p with st := .activePaired, handAt := none, handed := false, former := false, share := 32 }) s1))

/-- `VERIFICATION_RESUME` (R436, R440): output verification resumes. -/
def execVerificationResume (s : State) : Host.Outcome State Fault Refusal :=
  .next (match s.pair.verifyAt with
    | some t => if t ≤ now s then pairUnit (fun p => { p with verifyAt := none }) s else s
    | none => s)

/-- A time rounded up to the whole millisecond (R439). -/
def ceilMs (t : Nat) : Nat := (t + ms - 1) / ms * ms

/-- What stands against a `PAIR_SWITCHOVER`, in the order of R439. -/
def switchoverRefused (force : Bool) (at_ : Nat) (role : Nat) (s : State) : Option Nat :=
  if (if force then s.modes.mode != .standby else !operating s) then some stWrongMode
  else if !roleIncludes role (if force then 5 else 3) then some stAuthRequired
  else if force then
    (if (s.pair.st ≠ .catchingUp ∧ s.pair.st ≠ .outOfStep) ∨ s.pair.partnerLost = false then some stRefusedState else none)
  else if s.pair.st = .handingOver then some stBusy
  else if s.pair.st ≠ .activePaired then some stRefusedState
  else if s.prog.st ≠ .idle ∨ s.cpl.handover ∨ s.cpl.attach.isSome then some stBusy
  else if at_ ≠ 0 ∧ at_ < now s + 20 * ms then some stInconsistent
  else none

/-- `PAIR_SWITCHOVER` (R434, R439, R440). -/
def execPairSwitchover (m : MbxId) (s : State) : Host.Outcome State Fault Refusal :=
  .next (runCommand 0x0C02 m (fun q t =>
    let force := bit (fld32 q.pay 8) 0
    match switchoverRefused force (fld64 q.pay 0) (roleOf q t) t with
    | some x => (t, st x)
    | none =>
      if auditRoom t = false then (t, st stBusy)
      else if force then
        let t0 := pairUnit (fun p => { p with lastTrigger := 4, lastSwitchover := now t }) t
        let t1 := record sevAlarm 0x0C01 srcPair (le 1 4) (audit 0x0C01 srcPair (reqSession q t) [] t0)
        ({ t1 with modes := { t1.modes with
            plan := some (t1.modes.plan.getD { origin := .forced, cold := false, target := none, at_ := now t + 10 * ms, wasRun := false }) } },
          { status := stAccepted, pay := le 8 0 })
      else
        let at_ := if fld64 q.pay 0 = 0 then ceilMs (now t + 50 * ms) else fld64 q.pay 0
        let t1 := emit (.control (.plannedHandover at_)) (pairUnit (fun p =>
          { p with st := .handingOver, handAt := some at_, former := true, handed := false, fading := false, share := 32 }) t)
        (t1, { status := stAccepted, pay := le 8 at_ })) s)

/-! ## Status (R446, R447, R522, R523) -/

/-- Heartbeats arrive on a link: the last one lies within three periods (R433, R447). -/
def hbOn (t : Nat) (x : Option Nat) : Bool := x.elim false fun a => decide (t < a + 1550 * us)

/-- `DB_LINK` at module time `t` (R447). -/
def dbLink (t : Nat) (p : Pair) : Nat :=
  atBit p.up[0] 0 + atBit p.up[1] 1 + atBit (hbOn t p.hb[0]) 2 + atBit (hbOn t p.hb[1]) 3 + atBit p.lost[0] 4 + atBit p.lost[1] 5

/-- The catch-up is suspended: the commit stream is too fast, or a lane of the active module is resynchronised (R443). -/
def catchupHeld (s : State) : Bool := s.pair.suspended || (isActive s && partnerCatching s && s.cpl.active)

/-- `DB_STATUS` (R446). -/
def dbStatus (s : State) : Nat :=
  let p := s.pair
  atBit p.position 1 + atBit p.actOut 2 + atBit p.actIn 3 + atBit p.liveStale 4 + atBit p.stepLost 5 + atBit p.actConflict 6 +
    atBit p.hbLost 7 + atBit (catchupHeld s) 8 + p.progress.toNat * 2 ^ 18 + pairCode p.st * 2 ^ 28

/-- A write of `DB_STATUS`: its W1C bits (R446). -/
def dbStatusWrite (v : Word) (p : Pair) : Pair :=
  { p with
    stepLost := p.stepLost && !v.getLsbD 5, actConflict := p.actConflict && !v.getLsbD 6, hbLost := p.hbLost && !v.getLsbD 7 }

/-- A write of `DB_LINK`: its W1C bits (R447). -/
def dbLinkWrite (v : Word) (p : Pair) : Pair :=
  { p with lost := (p.lost.set 0 (p.lost[0] && !v.getLsbD 4)).set 1 (p.lost[1] && !v.getLsbD 5) }

/-- `PAIR_STATUS` (R522). -/
def execPairStatus (m : MbxId) (s : State) : Host.Outcome State Fault Refusal :=
  .next (readCommand 0x0C01 m (fun _ t =>
    let p := t.pair
    let h := if p.partnerLost then none else p.partner
    ok (le 1 (pairCode p.st) ++ le 1 (h.elim 0xFF (·.state)) ++ le 1 (b2n p.position) ++ le 1 (dbLink (now t) p % 16) ++
      le 2 t.net.owner.toNat ++ zeros 2 ++ le 2 (reach t) ++ le 2 (h.elim 0 (·.reach)) ++ le 2 p.progress.toNat ++ zeros 2 ++
      le 8 (h.elim 0 (·.imageId.toNat)) ++ le 8 (h.elim 0 (·.activeImageId.toNat)) ++ le 4 (h.elim 0 (·.fw.toNat)) ++
      le 1 p.lastTrigger ++ zeros 3 ++ le 8 p.lastSwitchover ++
      le 8 (if p.st = .handingOver then p.handAt.getD 0 else 0))) s)

/-- `PAIR_RESYNC` (R523). -/
def execPairResync (m : MbxId) (s : State) : Host.Outcome State Fault Refusal :=
  .next (runCommand 0x0C03 m (fun _ t =>
    let h := if t.pair.partnerLost then none else t.pair.partner
    match h with
    | none => (t, st stRefusedState)
    | some x =>
      if x.state = 3 then (t, st stBusy)
      else if x.state = 5 then (emit (.control .resync) t, ok [])
      else (t, st stRefusedState)) s)

end Sys2Proof.Machine
end

