-- ==== Sys2Proof/Machine/Firmware.lean ====
section
/-! DEFINITION. The firmware image, its checks and its update (R545 to R556). -/

namespace Sys2Proof.Machine

/-- Changes the firmware store. -/
def fwMod (f : Firmware → Firmware) (s : State) : State := { s with fw := f s.fw }

/-- FW_VERSION of an image (R546). -/
def fwImageVersion (m : Mem) : Nat := imN m 0x08 4

/-- PAIR_PROTOCOL of an image (R546). -/
def fwImageProtocol (m : Mem) : Nat := imN m 0x0C 2

/-- RETAINED_FORMAT of an image (R546). -/
def fwImageFormat (m : Mem) : Nat := imN m 0x0E 2

/-- SECURITY_VERSION of an image (R546). -/
def fwImageSecurity (m : Mem) : Nat := imN m 0x10 4

/-- The entries of the component directory: kind, offset and size (R547). -/
def fwComponents (m : Mem) : List (Nat × Nat × Nat) :=
  (List.range 6).map fun i =>
    let e := imN m 0x1C 4 + 32 * i
    (imN m e 1, imN m (e + 4) 4, imN m (e + 8) 4)

/-- Check 3 of R552: MAGIC, FORMAT, IMAGE_SIZE as given, every offset and size within it, and one component of each kind. -/
def fwFormatOk (m : Mem) (size : Nat) : Bool :=
  imN m 0 4 == 0x4D465359 && imN m 4 2 == 0x0100 && imN m 0x14 4 == size && decide (0x100 ≤ size) && imN m 0x18 2 == 6 &&
  decide (imN m 0x1C 4 + 192 ≤ size) &&
  (fwComponents m).all (fun c => decide (1 ≤ c.2.2) && decide (c.2.1 + c.2.2 ≤ size)) &&
  (List.range' 1 6).all fun k => ((fwComponents m).filter fun c => c.1 == k).length == 1

/-- An image is authentic (R548): signed with a firmware-signing key (key 1), its body as its digest says, and its security version
not below the minimum. -/
def fwAuthentic (m : Mem) (s : State) : Bool :=
  let size := imN m 0x14 4
  Config.ecdsaVerify 1 (Config.sha384 (memReadN m 0 0x50)) (memReadN m 0x50 96) &&
  Config.sha384 (memReadN m 0x100 (size - 0x100)) == BitVec.ofNat 384 (unle (memReadN m 0x20 48)) &&
  decide (s.fw.minSecurity ≤ fwImageSecurity m)

/-- RESULT of `UPD_VERIFY` (R552): the first check that fails; 0 when all pass. -/
def fwResult (s : State) : Nat :=
  let m := s.fw.staged
  if s.fw.st ≠ 2 ∧ s.fw.st ≠ 3 then 1
  else if Config.sha384 (memReadN m 0 s.fw.size) ≠ s.fw.digest then 2
  else if fwFormatOk m s.fw.size = false then 4
  else if fwAuthentic m s = false then 3
  else 0

/-- The image declares a retained format other than the running firmware's (R452, R552). -/
def fwFormatChange (m : Mem) (s : State) : Bool := fwImageFormat m != fwImageFormat (runImage s)

/-- The staging area is released (R550). -/
def fwRelease (f : Firmware) : Firmware := { f with st := 0, staged := [], covered := [], size := 0, digest := 0 }

/-- The bank that is not CONFIRMED. -/
def otherBank (f : Firmware) : Fin 2 := if f.confirmed = 0 then 1 else 0

/-! ## The commands (R551 to R554) -/

/-- `UPD_BEGIN` (R551). -/
def execUpdBegin (m : MbxId) (s : State) : Host.Outcome State Fault Refusal :=
  .next (runCommand 0x0A01 m (fun q t =>
    let n := fld32 q.pay 0
    if n = 0 ∨ 0x10000000 < n then (t, st stInconsistent)
    else if t.fw.st ≠ 0 then (t, st stBusy)
    else if ownerLocked t then (t, st stRefusedState)
    else
      let id := (t.fw.id + 1) % 2 ^ 32
      let digest := BitVec.ofNat 384 (unle (slice q.pay 8 48))
      (fwMod (fun f => { f with st := 1, id := id, size := n, digest := digest, staged := [], covered := [] }) t,
        ok (le 4 id))) s)

/-- `UPD_BLOCK` (R551). -/
def execUpdBlock (m : MbxId) (s : State) : Host.Outcome State Fault Refusal :=
  .next (runCommand 0x0A02 m (fun q t =>
    let off := fld32 q.pay 4
    let n := fld32 q.pay 8
    if fld32 q.pay 0 ≠ t.fw.id ∨ (t.fw.st ≠ 1 ∧ t.fw.st ≠ 2) then (t, st stInconsistent)
    else if n = 0 then (t, st stLengthZero)
    else if 65536 < n then (t, stDetail stBadLength 65536)
    else if t.fw.size < off + n then (t, stDetail stBadLength t.fw.size)
    else if q.count ≠ 0 ∧ claimRoom q < n then (t, stDetail stBadLength (claimRoom q))
    else
      let cov := addRange off (off + n) t.fw.covered
      let full := decide (t.fw.size ≤ coveredTo cov)
      let img := memWriteN t.fw.staged off (inlineOrC q 12 n t)
      (fwMod (fun f => { f with staged := img, covered := cov, st := if full then 2 else f.st }) t,
        ok (le 4 (min t.fw.size (coveredTo cov))))) s)

/-- `UPD_VERIFY` (R552): a failure in VERIFIED returns the update to STAGED. -/
def execUpdVerify (m : MbxId) (s : State) : Host.Outcome State Fault Refusal :=
  .next (runCommand 0x0A03 m (fun q t =>
    if fld32 q.pay 0 ≠ t.fw.id then (t, st stInconsistent)
    else
      let r := fwResult t
      let pay := le 1 r ++ zeros 3 ++ le 4 (fwImageVersion t.fw.staged) ++ le 1 (b2n (fwFormatChange t.fw.staged t)) ++ zeros 3
      if r = 0 then (fwMod (fun f => { f with st := 3 }) t, ok pay)
      else
        (fwMod (fun f => { f with st := if f.st = 3 then 2 else f.st }) t, { status := stInconsistent, pay := pay })) s)

/-- The rows of R553 that hold, as a mask: bit n − 1 for row n. -/
def activateRows (startNow : Bool) (s : State) : List (Nat × Bool) :=
  let alone := operating s && (s.pair.st == .unpaired || s.pair.st == .activeAlone)
  let beats := s.pair.partner.isSome && !s.pair.partnerLost
  [(1, ownerLocked s), (2, s.modes.manoeuvring), (3, s.plinth.battLow), (4, alone),
   (5, beats && fwImageProtocol s.fw.staged != pairProtocol s),
   (6, startNow && (s.pair.st == .activePaired || s.pair.st == .handingOver))]

/-- `UPD_ACTIVATE` (R553): the update becomes PENDING; with START_NOW a warm start begins 10 ms later. -/
def execUpdActivate (m : MbxId) (s : State) : Host.Outcome State Fault Refusal :=
  .next (runCommand 0x0A04 m (fun q t =>
    let override_ := bit (fld32 q.pay 4) 0
    let now_ := bit (fld32 q.pay 4) 1
    let waivable (n : Nat) : Bool := n == 4 || n == 5
    let held := (activateRows now_ t).filter (·.2)
    let refusing := held.filter fun r => !(override_ && waivable r.1)
    if fld32 q.pay 0 ≠ t.fw.id then (t, st stInconsistent)
    else if override_ ∧ roleOf q t ≠ 5 then (t, st stAuthRequired)
    else if t.fw.st ≠ 3 then (t, st stRefusedState)
    else
      match refusing.head? with
      | some r => (t, stDetail stRefusedState r.1)
      | none =>
        if auditRoom t = false then (t, st stBusy)
        else
          let waived := (held.map fun r => 2 ^ (r.1 - 1)).sum
          let data := le 1 (roleOf q t) ++ le 1 waived ++ zeros 2 ++ le 4 (fwImageVersion t.fw.staged)
          let t1 := audit 0x1004 (srcUnit 8) (reqSession q t) data (fwMod (fun f => { f with st := 4 }) t)
          if now_ then
            let plan : StartPlan := { origin := .update, cold := false, target := none, at_ := now t + 10 * ms, wasRun := false }
            ({ t1 with modes := { t1.modes with plan := some (t1.modes.plan.getD plan) } }, st stAccepted)
          else (t1, ok [])) s)

/-- `UPD_CANCEL` (R550): a pending activation is withdrawn, or the staged update released. -/
def execUpdCancel (m : MbxId) (s : State) : Host.Outcome State Fault Refusal :=
  .next (runCommand 0x0A05 m (fun q t =>
    if fld32 q.pay 0 ≠ t.fw.id then (t, st stInconsistent)
    else if t.fw.st = 4 then (fwMod (fun f => { f with st := 3 }) t, ok [])
    else if t.fw.st = 1 ∨ t.fw.st = 2 ∨ t.fw.st = 3 ∨ t.fw.st = 7 then (fwMod fwRelease t, ok [])
    else (t, st stInconsistent)) s)

end Sys2Proof.Machine
end

