-- ==== Sys2Proof/Machine/Boot.lean ====
section
/-! DEFINITION. The entry to BOOT, what survives it, and the steps of a start up to the lanes (R450, R452 to R459, and the rules that
say what a start does to each unit). -/

namespace Sys2Proof.Machine

/-! ## Entry to BOOT: what survives (R450, R535) -/

/-- A start that software began: power and the processors' memory stay. -/
def softStart (o : StartFrom) : Bool :=
  match o with
  | .request | .update | .forced => true
  | .power | .reset | .watchdog => false

/-- The recorder at a start: the store stays, and the staged records where the management memory did. -/
def recorderBoot (soft : Bool) (r : Recorder) : Recorder :=
  { recorderReset with
    segs := r.segs
    next := r.next
    clearAt := r.clearAt
    reserve := if soft then r.reserve else []
    general := if soft then r.general else []
    waiting := if soft then r.waiting else [] }

/-- The power sequencer at a start: its registers take their reset values where it was reset, and its live fields follow the feeds
(R37). -/
def powerBoot (soft : Bool) (p : Power) : Power :=
  if soft then { p with lane := .replicate 3 .off }
  else
    { powerReset with
      powerFail := p.powerFail
      feedAOk := p.feedAOk
      feedBOk := p.feedBOk
      refOutside := p.refOutside
      lines := p.lines
      dieTemp := p.dieTemp }

/-- A lane at a start: unpowered; UNUSABLE and its exclusions are kept in persistent memory (R61). -/
def laneBoot (x : LaneUnit) : LaneUnit :=
  { laneUnitReset with
    st := if x.st = .unusable then .unusable else .off
    exclusions := x.exclusions
    bistPassed := x.bistPassed }

/-- The Coupler at a start: the requested configuration is kept (R61, R71). -/
def couplerBoot (c : Coupler) : Coupler :=
  { couplerReset with
    requested := c.requested
    namedSpare := c.namedSpare
    lane := c.lane.map laneBoot }

/-- A panel at a start: its waveform set and its checkpoint are persistent (R406, R418). -/
def panelBoot (q : Panel) : Panel :=
  { panelReset with
    waves := q.waves
    savedPix := q.savedPix
    savedValid := q.savedValid
    intents := q.intents }

/-- The pair at a start: the levels at its pins and links stay, and what `PAIR_STATUS` reports of the last switchover. -/
def pairBoot (p : Pair) : Pair :=
  { pairReset with
    up := p.up
    actIn := p.actIn
    liveStale := p.liveStale
    lastTrigger := p.lastTrigger
    lastSwitchover := p.lastSwitchover }

/-- A safety function at a start: the degraded timer's start is in the configuration area (R306). -/
def funcBoot (f : Func) : Func := { funcReset with timer := f.timer }

/-- Modes at a start: the security unit's state and the inputs stay. -/
def modesBoot (p : StartPlan) (s : State) : Modes :=
  { modesReset with
    mode := .boot
    start := some p
    bootAt := s.plinth.ticks
    unreported := s.modes.unreported
    life := s.modes.life
    lockCmd := s.modes.lockCmd
    lockInput := s.modes.lockInput
    manoeuvring := s.modes.manoeuvring
    health := s.modes.health.filter fun e => decide (e.1 < 3) && e.2.health == 3
    compat := s.modes.compat
    identity := s.modes.identity
    roleCreds := s.modes.roleCreds
    pairCred := s.modes.pairCred
    signingKey := s.modes.signingKey }

/-- The machine as it enters BOOT. -/
def bootState (p : StartPlan) (s : State) : State :=
  let soft := softStart p.origin
  { State.reset with
    recorder := recorderBoot soft s.recorder
    host := { hostIfReset with storedEpoch := s.host.storedEpoch }
    time := { timeUnitReset with storedSession := s.time.storedSession }
    plinth := s.plinth
    power := powerBoot soft s.power
    cpl := couplerBoot s.cpl
    retained := { retainedReset with
      slots := s.retained.slots, rings := s.retained.rings, lastSlot := s.retained.lastSlot, nextSeq := s.retained.nextSeq }
    image := { imageReset with forces := s.image.forces }
    pub := { publisherReset with stored := s.pub.stored }
    prog := { programsReset with slot := s.prog.slot, record := s.prog.record }
    loop := { loopEngineReset with check := s.loop.check }
    dig := s.dig.map fun d => { digReset with pin := d.pin }
    cj := s.cj
    safety := { safetyReset with
      func := tabMap funcReset (fun _ f => funcBoot f) s.safety.func
      password := s.safety.password, failures := s.safety.failures, lockout := s.safety.lockout
      log := s.safety.log, nextSeq := s.safety.nextSeq, chain := s.safety.chain }
    net := { networkReset with mac := s.net.mac, owner := s.net.owner, given := s.out.length }
    panel := s.panel.map panelBoot
    pair := pairBoot s.pair
    modes := modesBoot p s
    cfg := { configAreaReset with
      cur := s.cfg.cur, configId := s.cfg.configId, valid := s.cfg.valid, nextSession := s.cfg.nextSession
      mirror := s.cfg.mirror, assign := s.cfg.assign }
    fw := s.fw
    out := s.out
    fresh := s.fresh
    pending := s.pending }

/-- A plan without a request. -/
def plainStart (o : StartFrom) : StartPlan := { origin := o, cold := false, target := none, at_ := 0, wasRun := false }

/-- The plan of the start in progress. -/
def startPlan (s : State) : StartPlan := s.modes.start.getD (plainStart .power)

/-! ## Start accounting (R458 to R460) -/

/-- A word of the backup memory. -/
def bkpWord (i : Nat) (s : State) : Word := vget 0 s.plinth.bkp i

/-- Whole seconds of Plinth time (R458). -/
def plinthSeconds (s : State) : Word := s.plinth.ticks.extractLsb' 15 32

/-- Writes a bit of BKP_2 with a new CHECK. -/
def bkp2Bit (i : Nat) (v : Bool) (s : State) : State :=
  let w := (bkpWord 2 s).toNat
  bkpWrite 2 (BitVec.ofNat 32 (w - atBit (bit w i) i + atBit v i)) s

/-- BKP_2.IN_PROGRESS. -/
def startInProgress (s : State) : Bool := bit (bkpWord 2 s).toNat 31

/-- BKP_2.LOCKOUT. -/
def startLockout (s : State) : Bool := bit (bkpWord 2 s).toNat 30

/-- record_failure (R459): a third failure within 600 s enters the lockout, with an ALARM (R460). -/
def recordFailure (s : State) : State :=
  let t := plinthSeconds s
  let older := bkpWord 3 s
  let lock := older != 0 && decide ((t - older).toNat ≤ 600)
  let s1 := if lock ∧ startLockout s = false then record sevAlarm 0x0E81 (srcUnit 8) [] (bkp2Bit 30 true s) else s
  let s2 := bkpWrites 3 [bkpWord 4 s1, t] s1
  { s2 with modes := { s2.modes with unreported := s2.modes.unreported + 1 } }

/-- The trial image's start failed: the TRIAL mark is discarded and the update is REVERTED (R550, R556).  Retained state is of the trial
image's format now, so that the next start is cold where the CONFIRMED bank has another (R452, R556). -/
def trialFailed (s : State) : State :=
  if s.fw.trial then
    let s1 := fwMod (fun f => { f with
      trial := false, running := f.confirmed, st := 7, lastFormat := fwImageFormat (vget [] f.bank (otherBank f).val) }) s
    record sevAlarm 0x1007 (srcUnit 8) [] (audit 0x1007 (srcUnit 8) 0 [] s1)
  else s

/-- A start that ends in SAFE: the host interface opens with its next epoch (R472). -/
def openHost (s : State) : State :=
  let e := if s.host.storedEpoch + 1 = 0 then 1#32 else s.host.storedEpoch + 1
  if s.host.open_ then s
  else raiseIrq 16 { s with host := { s.host with epoch := e, storedEpoch := e, open_ := true, flags := [], window := [] } }

/-- A start fails (R459): the failure is recorded, IN_PROGRESS clears, and the module enters SAFE. -/
def failStart (s : State) : State :=
  openHost (enterSafe (bkp2Bit 31 false (recordFailure (trialFailed s))))

/-! ## Step 1: the Plinth and the type of the start (R396, R452, R458) -/

/-- The Plinth is checked (R396). -/
def plinthCheck (s : State) : State :=
  if s.plinth.retainLost then
    record sevWarning 0x0A03 (srcUnit 8) [] (plinthMod (fun p => { p with bkp := bkpInitial, retainLost := false }) s)
  else if bkpValid s.plinth.bkp then s
  else record sevWarning 0x0A03 (srcUnit 8) [] (plinthMod (fun p => { p with bkp := bkpInitial }) s)

/-- The copy of a pending image is deferred in a recovery while manoeuvring (R554). -/
def copyDeferred (p : StartPlan) (s : State) : Bool :=
  s.fw.st == 4 && s.modes.manoeuvring && p.origin != .request && p.origin != .update

/-- Whether a start is cold (R452): as its request says, or where no warm one is possible. `unended` says that the last start did
not complete. -/
def startCold (p : StartPlan) (unended : Bool) (s : State) : Bool :=
  if p.origin = .request then p.cold
  else
    let copied := !copyDeferred p s && (s.fw.st == 4 || s.fw.st == 5)
    let img := if copied then s.fw.staged
      else vget [] s.fw.bank (if s.fw.trial then otherBank s.fw else s.fw.confirmed).val
    (slotIn .active s).isNone || !s.cfg.valid || (unended && bit (bkpWord 2 s).toNat 29) || fwImageFormat img != s.fw.lastFormat

/-- Accounting at step 1 (R459). -/
def accountStart (cold : Bool) (s : State) : State :=
  let s1 := if startInProgress s then trialFailed (recordFailure s) else s
  let w := (bkpWord 2 s1).toNat
  bkpWrite 2 (BitVec.ofNat 32 (0x80000000 + atBit (bit w 30) 30 + atBit cold 29 + (w + 1) % 65536)) s1

/-! ## Step 1, and the entry to BOOT -/

/-- The flags of alarms that a start finds; those that a power start finds were set while main power was absent (R391). -/
def startAlarms (s : State) : State :=
  let main := (startPlan s).origin != .power
  noticeAlarm 1 main (noticeAlarm 0 main s)

/-- The power sequencer's first sample after its reset (R37): the converters are in regulation, and the feeds as they stand.  Where no row
has told which feed is present, one of them is, and which is left open: a free value (log 172). -/
def firstSample (s : State) : State :=
  let s1 := powerMod (fun p => { p with barrierOk := true }) s
  if s.power.feedAOk || s.power.feedBOk || s.power.powerFail then s1
  else
    let v := freeValue s1
    nextFree (powerMod (fun p => { p with feedAOk := v.getLsbD 0, feedBOk := v.getLsbD 1 || !v.getLsbD 0 }) s1)

/-- Step 1 of a start (R17, R37, R391, R396, R452, R458, R459): the power sequencer samples, the clock rises, the Plinth is checked, the
type of the start is settled, and the start is counted. -/
def stepOne (s0 : State) : State :=
  let s := demandClock .start (firstSample s0)
  let lost := s.plinth.retainLost
  let s1 := startAlarms (plinthCheck s)
  let cold := startCold (startPlan s) (startInProgress s1) s1
  let s2 := accountStart cold s1
  { s2 with modes := { s2.modes with begun := some (cold, lost) } }

/-- A start begins: the module enters BOOT (R450), and step 1 follows at once. RUN at that moment is what LAST restores; a start
that interrupts another, or main power lost before, keeps what that one found (R453). -/
def enterBoot (p : StartPlan) (s : State) : State :=
  let run := s.modes.mode == .run ||
    ((s.modes.mode == .boot || s.modes.mode == .plinth) && s.modes.start.elim false (·.wasRun))
  stepOne (bootState { p with wasRun := run, at_ := 0 } s)

/-! ## Steps 2 and 3: firmware (R545, R554, R555) -/

/-- The bank loaded at step 2: the TRIAL bank where there is one. -/
def loadBank (s : State) : State := fwMod (fun f => { f with running := if f.trial then otherBank f else f.confirmed }) s

/-- The pending image is copied into the bank that is not CONFIRMED and checked; the copy is deferred in a recovery while
manoeuvring (R554, R555). -/
def copyFirmware (p : StartPlan) (s : State) : State :=
  if s.fw.st ≠ 4 ∧ s.fw.st ≠ 5 then s
  else if copyDeferred p s then record sevWarning 0x1004 (srcUnit 8) [] s
  else
    let img := s.fw.staged
    let s1 := fwMod (fun f => { f with bank := f.bank.set (otherBank f) img }) s
    if fwAuthentic img s1 then
      audit 0x1006 (srcUnit 8) 0 (le 4 (fwImageVersion img))
        (fwMod (fun f => { f with trial := true, running := otherBank f, st := 6 }) s1)
    else record sevAlarm 0x1003 (srcUnit 8) [] (fwMod (fun f => { f with st := 3 }) s1)

/-! ## Step 4: BIST and the health map (R455, R457) -/

/-- A lane is UNUSABLE after its BIST failed (R457, R63). -/
def laneUnusable (l : Lane) (s : State) : State :=
  record sevAlarm 0x0209 (srcUnit (laneNo l)) [] (setHealth (laneNo l) 3 1 (laneMod l (fun x => { x with st := .unusable, bistPassed := false }) s))

/-- A failing unit is marked (R457). -/
def bistMark (cause : Nat) (s : State) (u : Nat) : State :=
  let t := setHealth u 2 cause s
  let alarm (t : State) : State := record sevAlarm 0x060F (srcUnit u) [] t
  if 0x10 ≤ u ∧ u < 0x20 then alarm (ucMod (u - 0x10) (fun x => { ucOff x with st := .failed, status := mkStatus 0 0x0F }) t)
  else if 0x20 ≤ u ∧ u < 0x24 then
    alarm (groupMod (u - 0x20) (fun x => { x with failed := true })
      ((groupChans (u - 0x20)).foldl (fun v c => digMod c (fun d => { digOff d with st := .failed }) v) t))
  else if u = 0x0F then alarm t
  else if 0x24 ≤ u ∧ u ≤ 0x32 then record sevWarning 0x0800 (srcUnit u) [] t
  else if 0x0C ≤ u ∧ u ≤ 0x0E then record sevWarning 0x0B00 (srcUnit u) [] t
  else t

/-- The lanes that fail with their unit or their loop engine copy, or are UNUSABLE already (R457). -/
def lanesFailing (us : List Nat) (s : State) : List Lane :=
  lanes.filter fun l => (laneAt l s).st == .unusable || us.contains (laneNo l) || us.contains (5 + laneNo l)

/-- Units without which a start fails (R457). -/
def fatalUnits : List Nat := [0x03, 0x04, 0x08, 0x09, 0x0A, 0x0B]

/-- The units BIST found failing: those of the groups completed in this start, and those of the last. -/
def bistFailing (failed : List Nat) (s : State) : List Nat :=
  (((s.modes.health.filter fun e => e.2.cause == 1 && e.2.health == 2).map (·.1)) ++ failed).eraseDups

/-- The outcome of BIST: the state with the failing units marked, and whether the start fails. -/
def bistOutcome (failed : List Nat) (s : State) : State × Bool :=
  let us := (bistFailing failed s).filter fun u => decide (u ≤ 0x32)
  let bad := lanesFailing us s
  let s1 := (us.filter fun u => decide (3 ≤ u)).foldl (bistMark 1) s
  let s2 := (bad.filter fun l => (laneAt l s).st != .unusable).foldl (fun t l => laneUnusable l t) s1
  (s2, decide (2 ≤ bad.length) || us.any fun u => fatalUnits.contains u)

/-! ## Step 8: time (R365, R375) -/

/-- Module time is set, and a new session begins. -/
def startTime (cold lost : Bool) (s : State) : State :=
  let t := if cold || lost then 0 else timeOfTicks s.plinth.ticks.toNat
  timeMod (fun x => { beginSession x with
    acc := BitVec.ofNat 56 (t % 2 ^ 32 * 2 ^ 24)
    wraps := BitVec.ofNat 32 (t / 2 ^ 32)
    valid := !(cold || lost)
    source := BitVec.ofNat 2 (timeSource s)
    servo := .free
    ppsOutEn := ppsOutEnable s
    lastMeasured := t
    lastNotValid := none }) s

/-! ## Steps 9 and 10: programs and retained state (R127, R214) -/

/-- The pages of task `t` as its last complete commits hold them (R127). -/
def savedPages (t : Nat) (ps : List Nat) (s : State) : Tab (List Byte) :=
  ps.foldl (fun m p =>
    match newestRecord (fun r => r.task == t && r.pages.any fun x => x.1 == p) s with
    | some r =>
      match r.pages.find? fun x => x.1 == p with
      | some x => tabSet [] m p (tabGet [] s.retained.slots (2 * p + b2n x.2))
      | none => m
    | none => m) []

/-- The last complete record of a task (R127). -/
def lastRecord (t : Nat) (s : State) : Option CommitRecord := newestRecord (·.task == t) s

/-- Pages over others. -/
def pagesOver (new_ old : Tab (List Byte)) : Tab (List Byte) := new_.foldl (fun m p => tabSet [] m p.1 p.2) old

/-- A task resumes from its last complete commit; without one it keeps its initial values (R127). -/
def restoreTask (s : State) (t : Nat) : State :=
  match lastRecord t s with
  | none => s
  | some r =>
    let ps := savedPages t (taskPages (activeImage s) t) s
    taskMod t (fun k => { k with cycleNo := r.cycle + 1 })
      { s with retained := { s.retained with pages := pagesOver ps s.retained.pages } }

/-- A task's pages as the old program laid them out are converted for the new one, and all are dirty for the first commit (R214). -/
def convertSaved (s : State) (t : Nat) : State :=
  let old := (slotIn .retiring s).elim [] (fun n => slotImage n s)
  let new_ := activeImage s
  let from_ := savedPages t (taskPages old t) s
  let r := (taskInstances new_ t).foldl (fillInstance old new_ [] from_) ([], [], 0)
  let cycle := (lastRecord t s).elim 0 (·.cycle + 1)
  taskMod t (fun k => { k with allDirty := true, cycleNo := cycle })
    { s with
      retained := { s.retained with pages := pagesOver r.2.1 s.retained.pages }
      prog := { s.prog with saturated := tabMod 0 s.prog.saturated t (· + r.2.2) } }

/-- A task at the completion of an exchange at a start (R214): whether its first commit on the new program is held; where it is not, every
page is dirty at that commit (R208). -/
def completeTask (x : ExchRecord) (s : State) (t : Nat) : State :=
  let r := lastRecord t s
  let oldSeq := tabGet 0xFFFFFFFFFFFFFFFF x.lastOldSeq t
  let done (v : Bool) (s : State) : State :=
    taskMod t (fun k =>
      { k with switched := true, onNew := true, allDirty := !v, firstDone := v || taskPages (activeImage s) t == [] }) s
  let oldHas := (imTask ((slotIn .retiring s).elim [] (fun n => slotImage n s)) t).isSome
  if bit x.switched.toNat t ∧ r.elim false (fun r => decide (oldSeq < r.seq)) then done true (restoreTask s t)
  else if oldHas ∧ r.isSome then done false (convertSaved s t)
  else done false s

/-- The instance areas begin with the directory; instance data and retained pages begin with initial values (R110, R456). -/
def initialData (s : State) : State :=
  taskNos.foldl (fun t n => if taskDefined n t then restartData n true t else t) s

/-- Tasks are defined by the ACTIVE program, none released yet. -/
def startTasks (s : State) : State :=
  let t := defineTasks s
  { t with task := t.task.map fun k => { k with next := k.defn.elim 0 fun d => if d.cycle = 0 then 0 else d.offset % d.cycle } }

/-- Steps 9 and 10 (R127, R214): the exchange is completed, abandoned or ended, and the retained state restored. -/
def startPrograms (cold : Bool) (s : State) : State :=
  let x := vget exchRecordReset s.prog.record (exchGoverning s)
  let known := { s with prog := { s.prog with newSlot := x.newSlot, cast := x.cast
                                              forceRelease := bit x.flags 0, safety := bit x.flags 1, table := bit x.flags 2 } }
  let past := x.st == 2 || x.st == 3
  if past && !cold then
    let slots := known.prog.slot.zipIdx.map fun p =>
      if p.2 = x.newSlot then { p.1 with st := .active }
      else if p.1.st = .active ∨ p.1.st = .retiring then { p.1 with st := .retiring } else p.1
    let s1 := initialData (startTasks { known with prog := { known.prog with slot := slots, st := .settling, resumed := true } })
    let s2 := (taskNos.filter fun t => taskDefined t s1).foldl (completeTask x) s1
    settleCheck (writeExchange { s2 with task := s2.task.map fun k => if k.defn.isNone then { k with switched := true } else k })
  else
    let ended := known.prog.slot.map fun p => if past && p.st == .retiring then { p with st := .empty, image := [], covered := [] } else p
    let t := { known with prog := { known.prog with slot := ended, st := .idle } }
    let t1 := if x.st = 0 then t else writeExchange t
    let t2 := if x.st = 1 then record sevWarning 0x0F00 (srcUnit 8) [] t1 else t1
    let t3 := initialData (startTasks t2)
    if cold then t3 else (taskNos.filter fun n => taskDefined n t3).foldl restoreTask t3

/-! ## Step 11: the signal image (R456) -/

/-- An own record from its entry of the publication mirror. -/
def mirrorRec (g : Nat) (e : List Byte) (s : State) : SigRec :=
  let w := fldW e 4
  let reason := if (writerTask g s).isSome then 0x0E else 0
  let status := withReason (withQuality stStale (min 1 (quality w))) reason
  { builtRec g s with
    raw := fldL e 8, value := fldL e 8, stamp := fld64 e 16, srcStatus := status, status := status
    pubValue := fldL e 8, pubStatus := w }

/-- The image at a start, at generation 0. -/
def startImage (cold : Bool) (s : State) : State :=
  let s1 := (signalsIn s.cfg.cur).foldl (fun t g =>
    let e := tabGet [] t.cfg.mirror (sigIndex g)
    putRec g (if !cold && sigOwn g t && e != [] then mirrorRec g e t else builtRec g t) t) s
  stationsFollow { s1 with image := { s1.image with gen := 0 } }

/-! ## Step 12: forces, loops, panels, safety functions (R182, R246, R302, R418) -/

/-- Forces at a start: simulations go; a cold start drops every force, with one AUDIT record that lists them (R182).  A list longer than one
record holds is cut at the record's end (log 170, DESIGN CHOICE). -/
def startForces (cold : Bool) (s : State) : State :=
  let forces := s.image.forces.filter fun p => !p.2.simulate && !p.2.going
  if cold then
    let t := { s with image := { s.image with forces := [] } }
    if forces = [] then t
    else audit 0x0420 (srcUnit 8) 0 (forces.flatMap fun p => le 4 (sigHandle p.2.sig).toNat) t
  else
    let held : Tab ForceSlot := forces.map fun p => (p.1, { p.2 with live := some (p.2.value, p.2.status) })
    let t := { s with image := { s.image with forces := held } }
    held.foldl (fun u p => putRec p.2.sig (layered p.2.sig (sigRec p.2.sig u) u) u) t

/-- A loop at a start (R246): REASON START, the manual value and the output from the present output. -/
def startLoop (saved : Option LoopCheckpoint) (s : State) (c : Nat × List Byte) : State :=
  let r := c.2
  let zero : F64 := match outChannel r with
    | some ch => ucEng (cfgRec 0x0030 ch s) 0
    | none => 0
  let u := fclamp (f32At r 76) (f32At r 80) zero
  let mode : LoopMode :=
    if !loopEnabled r then .off
    else
      match saved with
      | none => .manual
      | some k => if loopFlag r 2 then (tabGet (loopSave loopReset) k.loops c.1).mode else .manual
  let old := saved.map fun k => tabGet (loopSave loopReset) k.loops c.1
  let work := { loopReset.work with
    u := u, rEff := old.elim 0 (·.rEff), target := old.elim 0 (·.target), i := old.elim 0 (·.i), ramping := mode == .auto }
  let x : Loop := { loopReset with
    rcd := r, shadow := r, mode := mode, reason := 0x07, manual := u, work := work, next := firstTick r (now s), manualAt := now s }
  loopMod c.1 (fun _ => x) s

/-- The loop section at a start (R246): a warm start without a valid checkpoint is as a cold one, with a WARNING. -/
def startLoops (cold : Bool) (s : State) : State :=
  let saved := if cold then none else checkNewest s
  let ls := cfgKind s.cfg.cur 0x0040
  let s1 := leMod (fun e => { e with pool := saved.elim [] (·.pool), lastCheck := now s }) s
  let s2 := ls.foldl (startLoop saved) s1
  if !cold && saved.isNone && ls != [] then record sevWarning 0x0507 (srcUnit 5) [] s2 else s2

/-- The safety functions at a start: each FORCED_SAFE, cause START (R302); the degraded timer survives a warm start (R306). -/
def startFuncs (cold : Bool) (s : State) : State :=
  let ns := cfgKind s.cfg.cur 0x0050
  let s1 := ns.foldl (fun t c => funcMod c.1 (fun f =>
    { funcReset with rcd := c.2, st := .operating, timer := if cold then none else f.timer }) t)
    { s with safety := { s.safety with func := tabKeep (fun k => cfgRec 0x0050 k s != []) s.safety.func } }
  ns.foldl (fun t c => forceSafe 0x01 t c.1) s1

/-- The field channels take their records (R251, R272, R345). -/
def startField (s : State) : State :=
  let s1 := (List.range 16).foldl (fun t n =>
    if cfgRec 0x0030 n t = [] ∧ (ucAt n t).st = .disabled then healthFollows (0x10 + n) false t
    else ucConfigure n (cfgRec 0x0030 n t) t) s
  let s2 := (List.range 48).foldl (fun t n => digConfigure n (cfgRec 0x0031 n t) t) s1
  let s3 := (List.range 8).foldl (fun t n =>
    let r := cfgRec 0x0022 n t
    healthFollows (0x28 + n) (r != [] && bit (fld8 r 1) 0) (canConfigure n r t)) s2
  (cfgKind s3.cfg.cur 0x0023).foldl (fun t c => objConfigure (c.1 / 128) (c.1 % 128) c.2 t) s3

/-! ## Step 13: the lanes (R61, R62, R71) -/

/-- The lane configuration a start sets, with a new key of the lanes' signatures, 128 random bits: free values (R53, R61, R62, R71); the
lanes then rest as R20 and R21 say. -/
def startLanes (s : State) : State :=
  let bad := lanesOf .unusable s
  let c : LaneConfig := if bad ≠ [] then .duplex else if s.cpl.requested = .duplex then .duplex else .triplex
  let spare := match c with
    | .duplex => some (duplexSpare s.cpl.namedSpare s)
    | _ => none
  let s1 := lanes.foldl (fun t l =>
    if (laneAt l t).st = .unusable then t
    else lanePower l .deepIdle (laneMod l (fun x => { x with st := if spare = some l then .spare else .inVote }) t)) s
  lanesIdle (capabilityChanged { s1 with
    fresh := s1.fresh + 2
    cpl := { s1.cpl with
      config := c, old := c, spare := spare, main := spare.elim .a duplexMain
      key := Config.freeWord s1.fresh ++ Config.freeWord (s1.fresh + 1) } })

end Sys2Proof.Machine
end

