-- ==== Sys2Proof/Machine/Flags.lean ====
section
/-! DEFINITION. The status registers that gather the flags of a unit, and the flags that a write of 1 clears: the power sequencer,
the Coupler, the loop section, the digital groups and the host interface. -/

namespace Sys2Proof.Machine

/-! ## The power sequencer (R37, R572) -/

/-- The code of a lane's power state (R37). -/
def lanePowerCode : LanePower → Nat
  | .off => 0
  | .deepIdle => 1
  | .lightIdle => 2
  | .active => 3

/-- `PSEQ_STATUS` (R37): POWER_FAIL reads 1 while both feeds are down and the hold-up runs. -/
def pseqStatus (p : Power) : Word :=
  BitVec.ofNat 32 (lanePowerCode p.lane[2] * 2 ^ 22 + lanePowerCode p.lane[1] * 2 ^ 20 + lanePowerCode p.lane[0] * 2 ^ 18 +
    p.mgmtClk.toNat * 2 ^ 16 + atBit p.refFault 7 + atBit (p.powerFail && !p.feedAOk && !p.feedBOk) 6 + atBit p.feedBUnder 5 + atBit p.feedAUnder 4 +
    atBit p.feedBOk 3 + atBit p.feedAOk 2 + atBit p.laneRailFault 1 + atBit p.barrierOk 0)

/-- A write of 1 clears a flag of `PSEQ_STATUS` (R37); REF_FAULT stays set while the reference is still outside its limits (R38). -/
def pseqStatusWrite (v : Word) (p : Power) : Power :=
  { p with
    refFault := p.refFault && (!v.getLsbD 7 || p.refOutside), feedBUnder := p.feedBUnder && !v.getLsbD 5
    feedAUnder := p.feedAUnder && !v.getLsbD 4, laneRailFault := p.laneRailFault && !v.getLsbD 1 }

/-- `PSEQ_TEMP` (R572). -/
def pseqTemp (p : Power) : Word :=
  BitVec.ofNat 32 (atBit p.limit 18 + atBit p.hot 17 + atBit p.warm 16 + p.dieTemp.toNat)

/-- A write of 1 clears a flag of `PSEQ_TEMP` (R572). -/
def pseqTempWrite (v : Word) (p : Power) : Power :=
  { p with hot := p.hot && !v.getLsbD 17, warm := p.warm && !v.getLsbD 16 }

/-! ## The Coupler (R81 to R83) -/

/-- A lane is WITHDRAWN, or a replay journal is active (R81): from its first action on (log 167, DESIGN CHOICE). -/
def debugShown (c : Coupler) : Bool :=
  c.lane.toList.any (fun l => l.st == .withdrawn) || (match c.attach with | some d => !d.journal.isEmpty | none => false)

/-- `CPL_STATUS` (R81). -/
def cplStatus (c : Coupler) : Word :=
  BitVec.ofNat 32 (configCode c.config * 2 ^ 30 + atBit c.handover 29 + atBit (debugShown c) 28 + atBit c.fault 27 +
    laneNo c.main * 2 ^ 25 + (match c.spare with | some l => laneNo l | none => 3) * 2 ^ 23 + c.unresolved.toNat * 2 ^ 12 +
    laneCode c.lane[2].st * 2 ^ 8 + laneCode c.lane[1].st * 2 ^ 4 + laneCode c.lane[0].st)

/-- A write of 1 clears `COUPLER_FAULT` (R81). -/
def cplStatusWrite (v : Word) (c : Coupler) : Coupler := { c with fault := c.fault && !v.getLsbD 27 }

/-- `CPL_EXCLUSIONS` at module time `t` (R82). -/
def cplExclusions (c : Coupler) (t : Nat) : Word :=
  let n (x : LaneUnit) : Nat := min 3 (recentExclusions x t).length
  BitVec.ofNat 32 (n c.lane[2] * 2 ^ 16 + n c.lane[1] * 2 ^ 8 + n c.lane[0])

/-- `CPL_RESYNC` (R83): PROGRESS follows the copy. -/
def cplResync (s : State) : Word :=
  let c := s.cpl
  BitVec.ofNat 32 (laneNo c.target * 2 ^ 30 + laneNo c.source * 2 ^ 28 + atBit c.active 27 + atBit c.suspended 26 + copyProgress s)

/-! ## The loop section (R247, R248) -/

/-- What the copy of a lane does (R247): 0 unpowered, 1 voting, 2 joining, 3 powered and not voting. -/
def copyCode (l : Lane) (s : State) : Nat :=
  let x := laneAt l s
  match x.st with
  | .off | .unusable => 0
  | .excluded => match x.bring with
    | .held => 0
    | _ => 3
  | .resync => 2
  | _ => if (loopVoters (now s) s).contains l then 1 else 3

/-- The loop records in force, by number. -/
def loopRecords (s : State) : List (Nat × List Byte) := s.loop.loops.map fun p => (p.1, p.2.rcd)

/-- `LE_STATUS` (R247). -/
def leStatus (s : State) : Word :=
  BitVec.ofNat 32 (copyCode .c s * 2 ^ 28 + copyCode .b s * 2 ^ 26 + copyCode .a s * 2 ^ 24 + s.loop.unresolved.toNat * 2 ^ 16 +
    min 2000 (loopLoad (loopRecords s) / 1000))

/-- `LOOP_COMMIT` of a loop (R248). -/
def loopCommit (x : Loop) : Word :=
  BitVec.ofNat 32 (atBit x.sched.isSome 19 + x.pend.toNat * 2 ^ 16 + x.gen.toNat)

/-! ## The digital groups (R294, R295) -/

/-- `DG_STATUS` of a group (R294); STATE and FAULT as its state word has them (R276). -/
def dgStatus (g : Nat) (s : State) : Word :=
  let x := groupAt g s
  let w := (stateWord g s).toNat
  BitVec.ofNat 32 (atBit x.failed 28 + atBit x.soeOverflow 27 + atBit x.overload 26 + atBit x.fsUnder 25 + atBit x.fsLow 24 +
    bits w 36 12 * 2 ^ 12 + bits w 0 12)

/-- A write of 1 clears a flag of `DG_STATUS` (R294). -/
def dgStatusWrite (v : Word) (x : DGroup) : DGroup :=
  { x with
    soeOverflow := x.soeOverflow && !v.getLsbD 27, overload := x.overload && !v.getLsbD 26, fsUnder := x.fsUnder && !v.getLsbD 25 }

/-- `DG_SUPPLY` of a group (R295). -/
def dgSupply (x : DGroup) : Word := x.fsVoltage ++ x.current

/-! ## The host interface (R470, R473) -/

/-- `HI_STATUS` (R470). -/
def hiStatus (s : State) : Word :=
  BitVec.ofNat 32 ((s.host.tls.toList.filter (·.isSome)).length * 2 ^ 16 + atBit s.host.open_ 15 + lifeCode s.modes.life * 2 ^ 12 +
    pairCode s.pair.st * 2 ^ 8 + modeCode s.modes.mode)

/-- `MBXn_STATUS` (R473). -/
def mbxStatus (n : Fin 16) (s : State) : Word :=
  let b := s.host.mbx[n]
  BitVec.ofNat 32 (atBit b.protErr 7 + s.host.sess[n].role.toNat * 2 ^ 4 + b.state.toNat)

end Sys2Proof.Machine
end

