-- ==== Sys2Proof/Machine/HostRows.lean ====
section
/-! DEFINITION. What hosts do at the endpoint and over TLS (R467 to R491): doorbells, flags, carriage data, buffers, interrupts, the
time snapshot, resets of the local side, and TLS connections with their messages. -/

namespace Sys2Proof.Machine

/-- Changes the host interface. -/
def hostMod (f : HostIf → HostIf) (s : State) : State := { s with host := f s.host }

/-- A write ignored under R474 or R480 is counted (R469). -/
def countIgnored (s : State) : State :=
  hostMod (fun h => { h with errWrites := if h.errWrites = 0xFFFF then 0xFFFF else h.errWrites + 1 }) s

/-- A flag write rejected under R479 is counted (R469). -/
def countRejected (s : State) : State :=
  hostMod (fun h => { h with errFlags := if h.errFlags = 0xFFFF then 0xFFFF else h.errFlags + 1 }) s

/-- The endpoint answers: main power is present. -/
def endpointUp (s : State) : Bool := mainPower s

/-! ## Mailboxes (R474) -/

/-- The command in a local mailbox's buffer: the header, and the payload as far as PAYLOAD_LENGTH counts it. -/
def commandBuffer (n : Nat) (s : State) : List Byte :=
  let h := memReadN s.host.buffers (n * 8192) 32
  h ++ memReadN s.host.buffers (n * 8192 + 32) (min 4064 (fld32 h 12))

/-- A doorbell write that the mailbox's state does not take sets PROTOCOL_ERROR (R474). -/
def protocolError (n : Fin 16) (s : State) : State := mailboxMod (.loc n) (fun b => { b with protErr := true }) s

/-- `MBX_SUBMIT` (R474, R478). -/
def execMbxSubmit (n : Fin 16) (s : State) : Host.Outcome State Fault Refusal :=
  .next (
    if endpointUp s = false then s
    else if s.host.mbx[n].state = 0 then submit (.loc n) (commandBuffer n.val s) (demandClock .doorbell s)
    else protocolError n (demandClock .doorbell s))

/-- `MBX_ACK` (R474). -/
def execMbxAck (n : Fin 16) (s : State) : Host.Outcome State Fault Refusal :=
  .next (
    if endpointUp s = false then s
    else if s.host.mbx[n].state = 3 then
      mailboxMod (.loc n) (fun b => { b with state := 0, first := 0, count := 0 }) (demandClock .doorbell s)
    else protocolError n (demandClock .doorbell s))

/-- A write of bytes into the mailbox buffers: those within a command buffer whose mailbox is IDLE are taken (R474). -/
def bufferWrite (off : Nat) : List Byte → State → State × Bool
  | [], s => (s, false)
  | b :: bs, s =>
    let n := off / 8192
    let taken := decide (n < 16) && decide (off % 8192 < 4096) && ((vget mailboxReset s.host.mbx n).state == 0)
    let t := if taken then hostMod (fun h => { h with buffers := memWrite h.buffers off b }) s else s
    let r := bufferWrite (off + 1) bs t
    (r.1, r.2 || !taken)

/-- `MAILBOX_BUFFER_WRITE` (R474): a write that is ignored, in whole or in part, is counted. -/
def execMailboxBufferWrite (off : Nat) (data : List Byte) (s : State) : Host.Outcome State Fault Refusal :=
  .next (
    if endpointUp s = false then s
    else
      let r := bufferWrite off data s
      if r.2 then countIgnored r.1 else r.1)

/-! ## Carriages (R479, R480, R483) -/

/-- The ring of a subscription without one of its carriages: what is filled next stays next (R483). -/
def releaseFromRing (k : Nat) (u : Subscription) : Subscription :=
  let ring := u.ring.filter (· != k)
  { u with ring := ring, at_ := if ring.length ≤ u.at_ then 0 else u.at_ }

/-- A flag write of a host that the rules take: a ring continues, or is shortened where the device waits for the carriage (R483). -/
def flagTaken (m : MbxId) (k : Nat) (v : Byte) (s : State) : State :=
  let t := setFlag m k v s
  if v = 2 then subFillAll t
  else
    let subs := t.host.subs.map fun o =>
      match o with
      | some u => if spaceOfSession m u.owner && u.ring[u.at_]? == some k then some (releaseFromRing k u) else some u
      | none => none
    subFillAll (hostMod (fun h => { h with subs := subs }) t)

/-- A host writes a flag (R479). -/
def hostFlag (m : MbxId) (k : Nat) (v : Byte) (s : State) : State :=
  if carriageFlag m k s = 2 ∨ 2 < v.toNat then countRejected s else flagTaken m k v s

/-- `FLAG_WRITE` (R479, R483). -/
def execFlagWrite (k : Fin 4096) (v : Byte) (s : State) : Host.Outcome State Fault Refusal :=
  .next (if endpointUp s then hostFlag (.loc 0) k.val v s else s)

/-- A write of bytes into the carriage window: those within a DEVICE_OWNED carriage are dropped (R480). -/
def windowWrite (a : Nat) : List Byte → State → State × Bool
  | [], s => (s, false)
  | b :: bs, s =>
    let inside := decide (a < 0x10000000)
    let owned := inside && carriageFlag (.loc 0) (a / 65536) s == 2
    let t := if inside && !owned then hostMod (fun h => { h with window := memWrite h.window a b }) s else s
    let r := windowWrite (a + 1) bs t
    (r.1, r.2 || owned)

/-- `CARRIAGE_DATA_WRITE` (R480). -/
def execCarriageDataWrite (addr : Nat) (data : List Byte) (s : State) : Host.Outcome State Fault Refusal :=
  .next (
    if endpointUp s = false then s
    else
      let r := windowWrite addr data s
      if r.2 then countIgnored r.1 else r.1)

/-! ## Interrupts, errors, the time snapshot (R469, R471, R487) -/

/-- A write of `IRQ_ENABLE`: a bit enabled while it is set sends one message (R471). -/
def writeIrqEnable (v : Word) (s : State) : State :=
  let new_ := v &&& 0x7FFFF#32
  let fresh := (List.range 19).filter fun i =>
    bit new_.toNat i && !bit s.host.irqEnable.toNat i && bit s.host.irqStatus.toNat i
  fresh.foldl (fun t i => emit (.msix (irqVector i)) t) (hostMod (fun h => { h with irqEnable := new_ }) s)

/-- `IRQ_ENABLE_WRITE` (R471). -/
def execIrqEnableWrite (v : Word) (s : State) : Host.Outcome State Fault Refusal :=
  .next (if endpointUp s then writeIrqEnable v s else s)

/-- `HI_ERRORS_READ` (R469): the read returns both counts and clears them. -/
def execHiErrorsRead (s : State) : Host.Outcome State Fault Refusal :=
  .next (
    if endpointUp s then
      hostMod (fun h => { h with readValue := h.errWrites ++ h.errFlags, errWrites := 0, errFlags := 0 }) s
    else s)

/-- `TSNAP_LO_READ` (R487). -/
def execTsnapLoRead (s : State) : Host.Outcome State Fault Refusal :=
  .next (
    if endpointUp s then
      let t := now s
      hostMod (fun h =>
        { h with
          readValue := BitVec.ofNat 32 t, tsnapLo := BitVec.ofNat 32 t, tsnapHi := BitVec.ofNat 32 (t / 2 ^ 32)
          tsnapStatus := timeStatus s.time &&& 0xFFFFE040#32 }) s
    else s)

/-! ## Resets of the local side (R484, R486) -/

/-- The local side is reset: its commands are discarded without a response, its DEVICE_OWNED carriages POISONED, its roles lost. -/
def hostReset (s : State) : State :=
  let s1 := hostMod (fun h =>
    { h with mbx := h.mbx.map fun b => if b.state = 1 ∨ b.state = 2 then idleMailbox b else b }) s
  let s2 := (List.finRange 16).foldl (fun t n => loseRole (.loc n) t) s1
  tryResync (poisonAll (.loc 0) s2)

/-- `HOST_RESET` (R486). -/
def execHostReset (s : State) : Host.Outcome State Fault Refusal := .next (if endpointUp s then hostReset s else s)

/-- `PCIE_LINK_LOSS` (R486). -/
def execPcieLinkLoss (s : State) : Host.Outcome State Fault Refusal := .next (if endpointUp s then hostReset s else s)

/-! ## Sessions (R477, R526) -/

/-- `SESSION_TIMEOUT` (R477): 30 min without a command. -/
def execSessionTimeout (x : SessId) (s : State) : Host.Outcome State Fault Refusal :=
  .next (
    let c := sessionOf x s
    if c.role ≠ 0 ∧ c.lastCommand + 1800 * sec ≤ now s then tryResync (loseRole x s) else s)

/-- `LOGIN_LOCKOUT_END` (R526): 15 min after the fifth failure. -/
def execLoginLockoutEnd (user : List Byte) (s : State) : Host.Outcome State Fault Refusal :=
  .next { s with modes := { s.modes with
    loginLocks := s.modes.loginLocks.filter fun p => p.1 != user || decide (now s < p.2) } }

/-! ## TLS (R488 to R491) -/

/-- The listener is open: the host interface is, and the identity keys are not erased (R488). -/
def tlsListens (s : State) : Bool := s.host.open_ && s.modes.identity && mainPower s

/-- A new TLS connection with its mailboxes and carriages. -/
def newTls (number t : Nat) : Tls where
  number := number
  session := { sessionReset with lastCommand := t }
  mbx := .replicate 16 mailboxReset
  flags := []
  data := []
  lastSent := t
  lastReceived := t
  sentRecords := 0
  sendKeys := 0
  recvKeys := 0

/-- `TLS_CONNECT` (R488, R491): accepted into a free place after its handshake, closed when eight are open. -/
def execTlsConnect (certOk : Bool) (s : State) : Host.Outcome State Fault Refusal :=
  .next (
    match s.host.tls.toList.findIdx? (·.isNone) with
    | some i =>
      if tlsListens s && certOk then
        hostMod (fun h =>
          { h with tlsAccepted := h.tlsAccepted + 1, tls := vset h.tls i (some (newTls (h.tlsAccepted + 1) (now s))) }) s
      else s
    | none => s)

/-- The module closes a connection (R489, R491). -/
def endTls (t : Fin 8) (s : State) : State := tryResync (closeTls t s)

/-- A message arrived on an open connection: a record, which demands the clock (R17, R491). -/
def tlsHeard (t : Fin 8) (s : State) : State :=
  demandClock .tlsRecord (tlsMod t (fun c => { c with lastReceived := now s }) s)

/-- `TLS_COMMAND` (R489): a LENGTH outside its row closes the connection; a mailbox that is not IDLE ignores it. -/
def execTlsCommand (t : Fin 8) (mailbox : Byte) (body : List Byte) (s : State) : Host.Outcome State Fault Refusal :=
  .next (
    match s.host.tls[t] with
    | none => s
    | some c =>
      if body.length < 32 ∨ 4096 < body.length ∨ 15 < mailbox.toNat then endTls t s
      else
        let n := Fin.ofNat 16 mailbox.toNat
        let s1 := tlsHeard t s
        if c.mbx[n].state = 0 then submit (.tls t n) body s1 else s1)

/-- A TRANSFER from the host: its data into a host-owned carriage, then the flag (R490). -/
def tlsTransfer (t : Fin 8) (body : List Byte) (s : State) : State :=
  let k := fld16 body 0
  let flag := fld8 body 2
  let off := fld32 body 4
  let n := fld32 body 8
  let m : MbxId := .tls t 0
  if 255 < k ∨ 65536 < off + n ∨ carriageFlag m k s = 2 ∨ 2 < flag then countRejected s
  else flagTaken m k (BitVec.ofNat 8 flag) (carriagePut m (k * 65536 + off) (body.drop 16) s)

/-- `TLS_TRANSFER` (R489, R490). -/
def execTlsTransfer (t : Fin 8) (body : List Byte) (s : State) : Host.Outcome State Fault Refusal :=
  .next (
    match s.host.tls[t] with
    | none => s
    | some _ =>
      if body.length < 16 ∨ 65552 < body.length ∨ fld32 body 8 ≠ body.length - 16 then endTls t s
      else tlsTransfer t body (tlsHeard t s))

/-- `TLS_KEEPALIVE` (R489, R491). -/
def execTlsKeepalive (t : Fin 8) (body : List Byte) (s : State) : Host.Outcome State Fault Refusal :=
  .next (
    match s.host.tls[t] with
    | none => s
    | some _ => if body = [] then tlsHeard t s else endTls t s)

/-- `TLS_KEEPALIVE_SEND` (R491): 10 s after the last message sent. -/
def execTlsKeepaliveSend (t : Fin 8) (s : State) : Host.Outcome State Fault Refusal :=
  .next (
    match s.host.tls[t] with
    | none => s
    | some c => if c.lastSent + 10 * sec ≤ now s then tlsSent t (emit (.tls t.val 5 0 []) s) else s)

/-- `TLS_RECEIVE_TIMEOUT` (R491): 30 s after the last message received. -/
def execTlsReceiveTimeout (t : Fin 8) (s : State) : Host.Outcome State Fault Refusal :=
  .next (
    match s.host.tls[t] with
    | none => s
    | some c => if c.lastReceived + 30 * sec ≤ now s then endTls t s else s)

/-- `TLS_CONNECTION_CLOSED` (R484): the remote side closed the connection. -/
def execTlsConnectionClosed (t : Fin 8) (s : State) : Host.Outcome State Fault Refusal :=
  .next (
    match s.host.tls[t] with
    | none => s
    | some _ => tryResync (hostMod (fun h => { h with tls := vset h.tls t.val none }) (loseRole (.tls t) s)))

/-- `TLS_KEY_UPDATE` (R488): a KeyUpdate received, or the module's own after 2^24 records sent. -/
def execTlsKeyUpdate (t : Fin 8) (received : Bool) (s : State) : Host.Outcome State Fault Refusal :=
  .next (
    match s.host.tls[t] with
    | none => s
    | some c =>
      if received then tlsMod t (fun c => { c with recvKeys := c.recvKeys + 1 }) (tlsHeard t s)
      else if 2 ^ 24 ≤ c.sentRecords then
        emit (.tlsKey t.val) (tlsMod t (fun c => { c with sendKeys := c.sendKeys + 1, sentRecords := 0 }) s)
      else s)

end Sys2Proof.Machine
end

