-- ==== Sys2Proof/Machine/Operands.lean ====
section
/-! DEFINITION. The addressing of registers: what an offset of a register space names, and what a read and a write of it do under
its access code (R10).  The spaces are those of R521 and BAR0 (R468). -/

namespace Sys2Proof.Machine

/-- The space a SPACE code names (R521). -/
def spaceOf : Nat → Option RegSpace
  | 0 => some .pseq
  | 1 => some .coupler
  | 2 => some .loop
  | 3 => some .field
  | 4 => some .network
  | 5 => some .time
  | 6 => some .plinth
  | 7 => some .panel
  | _ => none

/-! ## The network section (R357 to R360, R446, R447) -/

/-- What an offset of the network section names. -/
inductive NetReg where
  | portStatus (n : Nat)
  | portDrops (n : Nat)
  | canStatus (c : Nat)
  | canObject (c m : Nat)
  | dbStatus
  | dbLink
  | reserved
deriving DecidableEq, Repr

/-- The register at an offset of the network section. -/
def netReg (off : Nat) : NetReg :=
  if off % 4 ≠ 0 then .reserved
  else if off < 0x400 then
    (match off % 0x100 with
    | 0 => .portStatus (off / 0x100)
    | 4 => .portDrops (off / 0x100)
    | _ => .reserved)
  else if 0x1000 ≤ off ∧ off < 0x3000 then
    let c := (off - 0x1000) / 0x400
    let r := off % 0x400
    if r = 0 then .canStatus c else if 0x200 ≤ r then .canObject c ((r - 0x200) / 4) else .reserved
  else if off = 0x3000 then .dbStatus
  else if off = 0x3004 then .dbLink
  else .reserved

/-- A read of the network section: the word, and the state after it. -/
def netRead (off : Nat) (s : State) : Word × State :=
  match netReg off with
  | .portStatus n => (netPortStatus n s, s)
  | .portDrops n => (netPortDrops n s, portMod n (fun q => { q with dup := 0, rx := 0 }) s)
  | .canStatus c => (canStatus c s, s)
  | .canObject c m => (canMoStatus c m s, s)
  | .dbStatus => (BitVec.ofNat 32 (dbStatus s), s)
  | .dbLink => (BitVec.ofNat 32 (dbLink (now s) s.pair), s)
  | .reserved => (0, s)

/-- A write of the network section. -/
def netWrite (off : Nat) (v : Word) (s : State) : State :=
  match netReg off with
  | .portStatus n =>
    portMod n (fun q => { q with
      rxOverflow := q.rxOverflow && !v.getLsbD 7
      wrongLan := q.wrongLan && !v.getLsbD 6
      linkLost := q.linkLost && !v.getLsbD 5
      fcsError := q.fcsError && !v.getLsbD 4 }) s
  | .canStatus c =>
    canMod c (fun x => { x with
      conflict := x.conflict && !v.getLsbD 12
      busoffSeen := x.busoffSeen && !v.getLsbD 7
      unmatched := x.unmatched && !v.getLsbD 2 }) s
  | .canObject c m =>
    objMod c m (fun o => { o with
      windowMissed := o.windowMissed && !v.getLsbD 8
      overwritten := o.overwritten && !v.getLsbD 7 }) s
  | .dbStatus => { s with pair := dbStatusWrite v s.pair }
  | .dbLink => { s with pair := dbLinkWrite v s.pair }
  | .portDrops _ | .reserved => s

/-! ## The other spaces -/

/-- A read of the loop section (R247, R248). -/
def loopRegRead (off : Nat) (s : State) : Word × State :=
  if off = 0 then (leStatus s, s)
  else if off = 4 then (s.loop.missed, { s with loop := { s.loop with missed := 0 } })
  else if off = 8 then (s.loop.delayMax, { s with loop := { s.loop with delayMax := 0 } })
  else if 0x100 ≤ off ∧ off < 0x500 ∧ off % 4 = 0 then (loopCommit (loopAt ((off - 0x100) / 4) s), s)
  else (0, s)

/-- A read of the Coupler (R81 to R83, R319). -/
def couplerRead (off : Nat) (s : State) : Word :=
  if off = 0 then cplStatus s.cpl
  else if off = 4 then cplExclusions s.cpl (now s)
  else if off = 8 then cplResync s
  else if 0x400 ≤ off ∧ off < 0x800 ∧ off % 4 = 0 then BitVec.ofNat 32 (sfState ((off - 0x400) / 4) s)
  else 0

/-- A read of the field section (R294, R295). -/
def fieldRead (off : Nat) (s : State) : Word :=
  if off < 0x100 ∧ off % 0x40 = 0 then dgStatus (off / 0x40) s
  else if off < 0x100 ∧ off % 0x40 = 4 then dgSupply (groupAt (off / 0x40) s)
  else 0

/-- A read of the panel section (R420, R421). -/
def panelRead (off : Nat) (s : State) : Word :=
  if off < 0x200 ∧ off % 0x100 = 0 then pnlStatus (off / 0x100) s
  else if off < 0x200 ∧ off % 0x100 = 4 then pnlTemp (off / 0x100) s
  else 0

/-- A read of a register of an internal space: the word, and the state after it (R10, R521). -/
def regRead (x : RegSpace) (off : Nat) (s : State) : Word × State :=
  match x with
  | .pseq => (if off = 0 then pseqStatus s.power else if off = 4 then pseqTemp s.power else 0, s)
  | .coupler => (couplerRead off s, s)
  | .loop => loopRegRead off s
  | .field => (fieldRead off s, s)
  | .network => netRead off s
  | .time => (timeRead off s.time, if off = 0 then timeMod timeLatch s else s)
  | .plinth => (plinthRead off s.plinth, if off = 0 then plinthMod rtcLatch s else s)
  | .panel => (panelRead off s, s)
  | .bar0 => (0, s)

/-! ## BAR0 (R468 to R473) -/

/-- A flag that a write of 1 clears: `IRQ_STATUS` (R471). -/
def irqClear (v : Word) (s : State) : State := hostMod (fun h => { h with irqStatus := h.irqStatus &&& ~~~v }) s

/-- A write of `MBXn_DOORBELL` (R473): SUBMIT and ACK. -/
def doorbellWrite (n : Fin 16) (v : Word) (s : State) : State :=
  let s1 :=
    if v.getLsbD 0 then
      (if s.host.mbx[n].state = 0 then submit (.loc n) (commandBuffer n.val s) s else protocolError n s)
    else s
  if v.getLsbD 1 then
    (if s1.host.mbx[n].state = 3 then mailboxMod (.loc n) (fun b => { b with state := 0, first := 0, count := 0 }) s1
    else protocolError n s1)
  else s1

/-- A write of `MBXn_STATUS`: its W1C bit (R473). -/
def mbxStatusWrite (n : Fin 16) (v : Word) (s : State) : State :=
  mailboxMod (.loc n) (fun b => { b with protErr := b.protErr && !v.getLsbD 7 }) s

/-- A write of four ownership flags (R468, R479). -/
def flagsWrite (k : Nat) (v : Word) (s : State) : State :=
  (List.range 4).foldl (fun t i => hostFlag (.loc 0) (k + i) (v.extractLsb' (8 * i) 8) t) s

/-- A write of BAR0 (R468 to R474): reserved ranges and read-only registers ignore it. -/
def bar0Write (off : Nat) (v : Word) (s : State) : State :=
  if off % 4 ≠ 0 then s
  else if off = 0x10 then irqClear v s
  else if off = 0x14 then writeIrqEnable v s
  else if off = 0x1C then (if v.getLsbD 0 then hostReset s else s)
  else if 0x1000 ≤ off ∧ off < 0x1100 then
    let n := Fin.ofNat 16 ((off - 0x1000) / 0x10)
    if off % 0x10 = 0 then doorbellWrite n v (demandClock .doorbell s) else if off % 0x10 = 4 then mbxStatusWrite n v s else s
  else if 0x2000 ≤ off ∧ off < 0x3000 then flagsWrite (off - 0x2000) v s
  else if 0x8000 ≤ off ∧ off < 0x8030 then hostMod (fun h => { h with msix := memWriteN h.msix (off - 0x8000) (le 4 v.toNat) }) s
  else if 0x20000 ≤ off ∧ off < 0x40000 then
    let r := bufferWrite (off - 0x20000) (le 4 v.toNat) s
    if r.2 then countIgnored r.1 else r.1
  else s

/-- What a read of BAR0 returns, without what such a read clears or latches (R468 to R473, R487). -/
def bar0Read (off : Nat) (s : State) : Word :=
  if off % 4 ≠ 0 then 0
  else if off = 0x00 then 0x49485359#32
  else if off = 0x04 then 0x200#32
  else if off = 0x08 then s.host.epoch
  else if off = 0x0C then hiStatus s
  else if off = 0x10 then s.host.irqStatus
  else if off = 0x14 then s.host.irqEnable
  else if off = 0x18 then s.host.errWrites ++ s.host.errFlags
  else if 0x1000 ≤ off ∧ off < 0x1100 then
    (if off % 0x10 = 4 then mbxStatus (Fin.ofNat 16 ((off - 0x1000) / 0x10)) s else 0)
  else if 0x2000 ≤ off ∧ off < 0x3000 then
    BitVec.ofNat 32 (unle ((List.range 4).map fun i => tabGet 0 s.host.flags (off - 0x2000 + i)))
  else if off = 0x4000 then s.host.tsnapLo
  else if off = 0x4004 then s.host.tsnapHi
  else if off = 0x4008 then s.host.tsnapStatus
  else if 0x8000 ≤ off ∧ off < 0x8030 then BitVec.ofNat 32 (unle (memReadN s.host.msix (off - 0x8000) 4))
  else if 0x20000 ≤ off ∧ off < 0x40000 then BitVec.ofNat 32 (unle (memReadN s.host.buffers (off - 0x20000) 4))
  else 0

/-! ## Any space -/

/-- A write of a register under its access code (R10). -/
def regWrite (x : RegSpace) (off : Nat) (v : Word) (s : State) : State :=
  match x with
  | .pseq =>
    if off = 0 then powerMod (pseqStatusWrite v) s else if off = 4 then powerMod (pseqTempWrite v) s else s
  | .coupler => if off = 0 then { s with cpl := cplStatusWrite v s.cpl } else s
  | .loop => s
  | .field => if off < 0x100 ∧ off % 0x40 = 0 then groupMod (off / 0x40) (dgStatusWrite v) s else s
  | .network => netWrite off v s
  | .time => timeWrite off v s
  | .plinth => plinthMod (plinthWrite off v) s
  | .panel => if off < 0x200 ∧ off % 0x100 = 0 then pnlWrite (off / 0x100) v s else s
  | .bar0 => if endpointUp s then bar0Write off v s else s

/-- Words of a space read in ascending order (R521). -/
def regReads (x : RegSpace) (off : Nat) : Nat → State → List Byte × State
  | 0, s => ([], s)
  | n + 1, s =>
    let r := regRead x off s
    let rest := regReads x (off + 4) n r.2
    (le 4 r.1.toNat ++ rest.1, rest.2)

/-- Words of a space written in ascending order (R521). -/
def regWrites (x : RegSpace) (off : Nat) : List Byte → Nat → State → State
  | _, 0, s => s
  | ws, n + 1, s => regWrites x (off + 4) (ws.drop 4) n (regWrite x off (fldW ws 0) s)

/-- `REGISTER_WRITE` (R10): a write to a register acts under its access code. -/
def execRegisterWrite (space : RegSpace) (off : Nat) (v : Word) (s : State) : Host.Outcome State Fault Refusal :=
  .next (regWrite space off v s)

/-- The space, offset and count of a register command, where they are allowed (R521). -/
def regRange (p : List Byte) : Option (RegSpace × Nat × Nat) :=
  let n := fld16 p 2
  let off := fld32 p 4
  match spaceOf (fld8 p 0) with
  | none => none
  | some x => if 1 ≤ n ∧ n ≤ 1000 ∧ off % 4 = 0 ∧ off + 4 * n ≤ 0x10000 then some (x, off, n) else none

end Sys2Proof.Machine
end

