-- ==== Sys2Proof/Machine/Starts.lean ====
section
/-! DEFINITION. A start as a whole (R454): its steps in order, the role decision (R424) and the entry to the target mode (R453), with
the commands and events of the chapter. -/

namespace Sys2Proof.Machine

/-! ## Steps 14 and 15 (R424, R449, R453, R454) -/

/-- The configured target mode (R453). -/
def configuredTarget (p : StartPlan) (s : State) : Mode :=
  match modeAfterStart s with
  | 0 => .stop
  | 1 => .run
  | _ => if p.wasRun then .run else .stop

/-- The mode a start ends in on an active module (R453). -/
def startTarget (s : State) : Mode :=
  let p := startPlan s
  let want := p.target.getD (configuredTarget p s)
  match s.modes.life with
  | .manufacture | .decommissioned => .maintenance
  | _ =>
    match want with
    | .maintenance => .maintenance
    | .run => if (slotIn .active s).isNone then .stop else .run
    | _ => .stop

/-- A start is complete: the trial image is CONFIRMED, and IN_PROGRESS clears (R459, R548, R555). -/
def startComplete (s : State) : State :=
  let s1 := bkp2Bit 31 false { s with modes := { s.modes with start := none, begun := none, roleWait := none, pending := none } }
  let s2 := fwMod (fun f => { f with lastFormat := fwImageFormat (runImage s1) }) s1
  if s2.fw.trial then
    audit 0x1000 (srcUnit 8) 0 (le 4 (fwVersion s2))
      (fwMod (fun f => fwRelease { f with
        confirmed := f.running, trial := false, minSecurity := max f.minSecurity (fwImageSecurity (runImage s2)) }) s2)
  else s2

/-- The target mode is entered: tasks follow it, outputs take their idle actions and safety outputs their safe states. -/
def enterTarget (m : Mode) (ps : PairState) (act : Bool) (s : State) : State :=
  let p := mergePeriod s
  let s1 := startComplete { s with
    modes := { s.modes with mode := m }
    pair := { s.pair with st := ps, actOut := act, share := 32 }
    pub := { s.pub with block := 0, passStart := now s, lastSent := now s }
    image := { s.image with nextMerge := (now s / p + 1) * p } }
  match m with
  | .stop | .run =>
    let s2 := outputsIdle s1
    lanesIdle (canFollow (tasksFollow m (driveSafety s2)))
  | _ => lanesIdle (canFollow (outputsOff s1))

/-- The module becomes active alone, or is unpaired (R424). -/
def becomeActive (s : State) : State :=
  let ps : PairState := if pairConfigured s then .activeAlone else .unpaired
  let t := enterTarget (startTarget s) ps (pairConfigured s) s
  if (startPlan s).origin = .forced then ownerTakeover t else t

/-- The module becomes standby and begins its catch-up (R424). -/
def becomeStandby (s : State) : State := beginCatchup (enterTarget .standby .outOfStep false s)

/-- The partner is active: its line is high and its life line is not stale (R424). -/
def partnerActive (s : State) : Bool := s.pair.actIn && !s.pair.liveStale

/-- The role is decided at once where no hello is needed; otherwise the module waits for one (R424).  A start that ends in
MAINTENANCE takes no role (R449). -/
def decideRole (s : State) : State :=
  if startTarget s = .maintenance then
    enterTarget .maintenance (if pairConfigured s then .outOfStep else .unpaired) false s
  else if pairConfigured s = false then becomeActive s
  else if partnerActive s then becomeStandby s
  else if (startPlan s).origin = .forced then becomeActive s
  else emit .hello { s with modes := { s.modes with roleWait := some (now s + fld16 s.pair.rcd 2 * ms) } }

/-- A hello decides between two modules that start: the newer owner count is active, and pair position 0 at equal counts (R424). -/
def decideByHello (h : Hello) (s : State) : State :=
  let mine := if s.net.owner = h.owner then !s.pair.position else newer16 s.net.owner h.owner
  if mine && !partnerActive s then becomeActive s else becomeStandby s

/-! ## The start (R454) -/

/-- NEXT is one above the highest SEQUENCE held (R535). -/
def recorderScan (s : State) : State :=
  let held := s.recorder.segs.flatMap fun g => g.recs.map (·.1)
  match held.max? with
  | some n => { s with recorder := { s.recorder with next := n + 1 } }
  | none => s

/-- Step 7: the configuration is loaded, and each failed start is recorded (R454, R459). -/
def loadConfig (s : State) : State :=
  let set : ConfigSet := if s.cfg.valid then s.cfg.cur else configAreaReset.cur
  let s1 := { s with
    cfg := { s.cfg with cur := set, started := set }
    modes := { s.modes with unreported := 0 } }
  (List.range s.modes.unreported).foldl (fun t _ => record sevAlarm 0x0E80 (srcUnit 8) [] t) s1

/-- The network section starts with the records in force (R321, R328, R335, R422). -/
def startNetwork (s : State) : State :=
  let r := netRec s
  let hsr := fld8 r 0 == 1
  let ports := s.net.port.zipIdx.map fun p =>
    { p.1 with role := BitVec.ofNat 4 (if r = [] then 0 else portRole hsr p.2), phyReset := healthOf (0x24 + p.2) s == 2 }
  let t := { s with
    net := { s.net with
      rcd := r, hsr := hsr, port := ports, newTables := none
      dispatch := (cfgKind s.cfg.cur 0x0020).map (·.2), nodeTable := (cfgKind s.cfg.cur 0x0021).map (·.2) }
    pair := { s.pair with rcd := cfgRec 0x0003 0 s } }
  (List.range 4).foldl (fun u p => portJoin p u) t

/-- The steps from the configuration to the role decision. -/
def startRest (cold lost : Bool) (s : State) : State :=
  let s1 := startPrograms cold (startTime cold lost (loadConfig s))
  let s2 := startForces cold (startImage cold s1)
  let s3 := startFuncs cold (panelsStart (startLoops cold (startField s2)))
  decideRole (openHost (startNetwork (startLanes s3)))

/-- The units of a BIST group (R455). -/
def bistUnits : Nat → List Nat
  | 0 => [0x00, 0x05]
  | 1 => [0x01, 0x06]
  | 2 => [0x02, 0x07]
  | 3 => [0x03, 0x04, 0x0C, 0x0D, 0x0E]
  | _ => 0x0B :: 0x0F :: List.range' 0x10 0x23

/-- A BIST group has run: the units of it that fail are recorded in the health map; an UNUSABLE lane is skipped (R36, R455, R457). -/
def bistGroup (failed : List Nat) (s : State) (g : Nat) : State :=
  let us := (bistUnits g).filter fun u => failed.contains u && !(lanesOf .unusable s).any fun l => laneNo l == u || laneNo l + 5 == u
  let t := us.foldl (fun t u => setHealth u 2 1 t) s
  { t with modes := { t.modes with bistDone := g + 1 } }

/-- The groups that have not completed yet run one after another, in their order (R36, R455). -/
def runBist (failed : List Nat) (s : State) : State :=
  (List.range' s.modes.bistDone (5 - s.modes.bistDone)).foldl (bistGroup failed) s

/-- A start (R454): the units that BIST found failing, and the slot lines as read at step 1. -/
def runStart (failed : List Nat) (lines : BitVec 10) (s : State) : State :=
  let p := startPlan s
  let s0 := if s.modes.begun.isSome then s else stepOne { s with modes := { s.modes with start := some p } }
  let (cold, lost) := s0.modes.begun.getD (false, false)
  let s2 := loadBank { s0 with
    power := { s0.power with lines := lines }
    pair := { s0.pair with position := lines.getLsbD 0 }
    modes := { s0.modes with start := some p } }
  if startLockout s2 then openHost (enterSafe (bkp2Bit 31 false s2))
  else
    let r := bistOutcome failed (runBist failed (copyFirmware p (recorderScan s2)))
    if r.2 then failStart r.1 else startRest cold lost r.1

/-! ## Events -/

/-- `START` (R454): a start in BOOT runs to its role decision. -/
def execStart (failed : List Nat) (lines : BitVec 10) (s : State) : Host.Outcome State Fault Refusal :=
  .next (if s.modes.mode = .boot ∧ s.modes.roleWait = none ∧ s.power.powerFail = false then runStart failed lines s else s)

/-- `START_DELAY_EXPIRY` (R501): 10 ms after the response, the start asked for begins. -/
def execStartDelayExpiry (s : State) : Host.Outcome State Fault Refusal :=
  .next (
    match s.modes.plan with
    | some p => if s.modes.mode ≠ .plinth ∧ p.at_ ≤ now s then enterBoot p s else s
    | none => s)

/-- `BIST_GROUP_COMPLETE` (R36, R455, R457): in a start, the group whose turn it is completes, and the next one follows. -/
def execBistGroupComplete (group : Fin 5) (failed : List Nat) (s : State) : Host.Outcome State Fault Refusal :=
  .next (
    if s.modes.mode = .boot ∧ s.modes.roleWait = none ∧ group.val = s.modes.bistDone then bistGroup failed s group.val else s)

/-- `START_TIMEOUT` (R459): a start not complete within 180 s, counted in Plinth ticks, fails. -/
def execStartTimeout (s : State) : Host.Outcome State Fault Refusal :=
  .next (if s.modes.mode = .boot ∧ 180 * 32768 ≤ (s.plinth.ticks - s.modes.bootAt).toNat then failStart s else s)

/-- `PAIR_START_WAIT_EXPIRY` (R424, R425): no hello came. -/
def execPairStartWaitExpiry (s : State) : Host.Outcome State Fault Refusal :=
  .next (
    match s.modes.roleWait with
    | some t =>
      if s.modes.mode ≠ .boot ∨ now s < t then s
      else if partnerActive s then becomeStandby s else becomeActive s
    | none => s)

/-- `DRAWBAR_HELLO` (R424, R442, R444): a hello from the partner. -/
def execDrawbarHello (_link : Fin 2) (h : Hello) (s : State) : Host.Outcome State Fault Refusal :=
  .next (
    let s1 := drawbarArrives (pairUnit (fun p => { p with hello := some h }) s)
    match s.modes.mode with
    | .plinth => s
    | .boot => if s1.modes.roleWait.isSome then decideByHello h (emit .hello s1) else s1
    | .standby => helloStandby h s1
    | .stop | .run | .hold => if pairConfigured s1 && isActive s1 then emit .hello s1 else s1
    | _ => s1)

end Sys2Proof.Machine
end

