-- ==== Sys2Proof/Machine/Catalogue.lean ====
section
/-! DEFINITION. The host commands of identification, modes, starts, roles, life cycle, diagnostics and BIST (R450 to R466, R499 to
R501, R521, R526, R578). -/

namespace Sys2Proof.Machine

/-! ## Group 0x01 (R457, R499, R500) -/

/-- `IDENT_GET` (R499). -/
def execIdentGet (m : MbxId) (s : State) : Host.Outcome State Fault Refusal :=
  .next (readCommand 0x0101 m (fun _ t =>
    ok (slice t.fw.orderCode 0 16 ++ slice t.fw.serial 0 16 ++ macBytes t.net.mac ++ le 1 (b2n t.pair.position) ++ zeros 1 ++
      le 4 (fwVersion t) ++ le 2 0x0200 ++ le 1 (ownStation t) ++ le 1 (lifeCode t.modes.life) ++ le 8 t.fw.pciIds.toNat ++
      le 8 (imageId (activeImage t)) ++ le 8 t.cfg.configId ++ le 4 (tableIdOf t.cfg.cur) ++ zeros 4)) s)

/-- INPUTS of `STATUS_GET` (R500). -/
def statusInputs (s : State) : Nat :=
  atBit s.modes.manoeuvring 0 + atBit s.modes.lockInput 1 + atBit (ownerLocked s) 2 + atBit s.plinth.battLow 3 + atBit (startLockout s) 4

/-- TASKS of `STATUS_GET`: the state of a task, 0xFF where it is not defined (R500). -/
def statusTask (t : Nat) (s : State) : Nat :=
  match taskAt t s with
  | some k => if k.defn.isSome then taskCode k.st else 0xFF
  | none => 0xFF

/-- Units FAILED or UNUSABLE in the health map (R500). -/
def failedUnits (s : State) : Nat := (s.modes.health.filter fun e => e.2.health == 2 || e.2.health == 3).length

/-- The response of `STATUS_GET` (R500). -/
def statusBytes (s : State) : List Byte :=
  le 1 (modeCode s.modes.mode) ++ le 1 (pairCode s.pair.st) ++ le 1 (lifeCode s.modes.life) ++ le 1 (configCode s.cpl.config) ++
    le 2 (laneCode (laneAt .a s).st + 16 * laneCode (laneAt .b s).st + 256 * laneCode (laneAt .c s).st) ++
    le 1 (capability s) ++ le 1 (statusInputs s) ++ le 4 (pseqStatus s.power).toNat ++ le 4 (timeStatus s.time).toNat ++
    le 8 (now s) ++ le 4 s.host.epoch.toNat ++ le 1 (exchCode s.prog.st) ++ le 1 s.fw.st ++
    le 2 ((bkpWord 2 s).toNat % 65536) ++ le 8 s.prog.cast ++ le 4 (taskBits (·.switched) s).toNat ++
    le 4 (retentionLag s / us) ++ le 4 (publicationLag s / us) ++ le 4 s.pub.queue.length ++
    le 8 (imageId (activeImage s)) ++ le 8 ((slotIn .verified s).elim 0 fun n => imageId (slotImage n s)) ++
    (taskNos.flatMap fun t => le 1 (statusTask t s)) ++ le 2 (failedUnits s) ++
    le 2 (s.loop.loops.filter fun p => p.2.mode == .fallback).length ++
    le 2 (s.safety.func.filter fun p => p.2.st == .forcedSafe).length ++ le 2 s.image.forces.length ++ zeros 16

/-- `STATUS_GET` (R500). -/
def execStatusGet (m : MbxId) (s : State) : Host.Outcome State Fault Refusal :=
  .next (readCommand 0x0102 m (fun _ t => ok (statusBytes t)) s)

/-- DETAIL of a unit (R457). -/
def unitDetail (u : Nat) (s : State) : Nat :=
  match laneOf u with
  | some l => laneCode (laneAt l s).st
  | none => if 0x10 ≤ u ∧ u < 0x20 then reasonOf (ucAt (u - 0x10) s).status else 0

/-- An entry of the health map as it is sent (R457). -/
def healthEntry (u : Nat) (s : State) : List Byte :=
  if 0x32 < u then le 1 0xFF ++ zeros 15
  else
    let h := tabGet healthReset s.modes.health u
    le 1 u ++ le 1 h.health ++ le 1 (unitDetail u s) ++ le 1 h.cause ++ zeros 4 ++ le 8 h.since

/-- `HEALTH_MAP_GET` (R457). -/
def execHealthMapGet (m : MbxId) (s : State) : Host.Outcome State Fault Refusal :=
  .next (readCommand 0x0103 m (fun _ t => ok ((List.range 64).flatMap fun u => healthEntry u t)) s)

/-- `MODE_GET` (R499). -/
def execModeGet (m : MbxId) (s : State) : Host.Outcome State Fault Refusal :=
  .next (readCommand 0x0202 m (fun _ t =>
    ok (le 1 (modeCode t.modes.mode) ++ le 1 (pairCode t.pair.st) ++ le 1 (lifeCode t.modes.life) ++
      le 1 (t.modes.pending.elim 0xFF modeCode))) s)

/-! ## MODE_SET (R450, R451, R501) -/

/-- A transition that `MODE_SET` makes (R450). -/
def modeSetListed (x y : Mode) : Bool :=
  match x, y with
  | .stop, .run | .run, .stop | .hold, .stop | .run, .hold | .hold, .run | .stop, .maintenance | .safe, .maintenance => true
  | _, _ => false

/-- The role a transition requires (R450). -/
def modeSetRole (x y : Mode) (s : State) : Nat :=
  match y with
  | .maintenance => if s.modes.life = .inService ∨ s.modes.life = .serviceOpen then 6 else 3
  | .hold => if s.modes.life = .inService then 6 else 3
  | .run => if x = .hold ∧ s.modes.life = .inService then 6 else 3
  | _ => 3

/-- What a cold restart of safety tasks needs beside the password's correctness: the role, a password given and one set (R216,
R316, R495). -/
def coldMeans (q : Req) (pw : List Byte) (s : State) : Bool :=
  roleIncludes (roleOf q s) 4 && (pwGiven pw).isSome && s.safety.password.isSome

/-- A planned switchover is in progress (R439, R451). -/
def switchoverPlanned (s : State) : Bool := s.pair.handAt.isSome || s.pair.st == .handingOver

/-- The refusals of R451 in their order. -/
def modeSetRefused (y : Mode) (s : State) : Option Nat :=
  if s.modes.manoeuvring && (y == .stop || y == .hold || y == .maintenance) then some stRefusedState
  else if ownerLocked s && y == .maintenance then some stRefusedState
  else if y == .run && (slotIn .active s).isNone then some stRefusedState
  else if s.modes.pending.isSome || switchoverPlanned s then some stBusy
  else if y == .maintenance && (s.prog.st == .switching || s.prog.st == .settling) then some stBusy
  else if y == .run && s.modes.mode == .stop && (s.prog.st == .switching || s.prog.st == .settling) then some stBusy
  else none

/-- The program restarts at STOP → RUN (R215, R216). -/
def programRestart (cold : Bool) (s : State) : State :=
  let ts := taskNos.filter fun t => taskDefined t s
  let s1 := ts.foldl (restartTask cold) (restartAbandons s)
  if cold then loopsRestart ts s1 else s1

/-- A mode change takes effect (R118, R227, R450). -/
def takeMode (x y : Mode) (cold : Bool) (s : State) : State :=
  let enter (s : State) : State := { s with modes := { s.modes with mode := y, pending := some y } }
  match y with
  | .run => followTasks s (tasksFollow .run (enter (if x = .stop then programRestart cold s else s)))
  | .stop => followTasks s (tasksFollow .stop (loopsStop (enter s)))
  | .hold => followTasks s (tasksFollow .hold (enter s))
  | _ => enterMaintenance s

/-- `MODE_SET` (R450, R451, R501). -/
def execModeSet (m : MbxId) (s : State) : Host.Outcome State Fault Refusal :=
  .next (runCommand 0x0201 m (fun q t =>
    let x := t.modes.mode
    match modeOf (fld8 q.pay 0) with
    | none => (t, st stWrongMode)
    | some y =>
      let cold := x == .stop && y == .run && fld8 q.pay 1 == 1
      let safe := cold && anySafetyTask t
      let pw := q.pay.drop 4
      if y = x then (t, st stOk)
      else if modeSetListed x y = false then (t, st stWrongMode)
      else if roleIncludes (roleOf q t) (modeSetRole x y t) = false then (t, stDetail stAuthRequired (modeSetRole x y t))
      else if safe && !coldMeans q pw t then (t, st stAuthRequired)
      else
        match modeSetRefused y t with
        | some r => (t, st r)
        | none =>
          let a := coldAuth q pw safe t
          match a.1 with
          | some r => (a.2, st r)
          | none =>
            if auditRoom a.2 = false then (a.2, st stBusy)
            else
              let t1 := audit (0x0E00 + modeCode y) (srcUnit 8) (reqSession q t) (le 1 (modeCode x) ++ le 1 (fld8 q.pay 1)) a.2
              let t2 := if safe then changeLogBy q 0x0006 0 [] [] [] t1 else t1
              (toStandby (.modeChange (modeCode y)) (takeMode x y cold t2), st stAccepted)) s)

/-! ## START_REQUEST (R453, R460, R501) -/

/-- The start lockout is cleared before the start it asks for (R460). -/
def clearLockout (q : Req) (s : State) : State :=
  let s1 := bkpWrites 3 [0, 0] (bkp2Bit 30 false s)
  audit 0x0E81 (srcUnit 8) (reqSession q s) [] s1

/-- The TARGET of a start: none for the configured one; nothing for a code that names none (R453). -/
def startTargetOf : Nat → Option (Option Mode)
  | 0x2 => some (some .maintenance)
  | 0x3 => some (some .stop)
  | 0x4 => some (some .run)
  | 0xFF => some none
  | _ => none

/-- `START_REQUEST` (R453, R460, R501): the start begins 10 ms later. -/
def execStartRequest (m : MbxId) (s : State) : Host.Outcome State Fault Refusal :=
  .next (runCommand 0x0203 m (fun q t =>
    let cold := fld8 q.pay 0 == 1
    let safe := cold && anySafetyTask t
    let lock := startLockout t
    match startTargetOf (fld8 q.pay 1) with
    | none => (t, st stInconsistent)
    | some target =>
      if 1 < fld8 q.pay 0 then (t, st stInconsistent)
      else if t.modes.manoeuvring && t.modes.mode != .safe && t.modes.mode != .maintenance then (t, st stRefusedState)
      else if lock && !roleIncludes (roleOf q t) 6 then (t, stDetail stAuthRequired 6)
      else
        let a := coldAuth q (q.pay.drop 4) safe t
        match a.1 with
        | some r => (a.2, st r)
        | none =>
          if lock && !auditRoom a.2 then (a.2, st stBusy)
          else
            let t1 := if lock then clearLockout q a.2 else a.2
            let t2 := if safe then changeLogBy q 0x0006 0 [] [] [] t1 else t1
            let p : StartPlan := { origin := .request, cold := cold, target := target, at_ := now t + 10 * ms, wasRun := false }
            ({ t2 with modes := { t2.modes with plan := some (t2.modes.plan.getD p) } }, st stAccepted)) s)

/-! ## Roles (R464, R477, R526, R578) -/

/-- What the compatibility path erased is not yet provisioned again (R464). -/
def itemsErased (s : State) : Bool := !s.modes.identity || !s.modes.roleCreds

/-- Module times of a user's failures within 10 min (R526). -/
def userFailures (user : List Byte) (s : State) : List Nat :=
  match s.modes.loginFails.find? fun e => e.1 == user with
  | some e => e.2.filter fun t => decide (now s < t + 600 * sec)
  | none => []

/-- A user is refused whatever the secret (R526). -/
def userLocked (user : List Byte) (s : State) : Bool := s.modes.loginLocks.any fun e => e.1 == user && decide (now s < e.2)

/-- A failed login counts: the fifth within 10 min refuses the user for 15 min (R526). -/
def countFailure (user : List Byte) (s : State) : State :=
  if userLocked user s then s
  else
    let ts := now s :: userFailures user s
    let fails := s.modes.loginFails.filter fun e => e.1 != user
    let locks := s.modes.loginLocks.filter fun e => e.1 != user
    if 5 ≤ ts.length then
      { s with modes := { s.modes with loginFails := fails, loginLocks := locks ++ [(user, now s + 900 * sec)] } }
    else { s with modes := { s.modes with loginFails := fails ++ [(user, ts)] } }

/-- Whether a stored credential allows a role, or a role that includes it (R526). -/
def credentialGrants (method : Nat) (user secret : List Byte) (role : Nat) : Bool :=
  [1, 2, 3, 4, 5, 6].any fun r => roleIncludes r role && Config.credentialAllows method user secret r

/-- The role that a login grants; none where it fails (R464, R526, R578). -/
def loginRole (q : Req) (method role : Nat) (user secret : List Byte) (s : State) : Option Nat :=
  if userLocked user s then none
  else
    match method with
    | 0 => if s.modes.roleCreds && credentialGrants 0 user secret role then some role else none
    | 1 =>
      let loc := match q.mbx with
        | .loc _ => true
        | .tls _ _ => false
      if loc && itemsErased s && (role == 1 || role == 5) && credentialGrants 1 user secret role then some role else none
    | _ => if s.modes.life = .manufacture ∧ Config.credentialAllows 2 user secret 5 = true then some 5 else none

/-- A session takes a role; a factory credential marks it as a factory session (R578), and the owner's provisioning credential
provisions what was erased (R464). -/
def takeRole (q : Req) (method role : Nat) (user : List Byte) (s : State) : State :=
  let x := mbxSession q.mbx
  let s1 := sessionMod x (fun c => { c with role := BitVec.ofNat 3 role, user := user }) s
  let others := s1.modes.factory.filter (· != x)
  let s2 := { s1 with modes := { s1.modes with factory := if method = 2 then others ++ [x] else others } }
  if method = 1 ∧ role = 5 ∧ s2.modes.life ≠ .decommissioned then
    { s2 with modes := { s2.modes with identity := true, roleCreds := true, pairCred := true } }
  else s2

/-- `AUTH_LOGIN` (R464, R526, R578). -/
def execAuthLogin (m : MbxId) (s : State) : Host.Outcome State Fault Refusal :=
  .next (runCommand 0x0D01 m (fun q t =>
    let method := fld8 q.pay 0
    let role := fld8 q.pay 1
    let ul := fld8 q.pay 2
    let sl := fld8 q.pay 3
    if 2 < method ∨ (method ≠ 2 ∧ (role = 0 ∨ 6 < role)) ∨ ul = 0 ∨ 32 < ul ∨ sl = 0 ∨ 64 < sl then (t, st stInconsistent)
    else if auditRoom t = false then (t, st stBusy)
    else
      let user := slice q.pay 4 ul
      match loginRole q method role user (slice q.pay 36 sl) t with
      | some r =>
        (audit 0x0D00 (srcUnit 0x0A) (reqSession q t) user (takeRole q method r user t),
          ok (le 1 r ++ zeros 3 ++ le 4 (reqSession q t).toNat))
      | none => (audit 0x0D31 (srcUnit 0x0A) (reqSession q t) user (countFailure user t), st stAuthFailed)) s)

/-- `AUTH_LOGOUT` (R477). -/
def execAuthLogout (m : MbxId) (s : State) : Host.Outcome State Fault Refusal :=
  .next (runCommand 0x0D02 m (fun q t => (tryResync (loseRole (mbxSession q.mbx) t), ok [])) s)

/-! ## Life cycle (R461 to R464, R578) -/

/-- Who a transition of the life cycle asks for (R462). -/
inductive LifeNeed where
  | role (rs : List Nat)
  | factory
deriving DecidableEq, Repr

/-- The transitions of R462, with who they ask for. -/
def lifeTransition (x y : Lifecycle) : Option LifeNeed :=
  match x, y with
  | .manufacture, .commissioning => some .factory
  | .commissioning, .inService => some (.role [5])
  | .inService, .commissioning => some (.role [5])
  | .inService, .serviceOpen => some (.role [6])
  | .serviceOpen, .inService => some (.role [5, 6])
  | .commissioning, .decommissioned | .inService, .decommissioned | .serviceOpen, .decommissioned => some (.role [5])
  | _, _ => none

/-- The further conditions of R462. -/
def lifeConditions (x y : Lifecycle) (s : State) : Bool :=
  match x, y with
  | .manufacture, .commissioning => s.modes.identity
  | .commissioning, .inService => s.cpl.config != .split && ((cfgKind s.cfg.cur 0x0050).isEmpty || s.safety.password.isSome)
  | .inService, .commissioning => s.modes.mode == .stop || s.modes.mode == .maintenance
  | _, .decommissioned => s.modes.mode == .maintenance
  | _, _ => true

/-- Whether a session may ask for a transition (R462, R578). -/
def lifeAllowed (n : LifeNeed) (q : Req) (s : State) : Bool :=
  match n with
  | .role rs => rs.contains (roleOf q s)
  | .factory => s.modes.factory.contains (mbxSession q.mbx)

/-- Every simulation is dropped (R462). -/
def dropSimulations (q : Req) (s : State) : State :=
  (s.image.forces.filter fun p => p.2.simulate && !p.2.going).foldl (removeForce q) s

/-- The security unit erases identity keys, password hashes, role credentials and the pair credential (R462, R464). -/
def eraseItems (s : State) : State :=
  { s with
    modes := { s.modes with identity := false, roleCreds := false, pairCred := false }
    safety := { s.safety with password := none } }

/-- Every program slot is EMPTY, with no task defined (R462). -/
def emptySlots (s : State) : State :=
  let s1 := { s with prog := { s.prog with slot := s.prog.slot.map fun _ => { st := .empty, image := [], covered := [] } } }
  taskNos.foldl (fun t n => taskMod n (fun k => { k with defn := none }) t) s1

/-- Every open TLS connection is closed. -/
def closeAllTls (s : State) : State :=
  (List.finRange 8).foldl (fun t c => if (t.host.tls[c]).isSome then closeTls c t else t) s

/-- The local sessions whose role is neither VIEWER nor OWNER lose it (R464). -/
def keepViewerOwner (s : State) : State :=
  (List.finRange 16).foldl (fun t n =>
    let r := (s.host.sess[n]).role
    if r = 0 ∨ r = 1 ∨ r = 5 then t else loseRole (.loc n) t) s

/-- The compatibility path is enabled: the items are erased first (R464). -/
def enableCompat (s : State) : State :=
  let s1 := keepViewerOwner (closeAllTls (eraseItems s))
  tryResync { s1 with modes := { s1.modes with compat := true } }

/-- A transition of the life cycle takes effect (R462, R464, R578). -/
def takeLife (q : Req) (x y : Lifecycle) (s : State) : State :=
  let s1 := { s with modes := { s.modes with life := y, compat := s.modes.compat && y == .serviceOpen } }
  let s2 := match x, y with
    | .manufacture, _ => tryResync (s1.modes.factory.foldl (fun t f => loseRole f t) s1)
    | _, .inService => dropSimulations q s1
    | _, .decommissioned => emptySlots (eraseItems s1)
    | _, _ => s1
  toStandby (.lifecycle (lifeCode y)) s2

/-- `LIFECYCLE_SET` (R462, R464, R466, R578). -/
def execLifecycleSet (m : MbxId) (s : State) : Host.Outcome State Fault Refusal :=
  .next (runCommand 0x0D06 m (fun q t =>
    let x := t.modes.life
    let compat := bit (fld8 q.pay 1) 0
    let answer (y : Lifecycle) : Resp := ok (le 1 (lifeCode y) ++ zeros 3)
    let rec_ (y : Lifecycle) (u : State) : State :=
      audit 0x0D00 (srcUnit 0x0A) (reqSession q t) (le 1 (lifeCode x) ++ le 1 (lifeCode y) ++ le 1 (b2n compat)) u
    if ownerLocked t then (t, st stRefusedState)
    else
      match lifeOf (fld8 q.pay 0) with
      | none => (t, st stRefusedState)
      | some y =>
        if compat then
          (if y ≠ .serviceOpen ∨ x ≠ .serviceOpen ∨ t.modes.mode ≠ .maintenance then (t, st stRefusedState)
          else if roleOf q t ≠ 5 then (t, stDetail stAuthRequired 5)
          else if auditRoom t = false then (t, st stBusy)
          else (rec_ y (enableCompat t), answer y))
        else
          match lifeTransition x y with
          | none => (t, st stRefusedState)
          | some need =>
            if lifeConditions x y t = false then (t, st stRefusedState)
            else if lifeAllowed need q t = false then (t, st stAuthRequired)
            else if auditRoom t = false then (t, st stBusy)
            else (takeLife q x y (rec_ y t), answer y)) s)

/-- The owner lock changes: an AUDIT record where it is engaged or released thereby (R466). -/
def lockChange (session : Word) (f : Modes → Modes) (s : State) : State :=
  let t := { s with modes := f s.modes }
  if ownerLocked t = ownerLocked s then t
  else audit 0x0D00 (srcUnit 0x0A) session (le 1 (b2n (ownerLocked t)) ++ le 1 (b2n t.modes.lockInput)) t

/-- `OWNER_LOCK` (R466). -/
def execOwnerLock (m : MbxId) (s : State) : Host.Outcome State Fault Refusal :=
  .next (runCommand 0x0D07 m (fun q t =>
    let engage := fld8 q.pay 0 == 1
    if 1 < fld8 q.pay 0 then (t, st stInconsistent)
    else if !engage && t.modes.lockInput then (t, st stRefusedState)
    else if auditRoom t = false then (t, st stBusy)
    else
      let u := lockChange (reqSession q t) (fun x => { x with lockCmd := engage }) t
      (u, ok (le 1 (b2n (ownerLocked u)) ++ le 1 (b2n u.modes.lockInput) ++ zeros 2))) s)

/-! ## Diagnostics (R5, R10, R521) -/

/-- `DIAG_REG_READ` (R5, R10, R521). -/
def execDiagRegRead (m : MbxId) (s : State) : Host.Outcome State Fault Refusal :=
  .next (runCommand 0x0E01 m (fun q t =>
    match regRange q.pay with
    | none => (t, st stInconsistent)
    | some (x, off, n) =>
      let r := regReads x off n t
      (r.2, ok r.1)) s)

/-- `DIAG_REG_WRITE` (R5, R10, R521). -/
def execDiagRegWrite (m : MbxId) (s : State) : Host.Outcome State Fault Refusal :=
  .next (runCommand 0x0E02 m (fun q t =>
    match regRange q.pay with
    | none => (t, st stInconsistent)
    | some (x, off, n) => (regWrites x off (q.pay.drop 8) n t, ok [])) s)

/-! ## BIST_RUN (R61, R267, R455, R457) -/

/-- The units that a TARGET of `BIST_RUN` names: a group of R455, a lane with its loop engine copy, or another unit of a group. -/
def bistTarget (x : Nat) : Option (List Nat) :=
  if 0x81 ≤ x ∧ x ≤ 0x85 then some (bistUnits (x - 0x81))
  else if x < 3 then some [x, x + 5]
  else if (List.range 5).any fun g => (bistUnits g).contains x then some [x]
  else none

/-- A unit passes: FAILED is cleared, and the unit takes its configuration again (R267, R286, R455). -/
def bistPass (s : State) (u : Nat) : State :=
  if healthOf u s ≠ 2 then s
  else
    let t := setHealth u 0 0 s
    if 0x10 ≤ u ∧ u < 0x20 then
      ucConfigure (u - 0x10) (cfgRec 0x0030 (u - 0x10) t) (ucMod (u - 0x10) (fun x => { ucReset with emitted := x.emitted }) t)
    else if 0x20 ≤ u ∧ u < 0x24 then
      (groupChans (u - 0x20)).foldl (fun v c => digConfigure c (cfgRec 0x0031 c v) (digMod c (fun d => { digReset with pin := d.pin }) v))
        (groupMod (u - 0x20) (fun x => { x with failed := false }) t)
    else if 0x24 ≤ u ∧ u < 0x28 then portMod (u - 0x24) (fun p => { p with phyReset := false }) t
    else if 0x28 ≤ u ∧ u < 0x30 then canConfigure (u - 0x28) (cfgRec 0x0022 (u - 0x28) t) (canMod (u - 0x28) (fun x => { x with rcd := [] }) t)
    else t

/-- The lanes that a BIST tests whole, with their loop engine copies. -/
def lanesTested (us : List Nat) : List Lane := lanes.filter fun l => us.contains (laneNo l) && us.contains (5 + laneNo l)

/-- A lane's outcome: it fails with its unit or its loop engine copy, and is then UNUSABLE; a pass of an UNUSABLE lane is kept for
`LANE_CONFIG_SET` (R61, R457). -/
def bistLane (us bad : List Nat) (s : State) (l : Lane) : State :=
  let n := laneNo l
  if bad.contains n || bad.contains (5 + n) then
    let t := lanePower l .off (laneMod l (fun x => { x with st := .unusable, bistPassed := false }) s)
    capabilityChanged (unusableLane l (record sevAlarm 0x0209 (srcUnit n) [] (setHealth n 3 4 t)))
  else if (lanesTested us).contains l && (laneAt l s).st == .unusable then laneMod l (fun x => { x with bistPassed := true }) s
  else s

/-- The health that a BIST of several units reports: the worst of them; DISABLED only where every one is. -/
def worstHealth (us : List Nat) (s : State) : Nat :=
  let hs := (us.map fun u => healthOf u s).filter (· != 4)
  if hs = [] then 4 else hs.foldl max 0

/-- `BIST_RUN` (R61, R267, R455, R457): `failed` are the units that the test finds failing. -/
def execBistRun (m : MbxId) (failed : List Nat) (durationMs : Nat) (s : State) : Host.Outcome State Fault Refusal :=
  .next (runCommand 0x0E03 m (fun q t =>
    match bistTarget (fld8 q.pay 0) with
    | none => (t, st stInconsistent)
    | some us =>
      let bad := us.filter fun u => failed.contains u
      let t1 := (us.filter fun u => !bad.contains u && !(u < 3)).foldl bistPass t
      let t2 := (bad.filter fun u => decide (3 ≤ u)).foldl (bistMark 4) t1
      let t3 := lanes.foldl (bistLane us bad) t2
      (t3, ok (le 1 (b2n (bad != [])) ++ le 1 (worstHealth us t3) ++ zeros 2 ++ le 4 durationMs))) s)

end Sys2Proof.Machine
end

