-- ==== Sys2Proof/Machine/Channels.lean ====
section
/-! DEFINITION. The rows of the field channels that can change the diagnostics of an output: the safety functions that use the
output react to it (R302). -/

namespace Sys2Proof.Machine

/-- `CONVERSION_COMPLETE` (R254 to R262, R265). -/
def execConversionComplete (ch : Fin 16) (raw aux lead : F64) (atCompliance : Bool) (s : State) :
    Host.Outcome State Fault Refusal := .next (reacting (stepConversionComplete ch raw aux lead atCompliance) s)

/-- `UC_OPEN_CIRCUIT_DETECT` (R265): set at a command of 1 mA or more; it takes precedence over COMPLIANCE_LOW. -/
def execUcOpenCircuitDetect (ch : Fin 16) (recovered : Bool) (s : State) :
    Host.Outcome State Fault Refusal := .next (reacting (stepUcOpenCircuitDetect ch recovered) s)

/-- `TEST_PULSE_END` (R265). -/
def execTestPulseEnd (ch : Fin 16) (current : F64) (s : State) :
    Host.Outcome State Fault Refusal := .next (reacting (stepTestPulseEnd ch current) s)

/-- `UC_COMPLIANCE_LOW_DETECT` (R265, R266). -/
def execUcComplianceLowDetect (ch : Fin 16) (recovered : Bool) (s : State) :
    Host.Outcome State Fault Refusal := .next (reacting (stepUcComplianceLowDetect ch recovered) s)

/-- `UC_SHORT_CIRCUIT_DETECT` (R265, R266): VOLTAGE_OUT at its current limit. -/
def execUcShortCircuitDetect (ch : Fin 16) (recovered : Bool) (s : State) :
    Host.Outcome State Fault Refusal := .next (reacting (stepUcShortCircuitDetect ch recovered) s)

/-- `OUTPUT_MISMATCH_DETECT` (R283, R285). -/
def execOutputMismatchDetect (ch : Fin 48) (recovered : Bool) (s : State) :
    Host.Outcome State Fault Refusal := .next (reacting (stepOutputMismatchDetect ch recovered) s)

/-- `SWITCH_SHORT_CIRCUIT` (R281, R286): switched off, retried after 1 s, locked after three failed retries. -/
def execSwitchShortCircuit (ch : Fin 48) (recovered : Bool) (s : State) :
    Host.Outcome State Fault Refusal := .next (reacting (stepSwitchShortCircuit ch recovered) s)

/-- `GROUP_OVERLOAD_SHED` (R282): the output that draws the largest current is switched off. -/
def execGroupOverloadShed (g : Fin 4) (largest : Fin 12) (currentMa : Nat) (s : State) :
    Host.Outcome State Fault Refusal := .next (reacting (stepGroupOverloadShed g largest currentMa) s)

/-- `OPEN_LOAD_DETECT` (R284, R286). -/
def execOpenLoadDetect (ch : Fin 48) (recovered : Bool) (s : State) :
    Host.Outcome State Fault Refusal := .next (reacting (stepOpenLoadDetect ch recovered) s)

/-- `GROUP_CONVERTER_FAULT` (R286). -/
def execGroupConverterFault (g : Fin 4) (s : State) :
    Host.Outcome State Fault Refusal := .next (reacting (stepGroupConverterFault g) s)

/-- `CHAN_TEST` (R267, R287, R513): `pass` and `measured` are what the test finds. -/
def execChanTest (m : MbxId) (pass : Bool) (measured : F32) (s : State) :
    Host.Outcome State Fault Refusal := .next (reacting (stepChanTest m pass measured) s)

end Sys2Proof.Machine
end

