-- ==== Sys2Proof/Machine/LaneRows.lean ====
section
/-! DEFINITION. The rows of the lanes that end cycles or begin hand-overs: a lane's own fault (R57), `LANE_CONFIG_SET` (R524) and the
debugger (R77 to R80, R525). -/

namespace Sys2Proof.Machine

/-- `LANE_FAULT` (R57): an uncorrectable DRAM error or the lane watchdog. -/
def execLaneFault (l : Lane) (s : State) : Host.Outcome State Fault Refusal := .next (followTasks s (excludeLane l s))

/-- `LANE_CONFIG_SET` (R521, R524). -/
def execLaneConfigSet (m : MbxId) (s : State) : Host.Outcome State Fault Refusal :=
  .next (runCommand 0x0E04 m (fun q s =>
    let p := q.pay
    let unusable := lanesOf .unusable s != []
    match laneConfigField p s with
    | some off => (s, stDetail stInconsistent off)
    | none =>
      if fld8 p 0 = 1 then
        if s.modes.mode ≠ .maintenance then (s, st stWrongMode)
        else if roleOf q s ≠ 6 then (s, st stAuthRequired)
        else
          match laneOf (fld8 p 3) with
          | none => (s, stDetail stInconsistent 3)
          | some l =>
            if (laneAt l s).st = .unusable ∧ (laneAt l s).bistPassed then
              (audit 0x0200 (srcUnit (laneNo l)) (reqSession q s) []
                (setHealth (laneNo l) 0 0 (laneMod l (fun x =>
                  { x with st := .off, exclusions := [], bistPassed := false }) s)), ok (le 8 0))
            else (s, st stRefusedState)
      else
        match configOf (fld8 p 1) with
        | none => (s, stDetail stInconsistent 1)
        | some c =>
          let named := laneOf (fld8 p 2)
          if (c = .split ∧ (s.modes.life ≠ .commissioning ∨ anySafetyTask s)) ∨ (c = .triplex ∧ unusable) then
            (s, st stRefusedState)
          else if s.cpl.handover ∨ lanesOf .withdrawn s ≠ [] ∨ exchangeCasting s then (s, st stBusy)
          else if auditRoom s = false then (s, st stBusy)
          else
            let assign : Tab Nat := if c = .split then
                taskNos.foldl (fun a t => tabSet 0 a t (fld8 p (4 + t))) [] else s.cfg.assign
            let t := { s with
              cpl := { s.cpl with requested := c, namedSpare := named }
              cfg := { s.cfg with assign := assign } }
            if s.modes.mode = .maintenance then
              (audit 0x0281 (srcUnit 3) (reqSession q s) [] t, ok (le 8 0))
            else (followTasks s (beginHandover c named t), ok (le 8 (now s)))) s)

/-- `DEBUG_ATTACH` (R77 to R80, R525). -/
def execDebugAttach (m : MbxId) (s : State) : Host.Outcome State Fault Refusal :=
  .next (runCommand 0x0E05 m (fun q s =>
    let p := q.pay
    let op := fld8 p 0
    let t := fld8 p 1
    let l := if s.cpl.config = .triplex then laneOf (fld8 p 2) else none
    if 6 < op then (s, stDetail stInconsistent 0)
    else if ownerLocked s then (s, st stRefusedState)
    else if op = 0 then
      (if attachRefused t l s then (s, st stRefusedState)
      else if s.cpl.attach.isSome ∨ auditRoom s = false then (s, st stBusy)
      else
        let r := debugAttach q t l s
        (followTasks s r.1, r.2))
    else
      match s.cpl.attach with
      | none => (s, st stRefusedState)
      | some d =>
        let r := debugOperation p d s
        (lanesIdle r.1, r.2)) s)

/-- `BREAKPOINT_HALT` (R57, R78, R79): the task halts and the action is recorded with its retired-instruction count; with a full journal
there is no further action.  In duplex `checker` is the count at which the checker reproduced it: another, or none, is a duplex
disagreement. -/
def execBreakpointHalt (retired : Nat) (s : State) (checker : Option Nat := none) : Host.Outcome State Fault Refusal :=
  .next (
    match s.cpl.attach with
    | none => s
    | some d =>
      if d.halted ∨ (d.stepping.isNone ∧ d.breakpoints = []) ∨ journalFull d then s
      else
        let kind := if d.stepping.isSome then 3 else 2
        let t := journalAction kind retired { s with cpl := { s.cpl with attach := some { d with halted := true, stepping := none } } }
        if d.lane.isNone ∧ checker ≠ some retired then followTasks s (discardUnresolved d.task (some (funcsOfTask d.task s)) t)
        else lanesIdle t)

end Sys2Proof.Machine
end

