-- ==== Sys2Proof/Machine/Merge.lean ====
section
/-! DEFINITION. The image merge (R146 to R150, R22, R430), the reception of publication blocks (R159 to R162, R165, R168), the
station table's times (R167), and the records coalesced each second (R165, R175, R183). -/

namespace Sys2Proof.Machine

/-! ## Blocks received (R156 to R161) -/

/-- The entries of a block (R157). -/
def blockEntries (d : List Byte) (n : Nat) : List (Word × Word × BitVec 64 × Nat) :=
  (List.range n).map fun i =>
    let e := slice d (32 + 24 * i) 24
    (fldW e 0, fldW e 4, fldL e 8, fld64 e 16)

/-- A block whose form and table are those of R160; none otherwise. -/
def parseBlock (d : List Byte) (s : State) : Option Block :=
  let n := fld16 d 28
  if d.length < 32 ∨ fld32 d 0 ≠ 0x42505359 ∨ fld8 d 4 ≠ 2 ∨ 2 < fld8 d 5 ∨ 60 < n ∨ d.length ≠ 32 + 24 * n ∨
      fld32 d 24 ≠ tableIdOf s.cfg.cur then none
  else some { seq := fld64 d 8, kind := fld8 d 5, takeover := bit (fld8 d 7) 0, pass := fld16 d 30, arrival := now s,
              entries := blockEntries d n }

/-- A block is counted as discarded (R159, R160). -/
def discardBlock (s : State) : State := { s with image := { s.image with blockDiscards := s.image.blockDiscards + 1 } }

/-- Whether an entry of a block of station `n` is applied (R161). -/
def entryFits (n : Nat) (e : Word × Word × BitVec 64 × Nat) (s : State) : Bool :=
  sigStation (handleSig e.1) == n && handleAttr e.1 == 0 && sigDefined (handleSig e.1) s

/-- Whether an entry fails only for its index (R161). -/
def entryUndefined (n : Nat) (e : Word × Word × BitVec 64 × Nat) (s : State) : Bool :=
  sigStation (handleSig e.1) == n && handleAttr e.1 == 0 && !sigDefined (handleSig e.1) s

/-- Entries discarded from a block are counted; undefined indexes make a CAUTION at most once per minute and station (R161). -/
def countEntries (n : Nat) (b : Block) (s : State) : State :=
  let bad := (b.entries.filter fun e => !entryFits n e s).length
  let t := { s with image := { s.image with entryDiscards := s.image.entryDiscards + bad } }
  if (b.entries.any fun e => entryUndefined n e s) && due (stationAt n s).lastUndef (60 * sec) (now s) then
    record sevCaution 0x0433 (BitVec.ofNat 32 (0x70000000 + n)) [] (stationMod n (fun x => { x with lastUndef := some (now s) }) t)
  else t

/-- A block of the station waits in the intake. -/
def blockWaits (n : Nat) (s : State) : Bool :=
  s.image.intake.any fun b => match b.kind with
    | .block k _ _ _ _ _ _ _ => k == n
    | _ => false

/-- A change of a station's mirror state waits in the intake. -/
def stationWaits (n : Nat) (lost : Bool) (s : State) : Bool :=
  s.image.intake.any fun b => b.entries.any fun e => e == { sig := sigNo n 0, kind := .station lost }

/-- The next block of a station in order is accepted; `gap` when a gap comes before it (R159, R161, R168). A block without entries
that changes nothing at the merge makes no entry in the intake.  Entries of a block of KIND keepalive, of which R158 says nothing, are
taken as change entries (log 164, DESIGN CHOICE). -/
def acceptBlock (n : Nat) (gap : Bool) (b : Block) (s : State) : State :=
  let s1 := stationMod n (fun x => { x with lastSeq := b.seq, lastTime := b.arrival }) s
  let s2 := countEntries n b s1
  let good := b.entries.filter fun e => entryFits n e s
  let es := good.map fun e => ({ sig := handleSig e.1, kind := .mirror (b.kind == 1) e.2.2.1 e.2.1 e.2.2.2 } : Entry)
  let first := (good.head?).elim 0 fun e => sigIndex (handleSig e.1)
  let steady := match (stationAt n s).st with
    | .live | .gap => true
    | _ => false
  if es.isEmpty && !gap && (steady || blockWaits n s) && !stationWaits n false s && !stationWaits n true s then s2
  else if intakeRoom es.length s2 then intake (.block n b.seq b.kind b.pass gap b.takeover first b.entries.length) es s2
  else intakeFull (stationMod n (fun x => { x with discarded := true }) s2)

/-- Blocks held that now follow the last applied one are accepted; those at or below it are discarded (R159). -/
def drainHeld (n : Nat) : Nat → State → State
  | 0, s => s
  | fuel + 1, s =>
    match (stationAt n s).held with
    | [] => s
    | b :: bs =>
      if b.seq ≤ (stationAt n s).lastSeq then drainHeld n fuel (discardBlock (stationMod n (fun x => { x with held := bs }) s))
      else if b.seq = (stationAt n s).lastSeq + 1 then
        drainHeld n fuel (acceptBlock n false b (stationMod n (fun x => { x with held := bs }) s))
      else s

/-- Puts a block among those held, in the order of their SEQUENCE. -/
def holdBlock (b : Block) : List Block → List Block
  | [] => [b]
  | x :: xs => if b.seq < x.seq then b :: x :: xs else if b.seq = x.seq then x :: xs else x :: holdBlock b xs

/-- A block of station `n` takes its place in the order of SEQUENCE (R159, R163). -/
def orderBlock (n : Nat) (b : Block) (s : State) : State :=
  let x := stationAt n s
  let fresh := (x.st == .waiting || x.st == .lost) && !blockWaits n s
  if fresh then acceptBlock n (x.st == .lost) b (stationMod n (fun x => { x with held := [] }) s)
  else if b.seq ≤ x.lastSeq then discardBlock s
  else if b.seq = x.lastSeq + 1 ∨ b.takeover then drainHeld n (x.held.length + 1) (acceptBlock n false b s)
  else stationMod n (fun x => { x with held := holdBlock b x.held }) s

/-- A block that names this station as its sender, whatever else is wrong with it (R160). -/
def ownBlock (d : List Byte) (s : State) : Bool :=
  decide (8 ≤ d.length) && fld32 d 0 == 0x42505359 && fld8 d 4 == 2 && fld8 d 6 == ownStation s

/-- `PUB_BLOCK_RECEIVED` (R159 to R161, R332).  A block from a station that is ABSENT, or numbered 64 or more, is not in the list of R160:
it is discarded and counted like those (log 165, DESIGN CHOICE). -/
def execPubBlockReceived (src : PubSource) (data : List Byte) (s : State) : Host.Outcome State Fault Refusal :=
  .next (
    let n := fld8 data 6
    if netRuns s = false then s
    else if ownBlock data s then
      let t := discardBlock s
      if src = .other ∧ due s.image.lastConflict (60 * sec) (now s) then
        record sevAlarm 0x0432 (BitVec.ofNat 32 (0x70000000 + n)) [] { t with image := { t.image with lastConflict := some (now s) } }
      else t
    else
      match parseBlock data s with
      | none => discardBlock s
      | some b => if 64 ≤ n ∨ (stationAt n s).st = .absent then discardBlock s else orderBlock n b s)

/-- Every block held is applied; each that does not follow the last one brings a gap (R159). -/
def applyHeld (n : Nat) (bs : List Block) (s : State) : State :=
  bs.foldl (fun t b => if b.seq ≤ (stationAt n t).lastSeq then discardBlock t
    else acceptBlock n (b.seq != (stationAt n t).lastSeq + 1) b t) (stationMod n (fun x => { x with held := [] }) s)

/-- `PUB_GAP_HOLD_EXPIRY` (R159): a block was held for 1 ms. -/
def execPubGapHoldExpiry (n : Fin 64) (s : State) : Host.Outcome State Fault Refusal :=
  .next (
    let bs := (stationAt n.val s).held
    if bs.any fun b => decide (b.arrival + ms ≤ now s) then applyHeld n.val bs s else s)

/-! ## The station table's times (R167) -/

/-- `PEER_TIMEOUT` (R167): LIVE or GAP, and no block for the peer timeout. -/
def execPeerTimeout (n : Fin 64) (s : State) : Host.Outcome State Fault Refusal :=
  .next (
    let x := stationAt n.val s
    if (x.st = .live ∨ x.st = .gap) ∧ x.lastTime + peerTimeoutNs s ≤ now s ∧ stationWaits n.val false s = false then
      intakeOwn [{ sig := sigNo n.val 0, kind := .station false }] s
    else s)

/-- `PEER_LOSS_TIME` (R167): SILENT, and no block for 20 × the peer timeout. -/
def execPeerLossTime (n : Fin 64) (s : State) : Host.Outcome State Fault Refusal :=
  .next (
    let x := stationAt n.val s
    if x.st = .silent ∧ x.lastTime + 20 * peerTimeoutNs s ≤ now s ∧ stationWaits n.val true s = false then
      intakeOwn [{ sig := sigNo n.val 0, kind := .station true }] s
    else s)

/-! ## The merge (R146, R149) -/

/-- The wholes that a merge at `tick` takes, and those that stay: entries that arrived at or before it, up to `room`, in intake
order. A block or a telegram is never split, and one of more than 4,096 entries goes alone (R146). -/
def takeBatches (tick : Nat) : Nat → Bool → List Batch → List Batch × List Batch
  | _, _, [] => ([], [])
  | room, first, b :: bs =>
    let n := b.entries.length
    if tick < b.arrival then ([], b :: bs)
    else if n ≤ room then
      let r := takeBatches tick (room - n) false bs
      (b :: r.1, r.2)
    else
      match b.kind with
      | .own | .host =>
        if room = 0 then ([], b :: bs)
        else ([{ b with entries := b.entries.take room }], { b with entries := b.entries.drop room } :: bs)
      | .block .. | .telegram => if first && decide (4096 < n) then ([b], bs) else ([], b :: bs)

/-- The refresh pass that the receiver follows after a gap (R168). -/
def followPass (pass first count : Nat) (x : Station) : Station :=
  if x.gapOut = false then x
  else if first = 0 then { x with pass := some (pass, count) }
  else match x.pass with
    | some (p, k) => if p = pass ∧ k = first then { x with pass := some (p, k + count) } else { x with pass := none }
    | none => x

/-- What a block does to its station at the merge: a gap, the mirror state, and the end of a gap (R159, R167, R168). -/
def mergeBlock (gen : Nat) (k : BatchKind) (s : State) : State :=
  match k with
  | .block n _ kind pass gap takeover first count =>
    let s1 := if gap && !takeover then findGap n gen s else s
    let s2 := match (stationAt n s1).st with
      | .waiting => setMirror n (if (stationAt n s1).gapOut then .gap else .live) gen s1
      | .silent | .lost => setMirror n (if (stationAt n s1).gapOut then .gap else .live) gen s1
      | _ => s1
    if kind = 1 then
      let s3 := stationMod n (followPass pass first count) s2
      match (stationAt n s3).pass with
      | some (_, c) =>
        if signalsOf s.cfg.cur n ≤ c then
          let s4 := stationMod n (fun x => { x with gapOut := false, pass := none }) s3
          if (stationAt n s4).st = .gap then setMirror n .live gen s4 else s4
        else s3
      | none => s3
    else s2
  | _ => s

/-- The stations a discard left with a gap (R150). -/
def discardedStations (s : State) : List Nat := (List.range 64).filter fun n => (stationAt n s).discarded

/-- Gaps that discards left are found at this merge (R150). -/
def mergeDiscards (gen : Nat) (s : State) : State :=
  (discardedStations s).foldl (fun t n => findGap n gen (stationMod n (fun x => { x with discarded := false }) t)) s

/-- Applies the entries of a merge at the module time `t`, in intake order (R149). -/
def applyAll (gen t : Nat) (es : List Entry) (s : State) : State := es.foldl (applyEntry gen t) s

/-- What follows an image event: outputs, publication, subscriptions, the version pool, and the standby's copy of a merge (R139, R142,
R153, R177, R429, R511). -/
def afterEvent (gen : Nat) (s : State) : State := poolSweep (subFillAll (publishFull (outputsAfter gen (noteEvent gen s))))

/-- An exchange waits for this merge (R209, R210). -/
def exchangeWaits (s : State) : Bool := s.prog.mergeDue && decide (s.prog.cast ≤ now s)

/-- A merge of this module's own intake, with what it takes and what stays (R146, R149). -/
def mergeOwn (r : List Batch × List Batch) (s : State) : State :=
  let gen := s.image.gen + 1
  let s1 := { s with image := { s.image with gen := gen, intake := r.2 } }
  let s2 := r.1.foldl (fun t b => applyAll gen (now s) b.entries (mergeBlock gen b.kind t)) (mergeDiscards gen s1)
  let s3 := exchangeMerge gen s2
  let s4 := if sendsToStandby s3 then emit (.agreed (.merge gen (r.1.flatMap (·.entries)))) s3 else s3
  afterEvent gen s4

/-- Whether the module takes the active module's agreed entries in place of its own intake (R430). -/
def followsMerges (s : State) : Bool :=
  s.modes.mode == .standby &&
  (s.pair.st == .inStep || (s.pair.st == .handingOver && !isActive s) || (s.pair.st == .catchingUp && decide (4 ≤ s.pair.phase)))

/-- A merge of a standby in step: the active module's entries at the same generation; its own blocks keep the station table, and
its own entries that arrived by then are replaced by the active module's (R430). -/
def mergeAgreed (tick : Nat) (m : AgreedMerge) (s : State) : State :=
  let gen := s.image.gen + 1
  let old := s.image.intake.filter fun b => decide (b.arrival ≤ tick)
  let s1 := { s with
    image := { s.image with gen := gen, intake := s.image.intake.filter fun b => decide (tick < b.arrival) }
    pair := { s.pair with merges := s.pair.merges.filter fun x => decide (gen < x.generation) } }
  let s2 := old.foldl (fun t b => mergeBlock gen b.kind t) s1
  poolSweep (noteEvent gen (exchangeMerge gen (applyAll gen (now s) m.entries s2)))

/-! ## The agreement of a merge (R43, R50, R57, R147) -/

/-- The lanes that agree a merge. -/
def mergeVoters (s : State) : List Lane :=
  lanes.filter fun l => match (laneAt l s).st with
    | .inVote | .sole | .independent => true
    | _ => false

/-- The control quorum of a merge: two lanes; one where one lane votes, and in split, where nothing is compared (R43, R57, R147). -/
def mergeQuorum (s : State) : Nat := if s.cpl.config = .split ∨ (mergeVoters s).length ≤ 1 then 1 else 2

/-- The odd lanes of a merge of `n` entries, agreed as discrete items; `differs` names the lanes whose copy of an entry differs from what
the module's intake holds of it.  None where the merge is unresolved: of two lanes one differs, or of three more than one (R50, R57). -/
def mergeOdd (n : Nat) (here : List Lane) (differs : List (Lane × Nat)) (s : State) : Option (List Lane) :=
  let wrong := here.filter fun l => differs.any fun d => d.1 == l && decide (d.2 < n)
  if s.cpl.config = .split ∨ here.length ≤ 1 then some []
  else if wrong = [] then some []
  else if 2 < here.length ∧ wrong.length = 1 then some wrong
  else none

/-- A merge of `n` entries is made where the lanes present agree it: then `f` is its effect.  Odd lanes, and lanes that come later and
differ, are excluded from every task.  Where it is unresolved, of which R57 says nothing for a merge, the merge is not made and the
entries stay in the intake (log 161, DESIGN CHOICE). -/
def mergeAmong (n : Nat) (present : List Lane) (differs : List (Lane × Nat)) (f : State → State) (s : State) : State :=
  let here := (mergeVoters s).filter fun l => present.contains l
  let late := (mergeVoters s).filter fun l => !present.contains l && s.cpl.config != .split && differs.any fun d => d.1 == l && decide (d.2 < n)
  match mergeOdd n here differs s with
  | none => followTasks s (unresolvedMismatch (srcUnit 3) s)
  | some odd => followTasks s (oddLanes (odd ++ late) (f s))

/-- The Coupler merges while a lane delivers (R145, R147). -/
def mergesRun (s : State) : Bool := s.modes.mode != .plinth && s.modes.mode != .boot && mergeVoters s != []

/-- The lanes sleep through a tick: each that votes is in DEEP_IDLE, and every entry to be merged arrived less than 60 µs before it (R15,
R22). -/
def sleptThrough (tick : Nat) (bs : List Batch) (s : State) : Bool :=
  bs != [] && (mergeVoters s).all (fun l => vget .off s.power.lane (laneNo l) == .deepIdle) &&
  bs.all fun b => decide (tick < b.arrival + 60 * us)

/-- The merge at a tick; one with nothing to merge is skipped, and entries for which no lane was woken are left to the following tick (R22,
R146, R147). -/
def mergeAt (tick : Nat) (present : List Lane) (differs : List (Lane × Nat)) (s : State) : State :=
  if followsMerges s then
    match s.pair.merges.find? fun m => m.generation == s.image.gen + 1 with
    | none => s
    | some m => mergeAmong m.entries.length present differs (mergeAgreed tick m) s
  else
    let r := takeBatches tick 4096 true s.image.intake
    let other := exchangeWaits s || discardedStations s != []
    if (r.1 = [] ∧ other = false) ∨ (other = false ∧ sleptThrough tick r.1 s) then s
    else mergeAmong (r.1.flatMap (·.entries)).length present differs (mergeOwn r) s

/-- `MERGE_TICK` (R22, R146, R147, R178): tables that wait take effect, and the entries are merged once the control quorum is present.  The
tick is the last one that has come; ticks move with steps of module time. -/
def execMergeTick (s : State) (present : List Lane := lanes) (differs : List (Lane × Nat) := []) :
    Host.Outcome State Fault Refusal :=
  .next (
    if mergesRun s = false ∨ now s < s.image.nextMerge ∨
        ((mergeVoters s).filter fun l => present.contains l).length < mergeQuorum s then s
    else
      let p := max 1 (mergePeriod s)
      let tick := s.image.nextMerge + (now s - s.image.nextMerge) / p * p
      mergeAt tick present differs (adoptTables { s with image := { s.image with nextMerge := tick + p } }))

/-! ## Records of each second (R165, R175, R183) -/

/-- SOURCE of the unmapped telegrams of a node, or of a controller's frames (R132, R175). -/
def unmappedSource (k : Nat) : Word :=
  if k < 4096 then BitVec.ofNat 32 (0x20000000 + k * 256) else BitVec.ofNat 32 (0x30000000 + (k - 4096) * 128)

/-- `PER_SECOND_COALESCING` (R165, R175, R183). -/
def execPerSecondCoalescing (s : State) : Host.Outcome State Fault Refusal :=
  .next (
    let s1 := s.image.corrections.foldl (fun t c =>
      record sevEvent 0x0434 (BitVec.ofNat 32 (0x70000000 + c.1)) (le 4 c.2) t) s
    let s2 := s.image.unmapped.foldl (fun t c => record sevEvent 0x0809 (unmappedSource c.1) (le 4 c.2) t) s1
    let s3 := s.image.substs.foldl (fun t c =>
      recordSig sevEvent 0x0421 (sigRec c.1 t).source (sigHandle c.1) (le 1 (c.2 - 1)) t) s2
    { s3 with image := { s3.image with corrections := [], unmapped := [], substs := [] } })

end Sys2Proof.Machine
end

