-- ==== Sys2Proof/Machine/RecorderOps.lean ====
section
/-! DEFINITION. The recorder's store: placing and overwriting records, the writer, reading and clearing, the statistics, and the flood
summaries (R527 to R544, R517, R518). -/

namespace Sys2Proof.Machine

/-- Changes the recorder. -/
def recMod (f : Recorder → Recorder) (s : State) : State := { s with recorder := f s.recorder }

/-! ## The store (R527 to R534) -/

/-- Segments of the store (R527). -/
def segmentCount : Nat := 20480
/-- Bytes of records a segment holds (R527). -/
def segmentBytes : Nat := 131008

/-- Bytes of records in a segment. -/
def segmentUsed (g : Segment) : Nat := g.recs.foldl (fun n r => n + recordLength r.2) 0

/-- SEQUENCE of a segment's last record: what becomes LAST_SEQUENCE (R528). -/
def segmentLast (g : Segment) : Nat := (g.recs.getLast?).elim g.first (·.1)

/-- The OPEN segment of a class is closed (R534). -/
def closeSegment (cls : Nat) (gs : List Segment) : List Segment :=
  gs.map fun g => if g.cls = cls ∧ g.full = false then { g with full := true, last := segmentLast g } else g

/-- The lowest FIRST_SEQUENCE among the segments whose CLASS is at or below `sev` (R534). -/
def oldestFirst (sev : Nat) (gs : List Segment) : Option Nat := ((gs.filter fun g => decide (g.cls ≤ sev)).map (·.first)).min?

/-- Frees the segment that `place` overwrites: of those with CLASS at or below `sev`, the one with the lowest FIRST_SEQUENCE; none
where the store holds only higher severities (R534). -/
def freeOldest (sev : Nat) (gs : List Segment) : Option (List Segment) :=
  (oldestFirst sev gs).map fun n => gs.filter fun g => !(decide (g.cls ≤ sev) && g.first == n)

/-- Appends a record to the OPEN segment of its class. -/
def appendRecord (r : Record) (n : Nat) (gs : List Segment) : List Segment :=
  gs.map fun g => if g.cls = r.sev ∧ g.full = false then { g with recs := g.recs ++ [(n, r)] } else g

/-- Whether the OPEN segment of the class of a record has room for it. -/
def openRoom (r : Record) (gs : List Segment) : Bool :=
  gs.any fun g => g.cls == r.sev && !g.full && decide (segmentUsed g + recordLength r ≤ segmentBytes)

/-- place (R532, R534): the record takes the next SEQUENCE in the OPEN segment of its class, in a FREE one, or in the one that is
overwritten; it is dropped and counted where the store holds only higher severities. -/
def place (r : Record) (s : State) : State :=
  let n := s.recorder.next
  if openRoom r s.recorder.segs then recMod (fun x => { x with segs := appendRecord r n x.segs, next := n + 1 }) s
  else
    let gs := closeSegment r.sev s.recorder.segs
    let free := if gs.length < segmentCount then some gs else freeOldest r.sev gs
    match free with
    | none => recMod (fun x => { x with segs := gs, dropped := tabMod 0 x.dropped r.sev (· + 1) }) s
    | some hs =>
      let g : Segment := { cls := r.sev, full := false, first := n, last := 0, opened := now s, recs := [(n, r)] }
      recMod (fun x => { x with segs := hs ++ [g], next := n + 1 }) s

/-- Whether a SEQUENCE lies above the clear boundary (R537). -/
def aboveClear (s : State) (n : Nat) : Bool :=
  match s.recorder.clearAt with
  | some b => decide (b < n)
  | none => true

/-- Puts a held record at its place in ascending order of SEQUENCE. -/
def insertHeld (e : Nat × Record) : List (Nat × Record) → List (Nat × Record)
  | [] => [e]
  | x :: xs => if e.1 ≤ x.1 then e :: x :: xs else x :: insertHeld e xs

/-- The records held, in ascending order of SEQUENCE (R532, R536, R537). -/
def heldRecords (s : State) : List (Nat × Record) :=
  ((s.recorder.segs.flatMap (·.recs)).filter fun e => aboveClear s e.1).foldr insertHeld []

/-- OLDEST: the lowest SEQUENCE held; NEXT where none is (R534). -/
def oldestHeld (s : State) : Nat := (heldRecords s).head?.elim s.recorder.next (·.1)

/-- A record as the store holds it, with its CHECK (R529). -/
def recordBytes (e : Nat × Record) : List Byte :=
  let r := e.2
  let head := le 8 e.1 ++ le 8 r.time ++ le 2 (recordLength r) ++ le 1 r.sev ++ le 1 r.kind ++ le 2 r.code ++ le 2 r.flags ++
    le 4 r.source.toNat
  head ++ le 4 (crc32c (head ++ zeros 4 ++ r.body)).toNat ++ r.body

/-! ## The writer (R538, R539) -/

/-- The highest severity among general records. -/
def highestSev (rs : List Record) : Nat := rs.foldl (fun m r => max m r.sev) 0

/-- The record the writer takes next, with what stays: the reserve in admission order, then general records by severity (R538). -/
def writerNext (x : Recorder) : Option (Record × Recorder) :=
  match x.reserve with
  | r :: rs => some (r, { x with reserve := rs })
  | [] =>
    let top := highestSev x.general
    match x.general.find? fun r => r.sev == top with
    | some r => some (r, { x with general := x.general.eraseP fun y => y.sev == top })
    | none => none

/-- Records that waited take the slots that became free, in order (R538, R539). -/
def stageWaiting : List Record → List Record → State → State
  | [], kept, s => recMod (fun x => { x with waiting := kept }) s
  | r :: rs, kept, s =>
    let audit := r.sev == 5
    let room := if audit then decide (auditUsed s + recordSlots r ≤ auditSlots) else decide (alarmUsed s + recordSlots r ≤ alarmSlots)
    if room && kept.all (fun x => (x.sev == 5) != audit) then
      stageWaiting rs kept (recMod (fun x => { x with reserve := x.reserve ++ [r] }) s)
    else stageWaiting rs (kept ++ [r]) s

/-- The recorder's firmware runs: not without main power, and in a start only once the store has been read (R535). -/
def writerRuns (s : State) : Bool :=
  match s.modes.mode with
  | .plinth => false
  | .boot => s.modes.roleWait.isSome
  | _ => true

/-- `RECORDER_WRITE` (R17, R534, R538). -/
def execRecorderWrite (s : State) : Host.Outcome State Fault Refusal :=
  .next (
    if writerRuns s = false then s
    else
      match writerNext s.recorder with
      | none => s
      | some (r, x) =>
        let t := place r (demandClock .recorderBurst { s with recorder := x })
        let u := if t.recorder.next = x.next then t else pathDelivered 1 r.sev (recordLength r) t
        stageWaiting u.recorder.waiting [] u)

/-- The power-fail record of R535, placed ahead of every staged record: the staged records of each severity. -/
def placePowerFail (s : State) : State :=
  let staged := s.recorder.reserve ++ s.recorder.general ++ s.recorder.waiting
  let r : Record := {
    time := now s, sev := 4, kind := 4, code := 0x1101, flags := recordFlags s, source := srcUnit 8
    body := (List.range 8).flatMap fun k => le 4 (staged.filter fun x => x.sev == k).length }
  place r s

/-! ## The commands (R517, R518, R536, R537) -/

/-- Records as far as `count` of them and `room` bytes go. -/
def takeRecords : Nat → Nat → List (Nat × Record) → List (Nat × Record)
  | 0, _, _ => []
  | _, _, [] => []
  | n + 1, room, e :: es =>
    if recordLength e.2 ≤ room then e :: takeRecords n (room - recordLength e.2) es else []

/-- Bytes of records. -/
def recordsLength (es : List (Nat × Record)) : Nat := es.foldl (fun n e => n + recordLength e.2) 0

/-- Bytes that the MAILBOX budget of 64 MB/s still allows in this second (R540). -/
def mailboxRoom (s : State) : Nat := 64000000 - (pathRoll (now s) s.recorder.paths[2]).cur.bytes

/-- The response of `EVT_READ` before its records. -/
def evtHead (next oldest : Nat) (es : List (Nat × Record)) : List Byte :=
  le 8 next ++ le 8 oldest ++ le 4 es.length ++ le 4 (recordsLength es)

/-- `EVT_READ` (R517, R536, R540). -/
def execEvtRead (m : MbxId) (s : State) : Host.Outcome State Fault Refusal :=
  .next (runCommand 0x0901 m (fun q t =>
    let cursor := fld64 q.pay 0
    let count := fld32 q.pay 8
    let oldest := oldestHeld t
    if t.recorder.next < cursor then (t, st stInconsistent)
    else if cursor < oldest then (t, { status := stOvertaken, pay := evtHead cursor oldest [] })
    else if count = 0 then (t, ok (evtHead cursor oldest []))
    else
      let reach := (heldRecords t).filter fun e => decide (cursor ≤ e.1) && decide (fld8 q.pay 12 ≤ e.2.sev)
      let asked := takeRecords count (if q.count = 0 then 4040 else claimRoom q) reach
      let es := takeRecords count (mailboxRoom t) asked
      let next := (reach.drop es.length).head?.elim t.recorder.next (·.1)
      let bytes := es.flatMap recordBytes
      let t1 := es.foldl (fun u e => pathDelivered 2 e.2.sev (recordLength e.2) u)
        (offeredMany 2 6400000 asked.length (recordsLength asked) t)
      let head := evtHead next oldest es
      (t1, if q.count = 0 then ok (head ++ bytes) else { status := stOk, pay := head, data := bytes })) s)

/-- The clear boundary of a clear: UP_TO or NEXT − 1, whichever is lower; it never moves back (R537). -/
def clearBoundary (upTo : Nat) (x : Recorder) : Option Nat :=
  if x.next = 0 then x.clearAt else some (max (min upTo (x.next - 1)) (x.clearAt.getD 0))

/-- `EVT_CLEAR` (R537). -/
def execEvtClear (m : MbxId) (s : State) : Host.Outcome State Fault Refusal :=
  .next (runCommand 0x0902 m (fun q t =>
    let u := fld64 q.pay 0
    let b := clearBoundary u t.recorder
    let before := (heldRecords t).length
    let t1 := recMod (fun x =>
      { x with clearAt := b, segs := x.segs.filter fun g => !(g.full && b.elim false fun n => decide (g.last ≤ n)) }) t
    let cleared := before - (heldRecords t1).length
    let n := t1.recorder.next
    let r := plainRecord 5 0x1102 (srcUnit 8) noHandle (reqSession q t)
      (le 8 u ++ le 8 (b.getD 0) ++ le 8 cleared ++ le 4 (reqSession q t).toNat) t
    (place r t1, ok (le 8 cleared ++ le 8 n))) s)

/-- `EVT_STATS` (R518, R527). -/
def execEvtStats (m : MbxId) (s : State) : Host.Outcome State Fault Refusal :=
  .next (readCommand 0x0903 m (fun _ t =>
    let held := heldRecords t
    ok (le 8 (oldestHeld t) ++ le 8 t.recorder.next ++ le 8 (recordsLength held) ++ le 8 (segmentCount * segmentBytes) ++
      ((List.range 8).flatMap fun k => le 4 (held.filter fun e => e.2.sev == k).length) ++
      ((List.range 8).flatMap fun k => le 4 (tabGet 0 t.recorder.dropped k)) ++
      le 8 t.recorder.coalesced ++ le 8 t.recorder.shed ++ zeros 16)) s)

/-! ## Floods (R543) -/

/-- Half of a path's budget over one second, in its weight (R540, R543). -/
def halfBudget (p : Nat) (s : State) : Nat :=
  match p with
  | 0 => 5000
  | 1 => 125000
  | 2 => 32000000
  | _ => sendBudget s * 100000 / 48

/-- A path in FLOOD at a whole second: the count of quiet seconds, and its exit (R543). -/
def judgePath (half : Nat) (q : Path) : Path :=
  if q.flood = false then q
  else if half < q.prev.weight ∨ q.prev.shed ≠ 0 ∨ q.prev.coalesced ≠ 0 then { q with quiet := none }
  else
    match q.quiet with
    | none => { q with quiet := some 0 }
    | some n => if 9 ≤ n then { q with flood := false, quiet := none } else { q with quiet := some (n + 1) }

/-- LOWEST_KEPT: the lowest severity delivered of which none was shed; 0xFF if none (R543). -/
def lowestKept (c : PathCounts) : Nat := ((List.range 8).find? fun k => c.kept.getLsbD k && !c.cut.getLsbD k).getD 0xFF

/-- Age of the oldest staged record (R543). -/
def stagedAge (s : State) : Nat :=
  ((s.recorder.reserve ++ s.recorder.general).map fun r => now s - r.time).foldl max 0

/-- LAG_MS of a path (R543). -/
def pathLag (p : Nat) (s : State) : Nat :=
  match p with
  | 1 => stagedAge s / ms
  | 3 => publicationLag s / ms
  | _ => 0

/-- A path's part of a summary (R543). -/
def pathBytes (s : State) (p : Nat) : List Byte :=
  let c := (vget pathReset s.recorder.paths p).prev
  le 4 c.offered ++ le 4 c.delivered ++ le 4 c.coalesced ++ le 4 c.shed ++ le 1 (lowestKept c) ++ zeros 3 ++ le 4 (pathLag p s) ++
    zeros 8

/-- `FLOOD_SUMMARY` (R543): at a whole second, where a path is in FLOOD. -/
def execFloodSummary (s : State) : Host.Outcome State Fault Refusal :=
  .next (
    if s.recorder.judged < now s / sec ∧ s.recorder.paths.toList.any (·.flood) = true ∧ writerRuns s = true then
      let judge (s : State) (p : Nat) : State := pathMod p (judgePath (halfBudget p s)) s
      let t := (List.range 4).foldl judge (recMod (fun x => { x with judged := now s / sec }) s)
      let floods := ((List.range 4).map fun p => atBit (vget pathReset t.recorder.paths p).flood p).sum
      let used := slotsOf t.recorder.reserve + slotsOf t.recorder.general * 2 ^ 32
      admitRecord {
        time := now t, sev := 4, kind := 2, code := 0x1100, flags := recordFlags t + atBit (floods == 0) 2, source := srcUnit 8
        body := padBody (le 1 floods ++ zeros 7 ++ le 8 used ++ (List.range 4).flatMap (pathBytes t)) } t
    else s)

end Sys2Proof.Machine
end

