-- ==== Sys2Proof/Machine/PowerOps.lean ====
section
/-! DEFINITION. Power, clocks, die temperature and pins: the feeds and the hold-up, the reference, the rails, the management clock, the
wakes, and the inputs of the slot (R17 to R31, R463, R466, R565, R572). -/

namespace Sys2Proof.Machine

/-! ## The feeds and the hold-up (R29 to R31) -/

/-- A feed falls below 17.0 V: its sticky bit sets, with a WARNING (R29). -/
def feedFalls (f : Feed) (s : State) : State :=
  match f with
  | .a => record sevWarning 0x0104 (srcUnit 8) [] (powerMod (fun p => { p with feedAOk := false, feedAUnder := true }) s)
  | .b => record sevWarning 0x0105 (srcUnit 8) [] (powerMod (fun p => { p with feedBOk := false, feedBUnder := true }) s)

/-- `FEED_UNDERVOLTAGE` (R29). -/
def execFeedUndervoltage (f : Feed) (s : State) : Host.Outcome State Fault Refusal :=
  .next (if mainPower s then feedFalls f s else s)

/-- `FEED_RESTORED` (R29, R30, R450): in PLINTH the module starts; a hold-up that runs is not cancelled. -/
def execFeedRestored (f : Feed) (s : State) : Host.Outcome State Fault Refusal :=
  .next (
    let t := match f with
      | .a => powerMod (fun p => { p with feedAOk := true }) s
      | .b => powerMod (fun p => { p with feedBOk := true }) s
    if s.modes.mode = .plinth then enterBoot (plainStart .power) t else t)

/-- `POWER_FAIL` (R30, R433, R459, R535): an active module with a standby in step demotes itself; a start that this interrupts is no
failure; the power-fail record goes to the store. -/
def execPowerFail (s : State) : Host.Outcome State Fault Refusal :=
  .next (
    if mainPower s = false ∨ s.power.powerFail = true then s
    else
      let s1 := if s.power.feedAOk then feedFalls .a s else s
      let s2 := if s1.power.feedBOk then feedFalls .b s1 else s1
      let s3 := powerMod (fun p => { p with powerFail := true }) s2
      let s4 := if s3.modes.mode = .boot then bkp2Bit 31 false s3 else s3
      let s5 := if s4.pair.st = .activePaired then selfDemote causeR30 false s4 else s4
      placePowerFail s5)

/-- The module without main power: all but the Plinth and the persistent memory is off (R30, R31, R448). -/
def plinthState (s : State) : State :=
  let run := s.modes.mode == .run || (s.modes.mode == .boot && s.modes.start.elim false (·.wasRun))
  let p : StartPlan := { plainStart .power with wasRun := run }
  let t := bootState p s
  { t with
    modes := { t.modes with mode := .plinth }
    power := { t.power with powerFail := false } }

/-- `HOLD_UP_END` (R30, R450): PLINTH; where a feed has risen meanwhile, BOOT at once. -/
def execHoldUpEnd (s : State) : Host.Outcome State Fault Refusal :=
  .next (
    if s.power.powerFail = false then s
    else
      let t := plinthState (settleWriting s)
      if t.power.feedAOk || t.power.feedBOk then enterBoot (plainStart .power) t else t)

/-! ## The reference and the rails (R18, R26, R38) -/

/-- `REF_FAULT` (R18, R40): an ALARM at each setting of the bit; the answer is at module level. -/
def execRefFault (stillOutside : Bool) (s : State) : Host.Outcome State Fault Refusal :=
  .next (
    if mainPower s = false then s
    else
      let s1 := powerMod (fun p => { p with refFault := true, refOutside := stillOutside }) s
      let s2 := if s.power.refFault then s1 else record sevAlarm 0x0107 (srcUnit 8) [] s1
      selfDemote causeR18 true s2)

/-- `LANE_RAIL_FAULT` (R26). -/
def execLaneRailFault (l : Lane) (s : State) : Host.Outcome State Fault Refusal :=
  .next (if mainPower s then followTasks s (excludeLane l (powerMod (fun p => { p with laneRailFault := true }) s)) else s)

/-! ## The management clock (R17) -/

/-- `MGMT_CLOCK_DEMAND` (R17): a demand of a kind, whatever raised it. -/
def execMgmtClockDemand (k : ClkDemand) (s : State) : Host.Outcome State Fault Refusal :=
  .next (if mainPower s then demandClock k s else s)

/-- A demand of the highest level lasts: a start is in progress, or a command of R497 is in execution (R17). -/
def demandLasts (s : State) : Bool :=
  s.modes.mode == .boot || allMailboxes.any fun m => (mailboxOf m s).elim false fun b =>
    b.state == 2 && demandOf (fld16 b.copy 0) (b.copy.drop 32) == some .longCommand

/-- Whether a demand for level `k` arose in the last 10 ms, or lasts. -/
def clockDemanded (k : Nat) (s : State) : Bool :=
  match k with
  | 0 => true
  | n + 1 =>
    (n == 2 && demandLasts s) ||
    match vget none s.power.demanded n with
    | some x => decide (now s < x + 10 * ms)
    | none => false

/-- The highest level at or below `k` still demanded; 100 MHz where none is (R17). -/
def clockLevel (s : State) : Nat → Nat
  | 0 => 0
  | k + 1 => if clockDemanded (k + 1) s then k + 1 else clockLevel s k

/-- `MGMT_CLOCK_FALL` (R17): where no demand of the level in force arose for 10 ms, the clock falls to the highest still demanded. -/
def execMgmtClockFall (s : State) : Host.Outcome State Fault Refusal :=
  .next (
    if mainPower s then powerMod (fun p => { p with mgmtClk := BitVec.ofNat 2 (clockLevel s p.mgmtClk.toNat) }) s
    else s)

/-! ## Wakes (R21, R22) -/

/-- A lane in use that is in DEEP_IDLE wakes. -/
def wakeLane (l : Lane) (s : State) : State :=
  if vget .off s.power.lane (laneNo l) = .deepIdle then lanePower l .active s else s

/-- `LANE_WAKE` (R21): at most 60 µs before a scheduled release; a task that steps has one where a step is asked for. -/
def execLaneWake (l : Lane) (s : State) : Host.Outcome State Fault Refusal :=
  .next (
    let due := s.task.toList.any fun k => k.defn.isSome && (k.st == .running || (k.st == .stepping && k.stepAsked)) && decide (k.next ≤ now s + 60 * us)
    if operating s && due then wakeLane l s else s)

/-- `MERGE_WAKE` (R22): at most 60 µs before a merge tick, where the image intake holds an entry. -/
def execMergeWake (s : State) : Host.Outcome State Fault Refusal :=
  .next (
    if mainPower s && !s.image.intake.isEmpty && decide (s.image.nextMerge ≤ now s + 60 * us) then
      lanes.foldl (fun t l => wakeLane l t) s
    else s)

/-! ## Die temperature (R572) -/

/-- The record of a die temperature condition, at the first and at each minute that it lasts (R572). -/
def warmRecord (s : State) : State :=
  if s.power.warmOn && due s.power.warmAt (60 * sec) (now s) then
    record sevWarning 0x0190 (srcUnit 8) (le 2 s.power.dieTemp.toNat) (powerMod (fun p => { p with warmAt := some (now s) }) s)
  else s

/-- The same of the 115 °C condition (R572). -/
def hotRecord (s : State) : State :=
  if s.power.hotOn && due s.power.hotAt (60 * sec) (now s) then
    record sevAlarm 0x0191 (srcUnit 8) (le 2 s.power.dieTemp.toNat) (powerMod (fun p => { p with hotAt := some (now s) }) s)
  else s

/-- What a temperature makes of a condition: it is entered at its threshold and clears 5 °C below it (R572). -/
def dieCondition (on : Bool) (threshold temp : Int) : Bool := decide (threshold * 256 ≤ temp) || (on && decide ((threshold - 5) * 256 ≤ temp))

/-- The power sequencer takes a die temperature (R572). -/
def takeTemp (t : BitVec 16) (heldLimit : Bool) (p : Power) : Power :=
  let x := t.toInt
  { p with
    dieTemp := t
    warm := p.warm || decide (100 * 256 ≤ x)
    hot := p.hot || decide (115 * 256 ≤ x)
    warmOn := dieCondition p.warmOn 100 x
    hotOn := dieCondition p.hotOn 115 x
    limit := (heldLimit && decide (125 * 256 ≤ x)) || (p.limit && decide (120 * 256 ≤ x)) }

/-- A condition entered is recorded at once where its last record lies a minute back or more; one that lasts is left to
`DIE_TEMP_REPEAT` (R572). -/
def enteredRecords (old : Power) (s : State) : State :=
  let s1 := if old.warmOn then s else warmRecord s
  if old.hotOn then s1 else hotRecord s1

/-- `DIE_TEMPERATURE` (R572): `heldLimit` says that 125 °C has lasted for 100 ms; where LIMIT sets, the module enters SAFE. -/
def execDieTemperature (t : BitVec 16) (heldLimit : Bool) (s : State) : Host.Outcome State Fault Refusal :=
  .next (
    if mainPower s = false then s
    else
      let s1 := enteredRecords s.power (powerMod (takeTemp t heldLimit) s)
      if s1.power.limit && !s.power.limit then selfDemote 572 true s1 else s1)

/-- `DIE_TEMP_REPEAT` (R572). -/
def execDieTempRepeat (s : State) : Host.Outcome State Fault Refusal :=
  .next (if mainPower s then hotRecord (warmRecord s) else s)

/-! ## Pins (R450, R463, R466, R565) -/

/-- `RESET_N` (R450, R565). -/
def execResetN (s : State) : Host.Outcome State Fault Refusal :=
  .next (if mainPower s then enterBoot (plainStart .reset) s else s)

/-- `MGMT_WATCHDOG_RESET` (R450). -/
def execMgmtWatchdogReset (s : State) : Host.Outcome State Fault Refusal :=
  .next (if mainPower s then enterBoot (plainStart .watchdog) s else s)

/-- `MANOEUVRING_INPUT` (R451, R565). -/
def execManoeuvringInput (active : Bool) (s : State) : Host.Outcome State Fault Refusal :=
  .next { s with modes := { s.modes with manoeuvring := active } }

/-- `OWNER_LOCK_INPUT` (R466, R565). -/
def execOwnerLockInput (active : Bool) (s : State) : Host.Outcome State Fault Refusal :=
  .next (
    if mainPower s then lockChange 0 (fun m => { m with lockInput := active }) s
    else { s with modes := { s.modes with lockInput := active } })

/-- The test access port is open (R463, R464). -/
def portOpen (s : State) : Bool :=
  s.modes.life == .manufacture || (s.modes.life == .serviceOpen && s.modes.mode == .maintenance) || s.modes.compat

/-- `TCK_WHILE_CLOSED` (R463): the edge is ignored; a WARNING at most once per minute. -/
def execTckWhileClosed (s : State) : Host.Outcome State Fault Refusal :=
  .next (
    if portOpen s || !mainPower s || !due s.modes.lastTck (60 * sec) (now s) then s
    else record sevWarning 0x0D21 (srcUnit 0x0A) [] { s with modes := { s.modes with lastTck := some (now s) } })

end Sys2Proof.Machine
end

