-- ==== Sys2Proof/Machine/Dispatch.lean ====
section
/-! DEFINITION. The dispatch of a command to its meaning: one arm per constructor, in the table's order. -/

namespace Sys2Proof.Machine

def exec (i : Instr) (s : State) : Host.Outcome State Fault Refusal :=
  match i with
  | .identGet m => Sys2Proof.Machine.execIdentGet m s
  | .statusGet m => Sys2Proof.Machine.execStatusGet m s
  | .healthMapGet m => Sys2Proof.Machine.execHealthMapGet m s
  | .modeSet m => Sys2Proof.Machine.execModeSet m s
  | .modeGet m => Sys2Proof.Machine.execModeGet m s
  | .startRequest m => Sys2Proof.Machine.execStartRequest m s
  | .cfgSessionOpen m => Sys2Proof.Machine.execCfgSessionOpen m s
  | .cfgWrite m => Sys2Proof.Machine.execCfgWrite m s
  | .cfgRead m => Sys2Proof.Machine.execCfgRead m s
  | .cfgCommit m => Sys2Proof.Machine.execCfgCommit m s
  | .cfgAbandon m => Sys2Proof.Machine.execCfgAbandon m s
  | .tuneWrite m => Sys2Proof.Machine.execTuneWrite m s
  | .groupApply m => Sys2Proof.Machine.execGroupApply m s
  | .progLoad m => Sys2Proof.Machine.execProgLoad m s
  | .progVerify m => Sys2Proof.Machine.execProgVerify m s
  | .progExchange m => Sys2Proof.Machine.execProgExchange m s
  | .progStart m => Sys2Proof.Machine.execProgStart m s
  | .progStop m => Sys2Proof.Machine.execProgStop m s
  | .progHold m => Sys2Proof.Machine.execProgHold m s
  | .progStep m => Sys2Proof.Machine.execProgStep m s
  | .progResume m => Sys2Proof.Machine.execProgResume m s
  | .sigRead m => Sys2Proof.Machine.execSigRead m s
  | .sigWrite m => Sys2Proof.Machine.execSigWrite m s
  | .sigForce m => Sys2Proof.Machine.execSigForce m s
  | .sigUnforce m => Sys2Proof.Machine.execSigUnforce m s
  | .sigSubscribe m => Sys2Proof.Machine.execSigSubscribe m s
  | .sigBulkRead m => Sys2Proof.Machine.execSigBulkRead m s
  | .loopStateGet m => Sys2Proof.Machine.execLoopStateGet m s
  | .loopModeSet m => Sys2Proof.Machine.execLoopModeSet m s
  | .loopRepReset m => Sys2Proof.Machine.execLoopRepReset m s
  | .chanStatusGet m => Sys2Proof.Machine.execChanStatusGet m s
  | .chanTest m pass measured => Sys2Proof.Machine.execChanTest m pass measured s
  | .timeGet m => Sys2Proof.Machine.execTimeGet m s
  | .timeStep m => Sys2Proof.Machine.execTimeStep m s
  | .timeRate m => Sys2Proof.Machine.execTimeRate m s
  | .rtcSet m => Sys2Proof.Machine.execRtcSet m s
  | .rtcAlarmSet m => Sys2Proof.Machine.execRtcAlarmSet m s
  | .backupRead m => Sys2Proof.Machine.execBackupRead m s
  | .backupWrite m => Sys2Proof.Machine.execBackupWrite m s
  | .evtRead m => Sys2Proof.Machine.execEvtRead m s
  | .evtClear m => Sys2Proof.Machine.execEvtClear m s
  | .evtStats m => Sys2Proof.Machine.execEvtStats m s
  | .updBegin m => Sys2Proof.Machine.execUpdBegin m s
  | .updBlock m => Sys2Proof.Machine.execUpdBlock m s
  | .updVerify m => Sys2Proof.Machine.execUpdVerify m s
  | .updActivate m => Sys2Proof.Machine.execUpdActivate m s
  | .updCancel m => Sys2Proof.Machine.execUpdCancel m s
  | .panelUpdate m => Sys2Proof.Machine.execPanelUpdate m s
  | .panelStatus m => Sys2Proof.Machine.execPanelStatus m s
  | .panelWaveformLoad m => Sys2Proof.Machine.execPanelWaveformLoad m s
  | .panelClean m => Sys2Proof.Machine.execPanelClean m s
  | .pairStatus m => Sys2Proof.Machine.execPairStatus m s
  | .pairSwitchover m => Sys2Proof.Machine.execPairSwitchover m s
  | .pairResync m => Sys2Proof.Machine.execPairResync m s
  | .authLogin m => Sys2Proof.Machine.execAuthLogin m s
  | .authLogout m => Sys2Proof.Machine.execAuthLogout m s
  | .safetyPasswordSet m => Sys2Proof.Machine.execSafetyPasswordSet m s
  | .changelogRead m => Sys2Proof.Machine.execChangelogRead m s
  | .changelogAck m => Sys2Proof.Machine.execChangelogAck m s
  | .lifecycleSet m => Sys2Proof.Machine.execLifecycleSet m s
  | .ownerLock m => Sys2Proof.Machine.execOwnerLock m s
  | .diagRegRead m => Sys2Proof.Machine.execDiagRegRead m s
  | .diagRegWrite m => Sys2Proof.Machine.execDiagRegWrite m s
  | .bistRun m failed durationMs => Sys2Proof.Machine.execBistRun m failed durationMs s
  | .laneConfigSet m => Sys2Proof.Machine.execLaneConfigSet m s
  | .debugAttach m => Sys2Proof.Machine.execDebugAttach m s
  | .mbxSubmit n => Sys2Proof.Machine.execMbxSubmit n s
  | .mbxAck n => Sys2Proof.Machine.execMbxAck n s
  | .hostReset => Sys2Proof.Machine.execHostReset s
  | .flagWrite k v => Sys2Proof.Machine.execFlagWrite k v s
  | .carriageDataWrite addr data => Sys2Proof.Machine.execCarriageDataWrite addr data s
  | .mailboxBufferWrite off data => Sys2Proof.Machine.execMailboxBufferWrite off data s
  | .irqEnableWrite v => Sys2Proof.Machine.execIrqEnableWrite v s
  | .hiErrorsRead => Sys2Proof.Machine.execHiErrorsRead s
  | .tsnapLoRead => Sys2Proof.Machine.execTsnapLoRead s
  | .registerWrite space off v => Sys2Proof.Machine.execRegisterWrite space off v s
  | .pcieLinkLoss => Sys2Proof.Machine.execPcieLinkLoss s
  | .sessionTimeout x => Sys2Proof.Machine.execSessionTimeout x s
  | .tlsConnect certOk => Sys2Proof.Machine.execTlsConnect certOk s
  | .tlsCommand t mailbox body => Sys2Proof.Machine.execTlsCommand t mailbox body s
  | .tlsTransfer t body => Sys2Proof.Machine.execTlsTransfer t body s
  | .tlsKeepalive t body => Sys2Proof.Machine.execTlsKeepalive t body s
  | .tlsKeepaliveSend t => Sys2Proof.Machine.execTlsKeepaliveSend t s
  | .tlsReceiveTimeout t => Sys2Proof.Machine.execTlsReceiveTimeout t s
  | .tlsConnectionClosed t => Sys2Proof.Machine.execTlsConnectionClosed t s
  | .subscriptionIntervalExpiry slot => Sys2Proof.Machine.execSubscriptionIntervalExpiry slot s
  | .feedUndervoltage f => Sys2Proof.Machine.execFeedUndervoltage f s
  | .feedRestored f => Sys2Proof.Machine.execFeedRestored f s
  | .powerFail => Sys2Proof.Machine.execPowerFail s
  | .holdUpEnd => Sys2Proof.Machine.execHoldUpEnd s
  | .refFault stillOutside => Sys2Proof.Machine.execRefFault stillOutside s
  | .laneRailFault l => Sys2Proof.Machine.execLaneRailFault l s
  | .laneFault l => Sys2Proof.Machine.execLaneFault l s
  | .mgmtClockDemand k => Sys2Proof.Machine.execMgmtClockDemand k s
  | .mgmtClockFall => Sys2Proof.Machine.execMgmtClockFall s
  | .laneWake l => Sys2Proof.Machine.execLaneWake l s
  | .mergeWake => Sys2Proof.Machine.execMergeWake s
  | .dieTemperature t heldLimit => Sys2Proof.Machine.execDieTemperature t heldLimit s
  | .dieTempRepeat => Sys2Proof.Machine.execDieTempRepeat s
  | .resetN => Sys2Proof.Machine.execResetN s
  | .mgmtWatchdogReset => Sys2Proof.Machine.execMgmtWatchdogReset s
  | .manoeuvringInput active => Sys2Proof.Machine.execManoeuvringInput active s
  | .ownerLockInput active => Sys2Proof.Machine.execOwnerLockInput active s
  | .tckWhileClosed => Sys2Proof.Machine.execTckWhileClosed s
  | .start failed lines => Sys2Proof.Machine.execStart failed lines s
  | .startDelayExpiry => Sys2Proof.Machine.execStartDelayExpiry s
  | .bistGroupComplete group failed => Sys2Proof.Machine.execBistGroupComplete group failed s
  | .startTimeout => Sys2Proof.Machine.execStartTimeout s
  | .pairStartWaitExpiry => Sys2Proof.Machine.execPairStartWaitExpiry s
  | .taskRelease t => Sys2Proof.Machine.execTaskRelease t s
  | .cp1Agree t items present shown => Sys2Proof.Machine.execCp1Agree t items present shown s
  | .cp2Compare t rs shown => Sys2Proof.Machine.execCp2Compare t rs shown s
  | .cp3Commit t ws present => Sys2Proof.Machine.execCp3Commit t ws s present
  | .lateLaneCheck t l k => Sys2Proof.Machine.execLateLaneCheck t l k s
  | .lagLimitExpiry t l first => Sys2Proof.Machine.execLagLimitExpiry t l s first
  | .wcetExceeded t => Sys2Proof.Machine.execWcetExceeded t s
  | .deadlineOverrun t => Sys2Proof.Machine.execDeadlineOverrun t s
  | .passLimitExpiry t => Sys2Proof.Machine.execPassLimitExpiry t s
  | .exclusionCountAgeing l => Sys2Proof.Machine.execExclusionCountAgeing l s
  | .resyncHoldExpiry l => Sys2Proof.Machine.execResyncHoldExpiry l s
  | .firmwareReloadComplete l => Sys2Proof.Machine.execFirmwareReloadComplete l s
  | .dramClearComplete l => Sys2Proof.Machine.execDramClearComplete l s
  | .resyncCopyComplete => Sys2Proof.Machine.execResyncCopyComplete s
  | .resyncSuspend => Sys2Proof.Machine.execResyncSuspend s
  | .resyncResume => Sys2Proof.Machine.execResyncResume s
  | .mergeTick present differs => Sys2Proof.Machine.execMergeTick s present differs
  | .pubBlockReceived src data => Sys2Proof.Machine.execPubBlockReceived src data s
  | .pubGapHoldExpiry st => Sys2Proof.Machine.execPubGapHoldExpiry st s
  | .pubChangeBlockClose => Sys2Proof.Machine.execPubChangeBlockClose s
  | .pubKeepalive => Sys2Proof.Machine.execPubKeepalive s
  | .refreshBlock => Sys2Proof.Machine.execRefreshBlock s
  | .pubSequenceStore => Sys2Proof.Machine.execPubSequenceStore s
  | .pubLagWarning => Sys2Proof.Machine.execPubLagWarning s
  | .peerTimeout st => Sys2Proof.Machine.execPeerTimeout st s
  | .peerLossTime st => Sys2Proof.Machine.execPeerLossTime st s
  | .nodeTelegramReceived net srcAddr data => Sys2Proof.Machine.execNodeTelegramReceived net srcAddr data s
  | .signalStaleTimeout index lost => Sys2Proof.Machine.execSignalStaleTimeout index lost s
  | .outputRepeatExpiry k => Sys2Proof.Machine.execOutputRepeatExpiry k s
  | .outputHoldoffExpiry node no => Sys2Proof.Machine.execOutputHoldoffExpiry node no s
  | .takeoverFlagExpiry node => Sys2Proof.Machine.execTakeoverFlagExpiry node s
  | .nodeSilent node => Sys2Proof.Machine.execNodeSilent node s
  | .arpRefresh => Sys2Proof.Machine.execArpRefresh s
  | .arpFrame net request senderIp senderMac targetIp => Sys2Proof.Machine.execArpFrame net request senderIp senderMac targetIp s
  | .igmpQuery net => Sys2Proof.Machine.execIgmpQuery net s
  | .icmpEchoRequest net src body => Sys2Proof.Machine.execIcmpEchoRequest net src body s
  | .hsrRingFrame p frame ptpEvent residenceNs => Sys2Proof.Machine.execHsrRingFrame p frame ptpEvent residenceNs s
  | .linkChange p up speedOk => Sys2Proof.Machine.execLinkChange p up speedOk s
  | .supervisionFrame p src seq otherLan => Sys2Proof.Machine.execSupervisionFrame p src seq otherLan s
  | .supervisionSend => Sys2Proof.Machine.execSupervisionSend s
  | .supervisionLoss p => Sys2Proof.Machine.execSupervisionLoss p s
  | .dupTableForget src node => Sys2Proof.Machine.execDupTableForget src node s
  | .canFrameReceived c f => Sys2Proof.Machine.execCanFrameReceived c f s
  | .canLockRelease c m => Sys2Proof.Machine.execCanLockRelease c m s
  | .canTxComplete c o => Sys2Proof.Machine.execCanTxComplete c o s
  | .canReferenceTime c => Sys2Proof.Machine.execCanReferenceTime c s
  | .canWindowStart c m => Sys2Proof.Machine.execCanWindowStart c m s
  | .canMasterResume c => Sys2Proof.Machine.execCanMasterResume c s
  | .canBusOff c => Sys2Proof.Machine.execCanBusOff c s
  | .canBusoffRecovery c => Sys2Proof.Machine.execCanBusoffRecovery c s
  | .conversionComplete ch raw aux lead atCompliance => Sys2Proof.Machine.execConversionComplete ch raw aux lead atCompliance s
  | .cjSample n temp => Sys2Proof.Machine.execCjSample n temp s
  | .ucOpenCircuitDetect ch recovered => Sys2Proof.Machine.execUcOpenCircuitDetect ch recovered s
  | .testPulse ch => Sys2Proof.Machine.execTestPulse ch s
  | .testPulseEnd ch current => Sys2Proof.Machine.execTestPulseEnd ch current s
  | .ucComplianceLowDetect ch recovered => Sys2Proof.Machine.execUcComplianceLowDetect ch recovered s
  | .ucShortCircuitDetect ch recovered => Sys2Proof.Machine.execUcShortCircuitDetect ch recovered s
  | .ucLoopSupplyLimit ch => Sys2Proof.Machine.execUcLoopSupplyLimit ch s
  | .converterRegulationFault ch => Sys2Proof.Machine.execConverterRegulationFault ch s
  | .channelReconfigStep ch => Sys2Proof.Machine.execChannelReconfigStep ch s
  | .digitalTransitionAccepted ch => Sys2Proof.Machine.execDigitalTransitionAccepted ch s
  | .stateWordSend g => Sys2Proof.Machine.execStateWordSend g s
  | .digitalAlignment g => Sys2Proof.Machine.execDigitalAlignment g s
  | .chatterClear ch => Sys2Proof.Machine.execChatterClear ch s
  | .outputMismatchDetect ch recovered => Sys2Proof.Machine.execOutputMismatchDetect ch recovered s
  | .switchShortCircuit ch recovered => Sys2Proof.Machine.execSwitchShortCircuit ch recovered s
  | .switchRetry ch => Sys2Proof.Machine.execSwitchRetry ch s
  | .groupOverloadShed g largest currentMa => Sys2Proof.Machine.execGroupOverloadShed g largest currentMa s
  | .openLoadDetect ch recovered => Sys2Proof.Machine.execOpenLoadDetect ch recovered s
  | .fsLowDetect g recovered voltage => Sys2Proof.Machine.execFsLowDetect g recovered voltage s
  | .groupConverterFault g => Sys2Proof.Machine.execGroupConverterFault g s
  | .encoderIndex ch => Sys2Proof.Machine.execEncoderIndex ch s
  | .encoderRefEdge ch => Sys2Proof.Machine.execEncoderRefEdge ch s
  | .periodEdge ch => Sys2Proof.Machine.execPeriodEdge ch s
  | .countTimeout ch => Sys2Proof.Machine.execCountTimeout ch s
  | .digitalReconfigStep ch => Sys2Proof.Machine.execDigitalReconfigStep ch s
  | .loopSampleTick n => Sys2Proof.Machine.execLoopSampleTick n s
  | .loopCopyDelivery n l u work => Sys2Proof.Machine.execLoopCopyDelivery n l u work s
  | .loopSampleDeadline n => Sys2Proof.Machine.execLoopSampleDeadline n s
  | .loopCheckpointWrite => Sys2Proof.Machine.execLoopCheckpointWrite s
  | .loopStateEntryReceived e => Sys2Proof.Machine.execLoopStateEntryReceived e s
  | .degradedTimeExpiry f => Sys2Proof.Machine.execDegradedTimeExpiry f s
  | .passwordLockoutEnd => Sys2Proof.Machine.execPasswordLockoutEnd s
  | .loginLockoutEnd user => Sys2Proof.Machine.execLoginLockoutEnd user s
  | .retainedCommitClosed t => Sys2Proof.Machine.execRetainedCommitClosed t s
  | .retentionLagWarning => Sys2Proof.Machine.execRetentionLagWarning s
  | .preparationCaughtUp => Sys2Proof.Machine.execPreparationCaughtUp s
  | .standbyReadyAck => Sys2Proof.Machine.execStandbyReadyAck s
  | .castAbandonDeadline => Sys2Proof.Machine.execCastAbandonDeadline s
  | .castPoint => Sys2Proof.Machine.execCastPoint s
  | .timeWrap => Sys2Proof.Machine.execTimeWrap s
  | .timeNsRead => Sys2Proof.Machine.execTimeNsRead s
  | .timeIncWrite v => Sys2Proof.Machine.execTimeIncWrite v s
  | .timeCtrlStep ppsOutEn => Sys2Proof.Machine.execTimeCtrlStep ppsOutEn s
  | .timeCtrlNewSession step ppsOutEn => Sys2Proof.Machine.execTimeCtrlNewSession step ppsOutEn s
  | .tempRateExpiry => Sys2Proof.Machine.execTempRateExpiry s
  | .ptpAnnounce p d => Sys2Proof.Machine.execPtpAnnounce p d s
  | .ptpSync p seq twoStep origin correction rx => Sys2Proof.Machine.execPtpSync p seq twoStep origin correction rx s
  | .ptpFollowUp p seq origin correction => Sys2Proof.Machine.execPtpFollowUp p seq origin correction s
  | .ptpDelayResp p tx received correction => Sys2Proof.Machine.execPtpDelayResp p tx received correction s
  | .syncTimeout => Sys2Proof.Machine.execSyncTimeout s
  | .offsetQuiet => Sys2Proof.Machine.execOffsetQuiet s
  | .ppsEdge stamp => Sys2Proof.Machine.execPpsEdge stamp s
  | .ppsMissing => Sys2Proof.Machine.execPpsMissing s
  | .ref10Measure ppb => Sys2Proof.Machine.execRef10Measure ppb s
  | .ppsOutSecond => Sys2Proof.Machine.execPpsOutSecond s
  | .plinthReload => Sys2Proof.Machine.execPlinthReload s
  | .timeNotValidWarning => Sys2Proof.Machine.execTimeNotValidWarning s
  | .drawbarTime theta => Sys2Proof.Machine.execDrawbarTime theta s
  | .timeStreamStop => Sys2Proof.Machine.execTimeStreamStop s
  | .rtcTicksLoRead => Sys2Proof.Machine.execRtcTicksLoRead s
  | .rtcCtrlLoadTicks => Sys2Proof.Machine.execRtcCtrlLoadTicks s
  | .rtcCtrlLoadWday => Sys2Proof.Machine.execRtcCtrlLoadWday s
  | .rtcCtrlMarkLost => Sys2Proof.Machine.execRtcCtrlMarkLost s
  | .rtcLoadApply => Sys2Proof.Machine.execRtcLoadApply s
  | .rtcWrap => Sys2Proof.Machine.execRtcWrap s
  | .dayPhaseRollover => Sys2Proof.Machine.execDayPhaseRollover s
  | .rtcAlarmMatch n => Sys2Proof.Machine.execRtcAlarmMatch n s
  | .cellMeasurement millivolts => Sys2Proof.Machine.execCellMeasurement millivolts s
  | .retentionMonitorTrip => Sys2Proof.Machine.execRetentionMonitorTrip s
  | .plinthPowerOnReset => Sys2Proof.Machine.execPlinthPowerOnReset s
  | .panelFrameStart p => Sys2Proof.Machine.execPanelFrameStart p s
  | .panelTempRead p reading => Sys2Proof.Machine.execPanelTempRead p reading s
  | .panelBandHold p => Sys2Proof.Machine.execPanelBandHold p s
  | .pwrGoodLow p => Sys2Proof.Machine.execPwrGoodLow p s
  | .pwrGoodTimeout p => Sys2Proof.Machine.execPwrGoodTimeout p s
  | .panelPowerOff p => Sys2Proof.Machine.execPanelPowerOff p s
  | .panelCleanIdle p => Sys2Proof.Machine.execPanelCleanIdle p s
  | .panelCheckpointWritten p id => Sys2Proof.Machine.execPanelCheckpointWritten p id s
  | .heartbeatSend => Sys2Proof.Machine.execHeartbeatSend s
  | .heartbeatReceived link h => Sys2Proof.Machine.execHeartbeatReceived link h s
  | .heartbeatLoss => Sys2Proof.Machine.execHeartbeatLoss s
  | .pairLiveToggle => Sys2Proof.Machine.execPairLiveToggle s
  | .pairLiveStale => Sys2Proof.Machine.execPairLiveStale s
  | .pairActIChange level => Sys2Proof.Machine.execPairActIChange level s
  | .activityConflict => Sys2Proof.Machine.execActivityConflict s
  | .fieldRefreshTimeout => Sys2Proof.Machine.execFieldRefreshTimeout s
  | .demoteReceived link => Sys2Proof.Machine.execDemoteReceived link s
  | .demotionTakeoverTimeout => Sys2Proof.Machine.execDemotionTakeoverTimeout s
  | .drawbarLinkChange link up => Sys2Proof.Machine.execDrawbarLinkChange link up s
  | .drawbarHello link h => Sys2Proof.Machine.execDrawbarHello link h s
  | .agreedInputsReceived x => Sys2Proof.Machine.execAgreedInputsReceived x s
  | .agreedInputsTimeout t => Sys2Proof.Machine.execAgreedInputsTimeout t s
  | .commitDigestReceived t cycleNo sigs generation => Sys2Proof.Machine.execCommitDigestReceived t cycleNo sigs generation s
  | .pairControlMessage c => Sys2Proof.Machine.execPairControlMessage c s
  | .crossfadeStart => Sys2Proof.Machine.execCrossfadeStart s
  | .crossfadeStep => Sys2Proof.Machine.execCrossfadeStep s
  | .handoverTime => Sys2Proof.Machine.execHandoverTime s
  | .handoverEnd => Sys2Proof.Machine.execHandoverEnd s
  | .verificationResume => Sys2Proof.Machine.execVerificationResume s
  | .catchupPhaseComplete c => Sys2Proof.Machine.execCatchupPhaseComplete c s
  | .catchupSuspend restart => Sys2Proof.Machine.execCatchupSuspend restart s
  | .outOfStepRetry => Sys2Proof.Machine.execOutOfStepRetry s
  | .reachDemote => Sys2Proof.Machine.execReachDemote s
  | .recorderWrite => Sys2Proof.Machine.execRecorderWrite s
  | .floodSummary => Sys2Proof.Machine.execFloodSummary s
  | .countEdge ch down bothTracks tooFast => Sys2Proof.Machine.execCountEdge ch down bothTracks tooFast s
  | .digitalInputChange ch level => Sys2Proof.Machine.execDigitalInputChange ch level s
  | .breakpointHalt retired checker => Sys2Proof.Machine.execBreakpointHalt retired s checker
  | .pairTimeStep => Sys2Proof.Machine.execPairTimeStep s
  | .tlsKeyUpdate t received => Sys2Proof.Machine.execTlsKeyUpdate t received s
  | .canBusError c err transmitter => Sys2Proof.Machine.execCanBusError c err transmitter s
  | .portFrameDiscard p why => Sys2Proof.Machine.execPortFrameDiscard p why s
  | .pwrGoodRise p confirmed => Sys2Proof.Machine.execPwrGoodRise p confirmed s
  | .perSecondCoalescing => Sys2Proof.Machine.execPerSecondCoalescing s

end Sys2Proof.Machine
end

