-- ==== Sys2Proof/Safety.lean ====
section
/-! DEFINITION. What a safe run is, and the other terms the statements use: a command in flight and its answer, the firmware store
between commands, and the life-cycle transitions. -/

namespace Sys2Proof.Machine

/-- An outcome is safe when the block goes on. -/
def Safe (o : Host.Outcome State Fault Refusal) : Prop := ∃ t, o = .next t

/-! ## Commands in flight -/

/-- The request of a mailbox whose command is in execution (R475, R482). -/
def requestOf (m : MbxId) (b : Mailbox) : Req :=
  { mbx := m, pay := (b.copy.drop 32).take (fld32 b.copy 12), first := b.first, count := b.count }

/-- Mailbox `m` is RUNNING the command `code` with the request `q` (R473, R474). -/
def InFlight (m : MbxId) (code : Nat) (q : Req) (s : State) : Prop :=
  ∃ b, mailboxOf m s = some b ∧ b.state = 2 ∧ fld16 b.copy 0 = code ∧ q = requestOf m b

/-- The catalogue of host commands (R493, R498): the mailbox a row runs in, and its code. -/
def codeOf : Instr → Option (MbxId × Nat)
  | .identGet m => some (m, 0x0101)
  | .statusGet m => some (m, 0x0102)
  | .healthMapGet m => some (m, 0x0103)
  | .modeSet m => some (m, 0x0201)
  | .modeGet m => some (m, 0x0202)
  | .startRequest m => some (m, 0x0203)
  | .cfgSessionOpen m => some (m, 0x0301)
  | .cfgWrite m => some (m, 0x0302)
  | .cfgRead m => some (m, 0x0303)
  | .cfgCommit m => some (m, 0x0304)
  | .cfgAbandon m => some (m, 0x0305)
  | .tuneWrite m => some (m, 0x0306)
  | .groupApply m => some (m, 0x0307)
  | .progLoad m => some (m, 0x0401)
  | .progVerify m => some (m, 0x0402)
  | .progExchange m => some (m, 0x0403)
  | .progStart m => some (m, 0x0404)
  | .progStop m => some (m, 0x0405)
  | .progHold m => some (m, 0x0406)
  | .progStep m => some (m, 0x0407)
  | .progResume m => some (m, 0x0408)
  | .sigRead m => some (m, 0x0501)
  | .sigWrite m => some (m, 0x0502)
  | .sigForce m => some (m, 0x0503)
  | .sigUnforce m => some (m, 0x0504)
  | .sigSubscribe m => some (m, 0x0505)
  | .sigBulkRead m => some (m, 0x0506)
  | .loopStateGet m => some (m, 0x0601)
  | .loopModeSet m => some (m, 0x0602)
  | .loopRepReset m => some (m, 0x0603)
  | .chanStatusGet m => some (m, 0x0701)
  | .chanTest m _ _ => some (m, 0x0702)
  | .timeGet m => some (m, 0x0801)
  | .timeStep m => some (m, 0x0802)
  | .timeRate m => some (m, 0x0803)
  | .rtcSet m => some (m, 0x0804)
  | .rtcAlarmSet m => some (m, 0x0805)
  | .backupRead m => some (m, 0x0806)
  | .backupWrite m => some (m, 0x0807)
  | .evtRead m => some (m, 0x0901)
  | .evtClear m => some (m, 0x0902)
  | .evtStats m => some (m, 0x0903)
  | .updBegin m => some (m, 0x0A01)
  | .updBlock m => some (m, 0x0A02)
  | .updVerify m => some (m, 0x0A03)
  | .updActivate m => some (m, 0x0A04)
  | .updCancel m => some (m, 0x0A05)
  | .panelUpdate m => some (m, 0x0B01)
  | .panelStatus m => some (m, 0x0B02)
  | .panelWaveformLoad m => some (m, 0x0B03)
  | .panelClean m => some (m, 0x0B04)
  | .pairStatus m => some (m, 0x0C01)
  | .pairSwitchover m => some (m, 0x0C02)
  | .pairResync m => some (m, 0x0C03)
  | .authLogin m => some (m, 0x0D01)
  | .authLogout m => some (m, 0x0D02)
  | .safetyPasswordSet m => some (m, 0x0D03)
  | .changelogRead m => some (m, 0x0D04)
  | .changelogAck m => some (m, 0x0D05)
  | .lifecycleSet m => some (m, 0x0D06)
  | .ownerLock m => some (m, 0x0D07)
  | .diagRegRead m => some (m, 0x0E01)
  | .diagRegWrite m => some (m, 0x0E02)
  | .bistRun m _ _ => some (m, 0x0E03)
  | .laneConfigSet m => some (m, 0x0E04)
  | .debugAttach m => some (m, 0x0E05)
  | _ => none

/-- The command of mailbox `m` runs to its end: it answers `r`, from the state `u` that its effect leaves. -/
def Answers (c : Instr) (m : MbxId) (s : State) (r : Resp) (u : State) : Prop := exec c s = .next (respond m r u)

/-! ## The firmware store and the life cycle -/

/-- The firmware store between commands (R545, R549, R550): a code of R549, never COPYING at rest, and a TRIAL mark exactly while the
update is in TRIAL. -/
def FirmwareInv (f : Firmware) : Prop := f.st ≤ 7 ∧ f.st ≠ 5 ∧ f.trial = (f.st == 6)

/-- What no command may take from the firmware store (R548, R10): MIN_SECURITY_VERSION never falls, the identity stays, and the
invariant holds on. -/
def FirmwareNext (a b : Firmware) : Prop :=
  a.minSecurity ≤ b.minSecurity ∧ b.serial = a.serial ∧ b.orderCode = a.orderCode ∧ b.pciIds = a.pciIds ∧
    (FirmwareInv a → FirmwareInv b)

/-- The life-cycle transitions of R462. -/
def LifeMove : Lifecycle → Lifecycle → Bool
  | .manufacture, .commissioning | .commissioning, .inService | .inService, .commissioning | .inService, .serviceOpen
  | .serviceOpen, .inService | .commissioning, .decommissioned | .inService, .decommissioned | .serviceOpen, .decommissioned => true
  | _, _ => false

/-! ## Modes -/

/-- STOP, RUN and HOLD. -/
def programMode : Mode → Bool
  | .stop | .run | .hold => true
  | _ => false

/-- The transitions of R450, each with the commands that make it. -/
def ModeMove (c : Instr) (x y : Mode) : Bool :=
  match c with
  | .feedRestored _ => x == .plinth && y == .boot
  | .holdUpEnd => y == .plinth || y == .boot
  | .resetN | .mgmtWatchdogReset | .startDelayExpiry => x != .plinth && y == .boot
  | .start _ _ => x == .boot && (y == .stop || y == .run || y == .maintenance || y == .standby || y == .safe)
  | .pairStartWaitExpiry | .drawbarHello _ _ => x == .boot && (y == .stop || y == .run || y == .maintenance || y == .standby)
  | .startTimeout => x == .boot && y == .safe
  | .modeSet _ =>
    match x, y with
    | .stop, .run | .run, .stop | .hold, .stop | .run, .hold | .hold, .run | .stop, .maintenance | .safe, .maintenance => true
    | _, _ => false
  | .activityConflict => programMode x && y == .standby
  | .handoverEnd => programMode x && (y == .standby || y == .safe)
  | .demotionTakeoverTimeout => programMode x && y == .safe
  | .demoteReceived _ | .heartbeatLoss | .pairLiveStale | .pairActIChange _ | .handoverTime => x == .standby && programMode y
  | .cp1Agree _ _ _ _ | .cp2Compare _ _ _ | .lagLimitExpiry _ _ _ | .laneFault _ | .laneRailFault _ | .lateLaneCheck _ _ _
  | .breakpointHalt _ _ | .mergeTick _ _ | .loopCopyDelivery _ _ _ _ | .loopSampleDeadline _ | .dieTemperature _ _ | .refFault _ | .reachDemote | .powerFail
  | .nodeTelegramReceived _ _ _ => (programMode x || x == .standby) && y == .safe
  | _ => false

/-! ## Frames -/

/-- The parts of the block: the units, and of `modes` the mode and the life-cycle state by themselves. -/
inductive Part where
  | recorder | host | time | plinth | power | cpl | task | retained | image | pub | prog | loop | uc | cj | dig | counter | group | safety | net | can | panel | updates | pair | modes | cfg | fw | out | fresh | pending | mode | life
deriving DecidableEq, Repr

/-- A part is the same in both states. -/
def Part.same (p : Part) (s t : State) : Prop :=
  match p with
  | .recorder => t.recorder = s.recorder
  | .host => t.host = s.host
  | .time => t.time = s.time
  | .plinth => t.plinth = s.plinth
  | .power => t.power = s.power
  | .cpl => t.cpl = s.cpl
  | .task => t.task = s.task
  | .retained => t.retained = s.retained
  | .image => t.image = s.image
  | .pub => t.pub = s.pub
  | .prog => t.prog = s.prog
  | .loop => t.loop = s.loop
  | .uc => t.uc = s.uc
  | .cj => t.cj = s.cj
  | .dig => t.dig = s.dig
  | .counter => t.counter = s.counter
  | .group => t.group = s.group
  | .safety => t.safety = s.safety
  | .net => t.net = s.net
  | .can => t.can = s.can
  | .panel => t.panel = s.panel
  | .updates => t.updates = s.updates
  | .pair => t.pair = s.pair
  | .modes => t.modes = s.modes
  | .cfg => t.cfg = s.cfg
  | .fw => t.fw = s.fw
  | .out => t.out = s.out
  | .fresh => t.fresh = s.fresh
  | .pending => t.pending = s.pending
  | .mode => t.modes.mode = s.modes.mode
  | .life => t.modes.life = s.modes.life

/-- Nothing outside the parts `ps` differs. -/
structure Within (ps : List Part) (s t : State) : Prop where
  /-- A part that is not listed. -/
  same : ∀ p, ps.contains p = false → p.same s t

/-- All parts. -/
def allParts : List Part :=
  [.recorder, .host, .time, .plinth, .power, .cpl, .task, .retained, .image, .pub, .prog, .loop, .uc, .cj, .dig, .counter,
    .group, .safety, .net, .can, .panel, .updates, .pair, .modes, .cfg, .fw, .out, .fresh, .pending, .mode, .life]

/-- All parts but some. -/
def allBut (ps : List Part) : List Part := allParts.filter fun p => !ps.contains p

/-- The parts that a command may change: every other part it leaves as it is. -/
def touches : Instr → List Part
  | .identGet _ | .statusGet _ | .healthMapGet _ | .modeGet _ | .cfgRead _ | .sigRead _ | .sigSubscribe _ | .sigBulkRead _ |
    .chanStatusGet _ | .backupRead _ | .evtStats _ | .panelStatus _ | .pairStatus _ | .pairResync _ | .changelogRead _ |
    .mbxSubmit _ | .flagWrite _ _ | .tlsKeepaliveSend _ | .subscriptionIntervalExpiry _ | .tlsKeyUpdate _ _ =>
    [.host, .power, .out]
  | .modeSet _ =>
    allBut [.time, .plinth, .pub, .cj, .counter, .group, .net, .panel, .updates, .fw, .pending, .life]
  | .startRequest _ =>
    [.recorder, .host, .plinth, .power, .safety, .modes, .out]
  | .cfgSessionOpen _ | .cfgWrite _ =>
    [.host, .power, .cfg, .out]
  | .cfgCommit _ =>
    allBut [.time, .plinth, .task, .retained, .prog, .cj, .counter, .pair, .fw, .fresh, .pending, .mode, .life]
  | .cfgAbandon _ =>
    [.recorder, .host, .power, .cfg, .out]
  | .tuneWrite _ | .groupApply _ =>
    [.host, .power, .loop, .cfg, .out]
  | .progLoad _ | .progVerify _ =>
    [.host, .power, .prog, .out]
  | .progExchange _ =>
    [.recorder, .host, .power, .cpl, .task, .retained, .image, .prog, .uc, .dig, .safety, .cfg, .out]
  | .progStart _ | .laneConfigSet _ =>
    [.recorder, .host, .power, .cpl, .task, .retained, .image, .prog, .loop, .uc, .dig, .safety, .modes, .cfg, .out, .fresh]
  | .progStop _ | .progHold _ | .progStep _ | .progResume _ | .debugAttach _ =>
    [.recorder, .host, .power, .cpl, .task, .retained, .image, .prog, .loop, .uc, .dig, .safety, .modes, .out, .fresh]
  | .sigWrite _ =>
    [.host, .power, .cpl, .image, .out]
  | .sigForce _ | .sigUnforce _ =>
    [.recorder, .host, .power, .cpl, .image, .safety, .out]
  | .loopStateGet _ | .loopModeSet _ =>
    [.host, .power, .loop, .out]
  | .loopRepReset _ =>
    [.recorder, .host, .power, .loop, .out]
  | .chanTest _ _ _ =>
    [.recorder, .host, .power, .cpl, .image, .uc, .dig, .safety, .out]
  | .timeGet _ | .rtcAlarmSet _ | .backupWrite _ =>
    [.host, .plinth, .power, .out]
  | .timeStep _ | .timeRate _ =>
    [.recorder, .host, .time, .power, .out]
  | .rtcSet _ =>
    [.recorder, .host, .plinth, .power, .out]
  | .evtRead _ | .evtClear _ =>
    [.recorder, .host, .power, .out]
  | .updBegin _ | .updBlock _ | .updVerify _ | .updCancel _ =>
    [.host, .power, .fw, .out]
  | .updActivate _ =>
    [.recorder, .host, .power, .modes, .fw, .out]
  | .panelUpdate _ | .panelClean _ =>
    [.host, .power, .panel, .updates, .out]
  | .panelWaveformLoad _ =>
    [.host, .power, .panel, .out]
  | .pairSwitchover _ =>
    [.recorder, .host, .power, .pair, .modes, .out]
  | .authLogin _ | .ownerLock _ =>
    [.recorder, .host, .power, .modes, .out]
  | .authLogout _ | .hostReset | .pcieLinkLoss | .sessionTimeout _ | .tlsCommand _ _ _ | .tlsTransfer _ _ | .tlsKeepalive _ _ |
    .tlsReceiveTimeout _ | .tlsConnectionClosed _ =>
    [.recorder, .host, .power, .cpl, .loop, .modes, .cfg, .out]
  | .safetyPasswordSet _ =>
    [.recorder, .host, .power, .safety, .out, .fresh]
  | .changelogAck _ =>
    [.recorder, .host, .power, .safety, .out]
  | .lifecycleSet _ =>
    [.recorder, .host, .power, .cpl, .task, .image, .prog, .loop, .safety, .modes, .cfg, .out, .life]
  | .diagRegRead _ =>
    [.host, .time, .plinth, .power, .loop, .net, .out]
  | .diagRegWrite _ | .registerWrite _ _ _ =>
    [.recorder, .host, .time, .plinth, .power, .cpl, .loop, .group, .net, .can, .panel, .pair, .modes, .cfg, .out]
  | .bistRun _ _ _ =>
    allBut [.time, .plinth, .retained, .pub, .cj, .counter, .panel, .updates, .pair, .fw, .pending, .mode, .life]
  | .mbxAck _ =>
    [.host, .power]
  | .carriageDataWrite _ _ | .mailboxBufferWrite _ _ | .hiErrorsRead | .tsnapLoRead | .tlsConnect _ =>
    [.host]
  | .irqEnableWrite _ =>
    [.host, .out]
  | .feedUndervoltage _ | .dieTempRepeat | .recorderWrite =>
    [.recorder, .power]
  | .feedRestored _ | .holdUpEnd | .resetN | .mgmtWatchdogReset | .startDelayExpiry =>
    allBut [.cj, .out, .pending]
  | .powerFail =>
    [.recorder, .plinth, .power, .cpl, .task, .image, .prog, .uc, .dig, .safety, .can, .pair, .modes, .cfg, .out, .mode]
  | .refFault _ | .dieTemperature _ _ =>
    [.recorder, .power, .cpl, .task, .image, .prog, .uc, .dig, .safety, .can, .pair, .modes, .cfg, .out, .mode]
  | .laneRailFault _ | .laneFault _ | .cp1Agree _ _ _ _ | .cp2Compare _ _ _ | .lateLaneCheck _ _ _ | .lagLimitExpiry _ _ _ |
    .loopCopyDelivery _ _ _ _ | .loopSampleDeadline _ | .breakpointHalt _ _ =>
    allBut [.host, .time, .plinth, .pub, .cj, .counter, .group, .net, .panel, .updates, .fw, .pending, .life]
  | .mgmtClockDemand _ | .mgmtClockFall | .laneWake _ | .mergeWake =>
    [.power]
  | .manoeuvringInput _ | .bistGroupComplete _ _ | .loginLockoutEnd _ =>
    [.modes]
  | .ownerLockInput _ | .tckWhileClosed =>
    [.recorder, .modes]
  | .start _ _ =>
    allBut [.cj, .counter, .pending, .life]
  | .startTimeout =>
    allBut [.time, .power, .retained, .pub, .loop, .cj, .counter, .group, .net, .panel, .updates, .fresh, .pending, .life]
  | .pairStartWaitExpiry | .drawbarHello _ _ =>
    allBut [.host, .time, .retained, .prog, .loop, .cj, .counter, .group, .panel, .updates, .cfg, .fresh, .pending, .life]
  | .taskRelease _ =>
    [.recorder, .power, .cpl, .task, .image, .prog, .loop, .uc, .dig, .safety, .modes, .fresh]
  | .cp3Commit _ _ _ =>
    allBut [.time, .plinth, .cj, .counter, .group, .panel, .updates, .pair, .fw, .pending, .mode, .life]
  | .wcetExceeded _ =>
    [.recorder, .task]
  | .deadlineOverrun _ | .passLimitExpiry _ | .commitDigestReceived _ _ _ _ =>
    [.recorder, .power, .cpl, .task, .retained, .image, .prog, .loop, .uc, .dig, .safety, .pair, .modes, .fresh]
  | .exclusionCountAgeing _ | .firmwareReloadComplete _ | .resyncResume =>
    [.cpl]
  | .resyncHoldExpiry _ =>
    [.power, .cpl]
  | .dramClearComplete _ =>
    [.power, .cpl, .loop]
  | .resyncCopyComplete =>
    [.recorder, .power, .cpl, .image, .loop, .uc, .dig, .safety]
  | .resyncSuspend =>
    [.recorder, .cpl]
  | .mergeTick _ _ =>
    allBut [.time, .plinth, .cj, .counter, .fw, .pending, .life]
  | .pubBlockReceived _ _ | .pubGapHoldExpiry _ =>
    [.recorder, .cpl, .image]
  | .pubChangeBlockClose =>
    [.recorder, .image, .pub, .cfg, .out]
  | .pubKeepalive | .refreshBlock =>
    [.pub, .out]
  | .pubSequenceStore =>
    [.pub]
  | .pubLagWarning =>
    [.recorder, .pub]
  | .peerTimeout _ | .peerLossTime _ | .signalStaleTimeout _ _ =>
    [.cpl, .image]
  | .nodeTelegramReceived _ _ _ =>
    [.recorder, .cpl, .task, .image, .prog, .uc, .dig, .safety, .net, .can, .pair, .modes, .cfg, .out, .mode]
  | .outputRepeatExpiry _ =>
    [.net, .can, .out]
  | .outputHoldoffExpiry _ _ | .arpFrame _ _ _ _ _ | .supervisionSend =>
    [.net, .out]
  | .takeoverFlagExpiry _ | .dupTableForget _ _ =>
    [.net]
  | .nodeSilent _ | .supervisionFrame _ _ _ _ | .supervisionLoss _ | .portFrameDiscard _ _ =>
    [.recorder, .net]
  | .arpRefresh | .igmpQuery _ | .icmpEchoRequest _ _ _ | .hsrRingFrame _ _ _ _ =>
    [.out]
  | .linkChange _ _ _ =>
    [.recorder, .net, .out]
  | .canFrameReceived _ _ | .canLockRelease _ _ =>
    [.recorder, .cpl, .image, .net, .can]
  | .canTxComplete _ _ | .canReferenceTime _ | .canWindowStart _ _ | .canBusoffRecovery _ =>
    [.can, .out]
  | .canMasterResume _ | .canBusOff _ =>
    [.recorder, .can]
  | .conversionComplete _ _ _ _ _ =>
    [.recorder, .cpl, .image, .uc, .dig, .safety, .modes]
  | .cjSample _ _ =>
    [.recorder, .cj]
  | .ucOpenCircuitDetect _ _ | .testPulseEnd _ _ | .ucComplianceLowDetect _ _ | .ucShortCircuitDetect _ _ |
    .outputMismatchDetect _ _ | .switchShortCircuit _ _ | .openLoadDetect _ _ | .degradedTimeExpiry _ =>
    [.recorder, .cpl, .image, .uc, .dig, .safety]
  | .testPulse _ | .channelReconfigStep _ =>
    [.uc]
  | .ucLoopSupplyLimit _ =>
    [.recorder, .cpl, .image, .uc]
  | .converterRegulationFault _ =>
    [.recorder, .cpl, .image, .loop, .uc, .dig, .safety, .modes]
  | .digitalTransitionAccepted _ | .stateWordSend _ | .digitalInputChange _ _ =>
    [.recorder, .cpl, .image, .dig, .group, .out]
  | .digitalAlignment _ =>
    [.recorder, .dig, .group]
  | .chatterClear _ =>
    [.recorder, .cpl, .image, .dig]
  | .switchRetry _ =>
    [.dig]
  | .groupOverloadShed _ _ _ =>
    [.recorder, .cpl, .image, .uc, .dig, .group, .safety]
  | .fsLowDetect _ _ _ =>
    [.recorder, .cpl, .image, .dig, .group]
  | .groupConverterFault _ =>
    [.recorder, .cpl, .image, .uc, .dig, .group, .safety, .modes]
  | .encoderIndex _ | .periodEdge _ | .countEdge _ _ _ _ =>
    [.recorder, .cpl, .image, .dig, .counter]
  | .encoderRefEdge _ =>
    [.counter]
  | .countTimeout _ =>
    [.cpl, .image, .counter]
  | .digitalReconfigStep _ =>
    [.recorder, .cpl, .image, .dig, .counter, .group, .out]
  | .loopSampleTick _ =>
    [.recorder, .cpl, .image, .loop, .uc]
  | .loopCheckpointWrite | .loopStateEntryReceived _ =>
    [.loop]
  | .passwordLockoutEnd =>
    [.safety]
  | .retainedCommitClosed _ =>
    [.recorder, .task, .retained, .prog]
  | .retentionLagWarning =>
    [.recorder, .retained]
  | .preparationCaughtUp | .standbyReadyAck =>
    [.prog, .out]
  | .castAbandonDeadline =>
    [.recorder, .prog, .cfg, .out]
  | .castPoint =>
    [.recorder, .cpl, .task, .retained, .image, .prog, .uc, .dig, .safety, .cfg, .out]
  | .timeWrap =>
    allBut [.prog, .cj, .updates, .cfg, .fw, .fresh, .pending, .mode, .life]
  | .timeNsRead =>
    [.host, .time]
  | .timeIncWrite _ | .tempRateExpiry | .ptpAnnounce _ _ | .ptpFollowUp _ _ _ _ | .syncTimeout | .ppsMissing | .ref10Measure _ |
    .timeStreamStop =>
    [.time]
  | .timeCtrlStep _ | .timeCtrlNewSession _ _ =>
    [.recorder, .time, .out]
  | .ptpSync _ _ _ _ _ _ | .ppsOutSecond =>
    [.time, .out]
  | .ptpDelayResp _ _ _ _ | .ppsEdge _ | .drawbarTime _ =>
    [.recorder, .time, .plinth, .out]
  | .offsetQuiet | .timeNotValidWarning =>
    [.recorder, .time]
  | .plinthReload =>
    [.time, .plinth]
  | .rtcTicksLoRead =>
    [.host, .plinth]
  | .rtcCtrlLoadTicks | .rtcCtrlLoadWday | .rtcCtrlMarkLost | .retentionMonitorTrip =>
    [.plinth]
  | .rtcLoadApply | .rtcWrap | .dayPhaseRollover | .rtcAlarmMatch _ | .cellMeasurement _ =>
    [.recorder, .plinth]
  | .plinthPowerOnReset =>
    [.plinth, .fresh]
  | .panelFrameStart _ =>
    [.recorder, .panel, .updates, .modes, .out, .fresh]
  | .panelTempRead _ _ =>
    [.recorder, .panel, .updates, .fresh]
  | .panelBandHold _ =>
    [.recorder, .panel, .updates, .modes, .fresh]
  | .pwrGoodLow _ =>
    [.recorder, .panel, .updates]
  | .pwrGoodTimeout _ | .pwrGoodRise _ _ =>
    [.recorder, .panel]
  | .panelPowerOff _ =>
    [.panel]
  | .panelCleanIdle _ | .panelCheckpointWritten _ _ =>
    [.panel, .updates]
  | .heartbeatSend =>
    [.pair, .out]
  | .heartbeatReceived _ _ =>
    [.recorder, .power, .cpl, .task, .image, .uc, .dig, .safety, .pair]
  | .heartbeatLoss | .pairLiveStale | .pairActIChange _ | .demoteReceived _ =>
    allBut [.plinth, .cj, .counter, .group, .panel, .updates, .fw, .pending, .life]
  | .pairLiveToggle | .crossfadeStep | .verificationResume =>
    [.pair]
  | .activityConflict =>
    [.recorder, .cpl, .task, .image, .uc, .dig, .safety, .can, .pair, .modes, .mode]
  | .fieldRefreshTimeout =>
    [.uc, .dig]
  | .demotionTakeoverTimeout | .handoverEnd =>
    [.recorder, .host, .power, .cpl, .task, .image, .prog, .uc, .dig, .safety, .can, .pair, .modes, .cfg, .out, .mode]
  | .drawbarLinkChange _ _ | .agreedInputsTimeout _ =>
    [.recorder, .cpl, .task, .image, .uc, .dig, .safety, .pair]
  | .agreedInputsReceived _ =>
    [.power, .pair]
  | .pairControlMessage _ =>
    allBut [.plinth, .cj, .counter, .fw, .pending, .mode]
  | .crossfadeStart =>
    [.recorder, .cpl, .image, .uc, .dig, .safety, .pair]
  | .handoverTime =>
    allBut [.plinth, .task, .retained, .cj, .counter, .group, .panel, .updates, .fw, .fresh, .pending, .life]
  | .catchupPhaseComplete _ =>
    allBut [.time, .plinth, .power, .cj, .counter, .fw, .fresh, .pending, .mode, .life]
  | .catchupSuspend _ =>
    [.recorder, .pair]
  | .outOfStepRetry =>
    [.recorder, .pair, .out]
  | .reachDemote =>
    [.recorder, .cpl, .task, .image, .prog, .uc, .dig, .safety, .can, .pair, .modes, .cfg, .out, .mode]
  | .floodSummary =>
    [.recorder]
  | .pairTimeStep =>
    allBut [.prog, .cj, .updates, .cfg, .fw, .out, .fresh, .pending, .mode, .life]
  | .canBusError _ _ _ =>
    [.can]
  | .perSecondCoalescing =>
    [.recorder, .image]

end Sys2Proof.Machine
end

