-- ==== Sys2Proof/Certificates/Slice0/Obligations.lean ====
section
/-! DEFINITION. The statements about the block.  A statement about a command says where it completes and what its next state is. -/

open Sys2Proof Sys2Proof.Machine

/-- For every command c, queue rest and state s: with c at the front of the queue, a step is exec of c on the state with the rest of the queue. With an empty queue a step is one idle tick of the 25 MHz edge (the queue and the idle tick are the model's, log 1 and log 2). -/
def Obligations.StepRunsTheFrontCommand : Prop :=
  (∀ (c : Instr) (rest : List Instr) (s : State), s.pending = c :: rest → step s = exec c { s with pending := rest }) ∧
  (∀ s : State, s.pending = [] → step s = .next (idleTick s))

/-- Every command answers a next state in every state: what the module refuses it answers with a status, and what does not apply leaves the state as it is. -/
def Obligations.NoCommandStopsTheBlock : Prop :=
  ∀ (c : Instr) (s : State), Safe (exec c s)

/-- A command changes nothing in the queue of waiting commands, so a step leaves exactly the rest of the queue behind; an idle step leaves the empty queue (the queue is the model's, log 1). -/
def Obligations.CommandsTakenFirstInFirstOut : Prop :=
  (∀ (c : Instr) (s t : State), exec c s = .next t → t.pending = s.pending) ∧
  (∀ s t : State, step s = .next t → t.pending = s.pending.tail)

/-- At reset the firmware update is in a state of R549, not COPYING, and no bank is on TRIAL (the reset values of the store are the model's, log 3). -/
def Obligations.FirmwareInvariantAtReset : Prop :=
  FirmwareInv State.reset.fw

/-- From every state whose firmware store is in a state of R549, not COPYING at rest, and holds a TRIAL mark exactly while the update is in TRIAL, every step leads to such a state. -/
def Obligations.FirmwareInvariantKeptByEveryStep : Prop :=
  ∀ s t : State, FirmwareInv s.fw → step s = .next t → FirmwareInv t.fw

/-- No step lowers MIN_SECURITY_VERSION. Where a command changes it, that command completes a start (START, a hello or the end of the wait for one), and the new value is the SECURITY_VERSION of the image then confirmed: the image in the bank that ends CONFIRMED. -/
def Obligations.SecurityVersionNeverFalls : Prop :=
  (∀ s t : State, step s = .next t → s.fw.minSecurity ≤ t.fw.minSecurity) ∧
  (∀ (c : Instr) (s t : State), exec c s = .next t → t.fw.minSecurity ≠ s.fw.minSecurity →
    ((∃ f l, c = .start f l) ∨ (∃ k h, c = .drawbarHello k h) ∨ c = .pairStartWaitExpiry) ∧
      t.fw.trial = false ∧ t.fw.minSecurity = fwImageSecurity t.fw.bank[t.fw.confirmed])

/-- The identity that IDENT_GET reports from the security unit (order code, serial number, PCI identifiers) is the same after every step. -/
def Obligations.IdentityNeverChanges : Prop :=
  ∀ s t : State, step s = .next t →
    t.fw.serial = s.fw.serial ∧ t.fw.orderCode = s.fw.orderCode ∧ t.fw.pciIds = s.fw.pciIds

/-- Where a command changes the life-cycle state, it is LIFECYCLE_SET and the change is a transition of the table of R462, or it is the life-cycle message of the partner to a standby (R429). So no command of the module leads into MANUFACTURE or out of DECOMMISSIONED. -/
def Obligations.LifecycleMovesOnlyAsListed : Prop :=
  ∀ (c : Instr) (s t : State), exec c s = .next t → t.modes.life ≠ s.modes.life →
    (∃ m, c = .lifecycleSet m ∧ LifeMove s.modes.life t.modes.life = true) ∨
    (∃ n, c = .pairControlMessage (.lifecycle n) ∧ s.modes.mode = .standby ∧ lifeOf n = some t.modes.life)

/-- For each of the 66 rows of the catalogue, with the code R493 ff. give it: while its mailbox is RUNNING that code, the row ends it with one response; in any other state of the mailbox the row changes nothing. -/
def Obligations.CataloguedCommandIsAnswered : Prop :=
  ∀ (c : Instr) (m : MbxId) (k : Nat) (s : State), codeOf c = some (m, k) →
    (∀ q, InFlight m k q s → ∃ r u, Answers c m s r u) ∧ ((¬∃ q, InFlight m k q s) → exec c s = .next s)

/-- For each of the 274 commands, touches names the parts of the state (29 units; of the modes also the mode and the life-cycle state by themselves) that its rules let it change. Whatever a command answers from any state, every part it does not name is the same afterwards. So, for instance, no read of the catalogue changes anything but the host interface and what is sent, no event of a channel changes the program, the configuration or the time, and only starts change everything. -/
def Obligations.EveryCommandKeepsToItsFrame : Prop :=
  ∀ (c : Instr) (s t : State), exec c s = .next t → Within (touches c) s t

/-- Where a command changes the mode, the pair of modes is a row of the table of R450 and the command is one of the events that the row names: MODE_SET for STOP, RUN, HOLD and MAINTENANCE; the feeds, the resets and the delayed start for BOOT; a start, a hello or the end of its wait for what BOOT ends in; the faults, escalation and the demotion causes for SAFE; the pair events for STANDBY and for a takeover. Where one command passes through two rows at once (the end of the hold-up with a feed back) the pair is the first and the last mode. So MAINTENANCE is left only by a start, and nothing but a start leads out of SAFE save MODE_SET MAINTENANCE. -/
def Obligations.ModesMoveOnlyAsListed : Prop :=
  ∀ (c : Instr) (s t : State), exec c s = .next t → t.modes.mode ≠ s.modes.mode →
    ModeMove c s.modes.mode t.modes.mode = true

/-- Whatever the state and the session, each of the four reads in flight answers ST_OK with a payload of the length and with the fields, at the offsets, that R499, R500 and R457 give, and changes nothing but its answer. -/
def Obligations.IdentityAndStatusAreReported : Prop :=
  (∀ m q s, InFlight m 0x0101 q s → ∃ p, Answers (.identGet m) m s (ok p) s ∧ p.length = 80 ∧
    slice p 0 16 = slice s.fw.orderCode 0 16 ∧ slice p 16 16 = slice s.fw.serial 0 16 ∧ slice p 32 6 = macBytes s.net.mac ∧
    slice p 38 1 = le 1 (b2n s.pair.position) ∧ slice p 39 1 = [0] ∧ slice p 40 4 = le 4 (fwVersion s) ∧ slice p 44 2 = le 2 0x0200 ∧
    slice p 46 1 = le 1 (ownStation s) ∧ slice p 47 1 = le 1 (lifeCode s.modes.life) ∧ slice p 48 8 = le 8 s.fw.pciIds.toNat ∧
    slice p 56 8 = le 8 (imageId (activeImage s)) ∧ slice p 64 8 = le 8 s.cfg.configId ∧ slice p 72 4 = le 4 (tableIdOf s.cfg.cur) ∧ slice p 76 4 = zeros 4) ∧
  (∀ m q s, InFlight m 0x0102 q s → ∃ p, Answers (.statusGet m) m s (ok p) s ∧ p.length = 128 ∧
    slice p 0 1 = le 1 (modeCode s.modes.mode) ∧ slice p 1 1 = le 1 (pairCode s.pair.st) ∧
    slice p 2 1 = le 1 (lifeCode s.modes.life) ∧ slice p 3 1 = le 1 (configCode s.cpl.config) ∧
    slice p 4 2 = le 2 (laneCode s.cpl.lane[0].st + 16 * laneCode s.cpl.lane[1].st + 256 * laneCode s.cpl.lane[2].st) ∧
    slice p 6 1 = le 1 (capability s) ∧
    slice p 7 1 = le 1 (atBit s.modes.manoeuvring 0 + atBit s.modes.lockInput 1 + atBit (ownerLocked s) 2 +
      atBit s.plinth.battLow 3 + atBit (startLockout s) 4) ∧
    slice p 8 4 = le 4 (pseqStatus s.power).toNat ∧ slice p 12 4 = le 4 (timeStatus s.time).toNat ∧ slice p 16 8 = le 8 (now s) ∧
    slice p 24 4 = le 4 s.host.epoch.toNat ∧ slice p 28 1 = le 1 (exchCode s.prog.st) ∧ slice p 29 1 = le 1 s.fw.st ∧
    slice p 30 2 = le 2 ((bkpWord 2 s).toNat % 65536) ∧ slice p 32 8 = le 8 s.prog.cast ∧ slice p 40 4 = le 4 (taskBits (·.switched) s).toNat ∧
    slice p 44 4 = le 4 (retentionLag s / us) ∧ slice p 48 4 = le 4 (publicationLag s / us) ∧ slice p 52 4 = le 4 s.pub.queue.length ∧ slice p 56 8 = le 8 (imageId (activeImage s)) ∧
    slice p 64 8 = le 8 ((slotIn .verified s).elim 0 fun n => imageId (slotImage n s)) ∧
    (∀ t : Fin 32, slice p (72 + t.val) 1 = le 1 (if (s.task[t]).defn.isSome then taskCode (s.task[t]).st else 0xFF)) ∧
    slice p 104 2 = le 2 (s.modes.health.filter fun e => e.2.health == 2 || e.2.health == 3).length ∧
    slice p 106 2 = le 2 (s.loop.loops.filter fun x => x.2.mode == .fallback).length ∧
    slice p 108 2 = le 2 (s.safety.func.filter fun x => x.2.st == .forcedSafe).length ∧ slice p 110 2 = le 2 s.image.forces.length ∧ slice p 112 16 = zeros 16) ∧
  (∀ m q s, InFlight m 0x0103 q s → ∃ p, Answers (.healthMapGet m) m s (ok p) s ∧ p.length = 1024 ∧
    ∀ u < 64, slice p (16 * u) 16 = if 0x32 < u then le 1 0xFF ++ zeros 15 else
      le 1 u ++ le 1 (tabGet healthReset s.modes.health u).health ++ le 1 (unitDetail u s) ++
        le 1 (tabGet healthReset s.modes.health u).cause ++ zeros 4 ++ le 8 (tabGet healthReset s.modes.health u).since) ∧
  (∀ m q s, InFlight m 0x0202 q s → Answers (.modeGet m) m s (ok (le 1 (modeCode s.modes.mode) ++ le 1 (pairCode s.pair.st) ++
    le 1 (lifeCode s.modes.life) ++ le 1 (s.modes.pending.elim 0xFF modeCode))) s)

/-- MODE_SET with the present mode answers ST_OK and changes nothing. With a transition of R450 that the session's role allows, without a cold restart of a safety task, where nothing of R451 stands against it and its AUDIT record finds a slot, it answers ST_ACCEPTED from a state in that mode. START_REQUEST with a TYPE and a TARGET of R499, while MANOEUVRING is not active or the module is in SAFE or MAINTENANCE, without a cold start of a safety task and without a lockout, answers ST_ACCEPTED; the one thing it leaves is the plan of a start at module time now + 10 ms (an earlier plan stays, which is the model's choice, log 31). Under a lockout the SERVICE role is needed, and the plan is the same. -/
def Obligations.ModeSetAndStartRequestAct : Prop :=
  (∀ m q s, InFlight m 0x0201 q s → modeOf (fld8 q.pay 0) = some s.modes.mode → Answers (.modeSet m) m s (st stOk) s) ∧
  (∀ m q s y, InFlight m 0x0201 q s → modeOf (fld8 q.pay 0) = some y → y ≠ s.modes.mode →
    modeSetListed s.modes.mode y = true → roleIncludes (roleOf q s) (modeSetRole s.modes.mode y s) = true →
    ¬(s.modes.mode = .stop ∧ y = .run ∧ fld8 q.pay 1 = 1 ∧ anySafetyTask s = true) →
    (s.modes.manoeuvring = true → y = .run) → (y = .maintenance → ownerLocked s = false) →
    (y = .run → (slotIn .active s).isSome = true) → s.modes.pending = none → switchoverPlanned s = false →
    (y = .maintenance ∨ (y = .run ∧ s.modes.mode = .stop) → s.prog.st ≠ .switching ∧ s.prog.st ≠ .settling) →
    auditRoom s = true → ∃ u, Answers (.modeSet m) m s (st stAccepted) u ∧ u.modes.mode = y) ∧
  (∀ m q s target, InFlight m 0x0203 q s → fld8 q.pay 0 ≤ 1 → startTargetOf (fld8 q.pay 1) = some target →
    (s.modes.manoeuvring = true → s.modes.mode = .safe ∨ s.modes.mode = .maintenance) →
    ¬(fld8 q.pay 0 = 1 ∧ anySafetyTask s = true) → startLockout s = false →
    Answers (.startRequest m) m s (st stAccepted) { s with modes := { s.modes with plan := some (s.modes.plan.getD
      { origin := .request, cold := fld8 q.pay 0 == 1, target := target, at_ := now s + 10 * ms, wasRun := false }) } }) ∧
  (∀ m q s target, InFlight m 0x0203 q s → fld8 q.pay 0 ≤ 1 → startTargetOf (fld8 q.pay 1) = some target →
    (s.modes.manoeuvring = true → s.modes.mode = .safe ∨ s.modes.mode = .maintenance) →
    ¬(fld8 q.pay 0 = 1 ∧ anySafetyTask s = true) → startLockout s = true → roleIncludes (roleOf q s) 6 = true → auditRoom s = true →
    ∃ u, Answers (.startRequest m) m s (st stAccepted) u ∧ u.modes = { s.modes with plan := some (s.modes.plan.getD
      { origin := .request, cold := fld8 q.pay 0 == 1, target := target, at_ := now s + 10 * ms, wasRun := false }) })

/-- AUTH_LOGIN with fields of R526 answers ST_OK and gives its session ROLE and USER: METHOD 0 while the role credentials are kept, the user is not refused and a stored credential allows ROLE; METHOD 1 on a local session, for VIEWER or OWNER, while what the compatibility path erased is not provisioned; METHOD 2 in MANUFACTURE, for OWNER, and marks the session as a factory session. Every other session keeps its role. What the stored credential allows is a free value (Config). A login that fails answers ST_AUTH_FAILED, leaves every session as it is, and with the fifth failure within 10 min refuses the user until now + 15 min. AUTH_LOGOUT answers ST_OK and leaves the session without a role and without a user. -/
def Obligations.SessionsTakeAndLoseRoles : Prop :=
  (∀ m q s, InFlight m 0x0D01 q s → 1 ≤ fld8 q.pay 2 → fld8 q.pay 2 ≤ 32 → 1 ≤ fld8 q.pay 3 → fld8 q.pay 3 ≤ 64 →
    auditRoom s = true → ∀ method role user secret, method = fld8 q.pay 0 → role = fld8 q.pay 1 →
    user = slice q.pay 4 (fld8 q.pay 2) → secret = slice q.pay 36 (fld8 q.pay 3) → userLocked user s = false →
    (∀ r, (method = 0 ∧ 1 ≤ role ∧ role ≤ 6 ∧ r = role ∧ s.modes.roleCreds = true ∧ credentialGrants 0 user secret role = true ∨
        method = 1 ∧ (role = 1 ∨ role = 5) ∧ r = role ∧ (∃ n, m = .loc n) ∧ itemsErased s = true ∧ credentialGrants 1 user secret role = true ∨
        method = 2 ∧ r = 5 ∧ s.modes.life = .manufacture ∧ Config.credentialAllows 2 user secret 5 = true) →
      ∃ u, Answers (.authLogin m) m s (ok (le 1 r ++ zeros 3 ++ le 4 (sessionId (mbxSession m) s).toNat)) u ∧
        (sessionOf (mbxSession m) u).role = BitVec.ofNat 3 r ∧ (sessionOf (mbxSession m) u).user = user ∧
        (∀ y, y ≠ mbxSession m → sessionOf y u = sessionOf y s) ∧ (u.modes.factory.contains (mbxSession m) = (method == 2) ∨ method ≠ 2))) ∧
  (∀ m q s, InFlight m 0x0D01 q s → fld8 q.pay 0 ≤ 2 → (fld8 q.pay 0 = 2 ∨ 1 ≤ fld8 q.pay 1 ∧ fld8 q.pay 1 ≤ 6) →
    1 ≤ fld8 q.pay 2 → fld8 q.pay 2 ≤ 32 → 1 ≤ fld8 q.pay 3 → fld8 q.pay 3 ≤ 64 → auditRoom s = true →
    ∀ user, user = slice q.pay 4 (fld8 q.pay 2) →
    loginRole q (fld8 q.pay 0) (fld8 q.pay 1) user (slice q.pay 36 (fld8 q.pay 3)) s = none → userLocked user s = false →
      ∃ u, Answers (.authLogin m) m s (st stAuthFailed) u ∧ u.host = s.host ∧
        (4 ≤ (userFailures user s).length → (user, now s + 900 * sec) ∈ u.modes.loginLocks)) ∧
  (∀ m q s, InFlight m 0x0D02 q s → ∃ u, Answers (.authLogout m) m s (ok []) u ∧
    (sessionOf (mbxSession m) u).role = 0 ∧ (sessionOf (mbxSession m) u).user = [])

/-- SAFETY_PASSWORD_SET without CLEAR, in COMMISSIONING or SERVICE_OPEN with no password set, the owner lock open, a slot in the change log, the SAFETY_ENGINEER or SERVICE role and a length of 12 to 64, answers ST_OK and keeps the Argon2id digest of the new password over a salt of 16 bytes; with CLEAR, the SERVICE role and SERVICE_OPEN it answers ST_OK and no password is left. LIFECYCLE_SET without the compatibility flag, along a transition of R462 whose conditions hold and which the session may ask for, answers ST_OK with the new state, in which the module then is; while the owner lock is engaged it answers ST_REFUSED_STATE and changes nothing. OWNER_LOCK answers ST_OK with the lock as it then stands, except for a release while the input holds it, which answers ST_REFUSED_STATE and changes nothing. -/
def Obligations.PasswordLifecycleAndLockChange : Prop :=
  (∀ m q s, InFlight m 0x0D03 q s → ownerLocked s = false → bit (fld8 q.pay 0) 0 = false →
    s.modes.life = .commissioning ∨ s.modes.life = .serviceOpen → s.safety.password = none → logFull s = false →
    roleIncludes (roleOf q s) 4 = true → 12 ≤ fld8 (slice q.pay 72 68) 0 → fld8 (slice q.pay 72 68) 0 ≤ 64 →
    ∃ salt u, salt.length = 16 ∧ Answers (.safetyPasswordSet m) m s (st stOk) u ∧
      u.safety.password = some (salt, Config.argon2id (slice (slice q.pay 72 68) 4 (fld8 (slice q.pay 72 68) 0)) salt)) ∧
  (∀ m q s, InFlight m 0x0D03 q s → ownerLocked s = false → bit (fld8 q.pay 0) 0 = true → s.modes.life = .serviceOpen →
    logFull s = false → roleOf q s = 6 → ∃ u, Answers (.safetyPasswordSet m) m s (st stOk) u ∧ u.safety.password = none) ∧
  (∀ m q s y need, InFlight m 0x0D06 q s → ownerLocked s = false → lifeOf (fld8 q.pay 0) = some y → bit (fld8 q.pay 1) 0 = false →
    lifeTransition s.modes.life y = some need → lifeConditions s.modes.life y s = true → lifeAllowed need q s = true → auditRoom s = true →
    ∃ u, Answers (.lifecycleSet m) m s (ok (le 1 (lifeCode y) ++ zeros 3)) u ∧ u.modes.life = y) ∧
  (∀ m q s, InFlight m 0x0D06 q s → ownerLocked s = true → Answers (.lifecycleSet m) m s (st stRefusedState) s) ∧
  (∀ m q s, InFlight m 0x0D07 q s → fld8 q.pay 0 ≤ 1 → (fld8 q.pay 0 = 0 → s.modes.lockInput = false) → auditRoom s = true →
    ∃ u, Answers (.ownerLock m) m s (ok (le 1 (b2n (ownerLocked u)) ++ le 1 (b2n s.modes.lockInput) ++ zeros 2)) u ∧
      u.modes = { s.modes with lockCmd := fld8 q.pay 0 == 1 }) ∧
  (∀ m q s, InFlight m 0x0D07 q s → fld8 q.pay 0 = 0 → s.modes.lockInput = true → Answers (.ownerLock m) m s (st stRefusedState) s)

/-- CFG_SESSION_OPEN with no session open answers ST_OK with the new number and the identity in force, and the session is a copy of the set in force held by the caller; with one open it answers ST_BUSY with the holder's session and changes nothing. CFG_WRITE by the holder, to a kind that may be written, within the kind, unbound, with a count and the data inline, answers ST_OK with the records then held and changes the session's set alone: records written, bytes of the signal table written (its reserved bytes 4 to 15 stay 0), or records deleted. CFG_READ inline answers TOTAL, RETURNED and the records, and changes nothing. CFG_COMMIT with CHECK_ONLY whose checks pass answers ST_OK and changes nothing. CFG_COMMIT without a safety change whose checks pass answers ST_OK; the session's set is then in force, CONFIG_ID is the module time and no session is open. CFG_ABANDON of the open session by its holder, OWNER or SERVICE answers ST_OK; no session is left and the set in force stays. How a session number follows the one before is the model's choice. -/
def Obligations.ConfigurationSessionsWorkOnACopy : Prop :=
  (∀ m q s, InFlight m 0x0301 q s → s.cfg.session = none →
    Answers (.cfgSessionOpen m) m s (ok (le 4 s.cfg.nextSession ++ zeros 4 ++ le 8 s.cfg.configId)) { s with cfg := { s.cfg with
      session := some { number := s.cfg.nextSession, holder := mbxSession m, set := s.cfg.cur, bound := false }
      nextSession := (s.cfg.nextSession + 1) % 0xFFFFFFFF } }) ∧
  (∀ m q s c, InFlight m 0x0301 q s → s.cfg.session = some c →
    Answers (.cfgSessionOpen m) m s (stDetail stBusy (sessionId c.holder s).toNat) s) ∧
  (∀ m q s c size kind index n, InFlight m 0x0302 q s → kind = fld16 q.pay 0 → index = fld32 q.pay 8 → n = fld32 q.pay 12 →
    heldSession q (fld32 q.pay 4) s = some c → kindSize kind = some size → kind ≠ 0x00F0 → c.bound = false → n ≠ 0 → q.count = 0 →
    (bit (fld16 q.pay 2) 0 = false → rangeOk kind index n true c.set = true → q.pay.length = 16 + n * size → kind ≠ 0x0010 →
      Answers (.cfgWrite m) m s (ok (le 4 (cfgKind (writeRecords kind index ((List.range n).map fun k => slice (slice q.pay 16 (n * size)) (k * size) size) c.set) kind).length))
        { s with cfg := { s.cfg with session := some { c with set := writeRecords kind index ((List.range n).map fun k => slice (slice q.pay 16 (n * size)) (k * size) size) c.set } } }) ∧
    (bit (fld16 q.pay 2) 0 = false → rangeOk kind index n true c.set = true → q.pay.length = 16 + n * size → kind = 0x0010 →
      ∀ x, x = { c.set with table := memZero (memWriteN c.set.table index (slice q.pay 16 n)) 4 12, tableLen := max c.set.tableLen (index + n) } →
      Answers (.cfgWrite m) m s (ok (le 4 (max c.set.tableLen (index + n)))) { s with cfg := { s.cfg with session := some { c with set := x } } }) ∧
    (bit (fld16 q.pay 2) 0 = true → rangeOk kind index n false c.set = true →
      ∃ total, Answers (.cfgWrite m) m s (ok (le 4 total))
        { s with cfg := { s.cfg with session := some { c with set := deleteRecords kind index n c.set } } })) ∧
  (∀ m q s kind index n size, InFlight m 0x0303 q s → kind = fld16 q.pay 0 → index = fld32 q.pay 8 → n = fld32 q.pay 12 →
    kindSize kind = some size → fld8 q.pay 2 = 0 → rangeOk kind index n false s.cfg.cur = true → q.count = 0 → kind ≠ 0x0010 → kind ≠ 0x00F0 →
    ((List.range n).flatMap fun k => slice (cfgRec kind (index + k) s) 0 size).length ≤ 4056 →
    Answers (.cfgRead m) m s (ok (le 4 (cfgKind s.cfg.cur kind).length ++ le 4 n ++
      (List.range n).flatMap fun k => slice (cfgRec kind (index + k) s) 0 size)) s) ∧
  (∀ m q s c, InFlight m 0x0304 q s → heldSession q (fld32 q.pay 0) s = some c → c.bound = false → s.prog.st ≠ .switching →
    s.prog.st ≠ .settling → commitFail (activeImage s) (withSet c.set s) = none →
    (bit (fld32 q.pay 4) 0 = true → ∃ data, Answers (.cfgCommit m) m s { status := stOk, pay := le 8 s.cfg.configId ++ zeros 8, data := data } s) ∧
    (bit (fld32 q.pay 4) 0 = false → safetyChange s.cfg.cur c.set = false → auditRoom s = true →
      ∃ data u, Answers (.cfgCommit m) m s { status := stOk, pay := le 8 (now s) ++ zeros 8, data := data } u ∧
        u.cfg = { s.cfg with cur := c.set, valid := true, configId := now s, session := none })) ∧
  (∀ m q s c, InFlight m 0x0305 q s → s.cfg.session = some c → c.number = fld32 q.pay 0 → c.bound = false →
    c.holder = mbxSession m ∨ roleOf q s = 5 ∨ roleOf q s = 6 →
    ∃ rec, Answers (.cfgAbandon m) m s (ok []) { s with cfg := { s.cfg with session := none }, recorder := rec })

/-- For a configured loop: TUNE_WRITE of one ungrouped field within its range, outside MAINTENANCE, answers ST_OK with the first tick at or after now + 20 us; the value waits in the loop for that time, and is in the configuration in force. TUNE_WRITE of one grouped field answers TICK 0 and puts the value in the shadow, with the group pending. GROUP_APPLY with no apply under way, something named pending and a set that passes R241, outside MAINTENANCE, answers ST_OK with the first tick K at or after now + 20 us, the generation after the present one and the mask, and schedules a snapshot of the shadows at K; with an apply under way it answers ST_BUSY and changes nothing, and with nothing named pending ST_OK without a new generation. LOOP_MODE_SET by the host of a loop the host owns, for a transition of R226, answers ST_OK with the loop's tick and leaves the request for it; where the program owns the loop, it answers ST_REFUSED_STATE and changes nothing. LOOP_REP_RESET of a loop answers ST_OK with the tick and plans the clearing of its repetitive memory for now + 20 us. LOOP_STATE_GET of up to 63 loops without the trace answers their records, and restarts DELAY_MAX_NS of those configured. Taking a MANUAL request of a loop already in MANUAL is not covered here. -/
def Obligations.LoopCommandsScheduleTheirChange : Prop :=
  (∀ m q s n x f, InFlight m 0x0306 q s → n = fld16 q.pay 0 → x = loopAt n s → n < 256 → x.rcd ≠ [] → fld16 q.pay 2 = 1 →
    f ∈ tuneFields → tuneFields.find? (fun g => g.1 == fld16 (slice q.pay 4 16) 0 && g.2.1 == fld16 (slice q.pay 4 16) 2) = some f →
    loopFieldOk (putAt x.rcd f.1 (slice (slice q.pay 4 16) 8 f.2.1)) f.1 = true →
    ∀ v, v = slice (slice q.pay 4 16) 8 f.2.1 →
    (f.2.2 = 3 → s.modes.mode ≠ .maintenance →
      ∃ u, Answers (.tuneWrite m) m s (ok (le 8 (loopTickFrom x (now s + 20 * us)) ++ le 1 x.pend.toNat ++ zeros 7)) u ∧
        u.loop.loops = tabSet loopReset s.loop.loops n { x with
          shadow := if x.shadow = [] then x.rcd else x.shadow, tune := x.tune ++ [(now s + 20 * us, [(f.1, v)])] } ∧
        u.cfg = (storeLoop n (putAt (cfgRec 0x0040 n s) f.1 v) s).cfg) ∧
    (f.2.2 < 3 →
      ∃ u again, Answers (.tuneWrite m) m s (ok (le 8 0 ++ le 1 (x.pend ||| BitVec.ofNat 3 (2 ^ f.2.2)).toNat ++ zeros 7)) u ∧
        u.loop.loops = tabSet loopReset s.loop.loops n { x with
          shadow := putAt (if x.shadow = [] then x.rcd else x.shadow) f.1 v, pend := x.pend ||| BitVec.ofNat 3 (2 ^ f.2.2), again := again })) ∧
  (∀ m q s n x, InFlight m 0x0307 q s → n = fld16 q.pay 0 → x = loopAt n s → n < 256 → x.rcd ≠ [] → fld8 q.pay 2 ≤ 7 →
    (x.sched ≠ none → Answers (.groupApply m) m s (st stBusy) s) ∧
    (∀ mask snap, x.sched = none → mask = (if BitVec.ofNat 3 (fld8 q.pay 2) = 0 then x.pend else BitVec.ofNat 3 (fld8 q.pay 2)) &&& x.pend →
      snap = (if x.shadow = [] then x.rcd else x.shadow) →
      (mask = 0 → Answers (.groupApply m) m s (ok (le 8 0 ++ le 2 x.gen.toNat ++ le 1 0 ++ zeros 5)) s) ∧
      (mask ≠ 0 → groupOk (copyGroups mask snap x.rcd) (otherLoops n s) (fun c => (digAt c s).rcd) = true → s.modes.mode ≠ .maintenance →
        ∃ u, Answers (.groupApply m) m s (ok (le 8 (loopTickFrom x (now s + 20 * us)) ++ le 2 (x.gen + 1).toNat ++ le 1 mask.toNat ++ zeros 5)) u ∧
          u.loop.loops = tabSet loopReset s.loop.loops n { x with sched := some (loopTickFrom x (now s + 20 * us), mask, snap), again := 0 }))) ∧
  (∀ m q s n x md, InFlight m 0x0602 q s → n = fld16 q.pay 0 → x = loopAt n s → n < 256 → x.rcd ≠ [] → loopModeOf (fld8 q.pay 2) = some md →
    (loopFlag x.rcd 1 = false → Answers (.loopModeSet m) m s (st stRefusedState) s) ∧
    (loopFlag x.rcd 1 = true → ¬(x.mode = .manual ∧ md = .manual) → loopGrants x md (now s) s = true →
      ∀ y, y = { x with hostAsk := some (fld8 q.pay 2, f32At q.pay 4) } →
      Answers (.loopModeSet m) m s (ok (le 8 (loopTickFrom x (now s))))
        { s with loop := { s.loop with loops := tabSet loopReset s.loop.loops n y } })) ∧
  (∀ m q s n x, InFlight m 0x0603 q s → n = fld16 q.pay 0 → x = loopAt n s → n < 256 → x.rcd ≠ [] →
    ∃ u, Answers (.loopRepReset m) m s (ok (le 8 (loopTickFrom x (now s + 20 * us)))) u ∧
      u.loop.loops = tabSet loopReset s.loop.loops n { x with repReset := some (now s + 20 * us) }) ∧
  (∀ m q s, InFlight m 0x0601 q s → fld16 q.pay 0 + fld16 q.pay 2 ≤ 256 → fld16 q.pay 2 ≤ 63 → bit (fld32 q.pay 4) 0 = false →
    Answers (.loopStateGet m) m s (ok (le 2 (fld16 q.pay 2) ++ zeros 6 ++ (List.range' (fld16 q.pay 0) (fld16 q.pay 2)).flatMap fun n => loopStateRecord n s))
      ((List.range' (fld16 q.pay 0) (fld16 q.pay 2)).foldl
        (fun t n => if (loopAt n t).rcd = [] then t else loopMod n (fun x => { x with delayMax := 0 }) t) s))

/-- PROG_LOAD of 1 to 65,536 bytes inline within 256 MiB, with the exchange IDLE and the slot LOADING or the offset 0, answers ST_OK with the slot; the bytes stand in its image (a fresh one unless it was LOADING), which is LOADED once complete and LOADING before. Length 0 is answered ST_LENGTH_ZERO. PROG_VERIFY of a LOADED slot with the exchange IDLE answers ST_OK and the slot is VERIFIED where every check of R115 passes; where one fails it answers that check's status and changes nothing; without a LOADED slot it answers ST_REFUSED_STATE. PROG_EXCHANGE with ABANDON, PREPARING or READY and 2 ms or more before the cast point answers ST_OK and the exchange is IDLE with no cast point. Without ABANDON, not in STOP, for a VERIFIED slot that makes no safety exchange, naming no session, with no force to drop, the owner lock open, the exchange IDLE, no hand-over and no debugger, a standby in step with the same image, a cast point of 0 or 20 ms ahead, every signal of the program defined, no safety task in split, and checks 13 and 14 of R115 passed, it answers ST_ACCEPTED with the cast point asked for, and the exchange is PREPARING toward that slot. -/
def Obligations.ProgramsAreLoadedVerifiedAndExchanged : Prop :=
  (∀ m q s off n k base, InFlight m 0x0401 q s → off = fld32 q.pay 0 → n = fld32 q.pay 4 → k = loadSlot s → 1 ≤ n → n ≤ 65536 →
    off + n ≤ 0x10000000 → q.count = 0 → s.prog.st = .idle → (vget slotReset s.prog.slot k).st = .loading ∨ off = 0 →
    base = (if (vget slotReset s.prog.slot k).st = .loading then vget slotReset s.prog.slot k else { slotReset with st := .loading }) →
    ∃ z, z.image = memWriteN base.image off (slice q.pay 8 n) ∧ z.covered = addRange off (off + n) base.covered ∧
      z.st = (if imageComplete z then .loaded else .loading) ∧
      Answers (.progLoad m) m s (ok (le 1 k ++ le 1 (slotCode z.st) ++ zeros 2 ++ le 4 (coveredTo z.covered))) (slotMod k (fun _ => z) s)) ∧
  (∀ m q s, InFlight m 0x0401 q s → fld32 q.pay 4 = 0 → Answers (.progLoad m) m s (st stLengthZero) s) ∧
  (∀ m q s k sets active, InFlight m 0x0402 q s → slotIn .loaded s = some k → s.prog.st = .idle →
    sets = s.cfg.cur :: s.cfg.session.toList.map (·.set) → active = (if (slotIn .active s).isSome then some (activeImage s) else none) →
    (verifyCheck (slotImage k s) (imageSigned (slotImage k s) s) sets active = none →
      ∃ data u, Answers (.progVerify m) m s { status := stOk, pay := verifyReport (slotImage k s) 0 s, data := data } u ∧
        u.prog = (slotMod k (fun x => { x with st := .verified }) s).prog) ∧
    (∀ f, verifyCheck (slotImage k s) (imageSigned (slotImage k s) s) sets active = some f →
      Answers (.progVerify m) m s { status := f.2, pay := verifyReport (slotImage k s) f.1 s } s)) ∧
  (∀ m q s, InFlight m 0x0402 q s → slotIn .loaded s = none → Answers (.progVerify m) m s (st stRefusedState) s) ∧
  (∀ m q s, InFlight m 0x0403 q s → bit (fld32 q.pay 8) 1 = true → s.prog.st = .preparing ∨ s.prog.st = .ready →
    s.prog.cast = 0 ∨ now s + 2 * ms < s.prog.cast →
    ∃ u, Answers (.progExchange m) m s (ok (le 8 0 ++ le 8 (imageId (slotImage s.prog.newSlot s)))) u ∧ u.prog.st = .idle ∧ u.prog.castAt = 0 ∧ u.prog.cast = 0) ∧
  (∀ m q s k, InFlight m 0x0403 q s → bit (fld32 q.pay 8) 1 = false → slotIn .verified s = some k → fld32 q.pay 12 = 0xFFFFFFFF →
    safetyExchange (activeImage s) (slotImage k s) = false → bit (fld32 q.pay 8) 0 = false → s.modes.mode ≠ .stop →
    ownerLocked s = false → s.prog.st = .idle → s.cpl.handover = false → s.cpl.attach = none →
    (pairInStep s = true → s.pair.partner.elim 0 (fun h => h.imageId.toNat) = imageId (slotImage k s)) →
    forceDrops (slotImage k s) s.cfg.cur s = [] → fld64 q.pay 0 = 0 ∨ now s + 20 * ms ≤ fld64 q.pay 0 →
    (∀ g ∈ programSigs (slotImage k s), definedIn s.cfg.cur g = true) → (s.cpl.config = .split → taskNos.any (imSafety (slotImage k s)) = false) →
    express46 (slotImage k s) = true → expressOk (expressTasks (slotImage k s)) (fun _ => 0) = true →
    slotIn .active s = none ∨ switchOk (activeImage s) = true →
    ∃ u, Answers (.progExchange m) m s { status := stAccepted, pay := le 8 (fld64 q.pay 0) ++ le 8 (imageId (slotImage k s)) } u ∧
      u.prog.st = .preparing ∧ u.prog.newSlot = k ∧ u.prog.cast = fld64 q.pay 0)

/-- For a defined task, while no exchange is SWITCHING, each command answers ST_OK with the task's state at acceptance. PROG_START in RUN of a STOPPED or FAULTED task, warm or cold without a safety task, no exchange SETTLING either: the task is RUNNING. PROG_STOP of a RUNNING task outside MANOEUVRING, and PROG_HOLD of one that is no safety task, with the role R508 asks: between cycles the task is STOPPED or HELD; with a cycle in execution of a class other than Background it leaves after the cycle. PROG_STEP of a HELD task: it is STEPPING with one cycle asked for. PROG_RESUME of a HELD or STEPPING task: between cycles it is RUNNING, else it will be after the cycle. A task that is not defined is answered ST_INCONSISTENT and nothing changes. -/
def Obligations.TaskCommandsMoveTheTask : Prop :=
  (∀ m q s t k, InFlight m 0x0404 q s → t = fld8 q.pay 0 → taskAt t s = some k → taskDefined t s = true → s.modes.mode = .run →
    fld8 q.pay 1 ≤ 1 → k.st = .stopped ∨ k.st = .faulted → s.prog.st ≠ .switching → s.prog.st ≠ .settling →
    (fld8 q.pay 1 = 1 → taskSafety t s = false) →
    ∃ u y, Answers (.progStart m) m s (ok (le 1 (taskCode k.st) ++ zeros 3)) u ∧ taskAt t u = some y ∧ y.st = .running) ∧
  (∀ m q s t k, InFlight m 0x0405 q s → t = fld8 q.pay 0 → taskAt t s = some k → taskDefined t s = true → s.modes.manoeuvring = false →
    k.st = .running → s.prog.st ≠ .switching → ∃ u y, Answers (.progStop m) m s (ok (le 1 1 ++ zeros 3)) u ∧ taskAt t u = some y ∧
      (k.phase = .sleep → y.st = .stopped) ∧ (k.phase ≠ .sleep → background t s = false → y.st = .running ∧ y.leaving = some .stopped)) ∧
  (∀ m q s t k, InFlight m 0x0406 q s → t = fld8 q.pay 0 → taskAt t s = some k → taskDefined t s = true → s.modes.manoeuvring = false →
    taskSafety t s = false → (s.modes.life = .inService → roleOf q s = 6) →
    k.st = .running → s.prog.st ≠ .switching → ∃ u y, Answers (.progHold m) m s (ok (le 1 1 ++ zeros 3)) u ∧ taskAt t u = some y ∧
      (k.phase = .sleep → y.st = .held) ∧ (k.phase ≠ .sleep → background t s = false → y.st = .running ∧ y.leaving = some .held)) ∧
  (∀ m q s t k, InFlight m 0x0407 q s → t = fld8 q.pay 0 → taskAt t s = some k → taskDefined t s = true → k.st = .held → s.prog.st ≠ .switching →
    ∃ u y, Answers (.progStep m) m s (ok (le 1 2 ++ zeros 3)) u ∧ taskAt t u = some y ∧ y.st = .stepping ∧ y.stepAsked = true) ∧
  (∀ m q s t k, InFlight m 0x0408 q s → t = fld8 q.pay 0 → taskAt t s = some k → taskDefined t s = true → k.st = .held ∨ k.st = .stepping →
    s.prog.st ≠ .switching → ∃ u y, Answers (.progResume m) m s (ok (le 1 (taskCode k.st) ++ zeros 3)) u ∧ taskAt t u = some y ∧
      (k.phase = .sleep → y.st = .running) ∧ (k.phase ≠ .sleep → y.leaving = some .running)) ∧
  (∀ m q s c code, (c, code) ∈ [(Instr.progStop m, 0x0405), (.progStep m, 0x0407), (.progResume m, 0x0408)] → InFlight m code q s →
    taskDefined (fld8 q.pay 0) s = false → Answers c m s (st stInconsistent) s)

/-- SIG_READ of up to 63 handles without a reserved selector, and SIG_BULK_READ of up to 262,144 in carriages that hold them, answer ST_OK with the image's generation and the attributes, and change nothing. SIG_WRITE of 1 to 160 entries that pass R510, by an ENGINEER (or acknowledging only), answers ST_OK and hands all of them to the intake together; where the intake has no room it answers ST_BUSY and nothing changes. SIG_FORCE of a signal that no safety task touches and nothing forbids answers ST_OK with the slot: its force stands in that slot of the table, and the entry waits in the intake. SIG_UNFORCE answers ST_OK with the number removed; with nothing in effect that is 0 and nothing changes. SIG_SUBSCRIBE START with fields in range, carriages left for the ring, handles of attribute 0 and room answers ST_OK, and its subscription takes the first empty place; STOP of an own subscription ends it. -/
def Obligations.SignalCommandsReadAndWriteTheImage : Prop :=
  (∀ m q s hs, InFlight m 0x0501 q s → fld16 q.pay 0 ≤ 63 → hs = handleList (fld16 q.pay 0) (q.pay.drop 4) →
    hs.any (fun h => (attrBytes h s).isNone) = false →
    Answers (.sigRead m) m s (ok (le 8 s.image.gen ++ le 2 (fld16 q.pay 0) ++ zeros 6 ++ hs.flatMap fun h => slice ((attrBytes h s).getD []) 0 64)) s) ∧
  (∀ m q s n slot lists hs, InFlight m 0x0506 q s → n = fld32 q.pay 0 → slot = fld8 q.pay 4 → lists = handleCarriages n →
    hs = handleList n (claimBytes q 0 (4 * n) s) → slot = 8 ∨ slot = 64 → 1 ≤ n → n ≤ 262144 → lists * 65536 + slot * n ≤ claimRoom q →
    hs.any (fun h => (attrBytes h s).isNone || (slot == 8 && handleAttr h == 7)) = false →
    Answers (.sigBulkRead m) m s { status := stOk, pay := le 8 s.image.gen ++ le 4 n ++ le 2 (q.first + lists) ++ zeros 2, data := hs.flatMap fun h => slice ((attrBytes h s).getD []) 0 slot, dataAt := lists * 65536 } s) ∧
  (∀ m q s n es ys, InFlight m 0x0502 q s → n = fld16 q.pay 0 → 1 ≤ n → n ≤ 160 → es = (List.range n).map (fun i => slice q.pay (4 + 24 * i) 24) →
    es.all (fun e => handleAttr (fldW e 0) == 4) = true ∨ roleIncludes (roleOf q s) 3 = true → hostEntries 0 s es = .inr ys →
    (intakeRoom ys.length s = true → Answers (.sigWrite m) m s (ok []) (intake .host ys s)) ∧
    (intakeRoom ys.length s = false → Answers (.sigWrite m) m s (st stBusy) s)) ∧
  (∀ m q s h g sim f k, InFlight m 0x0503 q s → h = fldW q.pay 0 → g = handleSig h → sim = bit (fld32 q.pay 4) 0 → forceRefused h sim s = none →
    safetySignal g s = false → typeHolds (typeOf s.cfg.cur (sigStation g) (sigIndex g)) (fldL q.pay 8) = true →
    (bit (fld32 q.pay 4) 1 = true → quality (fldW q.pay 16) ≠ 2) → (sim = true → s.modes.life = .commissioning ∨ s.modes.life = .serviceOpen) →
    k = ((forceSlot g sim s).map (·.1)).getD (freeForceSlot 0 s.image.forces) → k < 4096 → intakeRoom 1 s = true → auditRoom s = true →
    f = { sig := g, simulate := sim, value := fldL q.pay 8, status := mkStatus (if bit (fld32 q.pay 4) 1 then quality (fldW q.pay 16) else 3) 0, setTime := now s, safety := false, live := (forceSlot g sim s).bind (·.2.live), going := false } →
    ∃ u, Answers (.sigForce m) m s (ok (le 2 k ++ le 2 (4096 - u.image.forces.length))) u ∧ u.image = (setForce k f s).image ∧
      u.image.forces = tabInsert k f s.image.forces) ∧
  (∀ m q s h ps, InFlight m 0x0504 q s → h = fldW q.pay 0 → h ≠ noHandle → forceRefused h false s = none → safetySignal (handleSig h) s = false →
    ps = s.image.forces.filter (fun p => p.2.simulate == bit (fld32 q.pay 4) 0 && !p.2.going && p.2.sig == handleSig h) →
    intakeRoom ps.length s = true → auditRoom s = true →
    ∃ u, Answers (.sigUnforce m) m s (ok (le 4 ps.length)) u ∧ (ps = [] → u = s)) ∧
  (∀ m q s n lists hs i u, InFlight m 0x0505 q s → fld8 q.pay 0 = 0 → n = fld32 q.pay 12 → 1 ≤ n → n ≤ 65536 → 100 ≤ fld32 q.pay 8 →
    fld32 q.pay 8 ≤ 1000000 → lists = handleCarriages n → lists < q.count → hs = handleList n (claimBytes q 0 (4 * n) s) →
    hs.any (fun h => handleAttr h != 0) = false → s.host.subs.toList.findIdx? (·.isNone) = some i →
    (s.host.subs.toList.map fun o => o.elim 0 (·.handles.length)).sum + n ≤ 262144 →
    u = { owner := mbxSession m, id := s.host.nextSub, ring := List.range' (q.first + lists) (q.count - lists), at_ := 0, handles := hs, interval := fld32 q.pay 8 * us, entries := [], firstGen := 0, superseded := 0, since := now s } →
    Answers (.sigSubscribe m) m s { status := stOk, pay := le 4 s.host.nextSub ++ le 2 (q.count - lists) ++ zeros 2, keep := u.ring }
      { s with host := { s.host with subs := vset s.host.subs i (some u), nextSub := (s.host.nextSub + 1) % 2 ^ 32 } }) ∧
  (∀ m q s i u, InFlight m 0x0505 q s → fld8 q.pay 0 = 1 →
    s.host.subs.toList.findIdx? (fun o => o.any fun u => u.id == fld32 q.pay 4 && u.owner == mbxSession m) = some i → vget none s.host.subs i = some u →
    ∃ v, Answers (.sigSubscribe m) m s (ok (le 4 u.id ++ le 2 0 ++ zeros 2)) v ∧ (u.ring = [] → v.host.subs = vset s.host.subs i none))

/-- CHAN_STATUS_GET of channels within the kind answers their entries and changes nothing. CHAN_TEST of a channel that is not RUNNING answers RESULT 2; of a RUNNING digital channel it answers what the test found; the outcome is the row's operand (log 24). DIAG_REG_READ and DIAG_REG_WRITE of 1 to 1,000 words within a space act on the words in ascending order, and the read answers them. BIST_RUN of a unit or a group answers fail exactly where one of the units tested is among those that failed, and every failing unit other than a lane is then FAILED in the health map. LANE_CONFIG_SET, where no field is refused, with a configuration that R524 allows, nothing in the way and in MAINTENANCE, answers ST_OK with 0 and keeps configuration and spare for the next start; OP 1 by SERVICE in MAINTENANCE on an UNUSABLE lane whose BIST_RUN passed makes it OFF with no exclusions. DEBUG_ATTACH with OP 0 that R77 does not refuse, with no attachment, answers ST_OK and the attachment names the task; with OP 1 it ends it; with OP 6 it answers the bytes, of the withdrawn lane's own copy in triplex, and the lanes are as before but for what they find to do; OP 2 to 5 with room in the journal answer ST_OK too. -/
def Obligations.DiagnosticCommandsReportAndConfigure : Prop :=
  (∀ m q s kind first count, InFlight m 0x0701 q s → kind = fld8 q.pay 0 → first = fld8 q.pay 1 → count = fld8 q.pay 2 →
    (kind = 0 ∧ first + count ≤ 16 → Answers (.chanStatusGet m) m s (ok ((List.range' first count).flatMap fun n => ucEntry n s)) s) ∧
    (kind = 1 ∧ first + count ≤ 48 → Answers (.chanStatusGet m) m s (ok ((List.range' first count).flatMap fun n => digEntry n s)) s) ∧
    (kind = 2 ∧ first + count ≤ 2 → Answers (.chanStatusGet m) m s (ok ((List.range' first count).flatMap fun n => cjEntry n s)) s)) ∧
  (∀ m q s pass v, InFlight m 0x0702 q s → funcNos s = [] →
    (fld8 q.pay 0 = 0 → fld8 q.pay 1 < 16 → (ucAt (fld8 q.pay 1) s).st ≠ .running → Answers (.chanTest m pass v) m s (ok (le 1 2 ++ zeros 3 ++ le 4 0)) s) ∧
    (fld8 q.pay 0 = 1 → fld8 q.pay 1 < 48 → (digAt (fld8 q.pay 1) s).st = .running →
      Answers (.chanTest m pass v) m s (ok (le 1 (if digTestPass (digAt (fld8 q.pay 1) s) pass (widen v) then 0 else 1) ++ zeros 3 ++
        le 4 (if digOutput (digAt (fld8 q.pay 1) s) && !(digAt (fld8 q.pay 1) s).command then 0 else v).toNat)) s)) ∧
  (∀ m q s x off n, InFlight m 0x0E01 q s → regRange q.pay = some (x, off, n) →
    Answers (.diagRegRead m) m s (ok (regReads x off n s).1) (regReads x off n s).2) ∧
  (∀ m q s x off n, InFlight m 0x0E02 q s → regRange q.pay = some (x, off, n) →
    Answers (.diagRegWrite m) m s (ok []) (regWrites x off (q.pay.drop 8) n s)) ∧
  (∀ m q s us failed d, InFlight m 0x0E03 q s → bistTarget (fld8 q.pay 0) = some us →
    ∃ u hl, Answers (.bistRun m failed d) m s (ok (le 1 (b2n ((us.filter fun k => failed.contains k) != [])) ++ le 1 hl ++ zeros 2 ++ le 4 d)) u) ∧
  (∀ m q s c, InFlight m 0x0E04 q s → laneConfigField q.pay s = none → fld8 q.pay 0 ≠ 1 → configOf (fld8 q.pay 1) = some c →
    (c = .split → s.modes.life = .commissioning ∧ anySafetyTask s = false) → (c = .triplex → lanesOf .unusable s = []) →
    s.cpl.handover = false → lanesOf .withdrawn s = [] → exchangeCasting s = false → auditRoom s = true → s.modes.mode = .maintenance →
    ∃ u, Answers (.laneConfigSet m) m s (ok (le 8 0)) u ∧ u.cpl = { s.cpl with requested := c, namedSpare := laneOf (fld8 q.pay 2) }) ∧
  (∀ m q s l, InFlight m 0x0E04 q s → laneConfigField q.pay s = none → fld8 q.pay 0 = 1 → laneOf (fld8 q.pay 3) = some l →
    s.modes.mode = .maintenance → roleOf q s = 6 → (laneAt l s).st = .unusable → (laneAt l s).bistPassed = true →
    ∃ u, Answers (.laneConfigSet m) m s (ok (le 8 0)) u ∧
      u.cpl = (laneMod l (fun x => { x with st := .off, exclusions := [], bistPassed := false }) s).cpl) ∧
  (∀ m q s l, InFlight m 0x0E05 q s → fld8 q.pay 0 = 0 → ownerLocked s = false →
    l = (if s.cpl.config = .triplex then laneOf (fld8 q.pay 2) else none) → attachRefused (fld8 q.pay 1) l s = false → s.cpl.attach = none →
    auditRoom s = true → ∃ u d, Answers (.debugAttach m) m s (ok (zeros 16)) (followTasks s u) ∧ u.cpl.attach = some d ∧ d.session = mbxSession m ∧
      d.task = fld8 q.pay 1 ∧ d.lane = l ∧ d.journal = [] ∧ d.halted = false) ∧
  (∀ m q s d, InFlight m 0x0E05 q s → 1 ≤ fld8 q.pay 0 → fld8 q.pay 0 ≤ 6 → ownerLocked s = false → s.cpl.attach = some d →
    (fld8 q.pay 0 = 1 → ∃ u, Answers (.debugAttach m) m s (ok (zeros 16)) u ∧ u.cpl.attach = none) ∧
    (fld8 q.pay 0 = 6 → 1 ≤ fld32 q.pay 8 → fld32 q.pay 8 ≤ 4000 →
      Answers (.debugAttach m) m s (debugReply s (memReadN (if d.lane.isSome then d.mem else vget [] s.prog.inst s.prog.area) (fld32 q.pay 4) (fld32 q.pay 8))) (lanesIdle s)) ∧
    (2 ≤ fld8 q.pay 0 → fld8 q.pay 0 ≤ 5 → journalFull d = false → (fld8 q.pay 0 = 5 → 1 ≤ fld32 q.pay 8 ∧ fld32 q.pay 8 ≤ 4000) →
      ∃ u r, Answers (.debugAttach m) m s r u ∧ r.status = stOk))

/-- TIME_GET answers the module time, the time registers and the Plinth's latched count, and latches it. TIME_STEP that no row of R366 refuses, without a new session, by a delta other than 0, answers ST_OK with the session and the time after the step; alone, the step is due at the next tick and the session's step is used. TIME_RATE within 100,000 ppb and 600,000 ms under the host source answers ST_OK with the increment then in force; for 0 ppb nothing changes, otherwise the host's rate is the rate before plus the ppb, temporary exactly where the duration is not 0. RTC_SET with fields that R388 accepts answers ST_OK, and the loads asked for are pending at the Plinth. RTC_ALARM_SET of alarm 0 or 1 that does not match always or never answers ST_OK and the alarm holds value, mask, weekdays and enable. BACKUP_READ of 1 to 16 registers answers their words; BACKUP_WRITE of 1 to 8 from register 8 on answers ST_OK and the words stand there with a new check; a write below register 8 is answered ST_REFUSED_STATE and changes nothing. -/
def Obligations.TimeAndPlinthCommandsAct : Prop :=
  (∀ m q s, InFlight m 0x0801 q s → ∃ pay, Answers (.timeGet m) m s (ok (le 8 (now s) ++ le 4 (timeStatus s.time).toNat ++ le 4 s.time.offset.toNat ++ pay))
    { s with plinth := rtcLatch s.plinth }) ∧
  (∀ m q s delta, InFlight m 0x0802 q s → delta = signed 64 (fld64 q.pay 0) → bit (fld32 q.pay 8) 0 = false → delta ≠ 0 →
    stepRefusal delta false s = none → auditRoom s = true →
    (sendsToStandby s = false → Answers (.timeStep m) m s
      (ok (le 2 s.time.session.toNat ++ zeros 6 ++ le 8 ((nextTickTime s : Int) + stepAmount delta s).toNat))
      { s with time := { s.time with stepUsed := true, stepDue := some (stepAmount delta s) } }) ∧
    (sendsToStandby s = true → ∃ u, Answers (.timeStep m) m s
      (ok (le 2 s.time.session.toNat ++ zeros 6 ++ le 8 ((nextTickTime s : Int) + stepAmount delta s).toNat)) u ∧
      u.time = { s.time with stepUsed := true, pairStep := some (stepAmount delta s, now s + ms) })) ∧
  (∀ m q s ppb, InFlight m 0x0803 q s → ppb = signed 32 (fld32 q.pay 0) → ppb.natAbs ≤ 100000 → fld32 q.pay 4 ≤ 600000 → s.time.source = 2 →
    (ppb = 0 → Answers (.timeRate m) m s (ok (le 4 s.time.inc.toNat)) s) ∧
    (ppb ≠ 0 → ∃ u, Answers (.timeRate m) m s (ok (le 4 u.time.inc.toNat)) u ∧
      u.time.hostRate = (if s.time.tempRate then s.time.priorRate else s.time.hostRate) + ppb ∧ u.time.tempRate = (fld32 q.pay 4 != 0) ∧
      u.time.tempEnd = now s + fld32 q.pay 4 * ms)) ∧
  (∀ m q s t edge, InFlight m 0x0804 q s → t = fld64 q.pay 0 → edge = (ticksToLoad s.plinth * s.time.inc.toNat) / 2 ^ 24 →
    (s.time.valid = true → t = 0) → (t ≠ 0 → tai2000 ≤ t ∧ ticksOf (t + edge) < 2 ^ 48) → fld8 q.pay 8 ≤ 6 ∨ fld8 q.pay 8 = 0xFF →
    fld32 q.pay 12 < dayTicks ∨ fld32 q.pay 12 = 0xFFFFFFFF →
    ∃ u n, Answers (.rtcSet m) m s (ok (le 8 n)) u ∧ u.plinth.pendTicks = (t != 0) ∧
      u.plinth.pendWday = (fld8 q.pay 8 != 0xFF || fld32 q.pay 12 != 0xFFFFFFFF) ∧ (fld8 q.pay 8 ≤ 6 → u.plinth.loadWday = BitVec.ofNat 3 (fld8 q.pay 8)) ∧
      (t ≠ 0 → n = ticksOf (t + edge) ∧ u.plinth.loadLo = (BitVec.ofNat 48 n).setWidth 32 ∧ u.plinth.loadHi = (BitVec.ofNat 48 n).extractLsb' 32 16)) ∧
  (∀ m q s mask wdays on, InFlight m 0x0805 q s → fld8 q.pay 0 ≤ 1 → mask = BitVec.ofNat 48 (fld64 q.pay 12) → wdays = BitVec.ofNat 7 (fld8 q.pay 2) →
    on = bit (fld8 q.pay 1) 0 → (on = true → mask ≠ 0 ∧ wdays ≠ 0) →
    Answers (.rtcAlarmSet m) m s (st stOk) (plinthMod (alarmMod (fld8 q.pay 0) (fun a =>
      { a with value := BitVec.ofNat 48 (fld64 q.pay 4), mask := mask, wdays := wdays, enable := on })) s)) ∧
  (∀ m q s, InFlight m 0x0806 q s → 1 ≤ fld8 q.pay 1 → fld8 q.pay 0 + fld8 q.pay 1 ≤ 16 →
    Answers (.backupRead m) m s (ok ((List.range' (fld8 q.pay 0) (fld8 q.pay 1)).flatMap fun i => le 4 (vget 0 s.plinth.bkp i).toNat)) s) ∧
  (∀ m q s, InFlight m 0x0807 q s → 1 ≤ fld8 q.pay 1 → fld8 q.pay 1 ≤ 8 → fld8 q.pay 0 + fld8 q.pay 1 ≤ 16 →
    (∀ b, 8 ≤ fld8 q.pay 0 → b = (((List.range (fld8 q.pay 1)).map fun i => fldW q.pay (4 + 4 * i)).zipIdx).foldl (fun b w => vset b (fld8 q.pay 0 + w.2) w.1) s.plinth.bkp →
      Answers (.backupWrite m) m s (st stOk) { s with plinth := { s.plinth with bkp := bkpSeal b } }) ∧
    (fld8 q.pay 0 < 8 → Answers (.backupWrite m) m s (st stRefusedState) s))

/-- EVT_READ with a cursor between OLDEST and NEXT and COUNT 0 answers the cursor back and changes nothing; with a COUNT it answers ST_OK; above NEXT it answers ST_INCONSISTENT, below OLDEST ST_OVERTAKEN. EVT_CLEAR answers ST_OK with NEXT, and the clear boundary is the lower of UP_TO and NEXT - 1 but never moves back (log 68). EVT_STATS answers OLDEST, NEXT, the bytes used and the size, counts per severity, and changes nothing (bytes 112 to 127, log 70). CHANGELOG_READ of up to 4,096 entries from a sequence within the log, inline, answers up to 31 of them in order and changes nothing. CHANGELOG_ACK of the first 1,024 entries, named by OLDEST and their digest, answers ST_OK; they are gone and the entry of the acknowledgement is the last; with fewer entries it answers ST_REFUSED_STATE and changes nothing. -/
def Obligations.RecorderAndChangeLogCommandsAct : Prop :=
  (∀ m q s, InFlight m 0x0901 q s →
    (s.recorder.next < fld64 q.pay 0 → Answers (.evtRead m) m s (st stInconsistent) s) ∧
    (fld64 q.pay 0 ≤ s.recorder.next → fld64 q.pay 0 < oldestHeld s →
      Answers (.evtRead m) m s { status := stOvertaken, pay := evtHead (fld64 q.pay 0) (oldestHeld s) [] } s) ∧
    (oldestHeld s ≤ fld64 q.pay 0 → fld64 q.pay 0 ≤ s.recorder.next → fld32 q.pay 8 = 0 →
      Answers (.evtRead m) m s (ok (evtHead (fld64 q.pay 0) (oldestHeld s) [])) s) ∧
    (oldestHeld s ≤ fld64 q.pay 0 → fld64 q.pay 0 ≤ s.recorder.next → fld32 q.pay 8 ≠ 0 →
      ∃ u r es, Answers (.evtRead m) m s r u ∧ r.status = stOk ∧ u.recorder.segs = s.recorder.segs ∧ u.recorder.next = s.recorder.next ∧
        es <+: (heldRecords s).filter (fun e => decide (fld64 q.pay 0 ≤ e.1) && decide (fld8 q.pay 12 ≤ e.2.sev)) ∧ es.length ≤ fld32 q.pay 8 ∧
        (q.count = 0 → ∃ next, r.pay = evtHead next (oldestHeld s) es ++ es.flatMap recordBytes))) ∧
  (∀ m q s, InFlight m 0x0902 q s → ∃ u cleared, Answers (.evtClear m) m s (ok (le 8 cleared ++ le 8 s.recorder.next)) u ∧
    u.recorder.clearAt = clearBoundary (fld64 q.pay 0) s.recorder) ∧
  (∀ m q s, InFlight m 0x0903 q s → ∃ pay, pay.length = 64 ∧ Answers (.evtStats m) m s (ok (le 8 (oldestHeld s) ++ le 8 s.recorder.next ++
    le 8 (recordsLength (heldRecords s)) ++ le 8 (segmentCount * segmentBytes) ++
    ((List.range 8).flatMap fun k => le 4 ((heldRecords s).filter fun e => e.2.sev == k).length) ++ pay)) s) ∧
  (∀ m q s es, InFlight m 0x0D04 q s → 1 ≤ fld32 q.pay 8 → fld32 q.pay 8 ≤ 4096 → logOldest s ≤ fld64 q.pay 0 → fld64 q.pay 0 ≤ s.safety.nextSeq →
    q.count = 0 → es = ((s.safety.log.filter fun e => decide (fld64 q.pay 0 ≤ e.seq)).take (fld32 q.pay 8)).take 31 →
    Answers (.changelogRead m) m s (ok (le 8 (logOldest s) ++ le 8 s.safety.nextSeq ++ le 4 es.length ++ zeros 12 ++ es.flatMap (·.bytes))) s) ∧
  (∀ m q s, InFlight m 0x0D05 q s →
    (s.safety.log.length < 1024 → Answers (.changelogAck m) m s (st stRefusedState) s) ∧
    (1024 ≤ s.safety.log.length → fld64 q.pay 0 = logOldest s →
      BitVec.ofNat 384 (unle ((q.pay.drop 8).take 48)) = Config.sha384 ((s.safety.log.take 1024).flatMap (·.bytes)) →
      ∃ u e, Answers (.changelogAck m) m s (ok (le 8 (logOldest u) ++ le 8 s.safety.nextSeq)) u ∧
        u.safety.log = s.safety.log.drop 1024 ++ [e] ∧ e.seq = s.safety.nextSeq ∧ u.safety.nextSeq = s.safety.nextSeq + 1))

/-- UPD_BEGIN of 1 byte to 256 MiB in IDLE, with the owner lock open, answers ST_OK with the next identity; the update is RECEIVING with size and digest and nothing staged. UPD_BLOCK of the update's identity in RECEIVING or STAGED, of 1 to 65,536 bytes inline within the size, answers ST_OK with the bytes covered from 0: the bytes stand in the staged image, and the update is STAGED once all are covered. UPD_VERIFY answers ST_OK with result 0 and the update is VERIFIED where the image passes; otherwise ST_INCONSISTENT, and a VERIFIED update is STAGED again. UPD_ACTIVATE of a VERIFIED update that no condition refuses, without START_NOW, answers ST_OK and the update is PENDING; with START_NOW it answers ST_ACCEPTED and a warm start is planned 10 ms later (an earlier plan stays, log 31). UPD_CANCEL answers ST_OK: a PENDING update is VERIFIED again, one that is RECEIVING, STAGED, VERIFIED or FAILED is released to IDLE. Another identity is answered ST_INCONSISTENT and nothing changes. -/
def Obligations.FirmwareUpdateRunsItsStates : Prop :=
  (∀ m q s n, InFlight m 0x0A01 q s → n = fld32 q.pay 0 → 1 ≤ n → n ≤ 0x10000000 → s.fw.st = 0 → ownerLocked s = false →
    Answers (.updBegin m) m s (ok (le 4 ((s.fw.id + 1) % 2 ^ 32))) (fwMod (fun f =>
      { f with st := 1, id := (s.fw.id + 1) % 2 ^ 32, size := n, digest := BitVec.ofNat 384 (unle (slice q.pay 8 48)), staged := [], covered := [] }) s)) ∧
  (∀ m q s off n cov, InFlight m 0x0A02 q s → off = fld32 q.pay 4 → n = fld32 q.pay 8 → fld32 q.pay 0 = s.fw.id → s.fw.st = 1 ∨ s.fw.st = 2 →
    1 ≤ n → n ≤ 65536 → off + n ≤ s.fw.size → q.count = 0 → cov = addRange off (off + n) s.fw.covered →
    Answers (.updBlock m) m s (ok (le 4 (min s.fw.size (coveredTo cov)))) (fwMod (fun f =>
      { f with staged := memWriteN s.fw.staged off (slice q.pay 12 n), covered := cov, st := if s.fw.size ≤ coveredTo cov then 2 else f.st }) s)) ∧
  (∀ m q s, InFlight m 0x0A03 q s → fld32 q.pay 0 = s.fw.id →
    (fwResult s = 0 → ∃ pay, Answers (.updVerify m) m s (ok (le 1 0 ++ pay)) (fwMod (fun f => { f with st := 3 }) s)) ∧
    (fwResult s ≠ 0 → ∃ pay, Answers (.updVerify m) m s { status := stInconsistent, pay := le 1 (fwResult s) ++ pay }
      (fwMod (fun f => { f with st := if f.st = 3 then 2 else f.st }) s))) ∧
  (∀ m q s, InFlight m 0x0A04 q s → fld32 q.pay 0 = s.fw.id → bit (fld32 q.pay 4) 0 = false → s.fw.st = 3 →
    (activateRows (bit (fld32 q.pay 4) 1) s).filter (·.2) = [] → auditRoom s = true →
    (bit (fld32 q.pay 4) 1 = false → ∃ u, Answers (.updActivate m) m s (ok []) u ∧ u.fw = { s.fw with st := 4 } ∧ u.modes = s.modes) ∧
    (bit (fld32 q.pay 4) 1 = true → ∃ u, Answers (.updActivate m) m s (st stAccepted) u ∧ u.fw = { s.fw with st := 4 } ∧
      u.modes = { s.modes with plan := some (s.modes.plan.getD { origin := .update, cold := false, target := none, at_ := now s + 10 * ms, wasRun := false }) })) ∧
  (∀ m q s, InFlight m 0x0A05 q s → fld32 q.pay 0 = s.fw.id →
    (s.fw.st = 4 → Answers (.updCancel m) m s (ok []) (fwMod (fun f => { f with st := 3 }) s)) ∧
    (s.fw.st = 1 ∨ s.fw.st = 2 ∨ s.fw.st = 3 ∨ s.fw.st = 7 → Answers (.updCancel m) m s (ok []) (fwMod fwRelease s) ∧ (fwRelease s.fw).st = 0)) ∧
  (∀ m q s c k, (c, k) ∈ [(Instr.updBlock m, 0x0A02), (.updVerify m, 0x0A03), (.updActivate m, 0x0A04), (.updCancel m, 0x0A05)] → InFlight m k q s →
    fld32 q.pay 0 ≠ s.fw.id → Answers c m s (st stInconsistent) s)

/-- PANEL_UPDATE with a mode up to 3, of a rectangle with an area within an enabled panel, with its image in the carriages and a slot free, answers ST_ACCEPTED with the next identity, and an update QUEUED with those fields is the last of the queue. PANEL_CLEAN of such a rectangle, or the whole panel, answers likewise and queues a CLEAN whose target is the present levels; resetting the ledger needs the ENGINEER role. PANEL_WAVEFORM_LOAD of a valid set onto a panel without updates answers ST_OK with the set's identity, and the panel holds the set; with updates it answers ST_BUSY and changes nothing. PANEL_STATUS answers the panel's registers, its set and its updates, and changes nothing. A rectangle outside, or a panel that is not enabled, is refused and nothing changes. -/
def Obligations.PanelCommandsQueueUpdates : Prop :=
  (∀ m q s p x y w h mode, InFlight m 0x0B01 q s → p = fld8 q.pay 0 → mode = fld8 q.pay 1 → x = fld16 q.pay 4 → y = fld16 q.pay 6 → w = fld16 q.pay 8 →
    h = fld16 q.pay 10 → p < 2 → mode ≤ 3 →
    (∀ r, rectRefused p x y w h s = some r → Answers (.panelUpdate m) m s r s) ∧
    (rectRefused p x y w h s = none → 1 ≤ w → 1 ≤ h → (w + 1) / 2 * h ≤ claimRoom q → slotsFull s = false →
      ∃ u e, Answers (.panelUpdate m) m s { status := stAccepted, pay := le 4 (nextUpdateId p s) } u ∧ u.updates = s.updates ++ [e] ∧
        e.panel = p ∧ e.id = nextUpdateId p s ∧ e.st = .queued ∧ e.mode = mode ∧ e.x = x ∧ e.y = y ∧ e.w = w ∧ e.h = h ∧
        e.image = imageLevels (claimBytes q 0 ((w + 1) / 2 * h) s) w h)) ∧
  (∀ m q s p x y w h, InFlight m 0x0B04 q s → p = fld8 q.pay 0 → p < 2 →
    x = (if bit (fld8 q.pay 1) 0 then 0 else fld16 q.pay 4) → y = (if bit (fld8 q.pay 1) 0 then 0 else fld16 q.pay 6) →
    w = (if bit (fld8 q.pay 1) 0 then panelWidth (panelAt p s).rcd else fld16 q.pay 8) →
    h = (if bit (fld8 q.pay 1) 0 then panelHeight (panelAt p s).rcd else fld16 q.pay 10) →
    (∀ r, rectRefused p x y w h s = some r → Answers (.panelClean m) m s r s) ∧
    (rectRefused p x y w h s = none → 1 ≤ w → 1 ≤ h → slotsFull s = false → (bit (fld8 q.pay 1) 1 = true → roleIncludes (roleOf q s) 3 = true) →
      ∃ u e, Answers (.panelClean m) m s { status := stAccepted, pay := le 4 (nextUpdateId p s) } u ∧ u.updates = s.updates ++ [e] ∧
        e.panel = p ∧ e.id = nextUpdateId p s ∧ e.st = .queued ∧ e.mode = 3 ∧ e.x = x ∧ e.y = y ∧ e.w = w ∧ e.h = h)) ∧
  (∀ m q s p n, InFlight m 0x0B03 q s → p = fld8 q.pay 0 → n = fld32 q.pay 4 → p < 2 →
    (updatesOf p s ≠ [] → Answers (.panelWaveformLoad m) m s (st stBusy) s) ∧
    (updatesOf p s = [] → 64 ≤ n → n ≤ 1048576 → n ≤ claimRoom q → waveSetOk (claimBytes q 0 n s) n = true →
      ∃ u, Answers (.panelWaveformLoad m) m s (ok (slice (claimBytes q 0 n s) 8 8)) u ∧
        u.panel = (panelMod p (fun x => { x with waves := claimBytes q 0 n s }) s).panel)) ∧
  (∀ m q s p, InFlight m 0x0B02 q s → p = fld8 q.pay 0 → p < 2 → ∃ pay, Answers (.panelStatus m) m s
    (ok (le 4 (pnlStatus p s).toNat ++ le 4 (pnlTemp p s).toNat ++ slice (panelAt p s).waves 8 8 ++ le 1 (updatesOf p s).length ++ pay)) s)

/-- PAIR_STATUS answers the record of R522 (its first fields are given here) and changes nothing. PAIR_SWITCHOVER that nothing of R439 refuses, without FORCE, answers ST_ACCEPTED with T_H as asked for, or for 0 the first whole millisecond at or after now + 50 ms; the pair is HANDING_OVER toward that time. With FORCE and room for its AUDIT record it answers ST_ACCEPTED with 0, LAST_TRIGGER is 4 with the present time, and a warm forced start is planned 10 ms later (an earlier plan stays, log 31). What R439 refuses is answered with its status and changes nothing. PAIR_RESYNC with a partner OUT_OF_STEP answers ST_OK and sends the message; with one CATCHING_UP it answers ST_BUSY, with none or another ST_REFUSED_STATE, and changes nothing. -/
def Obligations.PairCommandsReportAndSwitch : Prop :=
  (∀ m q s, InFlight m 0x0C01 q s → ∃ pay, Answers (.pairStatus m) m s (ok (le 1 (pairCode s.pair.st) ++ pay)) s) ∧
  (∀ m q s x, InFlight m 0x0C02 q s → switchoverRefused (bit (fld32 q.pay 8) 0) (fld64 q.pay 0) (roleOf q s) s = some x →
    Answers (.pairSwitchover m) m s (st x) s) ∧
  (∀ m q s th, InFlight m 0x0C02 q s → bit (fld32 q.pay 8) 0 = false → switchoverRefused false (fld64 q.pay 0) (roleOf q s) s = none →
    auditRoom s = true → th = (if fld64 q.pay 0 = 0 then ceilMs (now s + 50 * ms) else fld64 q.pay 0) →
    Answers (.pairSwitchover m) m s { status := stAccepted, pay := le 8 th } (emit (.control (.plannedHandover th)) (pairUnit (fun p =>
      { p with st := .handingOver, handAt := some th, former := true, handed := false, fading := false, share := 32 }) s))) ∧
  (∀ m q s, InFlight m 0x0C02 q s → bit (fld32 q.pay 8) 0 = true → switchoverRefused true (fld64 q.pay 0) (roleOf q s) s = none →
    auditRoom s = true → ∃ u, Answers (.pairSwitchover m) m s { status := stAccepted, pay := le 8 0 } u ∧
      u.pair = { s.pair with lastTrigger := 4, lastSwitchover := now s } ∧
      u.modes = { s.modes with plan := some (s.modes.plan.getD { origin := .forced, cold := false, target := none, at_ := now s + 10 * ms, wasRun := false }) }) ∧
  (∀ m q s h, InFlight m 0x0C03 q s → h = (if s.pair.partnerLost then none else s.pair.partner) →
    (h = none → Answers (.pairResync m) m s (st stRefusedState) s) ∧
    (∀ x, h = some x → x.state = 3 → Answers (.pairResync m) m s (st stBusy) s) ∧
    (∀ x, h = some x → x.state = 5 → Answers (.pairResync m) m s (ok []) (emit (.control .resync) s)) ∧
    (∀ x, h = some x → x.state ≠ 3 → x.state ≠ 5 → Answers (.pairResync m) m s (st stRefusedState) s))

/-- Delivering a response to a local mailbox n leaves every part of the state but the host interface and what was sent. The bytes of R476 (command, status, tag, epoch, length, carriages, output length, DETAIL, payload) stand at 4 KiB above the start of the mailbox's 8 KiB, and no other byte of the buffers changes. The mailbox is DONE and otherwise as it was; the other mailboxes are as they were. Bit n of IRQ_STATUS is set, unless the request suppresses it: then IRQ_STATUS is as before and nothing is sent. -/
def Obligations.ResponsesAreDelivered : Prop :=
  ∀ (n : Fin 16) (r : Resp) (s u : State) (b : Mailbox), s.host.mbx[n] = b → u = respond (.loc n) r s →
    Within [.host, .out] s u ∧
    u.host.buffers = memWriteN s.host.buffers (n.val * 8192 + 4096) (responseBytes b.copy r s.host.epoch r.data.length) ∧
    u.host.mbx[n] = { b with state := 3 } ∧ (∀ k : Fin 16, k ≠ n → u.host.mbx[k] = s.host.mbx[k]) ∧
    (bit (fld16 b.copy 2) 0 = false → bit u.host.irqStatus.toNat n.val = true) ∧
    (bit (fld16 b.copy 2) 0 = true → u.host.irqStatus = s.host.irqStatus ∧ u.out = s.out)

/-- With main power: MBX_SUBMIT of an IDLE mailbox takes the command from its buffer, and MBX_ACK of a DONE mailbox makes it IDLE with nothing claimed; in any other state either sets PROTOCOL_ERROR only; each is a doorbell, a demand on the management clock (R17). A flag write of DEVICE_OWNED or of a value above 2 to a carriage is rejected and counted, any other is taken. A write within a carriage not DEVICE_OWNED stands in the window, one within a DEVICE_OWNED carriage is counted and dropped, a write to the command buffer of an IDLE mailbox stands there, and one elsewhere is counted; one byte is written at a time here. IRQ_ENABLE holds the 19 bits written. A read of HI_ERRORS answers both counts and clears them. A read of TSNAP_LO answers the module time's low word and latches the high word and the status. Without main power none of these rows changes anything. -/
def Obligations.LocalHostAccessesAct : Prop :=
  (∀ (n : Fin 16) s, endpointUp s = true →
    (s.host.mbx[n].state = 0 → exec (.mbxSubmit n) s = .next (submit (.loc n) (commandBuffer n.val s) (demandClock .doorbell s))) ∧
    (s.host.mbx[n].state ≠ 0 → exec (.mbxSubmit n) s = .next (mailboxMod (.loc n) (fun b => { b with protErr := true }) (demandClock .doorbell s))) ∧
    (s.host.mbx[n].state = 3 → exec (.mbxAck n) s = .next (mailboxMod (.loc n) (fun b => { b with state := 0, first := 0, count := 0 }) (demandClock .doorbell s))) ∧
    (s.host.mbx[n].state ≠ 3 → exec (.mbxAck n) s = .next (mailboxMod (.loc n) (fun b => { b with protErr := true }) (demandClock .doorbell s)))) ∧
  (∀ (k : Fin 4096) (v : Byte) s, endpointUp s = true →
    (carriageFlag (.loc 0) k.val s ≠ 2 → v.toNat ≤ 2 → exec (.flagWrite k v) s = .next (flagTaken (.loc 0) k.val v s)) ∧
    (carriageFlag (.loc 0) k.val s = 2 ∨ 2 < v.toNat → exec (.flagWrite k v) s = .next (countRejected s))) ∧
  (∀ a (v : Byte) s, endpointUp s = true → a < 0x10000000 →
    (carriageFlag (.loc 0) (a / 65536) s ≠ 2 → exec (.carriageDataWrite a [v]) s =
      .next { s with host := { s.host with window := memWrite s.host.window a v } }) ∧
    (carriageFlag (.loc 0) (a / 65536) s = 2 → exec (.carriageDataWrite a [v]) s = .next (countIgnored s))) ∧
  (∀ off (v : Byte) s, endpointUp s = true → off < 0x20000 →
    (off % 8192 < 4096 → (vget mailboxReset s.host.mbx (off / 8192)).state = 0 →
      exec (.mailboxBufferWrite off [v]) s = .next { s with host := { s.host with buffers := memWrite s.host.buffers off v } }) ∧
    (4096 ≤ off % 8192 ∨ (vget mailboxReset s.host.mbx (off / 8192)).state ≠ 0 → exec (.mailboxBufferWrite off [v]) s = .next (countIgnored s))) ∧
  (∀ v s, endpointUp s = true → ∃ u, exec (.irqEnableWrite v) s = .next u ∧ u.host = { s.host with irqEnable := v &&& 0x7FFFF#32 }) ∧
  (∀ s, endpointUp s = true → exec .hiErrorsRead s = .next { s with host := { s.host with
      readValue := s.host.errWrites ++ s.host.errFlags, errWrites := 0, errFlags := 0 } }) ∧
  (∀ s, endpointUp s = true → ∃ st, exec .tsnapLoRead s = .next { s with host := { s.host with
      readValue := BitVec.ofNat 32 (now s), tsnapLo := BitVec.ofNat 32 (now s), tsnapHi := BitVec.ofNat 32 (now s / 2 ^ 32), tsnapStatus := st } }) ∧
  (∀ c s, endpointUp s = false → c ∈ [Instr.mbxSubmit 0, .mbxAck 0, .hostReset, .flagWrite 0 1, .carriageDataWrite 0 [1], .mailboxBufferWrite 0 [1],
    .irqEnableWrite 1, .hiErrorsRead, .tsnapLoRead, .pcieLinkLoss] → exec c s = .next s)

/-- A command copied from a local mailbox that is IDLE: while the module is DEMOTING the mailbox is SUBMITTED with the copy. Otherwise, where a check of R478 fails, the response with that status and DETAIL is delivered; where all pass, the mailbox is RUNNING with the copy and claims the carriages the request names (none for a panel command of an empty rectangle). The session's time of the last command is the present. -/
def Obligations.SubmittedCommandIsAdmittedOrRefused : Prop :=
  ∀ (n : Fin 16) (s t : State) (copy : List Byte), s.host.mbx[n].state = 0 → t = submit (.loc n) copy s →
    (sessionOf (.loc n) t).lastCommand = now s ∧
    (s.pair.st = .demoting → t.host.mbx[n] = { s.host.mbx[n] with state := 1, copy := copy }) ∧
    (∀ w, s.pair.st ≠ .demoting → w = sessionMod (.loc n) (fun x => { x with lastCommand := now s })
        (mailboxMod (.loc n) (fun b => { b with state := 1, copy := copy }) s) →
      (∀ x d, admission (.loc n) copy w = some (x, d) →
        t = deliver (.loc n) (responseBytes copy (stDetail x d) s.host.epoch 0) (bit (fld16 copy 2) 0) w) ∧
      (∀ c, admission (.loc n) copy w = none → c = (if emptyPanel (fld16 copy 0) (copy.drop 32) then 0 else fld16 copy 18) →
        t.host.mbx[n] = { s.host.mbx[n] with state := 2, copy := copy, first := if c = 0 then 0 else fld16 copy 16, count := c }))

/-- With main power, HOST_RESET and PCIE_LINK_LOSS leave no local mailbox SUBMITTED or RUNNING, and every local session without a role. A session with a role whose last command is 30 min old loses its role and user at SESSION_TIMEOUT; one without a role, or with a younger command, is left alone with everything else. SUBSCRIPTION_INTERVAL_EXPIRY puts what is due in the subscription into its ring; without a subscription there, nothing changes. -/
def Obligations.HostResetAndSessionsEnd : Prop :=
  (∀ s, endpointUp s = true → ∃ u, exec .hostReset s = .next u ∧ exec .pcieLinkLoss s = .next u ∧
    (∀ n : Fin 16, u.host.mbx[n].state ≠ 1 ∧ u.host.mbx[n].state ≠ 2 ∧ (sessionOf (.loc n) u).role = 0)) ∧
  (∀ (n : Fin 16) s, (sessionOf (.loc n) s).role ≠ 0 → (sessionOf (.loc n) s).lastCommand + 1800 * sec ≤ now s →
    ∃ u, exec (.sessionTimeout (.loc n)) s = .next u ∧ (sessionOf (.loc n) u).role = 0 ∧ (sessionOf (.loc n) u).user = []) ∧
  (∀ x s, (sessionOf x s).role = 0 ∨ now s < (sessionOf x s).lastCommand + 1800 * sec → exec (.sessionTimeout x) s = .next s) ∧
  (∀ (k : Fin 8) s, exec (.subscriptionIntervalExpiry k) s = .next (subFill k.val 4096 s)) ∧
  (∀ (k : Fin 8) s, s.host.subs[k] = none → exec (.subscriptionIntervalExpiry k) s = .next s)

/-- With the listener open and the certificate accepted, TLS_CONNECT takes the first free of the eight places: a connection with no role, 16 IDLE mailboxes, no carriages and the present as both times of a message; with none free it changes nothing. TLS_COMMAND of 32 to 4,096 bytes to one of 16 mailboxes that is IDLE submits the copy there; TLS_KEEPALIVE without bytes moves the time of the last message; each of another length, and TLS_TRANSFER of a length that its LEN does not give, closes the connection. A TLS_TRANSFER of a carriage not DEVICE_OWNED puts its bytes and its flag there. A keep-alive is sent 10 s after the last message sent; 30 s without a message received close the connection; a connection the remote side closed leaves its place free. A KeyUpdate received, or 2^24 records sent, moves to the next keys. Rows of a place with no connection change nothing, and REGISTER_WRITE acts on its space only as the access codes say (here: the loop space, which takes no write, and PSEQ_STATUS, where a 1 clears a flag). -/
def Obligations.TlsConnectionsCarryTheHostInterface : Prop :=
  (∀ s i, s.host.tls.toList.findIdx? (·.isNone) = some i → tlsListens s = true → exec (.tlsConnect true) s = .next { s with host := { s.host with
    tlsAccepted := s.host.tlsAccepted + 1, tls := vset s.host.tls i (some (newTls (s.host.tlsAccepted + 1) (now s))) } }) ∧
  (∀ s, s.host.tls.toList.findIdx? (·.isNone) = none ∨ tlsListens s = false → exec (.tlsConnect true) s = .next s ∧ exec (.tlsConnect false) s = .next s) ∧
  (∀ (t : Fin 8) s c, s.host.tls[t] = some c →
    (∀ (b : Byte) body (n : Fin 16), b.toNat = n.val → 32 ≤ body.length → body.length ≤ 4096 → c.mbx[n].state = 0 →
      exec (.tlsCommand t b body) s = .next (submit (.tls t n) body (tlsHeard t s))) ∧
    (∀ (b : Byte) body, body.length < 32 ∨ 4096 < body.length ∨ 15 < b.toNat →
      ∃ u, exec (.tlsCommand t b body) s = .next u ∧ u.host.tls[t] = none) ∧
    (∀ body, 16 ≤ body.length → body.length ≤ 65552 → fld32 body 8 = body.length - 16 →
      fld16 body 0 ≤ 255 → fld32 body 4 + fld32 body 8 ≤ 65536 → carriageFlag (.tls t 0) (fld16 body 0) (tlsHeard t s) ≠ 2 → fld8 body 2 ≤ 2 →
      exec (.tlsTransfer t body) s = .next (flagTaken (.tls t 0) (fld16 body 0) (BitVec.ofNat 8 (fld8 body 2))
        (carriagePut (.tls t 0) (fld16 body 0 * 65536 + fld32 body 4) (body.drop 16) (tlsHeard t s)))) ∧
    (∀ body, body.length < 16 ∨ 65552 < body.length ∨ fld32 body 8 ≠ body.length - 16 →
      ∃ u, exec (.tlsTransfer t body) s = .next u ∧ u.host.tls[t] = none) ∧
    (∃ u, exec (.tlsKeepalive t []) s = .next u ∧ u.host.tls[t] = some { c with lastReceived := now s }) ∧
    (∃ u, exec (.tlsKeepalive t [0]) s = .next u ∧ u.host.tls[t] = none) ∧
    (c.lastSent + 10 * sec ≤ now s → ∃ u, exec (.tlsKeepaliveSend t) s = .next u ∧ u.out = .tls t.val 5 0 [] :: s.out ∧
      u.host.tls[t] = some { c with lastSent := now s, sentRecords := c.sentRecords + 1 }) ∧
    (c.lastReceived + 30 * sec ≤ now s → ∃ u, exec (.tlsReceiveTimeout t) s = .next u ∧ u.host.tls[t] = none) ∧
    (now s < c.lastReceived + 30 * sec → exec (.tlsReceiveTimeout t) s = .next s) ∧
    (∃ u, exec (.tlsConnectionClosed t) s = .next u ∧ u.host.tls[t] = none) ∧
    (∃ u, exec (.tlsKeyUpdate t true) s = .next u ∧ u.host.tls[t] = some { c with recvKeys := c.recvKeys + 1, lastReceived := now s }) ∧
    (2 ^ 24 ≤ c.sentRecords → ∃ u, exec (.tlsKeyUpdate t false) s = .next u ∧ u.out = .tlsKey t.val :: s.out ∧
      u.host.tls[t] = some { c with sendKeys := c.sendKeys + 1, sentRecords := 0 })) ∧
  (∀ (t : Fin 8) s c, s.host.tls[t] = none → c ∈ [Instr.tlsKeepalive t [], .tlsKeepaliveSend t, .tlsReceiveTimeout t, .tlsConnectionClosed t, .tlsKeyUpdate t true,
    .tlsCommand t 0 [], .tlsTransfer t []] → exec c s = .next s) ∧
  (∀ off v s, exec (.registerWrite .loop off v) s = .next s) ∧
  (∀ v s, exec (.registerWrite .pseq 0 v) s = .next { s with power := pseqStatusWrite v s.power }) ∧
  (∀ (k : Fin 16) v s, endpointUp s = false → exec (.registerWrite .bar0 k.val v) s = .next s)

/-- With main power: a falling feed clears its OK bit and sets its sticky bit; POWER_FAIL, not pending, sets POWER_FAIL and an active module with a standby demotes itself; HOLD_UP_END of a power fail with no feed back leads to PLINTH; REF_FAULT sets its bit, and outside a pair leads STOP, RUN and HOLD to SAFE; a rail fault sets its bit and, with LANE_FAULT, excludes a lane in use (with fewer than two exclusions in 24 h behind it); MGMT_CLOCK_DEMAND of a kind raises the clock to that kind's level where it is lower, and MGMT_CLOCK_FALL lowers it to the highest level demanded within 10 ms, or that a start or a command of R497 in execution still demands; a lane in DEEP_IDLE wakes for a release or a merge within 60 us; DIE_TEMPERATURE stores the value, sets WARM from 100 C and HOT from 115 C, and a 125 C held sets LIMIT; a lasting condition is recorded again after 60 s. A feed restored in PLINTH starts the module; in another mode it sets its OK bit only. -/
def Obligations.PowerRowsMoveTheFeedsClocksAndLanes : Prop :=
  (∀ s, mainPower s = true → ∃ u v, exec (.feedUndervoltage .a) s = .next u ∧ exec (.feedUndervoltage .b) s = .next v ∧
    u.power = { s.power with feedAOk := false, feedAUnder := true } ∧ v.power = { s.power with feedBOk := false, feedBUnder := true }) ∧
  (∀ s, (s.modes.mode ≠ .plinth → exec (.feedRestored .a) s = .next { s with power := { s.power with feedAOk := true } } ∧
      exec (.feedRestored .b) s = .next { s with power := { s.power with feedBOk := true } }) ∧
    (s.modes.mode = .plinth → ∀ f, ∃ u, exec (.feedRestored f) s = .next u ∧ u.modes.mode = .boot)) ∧
  (∀ s, mainPower s = true → s.power.powerFail = false → ∃ u, exec .powerFail s = .next u ∧ u.power.powerFail = true ∧
    u.power.feedAOk = false ∧ u.power.feedBOk = false ∧ (operating s = true → s.pair.st = .activePaired → u.pair.st = .demoting)) ∧
  (∀ s, s.power.powerFail = true → s.power.feedAOk = false → s.power.feedBOk = false → ∃ u, exec .holdUpEnd s = .next u ∧
    u.modes.mode = .plinth ∧ u.power.powerFail = false ∧ u.plinth = s.plinth ∧ u.fw = s.fw) ∧
  (∀ b s, mainPower s = true → ∃ u, exec (.refFault b) s = .next u ∧ u.power = { s.power with refFault := true, refOutside := b } ∧
    (operating s = true → s.pair.st ≠ .activePaired → s.pair.st ≠ .demoting → u.modes.mode = .safe)) ∧
  (∀ l s, mainPower s = true → (laneAt l s).st ∉ [.off, .excluded, .unusable] → (recentExclusions (laneAt l s) (now s)).length < 2 →
    ∃ u v, exec (.laneRailFault l) s = .next u ∧ exec (.laneFault l) s = .next v ∧ u.power.laneRailFault = true ∧
      (laneAt l u).st = .excluded ∧ (laneAt l v).st = .excluded ∧ v.power.laneRailFault = s.power.laneRailFault) ∧
  (∀ x s, mainPower s = true → exec (.mgmtClockDemand x) s = .next { s with power := { s.power with
    mgmtClk := BitVec.ofNat 2 (max s.power.mgmtClk.toNat (clkCode x)), demanded := vset s.power.demanded (clkCode x - 1) (some (now s)) } }) ∧
  (∀ s, mainPower s = true → ∃ n, n ≤ s.power.mgmtClk.toNat ∧ clockDemanded n s = true ∧
    (∀ k, n < k → k ≤ s.power.mgmtClk.toNat → clockDemanded k s = false) ∧
    exec .mgmtClockFall s = .next { s with power := { s.power with mgmtClk := BitVec.ofNat 2 n } }) ∧
  (∀ l s (t : Fin 32), operating s = true → s.task[t].defn.isSome = true → s.task[t].st = .running → s.task[t].next ≤ now s + 60 * us →
    (vget .off s.power.lane (laneNo l) = .deepIdle →
      exec (.laneWake l) s = .next { s with power := { s.power with lane := vset s.power.lane (laneNo l) .active } }) ∧
    (vget .off s.power.lane (laneNo l) ≠ .deepIdle → exec (.laneWake l) s = .next s)) ∧
  (∀ s, mainPower s = true → s.image.intake ≠ [] → s.image.nextMerge ≤ now s + 60 * us →
    ∃ u, exec .mergeWake s = .next u ∧ u = { s with power := { s.power with lane := u.power.lane } } ∧
      ∀ l, vget .off u.power.lane (laneNo l) = if vget .off s.power.lane (laneNo l) = .deepIdle then .active else vget .off s.power.lane (laneNo l)) ∧
  (∀ t held s, mainPower s = true → ∃ u, exec (.dieTemperature t held) s = .next u ∧ u.power.dieTemp = t ∧
    u.power.warm = (s.power.warm || decide (25600 ≤ t.toInt)) ∧ u.power.hot = (s.power.hot || decide (29440 ≤ t.toInt)) ∧
    u.power.limit = ((held && decide (32000 ≤ t.toInt)) || (s.power.limit && decide (30720 ≤ t.toInt))) ∧
    (operating s = true → s.pair.st ≠ .activePaired → s.pair.st ≠ .demoting → s.power.limit = false → u.power.limit = true → u.modes.mode = .safe)) ∧
  (∀ s, mainPower s = true →
    (s.power.warmOn = true → due s.power.warmAt (60 * sec) (now s) = true → ∃ u, exec .dieTempRepeat s = .next u ∧ u.power.warmAt = some (now s)) ∧
    (s.power.hotOn = true → due s.power.hotAt (60 * sec) (now s) = true → ∃ u, exec .dieTempRepeat s = .next u ∧ u.power.hotAt = some (now s)) ∧
    (s.power.warmOn = false → s.power.hotOn = false → exec .dieTempRepeat s = .next s))

/-- With main power, RESET_N and MGMT_WATCHDOG_RESET enter BOOT with the plan of such a start, whatever the mode; without it they change nothing. The manoeuvring input is held. The owner-lock input is held, with an AUDIT record where it engages or releases the lock. An edge on TCK while the test access port is closed is ignored and recorded at most once per minute; with the port open it changes nothing. -/
def Obligations.ResetsAndStrapInputsAct : Prop :=
  (∀ s, mainPower s = true → ∃ u v, exec .resetN s = .next u ∧ exec .mgmtWatchdogReset s = .next v ∧ u.modes.mode = .boot ∧ v.modes.mode = .boot ∧
    u.modes.begun.isSome = true ∧ v.modes.begun.isSome = true) ∧
  (∀ s, mainPower s = false → exec .resetN s = .next s ∧ exec .mgmtWatchdogReset s = .next s) ∧
  (∀ b s, exec (.manoeuvringInput b) s = .next { s with modes := { s.modes with manoeuvring := b } }) ∧
  (∀ b s, ∃ u, exec (.ownerLockInput b) s = .next u ∧ u.modes = { s.modes with lockInput := b } ∧
    (mainPower s = false ∨ ownerLocked { s with modes := { s.modes with lockInput := b } } = ownerLocked s →
      u = { s with modes := { s.modes with lockInput := b } })) ∧
  (∀ s, mainPower s = true → portOpen s = false →
    (due s.modes.lastTck (60 * sec) (now s) = true → ∃ u, exec .tckWhileClosed s = .next u ∧ u.modes = { s.modes with lastTck := some (now s) } ∧
      u = { s with modes := u.modes, recorder := u.recorder }) ∧
    (due s.modes.lastTck (60 * sec) (now s) = false → exec .tckWhileClosed s = .next s)) ∧
  (∀ s, portOpen s = true → exec .tckWhileClosed s = .next s)

/-- In BOOT, with no role wait and no power fail, START runs: it ends in SAFE, in STOP, RUN, MAINTENANCE or STANDBY, or the module stays in BOOT waiting for its role; in any other mode it changes nothing. A start asked for begins when its delay is over. In BOOT, with the group whose turn it is, a unit of it that BIST finds failing (no lane is UNUSABLE) gets health 2 with cause 1, and the next group follows; a group out of turn changes nothing; START_TIMEOUT, 180 s of Plinth ticks after BOOT was entered, ends in SAFE. At the end of the wait for a hello, the module becomes standby where the partner is active, and active with the mode of R453 otherwise. -/
def Obligations.StartsRunToTheirMode : Prop :=
  (∀ f l s, s.modes.mode = .boot → s.modes.roleWait = none → s.power.powerFail = false →
    ∃ u, exec (.start f l) s = .next u ∧ (u.modes.mode = .safe ∨ u.modes.mode = .stop ∨ u.modes.mode = .run ∨ u.modes.mode = .maintenance ∨
      u.modes.mode = .standby ∨ u.modes.mode = .boot)) ∧
  (∀ f l s, s.modes.mode ≠ .boot → exec (.start f l) s = .next s ∧ exec .startTimeout s = .next s) ∧
  (∀ s p, s.modes.plan = some p → s.modes.mode ≠ .plinth → p.at_ ≤ now s → ∃ u, exec .startDelayExpiry s = .next u ∧ u.modes.mode = .boot) ∧
  (∀ (g : Fin 5) x s, s.modes.mode = .boot → s.modes.roleWait = none → (bistUnits g.val).contains x = true → lanesOf .unusable s = [] →
    (tabGet healthReset s.modes.health x).health ≠ 2 →
    (g.val = s.modes.bistDone → exec (.bistGroupComplete g [x]) s = .next { s with modes := { s.modes with
      health := tabSet healthReset s.modes.health x { health := 2, cause := 1, since := now s }, bistDone := g.val + 1 } }) ∧
    (g.val ≠ s.modes.bistDone → exec (.bistGroupComplete g [x]) s = .next s)) ∧
  (∀ s, s.modes.mode = .boot → 180 * 32768 ≤ (s.plinth.ticks - s.modes.bootAt).toNat → ∃ u, exec .startTimeout s = .next u ∧ u.modes.mode = .safe) ∧
  (∀ s t, s.modes.roleWait = some t → s.modes.mode = .boot → t ≤ now s →
    (partnerActive s = true → ∃ u, exec .pairStartWaitExpiry s = .next u ∧ u.modes.mode = .standby) ∧
    (partnerActive s = false → (startPlan s).origin ≠ .forced → ∃ u, exec .pairStartWaitExpiry s = .next u ∧ u.modes.mode = startTarget s))

/-- Outside the switching of an exchange: a task due is released, with the snapshot of its nominal release and its next release one cycle after it; one not due is left alone. CP1 of a gathered task with a quorum agrees the items and begins the execution (a standby takes the active module's items); each comparator used then expects the other polarity, and a wrong polarity sets COUPLER_FAULT. CP2 of an executing task whose lanes agree in every scope holds the signatures and outputs. CP3 of a compared task that is not Background, with a quorum, ends the cycle: the next cycle number, the task asleep, and a new generation exactly where it writes a signal or an alarm, or its first commit while RUNNING freshens its stale signals. A late lane that agrees is no longer absent; one past the lag limit, counted from the first lane's arrival, is excluded. WCET_EXCEEDED, DEADLINE_OVERRUN and PASS_LIMIT_EXPIRY count for the task. What follows the end of a cycle (followTasks) comes after each. -/
def Obligations.TaskCyclesRunThroughTheirPhases : Prop :=
  (∀ (t : Fin 32) s,
    (releaseDue t.val s = true → ∃ u, exec (.taskRelease t) s = .next u ∧ u.task[t].phase = .gathered ∧ u.task[t].snap = snapshotAt (dueRelease t.val s) s ∧
      u.task[t].released = dueRelease t.val s ∧ u.task[t].next = dueRelease t.val s + (taskDefn t.val s).elim 0 (·.cycle)) ∧
    (releaseDue t.val s = false → exec (.taskRelease t) s = .next s)) ∧
  (∀ (t : Fin 32) items present shown s here late used v, s.task[t].phase = .gathered → here = (membersOf t.val s).filter (fun l => present.contains l) →
    late = (membersOf t.val s).filter (fun l => !present.contains l) → quorum t.val s ≤ here.length → used = usedComparators here →
    v = { s with cpl := { s.cpl with pol1 := s.cpl.pol1 ^^^ used } } →
    (∀ vs, agreedFor t.val s = some vs → exec (.cp1Agree t items present shown) s = .next (followTasks s (taskMod t.val (fun k => { k with
      phase := .executing, items := vs, tols := vs.map (fun x => itemTol t.val x.1 s), absent1 := late }) s))) ∧
    (agreedFor t.val s = none → s.modes.mode ≠ .standby →
      (∀ vs tols, polarityWrong shown s.cpl.pol1 used = false → sendsToStandby s = false →
        agreeAll t.val (quorum t.val s) here s (items.map (proposals s.task[t] here)) = some (vs, tols, []) →
        exec (.cp1Agree t items present shown) s = .next (followTasks s (taskMod t.val (fun k => { k with
          phase := .executing, items := vs, tols := tols, absent1 := late }) v))) ∧
      (polarityWrong shown s.cpl.pol1 used = true →
        ∃ u, exec (.cp1Agree t items present shown) s = .next (followTasks s u) ∧ u.cpl.fault = true ∧ u.cpl.pol1 = v.cpl.pol1))) ∧
  (∀ (t : Fin 32) rs shown s here late r used, s.task[t].phase = .executing → here = (membersOf t.val s).filterMap (fun l => rs.find? fun r => r.lane == l) →
    late = (membersOf t.val s).filter (fun l => !(here.map (·.lane)).contains l) → quorum t.val s ≤ here.length → here.head? = some r → haltedTask t.val s = false →
    used = usedComparators (here.map (·.lane)) → polarityWrong shown s.cpl.pol2 used = false →
    (∀ x ∈ scopesOf t.val here s, compareScope (scopeMatch s.cpl.key s.task[t].cycleNo x) here = some []) → s.pair.digests = [] →
    exec (.cp2Compare t rs shown) s = .next (followTasks s (taskMod t.val (fun k => { k with
      areaDue := false, phase := .compared, outs := r.outs, badScopes := [], absent2 := late,
      sigs := (scopesOf t.val here s).map fun x => (x, (scopeSig s.cpl.key s.task[t].cycleNo x r).getD 0) })
      { s with cpl := { s.cpl with pol2 := s.cpl.pol2 ^^^ used } }))) ∧
  (∀ (t : Fin 32) ws present s, s.task[t].phase = .compared → s.task[t].badScopes = [] → s.prog.st = .idle → background t.val s = false → haltedTask t.val s = false →
    quorum t.val s ≤ ((membersOf t.val s).filter fun l => present.contains l).length → ∃ u, exec (.cp3Commit t ws present) s = .next u ∧
    u.task[t].phase = .sleep ∧ u.task[t].cycleNo = s.task[t].cycleNo + 1 ∧
    u.image.gen = if ws.sigs = [] ∧ ws.alarms = [] ∧ (s.task[t].st ≠ .running ∨ staleOf t.val s = []) then s.image.gen else s.image.gen + 1) ∧
  (∀ (t : Fin 32) l r s, s.task[t].absent2.contains l = true → lateDiffers s.task[t] s.cpl.key (.result r) = false →
    exec (.lateLaneCheck t l (.result r)) s = .next (taskMod t.val (fun k => { k with absent2 := k.absent2.filter (· != l) }) s)) ∧
  (∀ (t : Fin 32) l s, s.task[t].absent3.contains l = true →
    exec (.lateLaneCheck t l .release) s = .next (taskMod t.val (fun k => { k with absent3 := k.absent3.filter (· != l) }) s)) ∧
  (∀ (t : Fin 32) l c first s, s.task[t].absent1.contains l = false → s.task[t].absent2.contains l = false → s.task[t].absent3.contains l = false →
    exec (.lateLaneCheck t l c) s = .next s ∧ (s.task[t].phase = .sleep → exec (.lagLimitExpiry t l first) s = .next s)) ∧
  (∀ (t : Fin 32) l first s, s.task[t].absent2.contains l = true → lagSuspended t.val s = false → s.task[t].released ≤ first →
    (first + (taskDefn t.val s).elim 0 lagLimit < now s → exec (.lagLimitExpiry t l first) s = .next (followTasks s (excludeLane l s))) ∧
    (now s ≤ first + (taskDefn t.val s).elim 0 lagLimit → exec (.lagLimitExpiry t l first) s = .next s)) ∧
  (∀ (t : Fin 32) s, s.task[t].phase = .executing → ∃ u, exec (.wcetExceeded t) s = .next u ∧ u = { s with task := u.task, recorder := u.recorder } ∧
    u.task[t].wcetExceeded = s.task[t].wcetExceeded + 1) ∧
  (∀ (t : Fin 32) s, s.task[t].phase ≠ .sleep → (taskDefn t.val s).isSome = true →
    (background t.val s = false → s.task[t].late = false → s.task[t].next ≤ now s →
      ∃ u, exec (.deadlineOverrun t) s = .next (followTasks s u) ∧ u.task[t].totalOverruns = s.task[t].totalOverruns + 1) ∧
    (background t.val s = true → s.task[t].released + (taskDefn t.val s).elim 0 (·.passLimit) * sec ≤ now s →
      ∃ u, exec (.passLimitExpiry t) s = .next (followTasks s u) ∧ u.task[t].totalOverruns = s.task[t].totalOverruns + 1)) ∧
  (∀ (t : Fin 32) s, s.task[t].phase = .sleep → exec (.wcetExceeded t) s = .next s ∧ exec (.deadlineOverrun t) s = .next s ∧ exec (.passLimitExpiry t) s = .next s)

/-- Exclusions older than 24 h leave a lane's count (those of a time ahead of the present stay, log 168) and nothing else changes. With a source lane, an excluded lane held for 5 ms is powered and reloaded, then cleared, and then enters RESYNC (where no resynchronisation is active) or waits its turn. A resynchronisation that has caught up in triplex makes its target REJOIN_PENDING before the next begins, with PROGRESS 1,000. A suspended copy is recorded, keeps the progress it reached, and resumes from its first page. A breakpoint or a step of the debugged task halts it, and in duplex the action enters the journal; where the checker gives another count or none, the cycle is discarded as a duplex disagreement (its task in execution, followTasks after it); with the journal full nothing happens. -/
def Obligations.LanesAreHeldReloadedAndResynchronised : Prop :=
  (∀ l s, exec (.exclusionCountAgeing l) s = .next (laneMod l (fun x => { x with exclusions := x.exclusions.filter fun e => decide (now s < e + 86400 * sec) }) s)) ∧
  (∀ l s, (laneAt l s).st = .excluded → (sourceLane s).isSome = true →
    ((laneAt l s).bring = .held → (laneAt l s).since + 5 * ms ≤ now s →
      exec (.resyncHoldExpiry l) s = .next (lanePower l .active (laneMod l (fun x => { x with bring := .reload }) s))) ∧
    ((laneAt l s).bring = .reload → exec (.firmwareReloadComplete l) s = .next (laneMod l (fun x => { x with bring := .clearing }) s)) ∧
    ((laneAt l s).bring = .clearing → s.cpl.active = true → ∃ u, exec (.dramClearComplete l) s = .next u ∧
      u = { laneMod l (fun x => { x with bring := .cleared s.cpl.cleared }) s with cpl := u.cpl } ∧ u.cpl.cleared = s.cpl.cleared + 1 ∧
      (laneAt l u).bring = .cleared s.cpl.cleared) ∧
    ((laneAt l s).bring = .clearing → s.cpl.active = false → ∃ u, exec (.dramClearComplete l) s = .next u ∧ u.cpl.active = true)) ∧
  (∀ l s, (laneAt l s).st ≠ .excluded → exec (.resyncHoldExpiry l) s = .next s ∧ exec (.firmwareReloadComplete l) s = .next s ∧
    exec (.dramClearComplete l) s = .next s) ∧
  (∀ s, s.cpl.active = true → s.cpl.config = .triplex → loopsCopied s.cpl.target s = true → ∀ v, v = laneMod s.cpl.target (fun x => { x with st := .rejoinPending, since := now s }) s →
    exec .resyncCopyComplete s = .next (lanesIdle (rejoinCheck (tryResync { v with cpl := { v.cpl with active := false, suspended := false, progress := 1000 } })))) ∧
  (∀ s, s.cpl.active = false → exec .resyncCopyComplete s = .next s ∧ exec .resyncSuspend s = .next s ∧ exec .resyncResume s = .next s) ∧
  (∀ s, s.cpl.active = true → s.cpl.suspended = false → ∃ u, exec .resyncSuspend s = .next u ∧
    u = { s with cpl := { s.cpl with suspended := true, progress := BitVec.ofNat 10 (copyProgress s) }, recorder := u.recorder }) ∧
  (∀ s l, s.cpl.active = true → s.cpl.suspended = true → sourceLane s = some l →
    exec .resyncResume s = .next { s with cpl := { s.cpl with suspended := false, progress := 0, source := l, copyStart := now s, stream := 0 } }) ∧
  (∀ s d n c u, s.cpl.attach = some d → d.halted = false → d.stepping = none → d.breakpoints ≠ [] →
    (d.lane = none → d.journal.length < 4096 → u = { s with cpl := { s.cpl with
        attach := some { d with halted := true, journal := d.journal ++ [(d.task, (taskAt d.task s).elim 0 (·.cycleNo), 2, n)] } } } →
      (c = some n → exec (.breakpointHalt n c) s = .next (lanesIdle u)) ∧
      (c ≠ some n → exec (.breakpointHalt n c) s = .next (followTasks s (discardUnresolved d.task (some (funcsOfTask d.task s)) u)))) ∧
    (d.lane.isSome = true → exec (.breakpointHalt n c) s = .next (lanesIdle { s with cpl := { s.cpl with attach := some { d with halted := true } } })) ∧
    (d.lane = none → 4096 ≤ d.journal.length → exec (.breakpointHalt n c) s = .next s)) ∧
  (∀ s n c, s.cpl.attach = none → exec (.breakpointHalt n c) s = .next s)

/-- At a merge tick of its own intake, with a quorum of lanes that agree, awake, and a batch that arrived by then, outside an exchange's own merge, the image moves to the next generation and the next tick lies one period on (followTasks comes after it); before the time, without a quorum or with no lane delivering, nothing happens. With the network section running, a block that does not parse, of an absent station (log 165), of a number not above the last, or of its own station from itself is counted as discarded; one out of order is held; without the network section nothing changes. A change block closes 1 ms after its first entry, a keep-alive follows 10 ms after the last block, a refresh block at its time in the pass: each sent block takes the next number. The number is stored; the lag warning sets above 500 ms and clears once the lag has stayed below 50 ms for 10 s. A live station without a block for the peer timeout, and a silent one for 20 of them, enter the intake. -/
def Obligations.MergesAndPublicationRun : Prop :=
  (∀ s p tick present v bs, mergesRun s = true → s.image.nextMerge ≤ now s → mergeQuorum s ≤ ((mergeVoters s).filter fun l => present.contains l).length →
    p = max 1 (mergePeriod s) → tick = s.image.nextMerge + (now s - s.image.nextMerge) / p * p → followsMerges s = false → s.net.newTables = none → exchangeWaits s = false →
    v = { s with image := { s.image with nextMerge := tick + p } } → bs = (takeBatches tick 4096 true s.image.intake).1 → bs ≠ [] → sleptThrough tick bs s = false →
    ∃ u, exec (.mergeTick present []) s = .next (followTasks v u) ∧ u.image.gen = s.image.gen + 1 ∧ u.image.nextMerge = tick + p) ∧
  (∀ s present differs, mergesRun s = false ∨ now s < s.image.nextMerge ∨ ((mergeVoters s).filter fun l => present.contains l).length < mergeQuorum s →
    exec (.mergeTick present differs) s = .next s) ∧
  (∀ src data s, netRuns s = true → ownBlock data s = false → parseBlock data s = none → exec (.pubBlockReceived src data) s = .next { s with image := { s.image with blockDiscards := s.image.blockDiscards + 1 } }) ∧
  (∀ src data s b n, netRuns s = true → ownBlock data s = false → parseBlock data s = some b → n = fld8 data 6 → n < 64 →
    ((stationAt n s).st = .absent → exec (.pubBlockReceived src data) s = .next (discardBlock s)) ∧
    ((stationAt n s).st = .live → b.seq ≤ (stationAt n s).lastSeq → exec (.pubBlockReceived src data) s = .next (discardBlock s)) ∧
    ((stationAt n s).st = .live → (stationAt n s).lastSeq + 1 < b.seq → b.takeover = false →
      exec (.pubBlockReceived src data) s = .next (stationMod n (fun x => { x with held := holdBlock b x.held }) s)) ∧
    ((stationAt n s).st = .waiting → blockWaits n s = false →
      exec (.pubBlockReceived src data) s = .next (acceptBlock n false b (stationMod n (fun x => { x with held := [] }) s)))) ∧
  (∀ data s, netRuns s = true → ownBlock data s = true → exec (.pubBlockReceived .own data) s = .next (discardBlock s)) ∧
  (∀ src data s, netRuns s = false → exec (.pubBlockReceived src data) s = .next s) ∧
  (∀ (n : Fin 64) s, (∀ b ∈ (stationAt n.val s).held, now s < b.arrival + ms) → exec (.pubGapHoldExpiry n) s = .next s) ∧
  (∀ (n : Fin 64) s b, (stationAt n.val s).held = [b] → b.arrival + ms ≤ now s → (stationAt n.val s).lastSeq < b.seq →
    exec (.pubGapHoldExpiry n) s = .next (acceptBlock n.val (b.seq != (stationAt n.val s).lastSeq + 1) b (stationMod n.val (fun x => { x with held := [] }) s))) ∧
  (∀ s q qs, isActive s = true → s.pub.queue = q :: qs → q.2 + ms ≤ now s → changeCount s ≠ 0 → ∃ u, exec .pubChangeBlockClose s = .next u ∧
    u.pub.seq = nextBlockSeq s ∧ u.pub.queue = s.pub.queue.drop (changeCount s) ∧ u.pub.lastSent = now s) ∧
  (∀ s, isActive s = true → s.pub.lastSent + 10 * ms ≤ now s → ∃ u, exec .pubKeepalive s = .next u ∧
    u = { s with pub := u.pub, out := u.out } ∧ u.pub = { s.pub with seq := nextBlockSeq s, first := false, takeover := false, lastSent := now s }) ∧
  (∀ s k n, isActive s = true → k = s.pub.block → n = passBlocks s → k < n → s.pub.passStart + k * (16 * sec) / n ≤ now s → ∃ u, exec .refreshBlock s = .next u ∧
    u.pub.seq = nextBlockSeq s ∧ u.pub.block = k + 1 ∧ u.pub.lastSent = now s ∧ u.pub.pass = if k = 0 then (s.pub.pass + 1) % 65536 else s.pub.pass) ∧
  (∀ s, isActive s = false → exec .pubChangeBlockClose s = .next s ∧ exec .pubKeepalive s = .next s ∧ exec .refreshBlock s = .next s ∧ exec .pubSequenceStore s = .next s) ∧
  (∀ s, isActive s = true → s.pub.first = false → exec .pubSequenceStore s = .next { s with pub := { s.pub with stored := s.pub.seq } }) ∧
  (∀ s, (s.pub.lagging = false → isActive s = true → 500 * ms < publicationLag s → ∃ u, exec .pubLagWarning s = .next u ∧
      u = { s with pub := { s.pub with lagging := true }, recorder := u.recorder }) ∧
    (s.pub.lagging = true → publicationLag s < 50 * ms → s.pub.lastHigh + 10 * sec ≤ now s → exec .pubLagWarning s = .next { s with pub := { s.pub with lagging := false } })) ∧
  (∀ (n : Fin 64) s,
    ((stationAt n.val s).st = .live → (stationAt n.val s).lastTime + peerTimeoutNs s ≤ now s → stationWaits n.val false s = false →
      exec (.peerTimeout n) s = .next (intake .own [{ sig := sigNo n.val 0, kind := .station false }] s)) ∧
    ((stationAt n.val s).st = .silent → (stationAt n.val s).lastTime + 20 * peerTimeoutNs s ≤ now s → stationWaits n.val true s = false →
      exec (.peerLossTime n) s = .next (intake .own [{ sig := sigNo n.val 0, kind := .station true }] s)) ∧
    ((stationAt n.val s).st = .absent → exec (.peerTimeout n) s = .next s ∧ exec (.peerLossTime n) s = .next s))

/-- With the network section running and its network up, a telegram that fails a check of R336 is counted at its node, or as unknown; one that passes, from a node that was heard, sets the node's time and number and its payload reaches the dispatch unit (no reply asked for, stamped by the node, its echo the owner count); a standby takes only the node's marks and the echo. A signal with no value within its limit enters the intake as stale once. An output telegram of the active module never sent, to an enabled node with a known address and its network up, is sent with the next number; at most one per 100 us: a deferred one goes at the hold-off's end. TAKEOVER to a node ends after 1 s; a node not heard for its time limit is silent and recorded. -/
def Obligations.NodeTelegramsAndOutputsAct : Prop :=
  (∀ (net : Fin 2) a data s n, n = fld16 data 8 → netRuns s = true → netUp net.val s = true → telegramOk net.val a data s = false →
    ((nodeEntry n s).isSome = true → exec (.nodeTelegramReceived net a data) s = .next (nodeMod n (fun x => { x with discards := x.discards + 1 }) s)) ∧
    (nodeEntry n s = none → exec (.nodeTelegramReceived net a data) s = .next { s with net := { s.net with unknown := s.net.unknown + 1 } })) ∧
  (∀ (net : Fin 2) a data s n v, n = fld16 data 8 → netUp net.val s = true → telegramOk net.val a data s = true → (nodeAt n s).silent = false →
    bit (fld8 data 7) 1 = false → v = ownerEcho n s.net.owner (nodeMod n (fun x =>
      { x with silent := false, last := now s, seq := tabSet none x.seq (fld8 data 6) (some (fld32 data 12)) }) s) →
    BitVec.ofNat 16 (fld16 data 30) = s.net.owner →
    (s.modes.mode = .standby → exec (.nodeTelegramReceived net a data) s = .next v) ∧
    (netRuns s = true → s.modes.mode ≠ .standby → bit (fld8 data 7) 2 = true → exec (.nodeTelegramReceived net a data) s = .next (dispatchIn (telegramKey n (fld8 data 6)) n
      (fld8 data 11 == 0 || fld8 data 11 == 2) (data.drop 32) (partStatus (fld8 data 11) (fld32 data 24)) (fld64 data 16) v))) ∧
  (∀ (net : Fin 2) a data s, netRuns s = false ∨ netUp net.val s = false → exec (.nodeTelegramReceived net a data) s = .next s) ∧
  (∀ i s g limit last, g = sigNo (ownStation s) i → staleTimes g s = some (limit, last) → operating s = true → sigDefined g s = true →
    (tabGet 0 s.image.stale g = 0 → last + limit ≤ now s → exec (.signalStaleTimeout i false) s = .next (intake .own
      [{ sig := g, kind := .stale (reasonOf (sigRec g s).srcStatus) false }] { s with image := { s.image with stale := tabSet 0 s.image.stale g 1 } })) ∧
    (tabGet 0 s.image.stale g < 2 → s.net.dispatch.any (fun e => dispatchFeeds e g) = true → last + 3 * limit ≤ now s →
      exec (.signalStaleTimeout i true) s = .next (intake .own [{ sig := g, kind := .stale 0x03 true }]
        { s with image := { s.image with stale := tabSet 0 s.image.stale g 2 } })) ∧
    (now s < last + limit → exec (.signalStaleTimeout i false) s = .next s)) ∧
  (∀ (n : Fin 4096) (j : Fin 256) s k, k = telegramKey n.val j.val → isActive s = true → nodeEnabled (keyNode k) s = true → outEntries k s ≠ [] →
    (nodeAt (keyNode k) s).mac.isSome = true → netUp (nodeNet s) s = true → ∀ w,
    w = outMod k (fun o => { seq := o.seq + 1, sent := some (now s), deferred := false }) (emit (.telegram (keyNode k) (telegramBytes k s)) s) →
    ((outAt k s).sent = none → telegramOut k = true → exec (.outputRepeatExpiry (.telegram n j)) s = .next w) ∧
    (∀ t, (outAt k s).sent = some t → t + 100 * us ≤ now s → (outAt k s).deferred = true → exec (.outputHoldoffExpiry n j) s = .next w)) ∧
  (∀ (n : Fin 4096) (j : Fin 256) s, (outAt (telegramKey n.val j.val) s).deferred = false → exec (.outputHoldoffExpiry n j) s = .next s) ∧
  (∀ k s t, (outAt (outKeyOf k) s).sent = some t → now s < t + outRepeat (outKeyOf k) s → exec (.outputRepeatExpiry k) s = .next s) ∧
  (∀ (n : Fin 4096) s t, (nodeAt n.val s).takeover = some t →
    (t + sec ≤ now s → exec (.takeoverFlagExpiry n) s = .next (nodeMod n.val (fun x => { x with takeover := none }) s)) ∧
    (now s < t + sec → exec (.takeoverFlagExpiry n) s = .next s)) ∧
  (∀ (n : Fin 4096) s e, nodeEntry n.val s = some e → bit (fld8 e 2) 0 = true → (nodeAt n.val s).silent = false →
    ((nodeAt n.val s).last + fld16 e 8 * ms ≤ now s → ∃ u, exec (.nodeSilent n) s = .next u ∧
      u = { nodeMod n.val (fun x => { x with silent := true }) s with recorder := u.recorder }) ∧
    (now s < (nodeAt n.val s).last + fld16 e 8 * ms → exec (.nodeSilent n) s = .next s))

/-- ARP_REFRESH sends a request for each enabled node on each port of its network that carries traffic. A request for the module's address is answered; the sender of an enabled node's address is learned. A query is answered with a report for each group the network has, the publication group and the input group; an echo request is answered. In HSR a ring frame goes on by the other port, where that carries traffic; a PTP event message carries its residence time. A link change is stored with the lost flag and recorded; a link that stays sends nothing. A supervision frame restarts the port's 6 s and enters the node table, a known number within 400 ms counts as a duplicate; sending one moves the number. A port without a frame for 6 s is recorded once. Entries of a source older than 400 ms, or 60 s for a node, are forgotten. A discarded frame counts and sets the flag of its cause. -/
def Obligations.NetworkPortsAnswerAndSupervise : Prop :=
  (∀ s, ∃ u, exec .arpRefresh s = .next u ∧ u = { s with out := u.out } ∧
    ∀ e ∈ s.net.nodeTable, bit (fld8 e 2) 0 = true → ∀ p ∈ netPorts (nodeNet s) s, portUp p s = true →
      Output.frame p 0x0806 (arpPacket 1 (nodeNet s) 0 (ipAt e 4) s) ∈ u.out) ∧
  (∀ (n : Fin 3) r ip mac t s, (∀ e ∈ s.net.nodeTable, ipAt e 4 ≠ ip.toNat) →
    (r = false → exec (.arpFrame n r ip mac t) s = .next s) ∧
    (r = true → n.val < 2 → t.toNat = ownIp n.val s → exec (.arpFrame n r ip mac t) s = .next (sendNet n.val 0x0806 (arpPacket 2 n.val mac ip.toNat s) s)) ∧
    (r = true → n.val < 2 → t.toNat ≠ ownIp n.val s → exec (.arpFrame n r ip mac t) s = .next s)) ∧
  (∀ (n : Fin 3) ip mac t s e, s.net.nodeTable.find? (fun e => n.val == nodeNet s && bit (fld8 e 2) 0 && ipAt e 4 == ip.toNat) = some e →
    exec (.arpFrame n false ip mac t) s = .next (nodeMod (fld16 e 0) (fun x => { x with mac := some mac }) s)) ∧
  (∀ (n : Fin 2) s, (n.val = pubNet s → n.val ≠ nodeNet s →
      exec (.igmpQuery n) s = .next (sendNet n.val 0x0800 ([0x16, 0, 0, 0] ++ ipBytes (pubGroup s)) s)) ∧
    (n.val ≠ pubNet s → n.val = nodeNet s →
      exec (.igmpQuery n) s = .next (sendNet n.val 0x0800 ([0x16, 0, 0, 0] ++ ipBytes (inputGroup s)) s)) ∧
    (n.val = pubNet s → n.val = nodeNet s → exec (.igmpQuery n) s = .next (sendNet n.val 0x0800 ([0x16, 0, 0, 0] ++ ipBytes (inputGroup s))
      (sendNet n.val 0x0800 ([0x16, 0, 0, 0] ++ ipBytes (pubGroup s)) s))) ∧
    (n.val ≠ pubNet s → n.val ≠ nodeNet s → exec (.igmpQuery n) s = .next s)) ∧
  (∀ (n : Fin 3) src body s, (n.val < 2 → exec (.icmpEchoRequest n src body) s = .next (sendNet n.val 0x0800 ([0, 0] ++ ipBytes src.toNat ++ body) s)) ∧
    (n = 2 → exec (.icmpEchoRequest n src body) s = .next (emit (.frame 4 0x0800 ([0, 0] ++ ipBytes src.toNat ++ body)) s))) ∧
  (∀ (p : Fin 2) f d s, (s.net.hsr = true → s.modes.mode ≠ .plinth → portUp (1 - p.val) s = true →
      exec (.hsrRingFrame p f false d) s = .next (emit (.frame (1 - p.val) 0x892F f) s) ∧
      exec (.hsrRingFrame p f true d) s = .next (emit (.frame (1 - p.val) 0x892F (f ++ be 8 d)) s)) ∧
    (s.net.hsr = false → exec (.hsrRingFrame p f true d) s = .next s)) ∧
  (∀ (p : Fin 4) up ok s l, l = (up && ok) → (portAt p.val s).phyReset = false → (portAt p.val s).role ≠ 0 → healthOf (0x24 + p.val) s ≠ 2 →
    ∃ u, exec (.linkChange p up ok) s = .next u ∧ (l = (portAt p.val s).link → u.recorder = s.recorder) ∧ (l = true → (portAt p.val s).link = true → u.out = s.out) ∧
      u = { s with net := u.net, recorder := u.recorder, out := u.out } ∧
      (portAt p.val u).link = l ∧ (portAt p.val u).speedOk = ok ∧ (portAt p.val u).linkLost = ((portAt p.val s).linkLost || ((portAt p.val s).link && !l))) ∧
  (∀ (p : Fin 4) src seq s, portUp p.val s = true → (∀ x ∈ s.net.dup, x.mac ≠ src) →
    exec (.supervisionFrame p src seq false) s = .next { s with net := { s.net with
      port := vmod s.net.port p.val (fun q => { q with lastSup := now s, supLost := false })
      supNodes := sourcePut 8192 { mac := src, seq := seq, last := now s } s.net.supNodes
      dup := sourcePut 8192 { mac := src, seq := seq, last := now s } s.net.dup } }) ∧
  (∀ (p : Fin 4) src seq s x, portUp p.val s = true → x ∈ s.net.dup → x.mac = src → x.seq = seq → now s < x.last + 400 * ms →
    ∃ u, exec (.supervisionFrame p src seq false) s = .next u ∧ u.net.dup = s.net.dup ∧ (portAt p.val u).lastSup = now s ∧
      (portAt p.val u).dup = BitVec.ofNat 16 (satInc 0xFFFF (portAt p.val s).dup.toNat)) ∧
  (∀ s, ∃ u, exec .supervisionSend s = .next u ∧ u = { s with net := { s.net with supSeq := s.net.supSeq + 1 }, out := u.out }) ∧
  (∀ (p : Fin 4) s, portUp p.val s = true → (portAt p.val s).supLost = false →
    ((portAt p.val s).lastSup + 6 * sec ≤ now s → ∃ u, exec (.supervisionLoss p) s = .next u ∧
      u = { portMod p.val (fun q => { q with supLost := true }) s with recorder := u.recorder }) ∧
    (now s < (portAt p.val s).lastSup + 6 * sec → exec (.supervisionLoss p) s = .next s)) ∧
  (∀ m s, ∃ u v, exec (.dupTableForget m false) s = .next u ∧ exec (.dupTableForget m true) s = .next v ∧
    u = { s with net := { s.net with dup := u.net.dup } } ∧ v = { s with net := { s.net with supNodes := v.net.supNodes } } ∧
    (∀ x, x ∈ u.net.dup ↔ x ∈ s.net.dup ∧ (x.mac = m → now s < x.last + 400 * ms)) ∧
    (∀ x, x ∈ v.net.supNodes ↔ x ∈ s.net.supNodes ∧ (x.mac = m → now s < x.last + 60 * sec))) ∧
  (∀ (p : Fin 4) w s, ∃ u, exec (.portFrameDiscard p w) s = .next u ∧ u = { s with net := u.net, recorder := u.recorder } ∧
    (portAt p.val u).rx = BitVec.ofNat 16 (satInc 0xFFFF (portAt p.val s).rx.toNat) ∧
    (portAt p.val u).fcsError = ((portAt p.val s).fcsError || w == .fcs) ∧ (portAt p.val u).rxOverflow = ((portAt p.val s).rxOverflow || w == .rate))

/-- A frame received on an enabled controller not in bus-off lowers the receive counter by one; a remote frame, or one no object takes, sets UNMATCHED; any other is stored in the first object that takes it. At the release of an object's lock a full shadow is read, an empty one frees the lock. A sent object counts and the controller goes on; one that lost waits again. A time master queues the reference message of its cycle. An open window with a pending frame starts it. A time master resumes 1 s after a foreign reference. Bus-off recovers after 100 ms, or 60 s at the third within 10 s, with both counters zero. A bus error adds 8 to the transmitter's counter, 1 to a receiver's, and the error state follows the counters. A disabled controller changes nothing. -/
def Obligations.CanControllersReceiveAndSend : Prop :=
  (∀ (c : Fin 8) f s x, x = canAt c.val s → x.enabled = true → x.st.toNat < 2 →
    ∀ v, v = canMod c.val (fun x => errorState { x with rec_ := errorLess x.rec_ }) s →
    (f.remote = true → exec (.canFrameReceived c f) s = .next (canMod c.val (fun x => { x with unmatched := true }) v)) ∧
    (f.remote = false → bit (fld8 x.rcd 1) 2 = false → x.obj.find? (fun p => objMatches f p.2.rcd) = none →
      exec (.canFrameReceived c f) s = .next (canMod c.val (fun x => { x with unmatched := true }) v)) ∧
    (∀ p, f.remote = false → bit (fld8 x.rcd 1) 2 = false → x.obj.find? (fun p => objMatches f p.2.rcd) = some p →
      exec (.canFrameReceived c f) s = .next (storeFrame c.val p.1 { data := f.data, fd := f.fd, stamp := now s, ident := f.ident } v))) ∧
  (∀ (c : Fin 8) s, (canAt c.val s).enabled = false → (∀ f, exec (.canFrameReceived c f) s = .next s) ∧ exec (.canReferenceTime c) s = .next s ∧
    exec (.canBusOff c) s = .next s ∧ ∀ e b, exec (.canBusError c e b) s = .next s) ∧
  (∀ (c : Fin 8) (m : Fin 128) s o, o = objAt (canAt c.val s) m.val →
    (o.locked = false → exec (.canLockRelease c m) s = .next s) ∧
    (o.locked = true → o.shadow = none → exec (.canLockRelease c m) s = .next (objMod c.val m.val (fun o => { o with locked := false }) s)) ∧
    (∀ b, o.locked = true → o.shadow = some b → exec (.canLockRelease c m) s = .next (readObject c.val m.val (objMod c.val m.val (fun o =>
      { o with locked := false, primary := some b, shadow := none, unread := true }) s)))) ∧
  (∀ (c : Fin 8) s, ((canAt c.val s).bus = .nothing → ∀ o, exec (.canTxComplete c o) s = .next s) ∧
    (∀ m v, (canAt c.val s).bus = .object m → v = objMod c.val m (fun o => { o with frames := o.frames + 1, fd := objFlag o.rcd 2 }) s →
      exec (.canTxComplete c .sent) s = .next (startNext c.val (canMod c.val (fun x => { x with bus := .nothing })
        (canMod c.val (fun x => errorState { x with tec := errorLess x.tec }) v)))) ∧
    (∀ m v, (canAt c.val s).bus = .object m → v = objMod c.val m (fun o => { o with pending := true }) s →
      exec (.canTxComplete c .error) s = .next (startNext c.val (canMod c.val (fun x => { x with bus := .nothing }) v)) ∧
      exec (.canTxComplete c .lostArbitration) s = .next (startNext c.val (canMod c.val (fun x => { x with bus := .nothing }) v)))) ∧
  (∀ (c : Fin 8) s x, x = canAt c.val s → x.enabled = true → x.monitor = false → bit (fld8 x.rcd 1) 2 = true → x.nextRef ≤ now s →
    ∃ u, exec (.canReferenceTime c) s = .next u ∧ (canAt c.val u).lastRef = x.nextRef ∧ (canAt c.val u).nextRef = x.nextRef + fld32 x.rcd 16 * us) ∧
  (∀ (c : Fin 8) s, now s < (canAt c.val s).nextRef → exec (.canReferenceTime c) s = .next s) ∧
  (∀ (c : Fin 8) (m : Fin 128) s x o, x = canAt c.val s → o = objAt x m.val → objSends o.rcd = true → objFlag o.rcd 4 = true → x.refActive = true →
    x.lastRef + fld32 o.rcd 16 * us ≤ now s →
    (now s < windowEnd x o.rcd → o.pending = true →
      exec (.canWindowStart c m) s = .next (startNext c.val (objMod c.val m.val (fun o => { o with windowOpen := true }) s))) ∧
    (o.pending = false → exec (.canWindowStart c m) s = .next s)) ∧
  (∀ (c : Fin 8) s t, (canAt c.val s).foreign = some t → (canAt c.val s).monitor = false →
    (t + sec ≤ now s → ∃ u, exec (.canMasterResume c) s = .next u ∧
      u = { canMod c.val (fun x => { x with foreign := none, refActive := true }) s with recorder := u.recorder }) ∧
    (now s < t + sec → exec (.canMasterResume c) s = .next s)) ∧
  (∀ (c : Fin 8) s x n, x = canAt c.val s → x.enabled = true → x.st.toNat < 2 → n = (x.busoffs.filter fun t => decide (now s < t + 10 * sec)).length →
    ∃ u, exec (.canBusOff c) s = .next u ∧ (canAt c.val u).st = 2 ∧ (canAt c.val u).busoffSeen = true ∧ (canAt c.val u).bus = .nothing ∧
      (canAt c.val u).recoverAt = some (now s + if 2 ≤ n then 60 * sec else 100 * ms)) ∧
  (∀ (c : Fin 8) s t, (canAt c.val s).recoverAt = some t →
    (t ≤ now s → exec (.canBusoffRecovery c) s = .next (startNext c.val (canMod c.val (fun x => { x with st := 0, tec := 0, rec_ := 0, recoverAt := none }) s))) ∧
    (now s < t → exec (.canBusoffRecovery c) s = .next s)) ∧
  (∀ (c e : Fin 8) s, (canAt c.val s).enabled = true → (canAt c.val s).st.toNat < 2 →
    exec (.canBusError c e true) s = .next (canMod c.val (fun x => errorState { x with
      lastError := BitVec.ofNat 3 e.val, tec := BitVec.ofNat 8 (min 255 (x.tec.toNat + 8)) }) s) ∧
    exec (.canBusError c e false) s = .next (canMod c.val (fun x => errorState { x with
      lastError := BitVec.ofNat 3 e.val, rec_ := BitVec.ofNat 8 (satInc 255 x.rec_.toNat) }) s))

/-- A conversion that falls on the channel's sampling grid (log 180) is, of a running channel, its sample as input or output, the headroom of a current output computed from V_AB and V_OS; while it settles after a reconfiguration two conversions are counted before the first valid one; a conversion off the grid is none. A cold-junction sample is held with its fault outside -50 C to +120 C, recorded when it sets. On a running current output that is verified: an open circuit at 1 mA or more sets OPEN_CIRCUIT and clears COMPLIANCE_LOW, its recovery clears it; a test pulse starts once per second and its end judges it; COMPLIANCE_LOW sets at 0.5 mA or more without OPEN_CIRCUIT. A voltage output takes SHORT_CIRCUIT. The loop supply limit marks a powered input; a regulation fault fails the channel, and the loops with that output in AUTO or MANUAL enter FALLBACK. A reconfiguration moves its two steps. Each change of a diagnostic is followed by the safety functions whose outputs it makes faulty. -/
def Obligations.UniversalChannelsConvertAndDiagnose : Prop :=
  (∀ (ch : Fin 16) x a l c s,
    (ucAligned s.uc[ch] (now s) = true → s.uc[ch].st = .running → ucOutputMode (ucMode s.uc[ch]) = false →
      exec (.conversionComplete ch x a l c) s = .next (reacting (fun t => ucInputSample ch.val x a l c (ucMod ch.val (fun u => { u with convAt := now s }) t)) s)) ∧
    (ucAligned s.uc[ch] (now s) = true → s.uc[ch].st = .running → ucOutputMode (ucMode s.uc[ch]) = true →
      exec (.conversionComplete ch x a l c) s = .next (reacting (fun t => ucOutputSample ch.val x (ucHeadroom (ucMode s.uc[ch]) x a l)
        (ucMod ch.val (fun u => { u with convAt := now s }) t)) s)) ∧
    (ucAligned s.uc[ch] (now s) = true → s.uc[ch].st = .configuring → 3 ≤ s.uc[ch].step → s.uc[ch].settle < 2 →
      exec (.conversionComplete ch x a l c) s = .next (reacting (ucMod ch.val (fun u => { u with settle := u.settle + 1, convAt := now s })) s)) ∧
    (ucAligned s.uc[ch] (now s) = false → exec (.conversionComplete ch x a l c) s = .next (reacting (fun t => t) s))) ∧
  (∀ (n : Fin 2) t s, ∃ u, exec (.cjSample n t) s = .next u ∧ u = { s with cj := u.cj, recorder := u.recorder } ∧ u.cj[n].temp = t ∧
    u.cj[n].fault = (flt t (fnum (-50)) || flt (fnum 120) t || fnan t) ∧ (s.cj[n].fault = true → u.recorder = s.recorder)) ∧
  (∀ (ch : Fin 16) s, s.uc[ch].st = .running → ucCurrentMode (ucMode s.uc[ch]) = true → verifying s = true →
    (flt s.uc[ch].output (fnum 1) = false → exec (.ucOpenCircuitDetect ch false) s = .next (reacting (ucSetDiag ch.val (fun u => { u with open_ := true, compLow := false })) s)) ∧
    exec (.ucOpenCircuitDetect ch true) s = .next (reacting (ucSetDiag ch.val (fun u => { u with open_ := false })) s) ∧
    (s.uc[ch].open_ = false → flt s.uc[ch].raw (frac 5 10) = false →
      exec (.ucComplianceLowDetect ch false) s = .next (reacting (ucSetDiag ch.val (fun u => ucApply { u with compLow := true })) s)) ∧
    exec (.ucComplianceLowDetect ch true) s = .next (reacting (ucSetDiag ch.val (fun u => ucApply { u with compLow := false })) s) ∧
    (bit (fld8 s.uc[ch].rcd 3) 0 = true → flt s.uc[ch].output (fnum 1) = true → s.uc[ch].pulse = false → s.uc[ch].nextPulse ≤ now s →
      exec (.testPulse ch) s = .next (ucMod ch.val (fun u => { u with pulse := true, nextPulse := now s + sec }) s))) ∧
  (∀ (ch : Fin 16) x s, s.uc[ch].pulse = true → exec (.testPulseEnd ch x) s = .next (reacting (ucSetDiag ch.val (pulseJudged x)) s)) ∧
  (∀ (ch : Fin 16) s, s.uc[ch].pulse = true → exec (.testPulse ch) s = .next s) ∧
  (∀ (ch : Fin 16) b s, s.uc[ch].st = .running → ucMode s.uc[ch] = 7 → verifying s = true →
    exec (.ucShortCircuitDetect ch b) s = .next (reacting (ucSetDiag ch.val (fun u => ucApply { u with shorted := !b })) s)) ∧
  (∀ (ch : Fin 16) s, s.uc[ch].st = .running → ucMode s.uc[ch] = 4 →
    exec (.ucLoopSupplyLimit ch) s = .next (ucSetDiag ch.val (fun u => { u with supply := true, shorted := true, status := mkStatus 0 0x09 }) s)) ∧
  (∀ (ch : Fin 16) s, ucMode s.uc[ch] ≠ 4 → exec (.ucLoopSupplyLimit ch) s = .next s) ∧
  (∀ (ch : Fin 16) s, s.uc[ch].st ≠ .disabled → s.uc[ch].st ≠ .failed → ∃ t, t = setHealth (0x10 + ch.val) 2 2 (ucMod ch.val (fun u =>
      { ucOff u with st := .failed, status := mkStatus 0 0x0F, step := 0, settle := 0 }) s) ∧
    exec (.converterRegulationFault ch) s = .next (loopsOutFailed ch.val (reacting (fun _ => ucEmit ch.val (record sevAlarm 0x060F (srcUnit (0x10 + ch.val)) [] t)) s))) ∧
  (∀ (ch : Fin 16) s, s.uc[ch].st = .configuring → s.uc[ch].step = 1 ∨ s.uc[ch].step = 2 → ∃ u, exec (.channelReconfigStep ch) s = .next u ∧
    u = { s with uc := u.uc } ∧ u.uc[ch] = { s.uc[ch] with step := s.uc[ch].step + 1, settle := 0, filter := none } ∧ ∀ k : Fin 16, k ≠ ch → u.uc[k] = s.uc[k])

/-- A level change of a channel that does not run is on its pin only; of one that runs with debounce, the sample and the time of the departure are held, the accepted state is not touched. A departure that stayed for DEBOUNCE_US is accepted with the time of the departure. A group without a transition for 1 ms sends its state word, its buffered entries go to the recorder, also at an alignment. Chatter clears after 10 s. A mismatch, a short circuit (off, retried after 1 s, locked at the third), an overload above 4 A (the largest output off), an open load set their diagnostics and clear on recovery; a retry drives the command again. FS_LOW is held with the voltage. A converter fault fails the group; a reconfiguration clears the counter at its first step. -/
def Obligations.DigitalChannelsSampleDriveAndDiagnose : Prop :=
  (∀ (ch : Fin 48) b s, (s.dig[ch].st ≠ .running → exec (.digitalInputChange ch b) s = .next (digMod ch.val (fun d => { d with pin := b }) s)) ∧
    (s.dig[ch].st = .running → 1 ≤ fld16 s.dig[ch].rcd 4 → ∃ u, exec (.digitalInputChange ch b) s = .next u ∧ u = { s with dig := u.dig } ∧
      u.dig[ch].pin = b ∧ u.dig[ch].prev = sampled { s.dig[ch] with pin := b } b ∧ u.dig[ch].acc = s.dig[ch].acc ∧ ∀ k : Fin 48, k ≠ ch → u.dig[k] = s.dig[k])) ∧
  (∀ (ch : Fin 48) s d, d = s.dig[ch] → d.st = .running → d.prev ≠ d.acc → d.last + fld16 d.rcd 4 * us ≤ groupTime (groupOf ch.val) s →
    ∃ u, exec (.digitalTransitionAccepted ch) s = .next u ∧ u.dig[ch].acc = d.prev ∧ u.dig[ch].first = none ∧
      (d.fresh = false → u.dig[ch].tcount = d.tcount + 1 ∧ u.dig[ch].stamp = d.first.getD (groupTime (groupOf ch.val) s))) ∧
  (∀ (ch : Fin 48) s, s.dig[ch].st ≠ .running → exec (.digitalTransitionAccepted ch) s = .next s) ∧
  (∀ (g : Fin 4) s, s.group[g].sent + ms ≤ now s → s.group[g].failed = false →
    exec (.stateWordSend g) s = .next (sendStateWord g.val (drainSoe g.val s))) ∧
  (∀ (g : Fin 4) s, now s < s.group[g].sent + ms → exec (.stateWordSend g) s = .next s) ∧
  (∀ (g : Fin 4) s, s.group[g].skew = 0 → exec (.digitalAlignment g) s = .next (drainSoe g.val (groupMod g.val (fun x => { x with skew := 0 }) s))) ∧
  (∀ (g : Fin 4) s, s.group[g].skew ≠ 0 → exec (.digitalAlignment g) s =
    .next (drainSoe g.val (groupMod g.val (fun x => { x with skew := 0 }) (alignTimes g.val (-s.group[g].skew) s)))) ∧
  (∀ (ch : Fin 48) s, s.dig[ch].chatter = true → s.dig[ch].busyAt + 10 * sec ≤ groupTime (groupOf ch.val) s →
    exec (.chatterClear ch) s = .next (digSetDiag ch.val (fun d => { d with chatter := false }) s)) ∧
  (∀ (ch : Fin 48) s, s.dig[ch].chatter = false → exec (.chatterClear ch) s = .next s) ∧
  (∀ (ch : Fin 48) s d, d = s.dig[ch] → comparing ch.val s = true → d.prev ≠ d.command → d.shorted = false → digFlag d 2 = false →
    exec (.outputMismatchDetect ch false) s = .next (reacting (digSetDiag ch.val (fun d => { d with mismatch := true })) s)) ∧
  (∀ (ch : Fin 48) s, s.dig[ch].prev = s.dig[ch].command →
    exec (.outputMismatchDetect ch true) s = .next (reacting (digSetDiag ch.val (fun d => { d with mismatch := false })) s)) ∧
  (∀ (ch : Fin 48) s d n, d = s.dig[ch] → digOutput d = true → d.st = .running → d.switch = true → n = (if d.shorted then d.retries + 1 else 0) →
    ∃ v, v = digSetDiag ch.val (fun d => { d with switch := false, shorted := true, mismatch := false, retries := n, locked := decide (3 ≤ n), retryAt := if 3 ≤ n then none else some (now s + sec) }) s ∧
      exec (.switchShortCircuit ch false) s = .next (reacting (fun _ => v) s) ∧
      exec (.switchShortCircuit ch true) s = .next (reacting (digSetDiag ch.val (fun d => { d with shorted := false, retries := 0, retryAt := none })) s)) ∧
  (∀ (ch : Fin 48) s t, s.dig[ch].retryAt = some t → t ≤ now s → s.dig[ch].locked = false →
    exec (.switchRetry ch) s = .next (digMod ch.val (fun d => { d with retryAt := none, switch := d.command }) s)) ∧
  (∀ (ch : Fin 48) s, s.dig[ch].retryAt = none → exec (.switchRetry ch) s = .next s) ∧
  (∀ (g : Fin 4) (k : Fin 12) n s b t, t = groupMod g.val (fun x => { x with current := BitVec.ofNat 16 (min n 0xFFFF), shedding := b }) s →
    (n ≤ 4000 ∨ n ≤ 4400 ∧ s.group[g].shedding = false → b = false → exec (.groupOverloadShed g k n) s = .next (reacting (fun _ => t) s)) ∧
    (4400 < n ∨ 4000 < n ∧ s.group[g].shedding = true → b = true → digOutput (digAt (12 * g.val + k.val) s) = true →
      exec (.groupOverloadShed g k n) s = .next (reacting (fun _ =>
        groupMod g.val (fun x => { x with overload := true }) (digSetDiag (12 * g.val + k.val) (fun d => { d with switch := false, overload := true, retryAt := none }) t)) s))) ∧
  (∀ (ch : Fin 48) s, digOutput s.dig[ch] = true → digFlag s.dig[ch] 3 = true →
    exec (.openLoadDetect ch true) s = .next (reacting (digSetDiag ch.val (fun d => { d with open_ := false })) s) ∧
    (comparing ch.val s = true → s.dig[ch].command = false →
      exec (.openLoadDetect ch false) s = .next (reacting (digSetDiag ch.val (fun d => { d with open_ := true, mismatch := false })) s))) ∧
  (∀ (g : Fin 4) b v s, ∃ u, exec (.fsLowDetect g b v) s = .next u ∧ u.group[g].fsVoltage = v ∧ u.group[g].fsLow = !b ∧
    u.group[g].fsUnder = (s.group[g].fsUnder || !b)) ∧
  (∀ (g : Fin 4) s, exec (.groupConverterFault g) s = .next (reacting (groupFail g.val 2) s)) ∧
  (∀ (ch : Fin 48) s, s.dig[ch].st ≠ .configuring → exec (.digitalReconfigStep ch) s = .next s) ∧
  (∀ (ch : Fin 48) s, s.dig[ch].st = .configuring → s.dig[ch].step = 1 →
    exec (.digitalReconfigStep ch) s = .next { digMod ch.val (fun d => { d with step := 2 }) s with counter := vmod s.counter ch.val (fun _ => counterReset) }) ∧
  (∀ (ch : Fin 48) s, s.dig[ch].st = .configuring → s.dig[ch].step = 2 → 1 ≤ fld16 s.dig[ch].rcd 4 →
    exec (.digitalReconfigStep ch) s = .next (digMod ch.val (samplingRestarts (now s) (groupTime (groupOf ch.val) s)) s))

/-- On a running counter an edge counts up, or down where quadrature says so; on an encoder the angle moves one step and the counts since the index follow; the time and the direction of the last edge are held. The index sets the angle to 0, the revolution count to 0 where a reference edge armed it and one on otherwise. A period edge holds the time, the period and one more pulse. Without an edge for TIMEOUT_MS the rate is delivered as 0. A channel whose function does not run changes nothing. -/
def Obligations.CountersCount : Prop :=
  (∀ (ch : Fin 4) s d dn, d = digAt ch.val s → counting ch.val s = true → digFunction d = 1 → ∃ u, exec (.countEdge ch dn false false) s = .next u ∧
    u = { s with counter := u.counter } ∧ u.counter[ch].lastEdge = now s ∧ u.counter[ch].down = (digFlag d 4 && dn) ∧
    u.counter[ch].count = (BitVec.ofInt 64 (if digFlag d 4 && dn then s.counter[ch].count - 1 else s.counter[ch].count + 1)).toInt ∧
    ∀ k : Fin 4, k ≠ ch → u.counter[k] = s.counter[k]) ∧
  (∀ (ch : Fin 4) s d dn, d = digAt ch.val s → counting ch.val s = true → digFunction d = 2 → ∃ u, exec (.countEdge ch dn false false) s = .next u ∧
    u = { s with counter := u.counter } ∧ u.counter[ch].lastEdge = now s ∧ u.counter[ch].c = stepAngle s.counter[ch].c (fld32 d.rcd 16) (digFlag d 4 && dn) ∧
    u.counter[ch].since = if digFlag d 4 && dn then s.counter[ch].since - 1 else s.counter[ch].since + 1) ∧
  (∀ (ch : Fin 4) s dn, counting ch.val s = true → digFunction (digAt ch.val s) = 1 → ∃ u v,
    exec (.countEdge ch dn false true) s = .next u ∧ exec (.countEdge ch dn false false) (digSetDiag ch.val (fun d => { d with encFault := true }) s) = .next v ∧
      u.counter = v.counter ∧ (digAt ch.val u).encFault = true) ∧
  (∀ (ch : Fin 4) s a b c, counting ch.val s = false → exec (.countEdge ch a b c) s = .next s ∧ exec (.encoderIndex ch) s = .next s ∧
    exec (.encoderRefEdge ch) s = .next s ∧ exec (.periodEdge ch) s = .next s ∧ exec (.countTimeout ch) s = .next s) ∧
  (∀ (ch : Fin 4) s, counting ch.val s = true → digFunction (digAt ch.val s) = 2 →
    exec (.encoderRefEdge ch) s = .next (counterMod ch.val (fun c => { c with armed := true }) s) ∧
    ∃ u, exec (.encoderIndex ch) s = .next u ∧ u.counter[ch] = { s.counter[ch] with
      c := 0, since := 0, indexed := true, armed := false, lastEdge := now s, n := if s.counter[ch].armed then 0 else if s.counter[ch].down then s.counter[ch].n - 1 else s.counter[ch].n + 1 }) ∧
  (∀ (ch : Fin 4) s, counting ch.val s = true → digFunction (digAt ch.val s) = 3 → ∃ u, exec (.periodEdge ch) s = .next u ∧
    u.counter[ch].tp = now s ∧ u.counter[ch].period = now s - s.counter[ch].tp ∧ u.counter[ch].n = s.counter[ch].n + 1 ∧ u.counter[ch].lastEdge = now s) ∧
  (∀ (ch : Fin 4) s d, d = digAt ch.val s → counting ch.val s = true → s.counter[ch].lastEdge + fld32 d.rcd 24 * ms ≤ now s →
    exec (.countTimeout ch) s = .next (counterMod ch.val (fun c => { c with edges := [] })
      (deliverOwn (fldW d.rcd 12) 0 (digStatus d (groupAt 0 s).fsLow) (digSource ch.val) s)))

/-- On the module that drives, a configured loop whose tick has come, with no sample pending, begins a sample with that tick, nothing got and nothing agreed, or has none where the loop is OFF; its next tick lies later. A standby applies what falls due at the tick and computes no sample. A first copy of two or more voters is held; one equal to a copy held agrees the sample (followTasks after it), and a copy equal to the agreed one changes only what was got. A lane that does not vote, or delivered, changes nothing. At the deadline a sample agreed by all is ended, one with fewer than two copies is missed and counted. A checkpoint waits for the retained queue, and goes to the copy that is not the newest, with the next update number. A standby takes a loop's entry; any other module does not. -/
def Obligations.LoopSamplesRunThroughTheirCopies : Prop :=
  (∀ (n : Fin 256) s x, x = loopAt n.val s → tabWf loopReset s.loop.loops = true → loopsRun s = true → x.rcd ≠ [] → x.next ≤ now s → x.sample = none →
    ∃ u, exec (.loopSampleTick n) s = .next u ∧ x.next < (loopAt n.val u).next ∧
      (((loopAt n.val u).mode = .off ∧ (loopAt n.val u).sample = none) ∨ ∃ w, (loopAt n.val u).sample = some { tick := x.next, work := w, got := [], agreed := none })) ∧
  (∀ (n : Fin 256) s x, x = loopAt n.val s → s.modes.mode = .standby → x.rcd ≠ [] → x.next ≤ now s → x.sample = none →
    exec (.loopSampleTick n) s = .next (loopAdvance n.val x.next (loopDue n.val x.next s).1)) ∧
  (∀ (n : Fin 256) s, (loopsRun s = false ∧ s.modes.mode ≠ .standby) ∨ (loopAt n.val s).rcd = [] ∨ now s < (loopAt n.val s).next →
    exec (.loopSampleTick n) s = .next s) ∧
  (∀ (n : Fin 256) l v w g s p t, g = loopSignature w s → (loopAt n.val s).sample = some p → (loopVoters p.tick s).contains l = true → (∀ x ∈ p.got, x.1 ≠ l) →
    t = loopMod n.val (fun x => { x with sample := some { p with got := p.got ++ [(l, v, g)] } }) s →
    (p.agreed = none → 2 ≤ (loopVoters p.tick s).length → p.got = [] → exec (.loopCopyDelivery n l v w) s = .next t) ∧
    (∀ k, p.agreed = none → p.got = [(k, v, g)] → exec (.loopCopyDelivery n l v w) s = .next (followTasks s (loopAgreed n.val v g t))) ∧
    (p.agreed = some (v, g) → exec (.loopCopyDelivery n l v w) s = .next t)) ∧
  (∀ (n : Fin 256) l v w s, (∀ p, (loopAt n.val s).sample = some p → (loopVoters p.tick s).contains l = false) → exec (.loopCopyDelivery n l v w) s = .next s) ∧
  (∀ (n : Fin 256) s p, (loopAt n.val s).sample = some p →
    (now s < p.tick + loopDelta (loopAt n.val s).rcd → exec (.loopSampleDeadline n) s = .next s) ∧
    (p.tick + loopDelta (loopAt n.val s).rcd ≤ now s → p.agreed.isSome = true → (∀ l ∈ loopVoters p.tick s, p.got.any (fun g => g.1 == l) = true) →
      exec (.loopSampleDeadline n) s = .next (followTasks s (loopMod n.val (fun x => { x with sample := none }) s))) ∧
    (p.tick + loopDelta (loopAt n.val s).rcd ≤ now s → p.agreed = none → p.got.length < 2 → exec (.loopSampleDeadline n) s = .next (loopMissed n.val s) ∧
      (s.loop.missed ≠ 0xFFFFFFFF → (loopMissed n.val s).loop.missed = s.loop.missed + 1))) ∧
  (∀ s k, k = (checkNewest s).elim 0 (·.update) + 1 →
    (s.retained.queue = [] → s.loop.dirty = true ∨ s.loop.lastCheck + 10 * sec ≤ now s → exec .loopCheckpointWrite s = .next { s with loop := { s.loop with
      lastCheck := now s, dirty := false
      check := vset s.loop.check (k % 2) { update := k, valid := true, loops := s.loop.loops.map fun p => (p.1, loopSave p.2), pool := s.loop.pool } } }) ∧
    (s.loop.dirty = false → now s < s.loop.lastCheck + 10 * sec → exec .loopCheckpointWrite s = .next s) ∧
    (s.retained.queue ≠ [] → exec .loopCheckpointWrite s = .next s)) ∧
  (∀ s e m, s.modes.mode = .standby → tabWf loopReset s.loop.loops = true → e.length = 72 → fld16 e 0 < 256 → loopModeOf (fld8 e 2) = some m →
    ∃ u, exec (.loopStateEntryReceived e) s = .next u ∧ u = { s with loop := u.loop } ∧ (loopAt (fld16 e 0) u).mode = m ∧
      (loopAt (fld16 e 0) u).samples = fld64 e 8 ∧ (loopAt (fld16 e 0) u).work.u = fldL e 16 ∧ (loopAt (fld16 e 0) u).work.i = fldL e 24) ∧
  (∀ s e, s.modes.mode ≠ .standby → exec (.loopStateEntryReceived e) s = .next s)

/-- A function DEGRADED for its time goes to its safe state with cause 7. The password lockout ends with its failures forgotten; a user's login lock ends 15 min after the fifth failure, other users' locks stay. Outside an exchange the retained commit that is being written closes: its record, with the next number and its CLOSE, goes to the ring of the number's parity, and the next commit is taken up (startWriting); a row for a task whose commit is not being written changes nothing. The retention lag sets above 100 ms and clears once it has stayed below 10 ms for 10 s. A preparation caught up outside a pair in step is READY, with a cast point at the whole microsecond from 20 ms on where none was asked for; in a pair in step it waits for the standby, whose acknowledgement is held; 2 ms before the cast point an exchange not READY, or not acknowledged in a pair, is abandoned; at the cast point it is cast. -/
def Obligations.LockoutsEndAndCommitsClose : Prop :=
  (∀ (f : Fin 256) s t, (funcAt f.val s).timer = some t →
    ((funcAt f.val s).st = .degraded → t + degradedNs (funcRec f.val s) ≤ now s → exec (.degradedTimeExpiry f) s = .next (forceSafe 0x07 s f.val)) ∧
    ((funcAt f.val s).st ≠ .degraded ∨ now s < t + degradedNs (funcRec f.val s) → exec (.degradedTimeExpiry f) s = .next s)) ∧
  (∀ s t, s.safety.lockout = some t →
    (t ≤ now s → exec .passwordLockoutEnd s = .next { s with safety := { s.safety with lockout := none, failures := [] } }) ∧
    (now s < t → exec .passwordLockoutEnd s = .next s)) ∧
  (∀ user s, ∃ u, exec (.loginLockoutEnd user) s = .next u ∧ u = { s with modes := { s.modes with loginLocks := u.modes.loginLocks } } ∧
    ∀ p, p ∈ u.modes.loginLocks ↔ p ∈ s.modes.loginLocks ∧ (p.1 = user → now s < p.2)) ∧
  (∀ (t : Fin 32) s c, s.retained.writing = some c → c.task = t.val → s.prog.st = .idle → ∃ u r, exec (.retainedCommitClosed t) s = .next (startWriting u) ∧
    u = { s with retained := u.retained } ∧ u.retained.rings = vmod s.retained.rings (r.seq % 2) (fun rs => ringKeep ringSize (r :: rs)) ∧ r.task = t.val ∧
    r.seq = s.retained.nextSeq ∧ r.cycle = c.cycle ∧ r.close = 0xFFFFFFFFFFFFFFFF - r.seq ∧ r.pages.map (·.1) = c.pages.map (·.1) ∧
    u.retained.nextSeq = s.retained.nextSeq + 1 ∧ u.retained.writing = none ∧ u.retained.queue = s.retained.queue) ∧
  (∀ (t : Fin 32) s, (∀ c, s.retained.writing = some c → c.task ≠ t.val) → exec (.retainedCommitClosed t) s = .next s) ∧
  (∀ s, (s.retained.lagging = false → 100 * ms < retentionLag s → ∃ u, exec .retentionLagWarning s = .next u ∧
      u = { s with retained := { s.retained with lagging := true }, recorder := u.recorder }) ∧
    (s.retained.lagging = true → retentionLag s < 10 * ms → s.retained.lastHigh + 10 * sec ≤ now s → exec .retentionLagWarning s = .next { s with retained := { s.retained with lagging := false } })) ∧
  (∀ s v, s.prog.st = .preparing → s.prog.caught = false → s.modes.mode ≠ .standby → v = { fillArea s with prog := { (fillArea s).prog with caught := true } } →
    (pairInStep s = false → s.prog.castAt ≠ 0 → exec .preparationCaughtUp s = .next { v with prog := { v.prog with st := .ready } }) ∧
    (pairInStep s = false → s.prog.castAt = 0 → sendsToStandby s = false → exec .preparationCaughtUp s = .next { v with prog := { v.prog with
      st := .ready, cast := ceilUs (now s + 20 * ms), acked := false } }) ∧
    (pairInStep s = true → s.prog.acked = false → exec .preparationCaughtUp s = .next v)) ∧
  (∀ s, s.prog.st ≠ .preparing ∨ s.prog.caught = true → exec .preparationCaughtUp s = .next s) ∧
  (∀ s, pairInStep s = true → s.prog.st = .ready ∨ (s.prog.st = .preparing ∧ s.prog.caught = false) →
    exec .standbyReadyAck s = .next { s with prog := { s.prog with acked := true } }) ∧
  (∀ s, pairInStep s = false → exec .standbyReadyAck s = .next s) ∧
  (∀ s, s.prog.cast = 0 → exec .castAbandonDeadline s = .next s ∧ exec .castPoint s = .next s) ∧
  (∀ s, s.prog.cast ≠ 0 →
    (s.prog.cast ≤ now s + 2 * ms → s.prog.st = .preparing → exec .castAbandonDeadline s = .next (abandonExchange s) ∧ (abandonExchange s).prog.st = .idle) ∧
    (s.prog.cast ≤ now s + 2 * ms → s.prog.st = .ready → s.prog.acked = true → exec .castAbandonDeadline s = .next s) ∧
    (s.prog.cast ≤ now s → s.prog.st = .ready → s.prog.acked = true ∨ pairInStep s = false → exec .castPoint s = .next (castNow s)) ∧
    (s.prog.cast ≤ now s → s.prog.st = .ready → s.prog.acked = false → pairInStep s = true → exec .castPoint s = .next (abandonExchange s)))

/-- With main power the tick at which TIME_NS wraps moves TIME_WRAPS by one and the accumulator by TIME_INC, without a step due. A read of TIME_NS answers its word and latches TIME_WRAPS. A write of TIME_INC takes the clamped value. A written step that is in range, in a session whose step is not used, begins; in a session whose step is used, or out of range, it does not; a new session restarts the session. A temporary rate ends at its time and the rate before it is the host's rate again, in the increment where the host steers. At its time the pair's step changes module time by exactly the step, and time is valid and stepped. -/
def Obligations.ModuleTimeTicksStepsAndIsRead : Prop :=
  (∀ s, mainPower s = true → 2 ^ 56 ≤ s.time.acc.toNat + s.time.inc.toNat → s.time.stepDue = none → ∃ u, exec .timeWrap s = .next u ∧
    u.time.wraps = s.time.wraps + 1 ∧ u.time.acc = BitVec.ofNat 56 (s.time.acc.toNat + s.time.inc.toNat)) ∧
  (∀ s, mainPower s = false ∨ s.time.acc.toNat + s.time.inc.toNat < 2 ^ 56 → exec .timeWrap s = .next s) ∧
  (∀ s, exec .timeNsRead s = .next { s with time := { s.time with wrapsSnap := s.time.wraps }, host := { s.host with
    readValue := BitVec.ofNat 32 (s.time.acc.toNat / 2 ^ 24) } }) ∧
  (∀ v s, exec (.timeIncWrite v) s = .next { s with time := { s.time with inc := BitVec.ofInt 32 (clampInc v.toNat) } }) ∧
  (∀ b s t, t = { s with time := { s.time with ppsOutEn := b } } →
    (s.time.stepUsed = true ∨ stepInRange s.time.adj.toInt s = false ∨ s.time.adj = 0 → exec (.timeCtrlStep b) s = .next t) ∧
    (s.time.stepUsed = false → stepInRange s.time.adj.toInt s = true → s.time.adj ≠ 0 → exec (.timeCtrlStep b) s = .next (beginStep s.time.adj.toInt t)) ∧
    exec (.timeCtrlNewSession false b) s = .next (restartSession t) ∧
    (stepInRange s.time.adj.toInt s = true → s.time.adj ≠ 0 → exec (.timeCtrlNewSession true b) s = .next (beginStep s.time.adj.toInt (restartSession t))) ∧
    (stepInRange s.time.adj.toInt s = false → exec (.timeCtrlNewSession true b) s = .next t)) ∧
  (∀ s, s.time.tempRate = true → s.time.tempEnd ≤ now s → exec .tempRateExpiry s = .next { s with time := { s.time with
    tempRate := false, hostRate := s.time.priorRate
    inc := if s.time.source = 2 then BitVec.ofInt 32 (clampInc (incRat s.time.priorRate)) else s.time.inc } }) ∧
  (∀ s, s.time.tempRate = false ∨ now s < s.time.tempEnd → exec .tempRateExpiry s = .next s) ∧
  (∀ s d t, s.time.pairStep = some (d, t) →
    (now s < t → exec .pairTimeStep s = .next s) ∧
    (t ≤ now s → 0 ≤ (now s : Int) + d → (now s : Int) + d < 2 ^ 64 → ∃ u, exec .pairTimeStep s = .next u ∧ (now u : Int) = now s + d ∧
      u.time.valid = true ∧ u.time.stepped = true ∧ u.time.pairStep = none)) ∧
  (∀ s, s.time.pairStep = none → exec .pairTimeStep s = .next s)

/-- An announcement of the configured domain on a port that is up is held as the port's master, unless the port hears a better one. A Sync of a master opens an exchange and sends a Delay_Req; its Follow_Up of the same number gives the origin; the Delay_Resp ends the exchange with a path delay: a delay more than 1 us above the median of the last eight is counted and not used, one of the selected port is measured. A source in LOCKING or LOCKED without a measurement for three intervals is lost. An edge of the pulse is captured, and measured when it follows the last by 1 s within 1 ms; one that comes too early does not count as the last; three missing ones end it. The reference gives the rate while time is acquired. The output pulse rises at a whole second for 100 ms. The Plinth is compared an hour after the last comparison, and reloaded where it differs by more than two ticks. A standby follows the drawbar's time and enters HOLDOVER at the rate of its integral term when it stops. -/
def Obligations.TimeSourcesMeasureAndAreLost : Prop :=
  (∀ (p : Fin 4) d s, portUp p.val s = true → d.domain = ptpDomain s → -4 ≤ d.logSyncInterval → d.logSyncInterval ≤ 0 →
    ∃ u, exec (.ptpAnnounce p d) s = .next u ∧ u = { s with time := u.time } ∧ (tabGet none s.time.masters p.val = none ∨ (∃ o, tabGet none s.time.masters p.val = some o ∧ (o.master = d.master ∨ datasetBetter o d = false)) →
      u.time.masters = tabSet none s.time.masters p.val (some d)) ∧
    (∀ o, tabGet none s.time.masters p.val = some o → o.master ≠ d.master → datasetBetter o d = true → u.time.masters = tabSet none s.time.masters p.val (some o))) ∧
  (∀ (p : Fin 4) s, portUp p.val s = false → (∀ d, exec (.ptpAnnounce p d) s = .next s) ∧ ∀ a b c d e, exec (.ptpSync p a b c d e) s = .next s) ∧
  (∀ (p : Fin 4) n two o c rx s, portUp p.val s = true → (tabGet none s.time.masters p.val).isSome = true →
    ∃ e, e = PtpExchange.mk n (extend rx (now s) - (portLatency p.val true s : Int) - c) (if two then none else some o) ∧
      exec (.ptpSync p n two o c rx) s = .next (emit (.frame p.val 0x88F7 (be 2 n.toNat)) { s with time := { s.time with
        exchange := tabSet none s.time.exchange p.val (some e) } })) ∧
  (∀ (p : Fin 4) n o c s e, tabGet none s.time.exchange p.val = some e →
    (e.seq = n → e.origin = none → exec (.ptpFollowUp p n o c) s = .next { s with time := { s.time with
      exchange := tabSet none s.time.exchange p.val (some { e with origin := some (o + c) }) } }) ∧
    (e.seq ≠ n → exec (.ptpFollowUp p n o c) s = .next s)) ∧
  (∀ (p : Fin 4) tx (r : Nat) (c : Int) s e t1 a b old t, tabGet none s.time.exchange p.val = some e → e.origin = some t1 → a = e.rx - t1 →
    b = (r : Int) - c - (extend tx (now s) + portLatency p.val false s) → old = tabGet [] s.time.delays p.val →
    t = { s with time := { s.time with exchange := tabSet none s.time.exchange p.val none, delays := tabSet [] s.time.delays p.val (((a + b) / 2 :: old).take 8) } } →
    (old ≠ [] → medianOf old + 1000 < (a + b) / 2 → exec (.ptpDelayResp p tx r c) s = .next { t with time := { t.time with delayDiscards := t.time.delayDiscards + 1 } }) ∧
    (old = [] ∨ (a + b) / 2 ≤ medianOf old + 1000 → s.time.masterPort = p.val → exec (.ptpDelayResp p tx r c) s = .next (measured 0 ((a - b) / 2) (syncInterval t) t)) ∧
    (old = [] ∨ (a + b) / 2 ≤ medianOf old + 1000 → s.time.masterPort ≠ p.val → exec (.ptpDelayResp p tx r c) s = .next t)) ∧
  (∀ (p : Fin 4) s, tabGet none s.time.exchange p.val = none → (∀ n o c, exec (.ptpFollowUp p n o c) s = .next s) ∧ ∀ tx r c, exec (.ptpDelayResp p tx r c) s = .next s) ∧
  (∀ s, s.time.source = 1 → s.time.servo = .locked →
    (s.time.lastMeasured + 3 * sec ≤ now s → exec .syncTimeout s = .next (sourceLost s) ∧ (timeFallback s = none → (sourceLost s).time.servo = .holdover)) ∧
    (now s < s.time.lastMeasured + 3 * sec → exec .syncTimeout s = .next s)) ∧
  (∀ s t, s.time.quietSince = some t → s.time.large = true →
    (t + 10 * sec ≤ now s → ∃ u, exec .offsetQuiet s = .next u ∧ u = { s with time := { s.time with large := false }, recorder := u.recorder }) ∧
    (now s < t + 10 * sec → exec .offsetQuiet s = .next s)) ∧
  (∀ w s (t : Int), t = extend w (now s) →
    (s.time.ppsLast = none → exec (.ppsEdge w) s = .next { s with time := { s.time with ppsCapture := w, ppsLast := some t } }) ∧
    (∀ t0, s.time.ppsLast = some t0 → t < t0 ∨ (sec : Int) + ms < t - t0 → exec (.ppsEdge w) s = .next { s with time := { s.time with ppsCapture := w, ppsLast := some t } }) ∧
    (∀ t0, s.time.ppsLast = some t0 → t0 ≤ t → t - t0 < (sec : Int) - ms → exec (.ppsEdge w) s = .next { s with time := { s.time with ppsCapture := w } }) ∧
    (∀ t0, s.time.ppsLast = some t0 → (t - t0 - sec).natAbs ≤ ms → exec (.ppsEdge w) s = .next (measured 1 (t - (t + sec / 2) / sec * sec) 1 { s with time := { s.time with
      ppsCapture := w, ppsLast := some t, ppsOk := true, ppsTheta := some (t - (t + sec / 2) / sec * sec) } }))) ∧
  (∀ s (t : Int), s.time.ppsLast = some t → s.time.ppsOk = true → t + 3 * sec + ms ≤ now s → ∃ v, v = { s with time := { s.time with ppsOk := false } } ∧
    (s.time.source ≠ 1 → exec .ppsMissing s = .next v) ∧ (s.time.source = 1 → exec .ppsMissing s = .next (sourceLost v))) ∧
  (∀ s, s.time.ppsOk = false → exec .ppsMissing s = .next s) ∧
  (∀ ppb s, use10Mhz s = true → s.time.valid = true → exec (.ref10Measure ppb) s = .next { s with time := { s.time with
    ref10Error := BitVec.ofInt 32 ppb, ref10Ok := decide (ppb.natAbs ≤ 5000) } }) ∧
  (∀ ppb s, use10Mhz s = false → exec (.ref10Measure ppb) s = .next s) ∧
  (∀ s, s.time.ppsOutEn = true → s.time.valid = true → s.time.ppsOut = false → now s % sec < s.time.inc.toNat / 2 ^ 24 →
    exec .ppsOutSecond s = .next (emit .pps { s with time := { s.time with ppsOut := true, ppsOutEnd := now s / sec * sec + 100 * ms } })) ∧
  (∀ s, s.time.valid = false → exec .ppsOutSecond s = .next s ∧ exec .plinthReload s = .next s) ∧
  (∀ s, s.time.plinthLoaded = true → s.time.valid = true →
    (s.time.plinthAt + 3600 * sec ≤ now s → 2 < ((ticksOf (now s) : Int) - s.plinth.ticks.toNat).natAbs → exec .plinthReload s = .next (loadPlinth s)) ∧
    (s.time.plinthAt + 3600 * sec ≤ now s → ((ticksOf (now s) : Int) - s.plinth.ticks.toNat).natAbs ≤ 2 →
      exec .plinthReload s = .next { s with time := { s.time with plinthAt := now s } }) ∧
    (now s < s.time.plinthAt + 3600 * sec → exec .plinthReload s = .next s)) ∧
  (∀ s, s.time.valid = false → firmwareRuns s = true → due s.time.lastNotValid (3600 * sec) (now s) = true → ∃ u, exec .timeNotValidWarning s = .next u ∧
    u = { s with time := { s.time with lastNotValid := some (now s) }, recorder := u.recorder }) ∧
  (∀ s, s.time.valid = true → exec .timeNotValidWarning s = .next s) ∧
  (∀ x s, s.modes.mode = .standby → exec (.drawbarTime x) s = .next (servoStep x (1 / 1000) { s with time := { s.time with source := 3 } }) ∧
    (s.time.source = 3 → exec .timeStreamStop s = .next { s with time := { s.time with servo := .holdover, run := 0, acq := [], inc := BitVec.ofInt 32 (clampInc (incRat s.time.integral)) } })) ∧
  (∀ x s, s.modes.mode ≠ .standby → exec (.drawbarTime x) s = .next s ∧ exec .timeStreamStop s = .next s)

/-- A read of RTC_TICKS_LO answers the low word and latches the rest, the weekday and the day phase. A load bit schedules a load 2 us ahead, or sets LOAD_COLLISION while one is pending; MARK_LOST sets RETAIN_LOST. The edge at which a pending load applies puts the loaded count; without a load the count wraps to 0, the day phase rolls over into the next weekday, and an alarm that matches is matched. A cell below 2.5 V sets BATT_LOW with a WARNING, from 2.6 V it clears; the retention monitor sets RETAIN_LOST and nothing else. A power-on reset of the Plinth leaves count, weekday, phase and alarms at reset, RETAIN_LOST set, and sixteen free words in the backup memory. -/
def Obligations.PlinthCountsLoadsAndAlarms : Prop :=
  (∀ s, exec .rtcTicksLoRead s = .next { s with plinth := { s.plinth with hiSnap := s.plinth.ticks.extractLsb' 32 16, wdaySnap := s.plinth.wday, daySnap := s.plinth.phase }, host := { s.host with readValue := s.plinth.ticks.setWidth 32 } }) ∧
  (∀ s, s.plinth.pendTicks = false → s.plinth.pendWday = false →
    exec .rtcCtrlLoadTicks s = .next { s with plinth := { s.plinth with pendTicks := true, loadWait := 50 } } ∧
    exec .rtcCtrlLoadWday s = .next { s with plinth := { s.plinth with pendWday := true, loadWait := 50 } }) ∧
  (∀ s, s.plinth.pendTicks = true ∨ s.plinth.pendWday = true → exec .rtcCtrlLoadTicks s = .next { s with plinth := { s.plinth with collision := true } } ∧
    exec .rtcCtrlLoadWday s = .next { s with plinth := { s.plinth with collision := true } }) ∧
  (∀ s, exec .rtcCtrlMarkLost s = .next { s with plinth := { s.plinth with retainLost := true } } ∧
    exec .retentionMonitorTrip s = .next { s with plinth := { s.plinth with retainLost := true } }) ∧
  (∀ s, s.plinth.pendTicks = true → s.plinth.loadWait = 0 → ∃ u, exec .rtcLoadApply s = .next u ∧ u = { s with plinth := u.plinth, recorder := u.recorder } ∧
    u.plinth.ticks = s.plinth.loadHi ++ s.plinth.loadLo ∧ u.plinth.pendTicks = false) ∧
  (∀ s, s.plinth.pendWday = true → s.plinth.loadWait = 0 → s.plinth.loadWday ≠ 7 → s.plinth.loadDay.toNat < dayTicks → ∃ u, exec .rtcLoadApply s = .next u ∧
    u.plinth.wday = s.plinth.loadWday ∧ u.plinth.phase = s.plinth.loadDay ∧ u.plinth.pendWday = false) ∧
  (∀ s, s.plinth.loadWait ≠ 0 → exec .rtcLoadApply s = .next s) ∧
  (∀ s, s.plinth.ticks = 0xFFFFFFFFFFFF#48 → s.plinth.pendTicks = false → ∃ u, exec .rtcWrap s = .next u ∧ u.plinth.ticks = 0) ∧
  (∀ s, s.plinth.ticks ≠ 0xFFFFFFFFFFFF#48 → exec .rtcWrap s = .next s) ∧
  (∀ s, s.plinth.phase.toNat + 1 = dayTicks → s.plinth.pendWday = false → ∃ u, exec .dayPhaseRollover s = .next u ∧ u.plinth.phase = 0 ∧
    u.plinth.wday = if s.plinth.wday.toNat < 6 then s.plinth.wday + 1 else 0) ∧
  (∀ s, s.plinth.phase.toNat + 1 < dayTicks → exec .dayPhaseRollover s = .next s) ∧
  (∀ (n : Fin 2) s, s.plinth.alarms[n].matched = false → alarmMatches s.plinth.alarms[n] (edgeCounts s.plinth).1 (edgeCounts s.plinth).2.1 = true →
    ∃ u, exec (.rtcAlarmMatch n) s = .next u ∧ u.plinth.alarms[n] = { s.plinth.alarms[n] with matched := true } ∧ u.plinth.ticks = (edgeCounts s.plinth).1) ∧
  (∀ (n : Fin 2) s, s.plinth.alarms[n].matched = true → exec (.rtcAlarmMatch n) s = .next s) ∧
  (∀ mv s, mainPower s = true →
    (mv < 2500 → s.plinth.battLow = false → ∃ u, exec (.cellMeasurement mv) s = .next u ∧ u = { s with plinth := { s.plinth with battLow := true }, recorder := u.recorder }) ∧
    (2600 ≤ mv → s.plinth.battLow = true → ∃ u, exec (.cellMeasurement mv) s = .next u ∧ u = { s with plinth := { s.plinth with battLow := false }, recorder := u.recorder }) ∧
    (2500 ≤ mv → mv < 2600 → exec (.cellMeasurement mv) s = .next s)) ∧
  (∀ mv s, mainPower s = false → exec (.cellMeasurement mv) s = .next s) ∧
  (∀ s, ∃ u, exec .plinthPowerOnReset s = .next u ∧ u.plinth.ticks = 0 ∧ u.plinth.wday = 0 ∧ u.plinth.phase = 0 ∧ u.plinth.retainLost = true ∧
    u.plinth.alarms = .replicate 2 alarmReset ∧ (∀ k : Fin 16, u.plinth.bkp[k] = (Config.freeWord (s.fresh + k.val)).setWidth 32) ∧
    u = { s with plinth := u.plinth, fresh := s.fresh + 16 })

/-- A panel that is not enabled has no frame start; the first frame start of an enabled one with work, nothing in flight and its power off switches the power on. A temperature reading is held; a failed one counts and at the third sets the fault. A held band change waits for the flights. With the power requested, its good line confirmed puts the panel in use; a read-back that differs, no good line in time, or its loss in a frame, removes the power with a fault. Power goes off after the idle time. An idle panel with marked pixels queues a CLEAN of the smallest rectangle that holds them. A checkpoint, written once no retained commit is queued and no loop checkpoint is due, ends its update: no slot holds it, its identity leads the completed ones, its intent is cleared. -/
def Obligations.PanelsAreDrivenPoweredAndCleaned : Prop :=
  (∀ (p : Fin 2) s, panelEnabled (panelAt p s).rcd = false → exec (.panelFrameStart p) s = .next s ∧ (∀ r, exec (.panelTempRead p r) s = .next s) ∧
    exec (.panelCleanIdle p) s = .next s) ∧
  (∀ (p : Fin 2) s q, q = panelAt p s → s.modes.mode ≠ .plinth → s.power.powerFail = false → panelEnabled q.rcd = true → panelHeldDown p.val s = false →
    q.framing = false → q.pwrEn = false → q.newRcd = none → runningOf p s = [] → panelWork p s = true → ∃ u, exec (.panelFrameStart p) s = .next u ∧
      (panelAt p u).pwrEn = true ∧ (panelAt p u).enabledAt = now s ∧ (panelAt p u).framing = false ∧ u.updates = s.updates) ∧
  (∀ (p : Fin 2) s q, q = panelAt p s → s.modes.mode ≠ .plinth → panelEnabled q.rcd = true → updatesOf p s ≠ [] → due q.tempAt sec (now s) = true →
    (∀ v, ∃ u, exec (.panelTempRead p (some v)) s = .next u ∧ (panelAt p u).temp = panelReading q.rcd v ∧ (panelAt p u).tempAt = some (now s) ∧
      (panelAt p u).tempFault = false ∧ (panelAt p u).tempFails = 0) ∧
    (∃ u, exec (.panelTempRead p none) s = .next u ∧ u = { s with panel := u.panel, recorder := u.recorder } ∧ (panelAt p u).i2cError = true ∧
      (panelAt p u).tempFails = q.tempFails + 1 ∧ (panelAt p u).tempFault = (q.tempFault || decide (2 ≤ q.tempFails)))) ∧
  (∀ (p : Fin 2) s x, (panelAt p s).differs = some x →
    (x + 10 * sec ≤ now s → runningOf p s ≠ [] → exec (.panelBandHold p) s = .next (panelMod p (fun q => { q with held := true }) s)) ∧
    (now s < x + 10 * sec → exec (.panelBandHold p) s = .next s)) ∧
  (∀ (p : Fin 2) s q, q = panelAt p s →
    (q.pwrEn = true → q.pwrGood = false →
      exec (.pwrGoodRise p true) s = .next (panelMod p (fun q => { q with pwrGood := true, confirmed := true, enabledAt := now s }) s) ∧
      (∃ u, exec (.pwrGoodRise p false) s = .next u ∧ u = { s with panel := u.panel, recorder := u.recorder } ∧ (panelAt p u).pwrEn = false ∧ (panelAt p u).powerFault = true) ∧
      (q.enabledAt + fld16 q.rcd 24 * ms ≤ now s → ∃ u, exec (.pwrGoodTimeout p) s = .next u ∧ u.updates = s.updates ∧ (panelAt p u).pwrEn = false ∧
        (panelAt p u).powerFault = true)) ∧
    (q.framing = true → q.pwrGood = true → ∃ u, exec (.pwrGoodLow p) s = .next u ∧ (panelAt p u).pwrEn = false ∧ (panelAt p u).pwrGood = false ∧
      (panelAt p u).powerFault = true) ∧
    (q.pwrGood = true → exec (.pwrGoodRise p true) s = .next s ∧ exec (.pwrGoodTimeout p) s = .next s) ∧
    (q.framing = false → exec (.pwrGoodLow p) s = .next s) ∧
    (panelPowered q (now s) = true → q.framing = false → max q.lastFrame q.enabledAt + fld16 q.rcd 26 * ms ≤ now s →
      exec (.panelPowerOff p) s = .next (panelMod p (fun q => { q with pwrEn := false, pwrGood := false, confirmed := false, framing := false }) s)) ∧
    (q.framing = true → exec (.panelPowerOff p) s = .next s)) ∧
  (∀ (p : Fin 2) s q x y w h, q = panelAt p s → panelEnabled q.rcd = true → fld16 q.rcd 28 ≠ 0 → q.lastUpdate + fld16 q.rcd 28 * sec ≤ now s → updatesOf p s = [] →
    slotsFull s = false → markedRect q = some (x, y, w, h) → ∃ u e, exec (.panelCleanIdle p) s = .next u ∧ u.updates = s.updates ++ [e] ∧
      e.panel = p.val ∧ e.mode = 3 ∧ e.st = .queued ∧ e.x = x ∧ e.y = y ∧ e.w = w ∧ e.h = h) ∧
  (∀ (p : Fin 2) s id v, s.retained.queue = [] → s.loop.dirty = false → (updatesOf p s).find? (fun u => u.id == id && u.st == .checkpointing) = some v → ∃ u, exec (.panelCheckpointWritten p id) s = .next u ∧
    (∀ w, w ∈ u.updates ↔ w ∈ s.updates ∧ w.order ≠ v.order) ∧ (panelAt p u).completed = ((id, false) :: (panelAt p s).completed).take 32 ∧
    (∀ i ∈ (panelAt p u).intents, i.id ≠ id) ∧ u = { s with panel := u.panel, updates := u.updates }) ∧
  (∀ (p : Fin 2) s id, (∀ u ∈ updatesOf p s, u.id ≠ id) ∨ s.retained.queue ≠ [] ∨ s.loop.dirty = true → exec (.panelCheckpointWritten p id) s = .next s)

/-- A paired module with main power sends heartbeats with rising numbers; one received is held with its time. Heartbeats missing for 1,550 us are lost: a standby in step whose partner's lines show it gone takes over in the mode the partner last reported, so does one whose stale life line or fallen PAIR_ACT shows it after lost heartbeats, and one that receives DEMOTE; one that cannot records it. The life line toggles in RUN and stays low in BOOT and SAFE. Where both lines are high, position 1 steps down to STANDBY. A field section not refreshed for 1 ms drives its outputs off. A demotion without a takeover within 5 ms ends in SAFE. A link that falls is marked lost and recorded. REACH demotes once its conditions have held for REACH_TIME_MS, as the heartbeats show them (log 180); a standby out of step asks again after 5 s. -/
def Obligations.PairLinesHeartbeatsAndTakeoverAct : Prop :=
  (∀ s, pairConfigured s = true → s.modes.mode ≠ .plinth → exec .heartbeatSend s = .next (emit (.heartbeat (heartbeatOf s)) { s with pair := { s.pair with hbSeq := s.pair.hbSeq + 1 } })) ∧
  (∀ s l h, pairConfigured s = false → exec .heartbeatSend s = .next s ∧ exec (.heartbeatReceived l h) s = .next s ∧ exec .heartbeatLoss s = .next s ∧ exec (.demoteReceived l) s = .next s) ∧
  (∀ (l : Fin 2) h s, pairConfigured s = true → ∃ u, exec (.heartbeatReceived l h) s = .next u ∧ u.pair.lastHb = now s ∧ u.pair.partnerLost = false ∧ u.pair.hb[l] = some (now s) ∧
    (s.pair.partner = none → u.pair.partner = some h)) ∧
  (∀ s, pairConfigured s = true → s.pair.partnerLost = false → s.pair.lastHb + 1550 * us ≤ now s → ∃ u, exec .heartbeatLoss s = .next u ∧ u.pair.partnerLost = true ∧
    (s.modes.mode = .standby → s.pair.st = .inStep → s.pair.liveStale = true ∨ s.pair.actIn = false → u.modes.mode = takenMode s)) ∧
  (∀ s, now s < s.pair.lastHb + 1550 * us → exec .heartbeatLoss s = .next s) ∧
  (∀ s, (s.modes.mode = .run → exec .pairLiveToggle s = .next { s with pair := { s.pair with liveOut := !s.pair.liveOut, refreshed := now s } }) ∧
    (s.modes.mode = .boot ∨ s.modes.mode = .safe → exec .pairLiveToggle s = .next { s with pair := { s.pair with liveOut := false, refreshed := now s } }) ∧
    (s.modes.mode = .plinth → exec .pairLiveToggle s = .next s)) ∧
  (∀ s, (pairConfigured s = false ∨ s.modes.mode ≠ .standby → exec .pairLiveStale s = .next { s with pair := { s.pair with liveStale := true } }) ∧
    (pairConfigured s = true → s.modes.mode = .standby → s.pair.st = .inStep → s.pair.partnerLost = true → s.pair.liveStale = false → s.pair.actIn = true →
      ∃ u, exec .pairLiveStale s = .next u ∧ u.modes.mode = takenMode s)) ∧
  (∀ b s, (pairConfigured s = false → exec (.pairActIChange b) s = .next { s with pair := { s.pair with actIn := b } }) ∧
    (pairConfigured s = true → b = true → s.pair.st ≠ .demoting → exec (.pairActIChange b) s = .next { s with pair := { s.pair with actIn := true } }) ∧
    (pairConfigured s = true → b = false → s.modes.mode = .standby → s.pair.st = .inStep → s.pair.partnerLost = true → s.pair.liveStale = false → s.pair.actIn = true →
      ∃ u, exec (.pairActIChange b) s = .next u ∧ u.modes.mode = takenMode s)) ∧
  (∀ s, operating s = true → s.pair.st = .activePaired ∨ s.pair.st = .activeAlone → s.pair.actOut = true → s.pair.actIn = true → s.pair.liveStale = false → s.pair.demoted = false →
    (s.pair.position = false → ∃ u, exec .activityConflict s = .next u ∧ u = { s with pair := { s.pair with actConflict := true }, recorder := u.recorder }) ∧
    (s.pair.position = true → ∃ u, exec .activityConflict s = .next u ∧ u.modes.mode = .standby ∧ u.pair.st = .outOfStep ∧ u.pair.actOut = false ∧ u.pair.actConflict = true)) ∧
  (∀ s, s.pair.actIn = false → exec .activityConflict s = .next s) ∧
  (∀ s, (s.pair.refreshed + ms ≤ now s → exec .fieldRefreshTimeout s = .next (outputsOff s)) ∧ (now s < s.pair.refreshed + ms → exec .fieldRefreshTimeout s = .next s)) ∧
  (∀ l s, pairConfigured s = true → s.pair.demoted = false → s.modes.mode = .standby →
    (s.pair.st = .inStep → ∃ u, exec (.demoteReceived l) s = .next u ∧ u.modes.mode = takenMode s) ∧
    (s.pair.st = .outOfStep → ∃ u, exec (.demoteReceived l) s = .next u ∧ u = { drawbarArrives s with pair := { s.pair with demoted := true }, recorder := u.recorder })) ∧
  (∀ s, operating s = true → s.pair.st = .demoting → s.pair.handAt = none →
    (s.pair.demoteAt + 5 * ms ≤ now s → ∃ u, exec .demotionTakeoverTimeout s = .next u ∧ u.modes.mode = .safe) ∧
    (now s < s.pair.demoteAt + 5 * ms → exec .demotionTakeoverTimeout s = .next s)) ∧
  (∀ (l k : Fin 2) s, healthOf (0x30 + l.val) s ≠ 2 →
    (s.pair.up[l] = false → exec (.drawbarLinkChange l true) s = .next { s with pair := { s.pair with up := s.pair.up.set l true } }) ∧
    (s.pair.up[l] = true → k ≠ l → s.pair.up[k] = true → ∃ u, exec (.drawbarLinkChange l false) s = .next u ∧ u = { s with recorder := u.recorder, pair := { s.pair with up := s.pair.up.set l false, hb := s.pair.hb.set l none, lost := s.pair.lost.set l true } })) ∧
  (∀ l h s t, t = drawbarArrives { s with pair := { s.pair with hello := some h } } →
    (s.modes.mode = .safe → exec (.drawbarHello l h) s = .next t) ∧
    (pairConfigured s = true → isActive s = true → exec (.drawbarHello l h) s = .next (emit .hello t)) ∧
    (s.modes.mode = .standby → s.pair.st = .catchingUp → s.pair.phase = 0 → helloFail h t = 0 →
      exec (.drawbarHello l h) s = .next { t with pair := { t.pair with phase := 1 } })) ∧
  (∀ s h, s.pair.partner = some h → bit (fld8 s.pair.rcd 0) 1 = true → s.pair.st = .activePaired → operating s = true → h.pubLinksUp = true → pubLinksUp s = false →
    reach s + fld16 s.pair.rcd 4 ≤ h.reach → (∀ t, s.pair.reachSince = some t → t + fld16 s.pair.rcd 6 * ms ≤ now s →
      ∃ u, exec .reachDemote s = .next u ∧ u.pair.st = .demoting ∧ u.pair.toSafe = false) ∧
    (∀ t, s.pair.reachSince = some t → now s < t + fld16 s.pair.rcd 6 * ms → exec .reachDemote s = .next s)) ∧
  (∀ s, s.pair.reachSince = none → exec .reachDemote s = .next s) ∧
  (∀ s, s.pair.st = .outOfStep → s.modes.mode = .standby → s.pair.up.toList.any id = true → s.pair.failed = 0 →
    (s.pair.leftAt + 5 * sec ≤ now s → exec .outOfStepRetry s = .next (beginCatchup s)) ∧ (now s < s.pair.leftAt + 5 * sec → exec .outOfStepRetry s = .next s))

/-- 1 ms before T_h the cross-fade begins, each step moves a share by 1/32. At T_h the former active module lowers PAIR_ACT with a share of 0; the standby raises it with a full share and takes the mode the partner reported. 1 ms later the hand-over ends: the new active module is ACTIVE_PAIRED, the former one STANDBY, in step. Verification resumes at its time. A standby keeps the agreed inputs of a cycle to come, of a merge to come and a digest of a cycle, and leaves step without inputs 1 ms past the deadline; a module that is no standby keeps none. A control message is applied by a standby; the acknowledged cast point is held by the active module. The catch-up goes phase by phase and ends in step; the active module suspends it or starts its copy again. -/
def Obligations.HandoverAndCatchUpRun : Prop :=
  (∀ s t, s.pair.handAt = some t → s.pair.st = .handingOver → s.pair.handed = false →
    (s.pair.fading = false → t ≤ now s + ms → s.pair.former = true → exec .crossfadeStart s = .next { s with pair := { s.pair with
      fading := true, verifyAt := some (t + 20 * ms), share := 32 } }) ∧
    (now s + ms < t → exec .crossfadeStart s = .next s) ∧ (now s < t → exec .handoverTime s = .next s) ∧
    (t ≤ now s → s.pair.former = true → ∃ u, exec .handoverTime s = .next u ∧ u.pair = { s.pair with handed := true, fading := false, share := 0, actOut := false }) ∧
    (t ≤ now s → s.pair.former = false → s.modes.mode = .standby → ∃ u, exec .handoverTime s = .next u ∧ u.pair.handed = true ∧ u.pair.actOut = true ∧
      u.pair.share = 32 ∧ u.modes.mode = takenMode s)) ∧
  (∀ s, s.pair.handAt = none → exec .crossfadeStart s = .next s ∧ exec .handoverTime s = .next s ∧ exec .handoverEnd s = .next s) ∧
  (∀ s, (s.pair.fading = false → exec .crossfadeStep s = .next s) ∧
    (s.pair.fading = true → s.pair.former = true → exec .crossfadeStep s = .next { s with pair := { s.pair with share := s.pair.share - 1 } }) ∧
    (s.pair.fading = true → s.pair.former = false → ∃ u, exec .crossfadeStep s = .next u ∧ u = { s with pair := u.pair } ∧ u.pair.share = min 32 (s.pair.share + 1))) ∧
  (∀ s t, s.pair.handAt = some t → t + ms ≤ now s → operating s = true → s.pair.st = .handingOver → s.pair.handed = true →
    (s.pair.former = false → ∃ u, exec .handoverEnd s = .next u ∧ u = { s with pair := u.pair, recorder := u.recorder } ∧ u.pair.st = .activePaired ∧ u.pair.handAt = none ∧
      u.pair.lastTrigger = 3 ∧ u.pair.lastSwitchover = t) ∧
    (s.pair.former = true → ∃ u, exec .handoverEnd s = .next u ∧ u.modes.mode = .standby ∧ u.pair.st = .inStep ∧ u.pair.actOut = false)) ∧
  (∀ s t, s.pair.verifyAt = some t → (t ≤ now s → exec .verificationResume s = .next { s with pair := { s.pair with verifyAt := none } }) ∧
    (now s < t → exec .verificationResume s = .next s)) ∧
  (∀ (t : Fin 32) s n xs h, s.modes.mode = .standby → h = (tabGet [] s.pair.agreed t.val).filter (fun x => decide (s.task[t].cycleNo ≤ x.cycle)) → s.task[t].cycleNo ≤ n →
    (∀ x ∈ h, x.cycle ≠ n) → exec (.agreedInputsReceived (.cycle t n xs)) s = .next (drawbarArrives { s with pair := { s.pair with
      agreed := tabSet [] s.pair.agreed t.val (h ++ [{ cycle := n, items := xs }]) } })) ∧
  (∀ s g es, s.modes.mode = .standby → s.image.gen < g → (∀ m ∈ s.pair.merges, m.generation ≠ g) → exec (.agreedInputsReceived (.merge g es)) s =
    .next (drawbarArrives { s with pair := { s.pair with merges := s.pair.merges ++ [{ generation := g, entries := es }] } })) ∧
  (∀ (t : Fin 32) s, s.modes.mode = .standby → s.pair.st = .inStep → s.task[t].phase = .gathered → agreedFor t.val s = none → s.task[t].next + ms ≤ now s →
    ∃ u, exec (.agreedInputsTimeout t) s = .next u ∧ u.pair.st = .outOfStep ∧ u.pair.agreed = []) ∧
  (∀ (t : Fin 32) s n g sigs h, s.modes.mode = .standby → h = (tabGet [] s.pair.digests t.val).filter (fun x => decide (s.task[t].cycleNo ≤ x.cycle)) →
    (∀ x ∈ h, x.cycle ≠ n) → s.task[t].phase ≠ .compared → exec (.commitDigestReceived t n sigs g) s = .next (drawbarArrives { s with pair := { s.pair with
      digests := tabSet [] s.pair.digests t.val (h ++ [{ cycle := n, sigs := sigs, generation := g }]) } })) ∧
  (∀ (t : Fin 32) s n g sigs i, s.modes.mode ≠ .standby → exec (.agreedInputsReceived i) s = .next s ∧ exec (.agreedInputsTimeout t) s = .next s ∧
    exec (.commitDigestReceived t n sigs g) s = .next s) ∧
  (∀ c s t f, t = drawbarArrives { s with pair := { s.pair with ctrlSeq := s.pair.ctrlSeq + 1 } } → (s.modes.mode = .standby → exec (.pairControlMessage c) s = .next (applyControl c t)) ∧
    (s.modes.mode ≠ .standby → c = .castPoint s.prog.cast f → pairInStep s = true → s.prog.st = .ready →
      exec (.pairControlMessage c) s = .next { t with prog := { t.prog with acked := true } }) ∧
    (s.modes.mode ≠ .standby → c = .resync → exec (.pairControlMessage c) s = .next t)) ∧
  (∀ s, s.pair.st = .catchingUp → s.modes.mode = .standby →
    (s.pair.phase = 5 → exec (.catchupPhaseComplete .join) s = .next { s with pair := { s.pair with st := .inStep, phase := 0 } }) ∧
    (∀ a b c d, s.pair.phase = 1 → ∃ u, exec (.catchupPhaseComplete (.configuration a b c d)) s = .next u ∧ u.pair.phase = 2) ∧
    (∀ a b, s.pair.phase = 2 → ∃ u, exec (.catchupPhaseComplete (.program a b)) s = .next u ∧ u.pair.phase = 3) ∧
    (∀ a b c d, s.pair.phase = 3 → ∃ u, exec (.catchupPhaseComplete (.laneState a b c d)) s = .next u ∧ u.pair.phase = 4 ∧ u.pair.progress = 1000) ∧
    (∀ a b, s.pair.phase = 4 → ∃ u, exec (.catchupPhaseComplete (.retained a b)) s = .next u ∧ u.pair.phase = 5) ∧
    (s.pair.phase ≠ 5 → exec (.catchupPhaseComplete .join) s = .next s)) ∧
  (∀ s c, s.pair.st ≠ .catchingUp → exec (.catchupPhaseComplete c) s = .next s) ∧
  (∀ s, isActive s = true → partnerCatching s = true → (s.pair.suspended = true → exec (.catchupSuspend true) s = .next { s with pair := { s.pair with suspended := false, progress := 0 } }) ∧
    (s.pair.suspended = false → ∃ u, exec (.catchupSuspend false) s = .next u ∧ u = { s with pair := { s.pair with suspended := true }, recorder := u.recorder }))

/-- While the recorder's firmware runs, RECORDER_WRITE takes the first of the reserve, or where the reserve is empty a general record of the highest severity staged, and stores it under the next number, where a segment has room for it; the write is a demand of a recorder burst on the management clock, and nothing else changes. With nothing staged, or while the firmware does not run, nothing changes. Where a path is in FLOOD at a new second, the second is judged and one record is offered; without a flood nothing changes. The counts of corrections, unmapped inputs and substitutions of a second become records and are empty afterwards, and nothing but the image and the recorder changes. -/
def Obligations.RecorderWritesAndSummarises : Prop :=
  (∀ s, ∃ u, exec .recorderWrite s = .next u ∧ u = { s with recorder := u.recorder, power := u.power } ∧
    (u.power = s.power ∨ u.power = (demandClock .recorderBurst s).power)) ∧
  (∀ s r rs, writerRuns s = true → s.recorder.reserve = r :: rs → s.recorder.waiting = [] → openRoom r s.recorder.segs = true →
    ∃ u, exec .recorderWrite s = .next u ∧ u.recorder.reserve = rs ∧ u.recorder.next = s.recorder.next + 1 ∧ u.recorder.segs = appendRecord r s.recorder.next s.recorder.segs ∧
      u.recorder.general = s.recorder.general ∧ u.power = (demandClock .recorderBurst s).power) ∧
  (∀ s r, writerRuns s = true → s.recorder.reserve = [] → s.recorder.general = [r] → openRoom r s.recorder.segs = true →
    ∃ u, exec .recorderWrite s = .next u ∧ u.recorder.general = [] ∧ u.recorder.next = s.recorder.next + 1 ∧ u.recorder.segs = appendRecord r s.recorder.next s.recorder.segs) ∧
  (∀ s, writerRuns s = false ∨ (s.recorder.reserve = [] ∧ s.recorder.general = []) → exec .recorderWrite s = .next s) ∧
  (∀ s, s.recorder.judged < now s / sec → s.recorder.paths.toList.any (·.flood) = true → writerRuns s = true →
    ∃ u, exec .floodSummary s = .next u ∧ u = { s with recorder := u.recorder } ∧ u.recorder.judged = now s / sec) ∧
  (∀ s, s.recorder.paths.toList.any (·.flood) = false ∨ now s / sec ≤ s.recorder.judged → exec .floodSummary s = .next s) ∧
  (∀ s, ∃ u, exec .perSecondCoalescing s = .next u ∧ u = { s with image := { s.image with corrections := [], unmapped := [], substs := [] }, recorder := u.recorder } ∧
    (s.image.corrections = [] → s.image.unmapped = [] → s.image.substs = [] → u.recorder = s.recorder))

/-- A write of RTC_CTRL (offset 0x020 of the Plinth) with a 1 in bit 2 sets RETAIN_LOST, with a 1 in bit 0 asks for a load of the count, in bit 1 for a load of the weekday and the day phase, where no load is pending; it changes nothing else but the wait for the load, and bits 31 to 3 have no effect. The register reads as 0, at reset and later, and the read changes nothing. -/
def Obligations.RtcCtrlHasItsFields : Prop :=
  (∀ v s, s.plinth.pendTicks = false → s.plinth.pendWday = false → exec (.registerWrite .plinth 0x020 v) s = .next { s with plinth := { s.plinth with
    retainLost := s.plinth.retainLost || v.getLsbD 2, pendTicks := v.getLsbD 0, pendWday := v.getLsbD 1,
    loadWait := if v.getLsbD 0 || v.getLsbD 1 then 50 else s.plinth.loadWait } }) ∧
  (∀ v s, s.plinth.pendTicks = true ∨ s.plinth.pendWday = true → exec (.registerWrite .plinth 0x020 v) s = .next { s with plinth := { s.plinth with
    retainLost := s.plinth.retainLost || v.getLsbD 2, collision := s.plinth.collision || v.getLsbD 0 || v.getLsbD 1 } }) ∧
  (∀ v w s, v &&& 7#32 = w &&& 7#32 → exec (.registerWrite .plinth 0x020 v) s = exec (.registerWrite .plinth 0x020 w) s) ∧
  (∀ s, regRead .plinth 0x020 s = (0, s)) ∧ regRead .plinth 0x020 State.reset = (0, State.reset)

/-- At offset 0x1000 + 0x400 x c of the network section a read answers TEC in [31:24], REC in [23:16], 0 in [15:13], MASTER_CONFLICT, REF_ACTIVE, MONITOR, STATE in [9:8], BUSOFF_SEEN, LAST_ERROR in [6:4], STANDBY_LINE, RX_UNMATCHED, TX_PENDING (a send object is pending) and ENABLED, and changes nothing. A write of 1 clears MASTER_CONFLICT, BUSOFF_SEEN and RX_UNMATCHED at their bits; no other bit and no other controller changes. At reset it reads 0x308: STATE disabled, STANDBY_LINE driven, all else 0. REC does not pass 0xFF at a bus error. -/
def Obligations.CanStatusHasItsFields : Prop :=
  (∀ (c : Fin 8) s x w, x = canAt c.val s → w = (regRead .network (0x1000 + 0x400 * c.val) s).1 →
    w.extractLsb' 24 8 = x.tec ∧ w.extractLsb' 16 8 = x.rec_ ∧ w.extractLsb' 13 3 = 0 ∧ w.getLsbD 12 = x.conflict ∧ w.getLsbD 11 = x.refActive ∧
    w.getLsbD 10 = x.monitor ∧ w.extractLsb' 8 2 = x.st ∧ w.getLsbD 7 = x.busoffSeen ∧ w.extractLsb' 4 3 = x.lastError ∧ w.getLsbD 3 = x.standbyLine ∧
    w.getLsbD 2 = x.unmatched ∧ w.getLsbD 1 = x.obj.any (fun p => p.2.pending) ∧ w.getLsbD 0 = x.enabled) ∧
  (∀ (c : Fin 8) s, (regRead .network (0x1000 + 0x400 * c.val) s).2 = s) ∧
  (∀ (c : Fin 8) v s, exec (.registerWrite .network (0x1000 + 0x400 * c.val) v) s = .next { s with can := vmod s.can c.val (fun x => { x with
    conflict := x.conflict && !v.getLsbD 12, busoffSeen := x.busoffSeen && !v.getLsbD 7, unmatched := x.unmatched && !v.getLsbD 2 }) }) ∧
  (∀ c : Fin 8, regRead .network (0x1000 + 0x400 * c.val) State.reset = (0x308#32, State.reset)) ∧
  (∀ (c e : Fin 8) s, (canAt c.val s).enabled = true → (canAt c.val s).st.toNat < 2 → (canAt c.val s).rec_ = 0xFF#8 →
    ∃ u, exec (.canBusError c e false) s = .next u ∧ (canAt c.val u).rec_ = 0xFF#8)

/-- Of the byte memories (the carriage window, the mailbox buffers, the program images, the staged firmware): after a write of bytes to a memory in canonical form, with no entry equal to 0 and addresses rising, the memory is in canonical form, each byte written reads as written, and every byte outside reads as before. Two memories in canonical form that read the same everywhere are equal. (The sparse form and its default 0 are the model's, log 4.) -/
def Obligations.ByteMemoriesReadBackAndStayCanonical : Prop :=
  (∀ (m : Mem) a bs, tabWf 0 m = true → tabWf 0 (memWriteN m a bs) = true ∧
    (∀ i, i < bs.length → memRead (memWriteN m a bs) (a + i) = bs.getD i 0) ∧
    (∀ k, k < a ∨ a + bs.length ≤ k → memRead (memWriteN m a bs) k = memRead m k) ∧
    memReadN (memWriteN m a bs) a bs.length = bs) ∧
  (∀ m n : Mem, tabWf 0 m = true → tabWf 0 n = true → (∀ k, memRead m k = memRead n k) → m = n)

/-- At reset no command waits, the module is in BOOT with main power, RETAIN_LOST is set, every local mailbox is IDLE, no TLS connection and no subscription exists, no record is stored, nothing is in the image's intake, no update of a panel is queued and every lane is OFF (the values for which the spec gives none are the model's, log 3). -/
def Obligations.ResetStateIsAStartInBoot : Prop :=
  State.reset.pending = [] ∧ State.reset.modes.mode = .boot ∧ mainPower State.reset = true ∧ State.reset.plinth.retainLost = true ∧
  (∀ n : Fin 16, State.reset.host.mbx[n].state = 0) ∧ (∀ t : Fin 8, State.reset.host.tls[t] = none) ∧ (∀ k : Fin 8, State.reset.host.subs[k] = none) ∧
  State.reset.recorder.segs = [] ∧ State.reset.image.intake = [] ∧ State.reset.updates = [] ∧ (∀ l, (laneAt l State.reset).st = .off)

/-- In flight in a mailbox, IDENT_GET answers 80 bytes, STATUS_GET 128 with the mode first, HEALTH_MAP_GET 1,024, MODE_GET four, each with ST_OK and nothing else changed. PROG_LOAD of 1 to 65,536 bytes of its payload within the slot that is being loaded, with no exchange in progress, answers ST_OK with the bytes in the slot. PROG_VERIFY of a loaded image that passes every check makes the slot VERIFIED. PROG_EXCHANGE with ABANDON before the cast point answers ST_OK and leaves no exchange. -/
def Obligations.ReadsAndProgramCommandsComplete : Prop :=
  (∀ m q s, (InFlight m 0x0101 q s → ∃ p, p.length = 80 ∧ Answers (.identGet m) m s (ok p) s) ∧
    (InFlight m 0x0102 q s → ∃ p, p.length = 128 ∧ slice p 0 1 = le 1 (modeCode s.modes.mode) ∧ Answers (.statusGet m) m s (ok p) s) ∧
    (InFlight m 0x0103 q s → ∃ p, p.length = 1024 ∧ Answers (.healthMapGet m) m s (ok p) s) ∧
    (InFlight m 0x0202 q s → ∃ p, p.length = 4 ∧ slice p 0 1 = le 1 (modeCode s.modes.mode) ∧ Answers (.modeGet m) m s (ok p) s)) ∧
  (∀ m q s off n k, InFlight m 0x0401 q s → off = fld32 q.pay 0 → n = fld32 q.pay 4 → k = loadSlot s → 1 ≤ n → n ≤ 65536 →
    off + n ≤ 0x10000000 → q.count = 0 → s.prog.st = .idle → (vget slotReset s.prog.slot k).st = .loading →
    ∃ z p, z.image = memWriteN (vget slotReset s.prog.slot k).image off (slice q.pay 8 n) ∧ Answers (.progLoad m) m s (ok p) (slotMod k (fun _ => z) s)) ∧
  (∀ m q s k active, InFlight m 0x0402 q s → slotIn .loaded s = some k → s.prog.st = .idle →
    active = (if (slotIn .active s).isSome then some (activeImage s) else none) →
    verifyCheck (slotImage k s) (imageSigned (slotImage k s) s) (s.cfg.cur :: s.cfg.session.toList.map (·.set)) active = none →
    ∃ p data u, Answers (.progVerify m) m s { status := stOk, pay := p, data := data } u ∧ u.prog = (slotMod k (fun x => { x with st := .verified }) s).prog) ∧
  (∀ m q s, InFlight m 0x0403 q s → bit (fld32 q.pay 8) 1 = true → s.prog.st = .preparing ∨ s.prog.st = .ready →
    s.prog.cast = 0 ∨ now s + 2 * ms < s.prog.cast → ∃ p u, Answers (.progExchange m) m s (ok p) u ∧ u.prog.st = .idle)

/-- Under its own conditions each of these answers a next state with its effect: the wrap counts; a read of TIME_NS and a write of the increment; a step or a new session; the end of a temporary rate; a step of the pair; an announce is kept where no master is heard; a sync keeps an exchange and asks for the delay; a follow-up completes it; a response of a port that is not the master's keeps a delay; a lost sync source is left; a quiet offset is no longer large; the first PPS edge is captured; missing edges end PPS; the 10 MHz error is measured; the PPS output rises at a second; the Plinth is loaded an hour after it was compared; the hourly WARNING is recorded; the drawbar's time drives the servo of a standby, and its loss ends in holdover. -/
def Obligations.TimeCommandsAndEventsComplete : Prop :=
  (∀ s, mainPower s = true → 2 ^ 56 ≤ s.time.acc.toNat + s.time.inc.toNat → s.time.stepDue = none → ∃ u, exec .timeWrap s = .next u ∧ u.time.wraps = s.time.wraps + 1) ∧
  (∀ s, ∃ u, exec .timeNsRead s = .next u ∧ u.time.wrapsSnap = s.time.wraps) ∧
  (∀ v s, ∃ u, exec (.timeIncWrite v) s = .next u ∧ u.time.inc = BitVec.ofInt 32 (clampInc v.toNat)) ∧
  (∀ b s, s.time.stepUsed = false → stepInRange s.time.adj.toInt s = true → s.time.adj ≠ 0 →
    exec (.timeCtrlStep b) s = .next (beginStep s.time.adj.toInt { s with time := { s.time with ppsOutEn := b } })) ∧
  (∀ b s, exec (.timeCtrlNewSession false b) s = .next (restartSession { s with time := { s.time with ppsOutEn := b } })) ∧
  (∀ s, s.time.tempRate = true → s.time.tempEnd ≤ now s → ∃ u, exec .tempRateExpiry s = .next u ∧ u.time.tempRate = false ∧ u.time.hostRate = s.time.priorRate) ∧
  (∀ s d t, s.time.pairStep = some (d, t) → t ≤ now s → 0 ≤ (now s : Int) + d → (now s : Int) + d < 2 ^ 64 →
    ∃ u, exec .pairTimeStep s = .next u ∧ (now u : Int) = now s + d) ∧
  (∀ (p : Fin 4) d s, portUp p.val s = true → d.domain = ptpDomain s → -4 ≤ d.logSyncInterval → d.logSyncInterval ≤ 0 → tabGet none s.time.masters p.val = none →
    ∃ u, exec (.ptpAnnounce p d) s = .next u ∧ u.time.masters = tabSet none s.time.masters p.val (some d)) ∧
  (∀ (p : Fin 4) n o c rx s, portUp p.val s = true → (tabGet none s.time.masters p.val).isSome = true →
    ∃ u e, exec (.ptpSync p n true o c rx) s = .next (emit (.frame p.val 0x88F7 (be 2 n.toNat)) u) ∧ u.time.exchange = tabSet none s.time.exchange p.val (some e) ∧
      e.seq = n ∧ e.origin = none) ∧
  (∀ (p : Fin 4) o c s e, tabGet none s.time.exchange p.val = some e → e.origin = none → exec (.ptpFollowUp p e.seq o c) s = .next { s with time := { s.time with
    exchange := tabSet none s.time.exchange p.val (some { e with origin := some (o + c) }) } }) ∧
  (∀ (p : Fin 4) tx (r : Nat) (c : Int) s e t1, tabGet none s.time.exchange p.val = some e → e.origin = some t1 → tabGet [] s.time.delays p.val = [] → s.time.masterPort ≠ p.val →
    ∃ u x, exec (.ptpDelayResp p tx r c) s = .next u ∧ u.time.exchange = tabSet none s.time.exchange p.val none ∧ u.time.delays = tabSet [] s.time.delays p.val [x]) ∧
  (∀ s, s.time.source = 1 → s.time.servo = .locked → s.time.lastMeasured + 3 * sec ≤ now s → exec .syncTimeout s = .next (sourceLost s)) ∧
  (∀ s t, s.time.quietSince = some t → s.time.large = true → t + 10 * sec ≤ now s → ∃ u, exec .offsetQuiet s = .next u ∧ u.time = { s.time with large := false }) ∧
  (∀ w s, s.time.ppsLast = none → exec (.ppsEdge w) s = .next { s with time := { s.time with ppsCapture := w, ppsLast := some (extend w (now s)) } }) ∧
  (∀ s (t : Int), s.time.ppsLast = some t → s.time.ppsOk = true → t + 3 * sec + ms ≤ now s → s.time.source ≠ 1 →
    exec .ppsMissing s = .next { s with time := { s.time with ppsOk := false } }) ∧
  (∀ ppb s, use10Mhz s = true → s.time.valid = true → ∃ u, exec (.ref10Measure ppb) s = .next u ∧ u.time.ref10Error = BitVec.ofInt 32 ppb) ∧
  (∀ s, s.time.ppsOutEn = true → s.time.valid = true → s.time.ppsOut = false → now s % sec < s.time.inc.toNat / 2 ^ 24 → ∃ u, exec .ppsOutSecond s = .next u ∧ u.time.ppsOut = true) ∧
  (∀ s, s.time.plinthLoaded = true → s.time.valid = true → s.time.plinthAt + 3600 * sec ≤ now s → 2 < ((ticksOf (now s) : Int) - s.plinth.ticks.toNat).natAbs → exec .plinthReload s = .next (loadPlinth s)) ∧
  (∀ s, s.time.valid = false → firmwareRuns s = true → due s.time.lastNotValid (3600 * sec) (now s) = true →
    ∃ u, exec .timeNotValidWarning s = .next u ∧ u.time = { s.time with lastNotValid := some (now s) }) ∧
  (∀ x s, s.modes.mode = .standby → exec (.drawbarTime x) s = .next (servoStep x (1 / 1000) { s with time := { s.time with source := 3 } })) ∧
  (∀ s, s.modes.mode = .standby → s.time.source = 3 → ∃ u, exec .timeStreamStop s = .next u ∧ u.time.servo = .holdover)

/-- Under its own conditions each of these answers a next state with its effect: a read of RTC_TICKS_LO takes the snapshot; the two loads are pending; MARK_LOST and the retention monitor set RETAIN_LOST; a load due is applied; the count and the day wrap; an alarm that matches is marked; a low cell is shown; the power-on reset clears the counts; the recorder's writer stores the first record of the reserve; a flood is judged at a new second; the coalescing of a second ends with empty counts. -/
def Obligations.PlinthAndRecorderEventsComplete : Prop :=
  (∀ s, ∃ u, exec .rtcTicksLoRead s = .next u ∧ u.plinth.hiSnap = s.plinth.ticks.extractLsb' 32 16 ∧ u.host.readValue = s.plinth.ticks.setWidth 32) ∧
  (∀ s, s.plinth.pendTicks = false → s.plinth.pendWday = false →
    (∃ u, exec .rtcCtrlLoadTicks s = .next u ∧ u.plinth.pendTicks = true) ∧ ∃ u, exec .rtcCtrlLoadWday s = .next u ∧ u.plinth.pendWday = true) ∧
  (∀ s, (∃ u, exec .rtcCtrlMarkLost s = .next u ∧ u.plinth.retainLost = true) ∧ ∃ u, exec .retentionMonitorTrip s = .next u ∧ u.plinth.retainLost = true) ∧
  (∀ s, s.plinth.pendTicks = true → s.plinth.loadWait = 0 → ∃ u, exec .rtcLoadApply s = .next u ∧ u.plinth.ticks = s.plinth.loadHi ++ s.plinth.loadLo) ∧
  (∀ s, s.plinth.ticks = 0xFFFFFFFFFFFF#48 → s.plinth.pendTicks = false → ∃ u, exec .rtcWrap s = .next u ∧ u.plinth.ticks = 0) ∧
  (∀ s, s.plinth.phase.toNat + 1 = dayTicks → s.plinth.pendWday = false → ∃ u, exec .dayPhaseRollover s = .next u ∧ u.plinth.phase = 0) ∧
  (∀ (n : Fin 2) s, s.plinth.alarms[n].matched = false → alarmMatches s.plinth.alarms[n] (edgeCounts s.plinth).1 (edgeCounts s.plinth).2.1 = true →
    ∃ u, exec (.rtcAlarmMatch n) s = .next u ∧ u.plinth.alarms[n].matched = true) ∧
  (∀ mv s, mainPower s = true → mv < 2500 → s.plinth.battLow = false → ∃ u, exec (.cellMeasurement mv) s = .next u ∧ u.plinth = { s.plinth with battLow := true }) ∧
  (∀ s, ∃ u, exec .plinthPowerOnReset s = .next u ∧ u.plinth.ticks = 0 ∧ u.plinth.wday = 0 ∧ u.plinth.phase = 0) ∧
  (∀ s r rs, writerRuns s = true → s.recorder.reserve = r :: rs → s.recorder.waiting = [] → openRoom r s.recorder.segs = true →
    ∃ u, exec .recorderWrite s = .next u ∧ u.recorder.segs = appendRecord r s.recorder.next s.recorder.segs) ∧
  (∀ s, s.recorder.judged < now s / sec → s.recorder.paths.toList.any (·.flood) = true → writerRuns s = true →
    ∃ u, exec .floodSummary s = .next u ∧ u.recorder.judged = now s / sec) ∧
  (∀ s, ∃ u, exec .perSecondCoalescing s = .next u ∧ u.image.corrections = [] ∧ u.image.unmapped = [] ∧ u.image.substs = [])

/-- Under its own conditions each of these answers a next state with its effect: a heartbeat is sent, received and lost; the life line toggles and goes stale; a high PAIR_ACT is held; a conflict takes the line from position 1; an unrefreshed field section goes off; DEMOTE is held by a standby out of step; a late takeover ends in SAFE; a link comes up; a hello is held; reach demotes; a retry begins the catch-up; the cross-fade starts and steps; the hand-over acts at T_h and ends; verification resumes; agreed inputs and a digest are kept; missing inputs end the step; a control message is applied; the catch-up joins, and is suspended. -/
def Obligations.PairEventsComplete : Prop :=
  (∀ s, pairConfigured s = true → s.modes.mode ≠ .plinth → exec .heartbeatSend s = .next (emit (.heartbeat (heartbeatOf s)) { s with pair := { s.pair with hbSeq := s.pair.hbSeq + 1 } })) ∧
  (∀ l h s, pairConfigured s = true → ∃ u, exec (.heartbeatReceived l h) s = .next u ∧ u.pair.lastHb = now s) ∧
  (∀ s, pairConfigured s = true → s.pair.partnerLost = false → s.pair.lastHb + 1550 * us ≤ now s → ∃ u, exec .heartbeatLoss s = .next u ∧ u.pair.partnerLost = true) ∧
  (∀ s, s.modes.mode = .run → ∃ u, exec .pairLiveToggle s = .next u ∧ u.pair.liveOut = !s.pair.liveOut) ∧
  (∀ s, pairConfigured s = false ∨ s.modes.mode ≠ .standby → ∃ u, exec .pairLiveStale s = .next u ∧ u.pair.liveStale = true) ∧
  (∀ s, pairConfigured s = true → s.pair.st ≠ .demoting → ∃ u, exec (.pairActIChange true) s = .next u ∧ u.pair.actIn = true) ∧
  (∀ s, operating s = true → s.pair.st = .activeAlone → s.pair.actOut = true → s.pair.actIn = true → s.pair.liveStale = false → s.pair.demoted = false →
    s.pair.position = true → ∃ u, exec .activityConflict s = .next u ∧ u.modes.mode = .standby ∧ u.pair.actOut = false) ∧
  (∀ s, s.pair.refreshed + ms ≤ now s → exec .fieldRefreshTimeout s = .next (outputsOff s)) ∧
  (∀ l s, pairConfigured s = true → s.pair.demoted = false → s.modes.mode = .standby → s.pair.st = .outOfStep → ∃ u, exec (.demoteReceived l) s = .next u ∧ u.pair.demoted = true) ∧
  (∀ s, operating s = true → s.pair.st = .demoting → s.pair.handAt = none → s.pair.demoteAt + 5 * ms ≤ now s → ∃ u, exec .demotionTakeoverTimeout s = .next u ∧ u.modes.mode = .safe) ∧
  (∀ (l : Fin 2) s, healthOf (0x30 + l.val) s ≠ 2 → s.pair.up[l] = false → ∃ u, exec (.drawbarLinkChange l true) s = .next u ∧ u.pair.up = s.pair.up.set l true) ∧
  (∀ l h s, s.modes.mode = .safe → ∃ u, exec (.drawbarHello l h) s = .next u ∧ u.pair.hello = some h) ∧
  (∀ s h, s.pair.partner = some h → bit (fld8 s.pair.rcd 0) 1 = true → s.pair.st = .activePaired → operating s = true → h.pubLinksUp = true → pubLinksUp s = false →
    reach s + fld16 s.pair.rcd 4 ≤ h.reach → ∀ t, s.pair.reachSince = some t → t + fld16 s.pair.rcd 6 * ms ≤ now s → ∃ u, exec .reachDemote s = .next u ∧ u.pair.st = .demoting) ∧
  (∀ s, s.pair.st = .outOfStep → s.modes.mode = .standby → s.pair.up.toList.any id = true → s.pair.failed = 0 → s.pair.leftAt + 5 * sec ≤ now s →
    exec .outOfStepRetry s = .next (beginCatchup s)) ∧
  (∀ s t, s.pair.handAt = some t → s.pair.st = .handingOver → s.pair.handed = false → s.pair.former = true →
    (s.pair.fading = false → t ≤ now s + ms → ∃ u, exec .crossfadeStart s = .next u ∧ u.pair.fading = true) ∧
    (t ≤ now s → ∃ u, exec .handoverTime s = .next u ∧ u.pair.handed = true ∧ u.pair.actOut = false)) ∧
  (∀ s, s.pair.fading = true → s.pair.former = true → ∃ u, exec .crossfadeStep s = .next u ∧ u.pair.share = s.pair.share - 1) ∧
  (∀ s t, s.pair.handAt = some t → t + ms ≤ now s → operating s = true → s.pair.st = .handingOver → s.pair.handed = true → s.pair.former = false →
    ∃ u, exec .handoverEnd s = .next u ∧ u.pair.st = .activePaired ∧ u.pair.handAt = none) ∧
  (∀ s t, s.pair.verifyAt = some t → t ≤ now s → ∃ u, exec .verificationResume s = .next u ∧ u.pair.verifyAt = none) ∧
  (∀ s g es, s.modes.mode = .standby → s.image.gen < g → (∀ m ∈ s.pair.merges, m.generation ≠ g) →
    ∃ u, exec (.agreedInputsReceived (.merge g es)) s = .next u ∧ u.pair.merges = s.pair.merges ++ [{ generation := g, entries := es }]) ∧
  (∀ (t : Fin 32) s, s.modes.mode = .standby → s.pair.st = .inStep → s.task[t].phase = .gathered → agreedFor t.val s = none → s.task[t].next + ms ≤ now s →
    ∃ u, exec (.agreedInputsTimeout t) s = .next u ∧ u.pair.st = .outOfStep) ∧
  (∀ (t : Fin 32) s n g sigs, s.modes.mode = .standby → tabGet [] s.pair.digests t.val = [] → s.task[t].phase ≠ .compared →
    ∃ u, exec (.commitDigestReceived t n sigs g) s = .next u ∧ u.pair.digests = tabSet [] s.pair.digests t.val [{ cycle := n, sigs := sigs, generation := g }]) ∧
  (∀ c s, s.modes.mode = .standby → exec (.pairControlMessage c) s = .next (applyControl c (drawbarArrives { s with pair := { s.pair with ctrlSeq := s.pair.ctrlSeq + 1 } }))) ∧
  (∀ s, s.pair.st = .catchingUp → s.modes.mode = .standby → s.pair.phase = 5 → ∃ u, exec (.catchupPhaseComplete .join) s = .next u ∧ u.pair.st = .inStep) ∧
  (∀ s, isActive s = true → partnerCatching s = true → s.pair.suspended = false → ∃ u, exec (.catchupSuspend false) s = .next u ∧ u.pair.suspended = true)
end

