-- ==== Sys2Proof/Laws/Tab.lean ====
section
/-! SUPPORT. Sparse tables and byte memories: every operation keeps the canonical form, a read after a write to the same place gives the
value written, and a write leaves every other place alone. -/

namespace Sys2Proof.Machine

variable {α : Type}

/-! ## Reads after writes -/

@[simp] theorem tabGet_nil (d : α) (k : Nat) : tabGet d [] k = d := rfl

@[simp] theorem tabGet_insert_same (d : α) (k : Nat) (v : α) (t : Tab α) : tabGet d (tabInsert k v t) k = v := by
  induction t with
  | nil => simp [tabInsert, tabGet]
  | cons p t ih =>
    obtain ⟨j, w⟩ := p
    simp only [tabInsert]
    split
    · simp [tabGet]
    · split
      · simp [tabGet]
      · rename_i h
        simp [tabGet, ih, Ne.symm h]

theorem tabGet_insert_other (d : α) {k i : Nat} (h : i ≠ k) (v : α) (t : Tab α) :
    tabGet d (tabInsert k v t) i = tabGet d t i := by
  induction t with
  | nil => simp [tabInsert, tabGet, Ne.symm h]
  | cons p t ih =>
    obtain ⟨j, w⟩ := p
    simp only [tabInsert]
    split
    · simp [tabGet, Ne.symm h]
    · split
      · rename_i e
        subst e
        simp [tabGet, Ne.symm h]
      · simp [tabGet, ih]

theorem tabGet_erase_other (d : α) {k i : Nat} (h : i ≠ k) (t : Tab α) : tabGet d (tabErase k t) i = tabGet d t i := by
  induction t with
  | nil => rfl
  | cons p t ih =>
    obtain ⟨j, w⟩ := p
    simp only [tabErase]
    split
    · rename_i e
      simp [tabGet, e, Ne.symm h]
    · simp [tabGet, ih]

/-- No index below the lowest listed one is listed. -/
theorem tabGet_below [DecidableEq α] (d : α) {lo i : Nat} (t : Tab α) (h : tabWfFrom d lo t = true) (hi : i < lo) : tabGet d t i = d := by
  induction t generalizing lo with
  | nil => rfl
  | cons p t ih =>
    obtain ⟨j, w⟩ := p
    simp only [tabWfFrom, Bool.and_eq_true, decide_eq_true_eq] at h
    have hj : j ≠ i := by omega
    simp only [tabGet, if_neg hj]
    exact ih h.2 (by omega)

theorem tabGet_erase_same [DecidableEq α] (d : α) (k : Nat) {lo : Nat} (t : Tab α) (h : tabWfFrom d lo t = true) :
    tabGet d (tabErase k t) k = d := by
  induction t generalizing lo with
  | nil => rfl
  | cons p t ih =>
    obtain ⟨j, w⟩ := p
    simp only [tabWfFrom, Bool.and_eq_true, decide_eq_true_eq] at h
    simp only [tabErase]
    split
    · rename_i e
      exact tabGet_below d t h.2 (by omega)
    · rename_i e
      simp only [tabGet, if_neg e]
      exact ih h.2

/-- A read after a write to the same index gives the value written. -/
@[simp] theorem tabGet_set_same [DecidableEq α] (d : α) (t : Tab α) (k : Nat) (v : α) (h : tabWf d t = true) :
    tabGet d (tabSet d t k v) k = v := by
  unfold tabSet
  split
  · rename_i e
    exact (tabGet_erase_same d k t h).trans e.symm
  · exact tabGet_insert_same d k v t

/-- A write leaves every other index alone. -/
theorem tabGet_set_other [DecidableEq α] (d : α) (t : Tab α) {k i : Nat} (v : α) (h : i ≠ k) :
    tabGet d (tabSet d t k v) i = tabGet d t i := by
  unfold tabSet
  split
  · exact tabGet_erase_other d h t
  · exact tabGet_insert_other d h v t

/-! ## The canonical form -/

theorem tabWfFrom_mono [DecidableEq α] (d : α) {lo hi : Nat} (h : lo ≤ hi) (t : Tab α) (w : tabWfFrom d hi t = true) :
    tabWfFrom d lo t = true := by
  cases t with
  | nil => rfl
  | cons p t =>
    obtain ⟨j, v⟩ := p
    simp only [tabWfFrom, Bool.and_eq_true, decide_eq_true_eq] at w ⊢
    exact ⟨⟨h.trans w.1.1, w.1.2⟩, w.2⟩

theorem tabInsert_wfFrom [DecidableEq α] (d : α) {k : Nat} {v : α} (hv : v ≠ d) {lo : Nat} (hk : lo ≤ k) (t : Tab α)
    (h : tabWfFrom d lo t = true) : tabWfFrom d lo (tabInsert k v t) = true := by
  induction t generalizing lo with
  | nil => simp [tabInsert, tabWfFrom, hk, hv]
  | cons p t ih =>
    obtain ⟨j, w⟩ := p
    simp only [tabWfFrom, Bool.and_eq_true, decide_eq_true_eq] at h
    simp only [tabInsert]
    split
    · simp only [tabWfFrom, Bool.and_eq_true, decide_eq_true_eq]
      exact ⟨⟨hk, hv⟩, ⟨by omega, h.1.2⟩, h.2⟩
    · split
      · rename_i e
        subst e
        simp only [tabWfFrom, Bool.and_eq_true, decide_eq_true_eq]
        exact ⟨⟨hk, hv⟩, h.2⟩
      · simp only [tabWfFrom, Bool.and_eq_true, decide_eq_true_eq]
        exact ⟨⟨h.1.1, h.1.2⟩, ih (by omega) h.2⟩

theorem tabErase_wfFrom [DecidableEq α] (d : α) (k : Nat) {lo : Nat} (t : Tab α) (h : tabWfFrom d lo t = true) :
    tabWfFrom d lo (tabErase k t) = true := by
  induction t generalizing lo with
  | nil => rfl
  | cons p t ih =>
    obtain ⟨j, w⟩ := p
    simp only [tabWfFrom, Bool.and_eq_true, decide_eq_true_eq] at h
    simp only [tabErase]
    split
    · exact tabWfFrom_mono d (by omega) t h.2
    · simp only [tabWfFrom, Bool.and_eq_true, decide_eq_true_eq]
      exact ⟨⟨h.1.1, h.1.2⟩, ih h.2⟩

/-- A write keeps the canonical form. -/
@[simp] theorem tabSet_wf [DecidableEq α] (d : α) (t : Tab α) (k : Nat) (v : α) (h : tabWf d t = true) :
    tabWf d (tabSet d t k v) = true := by
  unfold tabSet
  split
  · exact tabErase_wfFrom d k t h
  · rename_i hv
    exact tabInsert_wfFrom d hv (Nat.zero_le k) t h

theorem tabKeep_wfFrom [DecidableEq α] (d : α) (p : Nat → Bool) {lo : Nat} (t : Tab α) (h : tabWfFrom d lo t = true) :
    tabWfFrom d lo (tabKeep p t) = true := by
  induction t generalizing lo with
  | nil => rfl
  | cons q t ih =>
    obtain ⟨j, w⟩ := q
    simp only [tabWfFrom, Bool.and_eq_true, decide_eq_true_eq] at h
    simp only [tabKeep]
    split
    · simp only [tabWfFrom, Bool.and_eq_true, decide_eq_true_eq]
      exact ⟨⟨h.1.1, h.1.2⟩, ih h.2⟩
    · exact tabWfFrom_mono d (by omega) _ (ih h.2)

theorem tabMap_wfFrom [DecidableEq α] (d : α) (f : Nat → α → α) {lo : Nat} (t : Tab α) (h : tabWfFrom d lo t = true) :
    tabWfFrom d lo (tabMap d f t) = true := by
  induction t generalizing lo with
  | nil => rfl
  | cons q t ih =>
    obtain ⟨j, w⟩ := q
    simp only [tabWfFrom, Bool.and_eq_true, decide_eq_true_eq] at h
    simp only [tabMap]
    split
    · exact tabWfFrom_mono d (by omega) _ (ih h.2)
    · rename_i hv
      simp only [tabWfFrom, Bool.and_eq_true, decide_eq_true_eq]
      exact ⟨⟨h.1.1, hv⟩, ih h.2⟩

@[simp] theorem tabSetList_wf [DecidableEq α] (d : α) (t : Tab α) (k : Nat) (vs : List α) (h : tabWf d t = true) :
    tabWf d (tabSetList d t k vs) = true := by
  induction vs generalizing t k with
  | nil => exact h
  | cons v vs ih => exact ih _ _ (tabSet_wf d t k v h)

theorem tabGet_setList_below [DecidableEq α] (d : α) (t : Tab α) {k i : Nat} (vs : List α) (h : i < k) :
    tabGet d (tabSetList d t k vs) i = tabGet d t i := by
  induction vs generalizing t k with
  | nil => rfl
  | cons v vs ih => exact (ih _ (by omega)).trans (tabGet_set_other d t v (by omega))

/-! ## Byte memories -/

/-- A write of bytes keeps the canonical form of a memory. -/
@[simp] theorem memWriteN_wf (m : Mem) (x : Nat) (bs : List Byte) (h : memWf m = true) : memWf (memWriteN m x bs) = true :=
  tabSetList_wf 0 m x bs h

/-- A write of one byte keeps the canonical form of a memory. -/
@[simp] theorem memWrite_wf (m : Mem) (x : Nat) (v : Byte) (h : memWf m = true) : memWf (memWrite m x v) = true :=
  tabSet_wf 0 m x v h

/-- Zeroing bytes keeps the canonical form of a memory. -/
@[simp] theorem memZero_wf (m : Mem) (x n : Nat) (h : memWf m = true) : memWf (memZero m x n) = true :=
  tabKeep_wfFrom 0 _ m h

/-- The empty memory is in canonical form. -/
@[simp] theorem memWf_nil : memWf [] = true := rfl

/-- Bytes read after they were written are the bytes written. -/
theorem memReadN_writeN (m : Mem) (x : Nat) (bs : List Byte) (h : memWf m = true) : memReadN (memWriteN m x bs) x bs.length = bs := by
  induction bs generalizing m x with
  | nil => rfl
  | cons v vs ih =>
    have h1 := tabGet_setList_below (0 : Byte) (tabSet 0 m x v) vs (Nat.lt_succ_self x)
    have h2 := tabGet_set_same (0 : Byte) m x v h
    have h3 := ih (tabSet 0 m x v) (x + 1) (tabSet_wf 0 m x v h)
    simp only [memReadN, memWriteN, tabSetList, List.length_cons, tabGetList] at h3 ⊢
    rw [h1, h2, h3]

/-- A write of bytes leaves every byte outside it alone. -/
theorem memRead_writeN_other (m : Mem) (x i : Nat) (bs : List Byte) (h : i < x ∨ x + bs.length ≤ i) :
    memRead (memWriteN m x bs) i = memRead m i := by
  induction bs generalizing m x with
  | nil => rfl
  | cons v vs ih =>
    have h1 := ih (tabSet 0 m x v) (x + 1) (by simp only [List.length_cons] at h; omega)
    refine h1.trans ?_
    exact tabGet_set_other 0 m v (by simp only [List.length_cons] at h; omega)

/-- Zeroed bytes read as zero, and every other byte as before. -/
theorem memRead_zero (m : Mem) (x n i : Nat) : memRead (memZero m x n) i = if x ≤ i ∧ i < x + n then 0 else memRead m i := by
  induction m with
  | nil => simp [memZero, tabKeep, memRead, tabGet]
  | cons p t ih =>
    obtain ⟨j, w⟩ := p
    simp only [memRead, memZero, tabKeep, tabGet] at ih ⊢
    by_cases hj : j < x ∨ x + n ≤ j
    · have : (decide (j < x) || decide (x + n ≤ j)) = true := by simpa using hj
      rw [if_pos this]
      simp only [tabGet]
      split
      · rename_i e
        subst e
        rw [if_neg (by omega)]
      · exact ih
    · have : ¬(decide (j < x) || decide (x + n ≤ j)) = true := by simpa using hj
      rw [if_neg this, ih]
      split
      · rfl
      · rw [if_neg (by omega)]

/-! ## Little-endian numbers -/

@[simp] theorem le_length (n v : Nat) : (le n v).length = n := by
  induction n generalizing v with
  | zero => rfl
  | succ n ih => simp [le, ih]

/-- A number written little-endian reads back modulo its width. -/
theorem unle_le (n v : Nat) : unle (le n v) = v % 256 ^ n := by
  induction n generalizing v with
  | zero => simp [le, unle, Nat.mod_one]
  | succ n ih =>
    have h : 256 ^ (n + 1) = 256 * 256 ^ n := by ring
    rw [h, Nat.mod_mul]
    simp [le, unle, ih]

end Sys2Proof.Machine
end

