-- ==== Sys2Proof/Laws/Bytes.lean ====
section
/-! SUPPORT. Lengths of byte fields, and which part of a layout a field reads. -/

namespace Sys2Proof.Machine

@[simp] theorem zeros_length (n : Nat) : (zeros n).length = n := by simp [zeros]

@[simp] theorem slice_length (bs : List Byte) (off n : Nat) : (slice bs off n).length = n := by
  simp only [slice, List.length_append, zeros_length, List.length_take, List.length_drop]
  omega

/-- A field that lies in the first part of a layout. -/
theorem fld_append_left {xs ys : List Byte} {off n : Nat} (h : off + n ≤ xs.length) : fld (xs ++ ys) off n = fld xs off n := by
  simp only [fld]
  rw [List.drop_append_of_le_length (by omega), List.take_append_of_le_length (by simp; omega)]

/-- A field that lies behind the first part of a layout. -/
theorem fld_append_right {xs ys : List Byte} {off n : Nat} (h : xs.length ≤ off) : fld (xs ++ ys) off n = fld ys (off - xs.length) n := by
  simp only [fld]
  rw [List.drop_append, List.drop_eq_nil_of_le h, List.nil_append]

/-- A field reads the number laid there, modulo its width. -/
@[simp] theorem fld_le (n v : Nat) : fld (le n v) 0 n = v % 256 ^ n := by
  simp only [fld, List.drop_zero]
  rw [List.take_of_length_le (by simp)]
  exact unle_le n v

@[simp] theorem fld8_le (v : Nat) (ys : List Byte) : fld8 (le 1 v ++ ys) 0 = v % 256 := by
  rw [fld8, fld_append_left (by simp)]
  simp

@[simp] theorem fld16_le (v : Nat) (ys : List Byte) : fld16 (le 2 v ++ ys) 0 = v % 65536 := by
  rw [fld16, fld_append_left (by simp)]
  simp

@[simp] theorem fld32_le (v : Nat) (ys : List Byte) : fld32 (le 4 v ++ ys) 0 = v % 4294967296 := by
  rw [fld32, fld_append_left (by simp)]
  simp

@[simp] theorem fld64_le (v : Nat) (ys : List Byte) : fld64 (le 8 v ++ ys) 0 = v % 18446744073709551616 := by
  rw [fld64, fld_append_left (by simp)]
  simp

/-- Bytes that lie in the first part of a layout. -/
theorem slice_append_left {xs ys : List Byte} {off n : Nat} (h : off + n ≤ xs.length) : slice (xs ++ ys) off n = slice xs off n := by
  simp only [slice]
  rw [List.drop_append_of_le_length (by omega), List.take_append_of_le_length (by simp; omega)]

/-- Bytes that lie behind the first part of a layout. -/
theorem slice_append_right {xs ys : List Byte} {off n : Nat} (h : xs.length ≤ off) :
    slice (xs ++ ys) off n = slice ys (off - xs.length) n := by
  simp only [slice]
  rw [List.drop_append, List.drop_eq_nil_of_le h, List.nil_append]

/-- A whole part of a layout. -/
@[simp] theorem slice_self {xs : List Byte} {n : Nat} (h : xs.length = n) : slice xs 0 n = xs := by
  simp [slice, zeros, ← h]

end Sys2Proof.Machine
end

