-- ==== Sys2Proof/Laws/Commands.lean ====
section
/-! SUPPORT. A command in flight runs to its answer; any other state of its mailbox is left alone (R473, R475, R482). -/

namespace Sys2Proof.Machine

theorem runCommand_inFlight {m : MbxId} {k : Nat} {q : Req} {s : State} (h : InFlight m k q s) (f : Req → State → State × Resp) :
    runCommand k m f s = respond m (f q s).2 (f q s).1 := by
  obtain ⟨b, hb, h2, hk, rfl⟩ := h
  simp only [runCommand, hb]
  rw [if_pos ⟨h2, hk⟩]
  rfl

theorem readCommand_inFlight {m : MbxId} {k : Nat} {q : Req} {s : State} (h : InFlight m k q s) (f : Req → State → Resp) :
    readCommand k m f s = respond m (f q s) s := runCommand_inFlight h _

theorem runCommand_idle {m : MbxId} {k : Nat} {s : State} (h : ¬∃ q, InFlight m k q s) (f : Req → State → State × Resp) :
    runCommand k m f s = s := by
  unfold runCommand
  split
  · rfl
  · rename_i b hb
    rw [if_neg fun hc => h ⟨_, b, hb, hc.1, hc.2, rfl⟩]

theorem readCommand_idle {m : MbxId} {k : Nat} {s : State} (h : ¬∃ q, InFlight m k q s) (f : Req → State → Resp) :
    readCommand k m f s = s := runCommand_idle h _

end Sys2Proof.Machine
end

