-- ==== Sys2Proof/Laws/Within.lean ====
section
/-! SUPPORT. Frames compose: what changes only some parts, after what changes only some parts. -/

namespace Sys2Proof.Machine

/-- Every part of one list is in the other. -/
def Part.sub (ws ps : List Part) : Bool := ws.all ps.contains

theorem Within.refl (ps : List Part) (s : State) : Within ps s s := ⟨fun p _ => by cases p <;> rfl⟩

theorem Part.same_trans {p : Part} {s t u : State} (h : p.same s t) (k : p.same t u) : p.same s u := by
  cases p <;> exact Eq.trans k h

theorem Within.trans {ps : List Part} {s t u : State} (h : Within ps s t) (k : Within ps t u) : Within ps s u :=
  ⟨fun p hp => Part.same_trans (h.same p hp) (k.same p hp)⟩

theorem Within.mono {ws ps : List Part} {s t : State} (h : Within ws s t) (c : Part.sub ws ps = true) : Within ps s t := by
  refine ⟨fun p hp => h.same p ?_⟩
  by_contra hq
  have hm : p ∈ ws := by simpa using hq
  have := (List.all_eq_true.mp c) p hm
  simp_all

/-- One more change, of parts that may change. -/
theorem Within.step {ws ps : List Part} {s t u : State} (h : Within ws t u) (c : Part.sub ws ps = true) (k : Within ps s t) :
    Within ps s u := k.trans (h.mono c)

theorem Within.ite {c : Prop} [Decidable c] {ps : List Part} {s a b : State} (h : c → Within ps s a) (k : ¬c → Within ps s b) :
    Within ps s (if c then a else b) := by
  split
  · exact h ‹_›
  · exact k ‹_›

theorem Within.ite_fst {α : Type} {c : Prop} [Decidable c] {ps : List Part} {s : State} {a b : State × α} (h : c → Within ps s a.1)
    (k : ¬c → Within ps s b.1) : Within ps s (if c then a else b).1 := by
  split
  · exact h ‹_›
  · exact k ‹_›

theorem Within.ite_snd {α : Type} {c : Prop} [Decidable c] {ps : List Part} {s : State} {a b : α × State} (h : c → Within ps s a.2)
    (k : ¬c → Within ps s b.2) : Within ps s (if c then a else b).2 := by
  split
  · exact h ‹_›
  · exact k ‹_›

theorem Within.foldl {α : Type} {ps : List Part} {f : State → α → State} (h : ∀ t x, Within ps t (f t x)) (xs : List α) {s t : State}
    (k : Within ps s t) : Within ps s (xs.foldl f t) := by
  induction xs generalizing t with
  | nil => exact k
  | cons x xs ih => exact ih (k.trans (h t x))

theorem Within.foldl_fst {α β : Type} {ps : List Part} {f : State × β → α → State × β} (h : ∀ t x, Within ps t.1 (f t x).1)
    (xs : List α) {s : State} {t : State × β} (k : Within ps s t.1) : Within ps s (xs.foldl f t).1 := by
  induction xs generalizing t with
  | nil => exact k
  | cons x xs ih => exact ih (k.trans (h t x))

theorem Within.foldl_snd {α β : Type} {ps : List Part} {f : β × State → α → β × State} (h : ∀ t x, Within ps t.2 (f t x).2)
    (xs : List α) {s : State} {t : β × State} (k : Within ps s t.2) : Within ps s (xs.foldl f t).2 := by
  induction xs generalizing t with
  | nil => exact k
  | cons x xs ih => exact ih (k.trans (h t x))

/-- A new value for one part, or for several. -/
theorem Within.of_parts {ws ps : List Part} {s t u : State} (h : ∀ p, ws.contains p = false → p.same t u) (c : Part.sub ws ps = true)
    (k : Within ps s t) : Within ps s u := Within.step ⟨h⟩ c k

theorem Within.set_recorder {ps : List Part} {s t : State} {x0} (c : Part.sub [.recorder] ps = true)
    (k : Within ps s t) : Within ps s { t with recorder := x0 } := by
  refine .of_parts (t := t) (fun p hp => ?_) c k
  cases p <;> first | rfl | cases hp

theorem Within.set_host {ps : List Part} {s t : State} {x0} (c : Part.sub [.host] ps = true)
    (k : Within ps s t) : Within ps s { t with host := x0 } := by
  refine .of_parts (t := t) (fun p hp => ?_) c k
  cases p <;> first | rfl | cases hp

theorem Within.set_time {ps : List Part} {s t : State} {x0} (c : Part.sub [.time] ps = true)
    (k : Within ps s t) : Within ps s { t with time := x0 } := by
  refine .of_parts (t := t) (fun p hp => ?_) c k
  cases p <;> first | rfl | cases hp

theorem Within.set_plinth {ps : List Part} {s t : State} {x0} (c : Part.sub [.plinth] ps = true)
    (k : Within ps s t) : Within ps s { t with plinth := x0 } := by
  refine .of_parts (t := t) (fun p hp => ?_) c k
  cases p <;> first | rfl | cases hp

theorem Within.set_power {ps : List Part} {s t : State} {x0} (c : Part.sub [.power] ps = true)
    (k : Within ps s t) : Within ps s { t with power := x0 } := by
  refine .of_parts (t := t) (fun p hp => ?_) c k
  cases p <;> first | rfl | cases hp

theorem Within.set_cpl {ps : List Part} {s t : State} {x0} (c : Part.sub [.cpl] ps = true)
    (k : Within ps s t) : Within ps s { t with cpl := x0 } := by
  refine .of_parts (t := t) (fun p hp => ?_) c k
  cases p <;> first | rfl | cases hp

theorem Within.set_task {ps : List Part} {s t : State} {x0} (c : Part.sub [.task] ps = true)
    (k : Within ps s t) : Within ps s { t with task := x0 } := by
  refine .of_parts (t := t) (fun p hp => ?_) c k
  cases p <;> first | rfl | cases hp

theorem Within.set_retained {ps : List Part} {s t : State} {x0} (c : Part.sub [.retained] ps = true)
    (k : Within ps s t) : Within ps s { t with retained := x0 } := by
  refine .of_parts (t := t) (fun p hp => ?_) c k
  cases p <;> first | rfl | cases hp

theorem Within.set_image {ps : List Part} {s t : State} {x0} (c : Part.sub [.image] ps = true)
    (k : Within ps s t) : Within ps s { t with image := x0 } := by
  refine .of_parts (t := t) (fun p hp => ?_) c k
  cases p <;> first | rfl | cases hp

theorem Within.set_pub {ps : List Part} {s t : State} {x0} (c : Part.sub [.pub] ps = true)
    (k : Within ps s t) : Within ps s { t with pub := x0 } := by
  refine .of_parts (t := t) (fun p hp => ?_) c k
  cases p <;> first | rfl | cases hp

theorem Within.set_prog {ps : List Part} {s t : State} {x0} (c : Part.sub [.prog] ps = true)
    (k : Within ps s t) : Within ps s { t with prog := x0 } := by
  refine .of_parts (t := t) (fun p hp => ?_) c k
  cases p <;> first | rfl | cases hp

theorem Within.set_loop {ps : List Part} {s t : State} {x0} (c : Part.sub [.loop] ps = true)
    (k : Within ps s t) : Within ps s { t with loop := x0 } := by
  refine .of_parts (t := t) (fun p hp => ?_) c k
  cases p <;> first | rfl | cases hp

theorem Within.set_uc {ps : List Part} {s t : State} {x0} (c : Part.sub [.uc] ps = true)
    (k : Within ps s t) : Within ps s { t with uc := x0 } := by
  refine .of_parts (t := t) (fun p hp => ?_) c k
  cases p <;> first | rfl | cases hp

theorem Within.set_cj {ps : List Part} {s t : State} {x0} (c : Part.sub [.cj] ps = true)
    (k : Within ps s t) : Within ps s { t with cj := x0 } := by
  refine .of_parts (t := t) (fun p hp => ?_) c k
  cases p <;> first | rfl | cases hp

theorem Within.set_dig {ps : List Part} {s t : State} {x0} (c : Part.sub [.dig] ps = true)
    (k : Within ps s t) : Within ps s { t with dig := x0 } := by
  refine .of_parts (t := t) (fun p hp => ?_) c k
  cases p <;> first | rfl | cases hp

theorem Within.set_counter {ps : List Part} {s t : State} {x0} (c : Part.sub [.counter] ps = true)
    (k : Within ps s t) : Within ps s { t with counter := x0 } := by
  refine .of_parts (t := t) (fun p hp => ?_) c k
  cases p <;> first | rfl | cases hp

theorem Within.set_group {ps : List Part} {s t : State} {x0} (c : Part.sub [.group] ps = true)
    (k : Within ps s t) : Within ps s { t with group := x0 } := by
  refine .of_parts (t := t) (fun p hp => ?_) c k
  cases p <;> first | rfl | cases hp

theorem Within.set_safety {ps : List Part} {s t : State} {x0} (c : Part.sub [.safety] ps = true)
    (k : Within ps s t) : Within ps s { t with safety := x0 } := by
  refine .of_parts (t := t) (fun p hp => ?_) c k
  cases p <;> first | rfl | cases hp

theorem Within.set_net {ps : List Part} {s t : State} {x0} (c : Part.sub [.net] ps = true)
    (k : Within ps s t) : Within ps s { t with net := x0 } := by
  refine .of_parts (t := t) (fun p hp => ?_) c k
  cases p <;> first | rfl | cases hp

theorem Within.set_can {ps : List Part} {s t : State} {x0} (c : Part.sub [.can] ps = true)
    (k : Within ps s t) : Within ps s { t with can := x0 } := by
  refine .of_parts (t := t) (fun p hp => ?_) c k
  cases p <;> first | rfl | cases hp

theorem Within.set_panel {ps : List Part} {s t : State} {x0} (c : Part.sub [.panel] ps = true)
    (k : Within ps s t) : Within ps s { t with panel := x0 } := by
  refine .of_parts (t := t) (fun p hp => ?_) c k
  cases p <;> first | rfl | cases hp

theorem Within.set_updates {ps : List Part} {s t : State} {x0} (c : Part.sub [.updates] ps = true)
    (k : Within ps s t) : Within ps s { t with updates := x0 } := by
  refine .of_parts (t := t) (fun p hp => ?_) c k
  cases p <;> first | rfl | cases hp

theorem Within.set_pair {ps : List Part} {s t : State} {x0} (c : Part.sub [.pair] ps = true)
    (k : Within ps s t) : Within ps s { t with pair := x0 } := by
  refine .of_parts (t := t) (fun p hp => ?_) c k
  cases p <;> first | rfl | cases hp

theorem Within.set_modes {ps : List Part} {s t : State} {x0} (a : x0.mode = t.modes.mode) (b : x0.life = t.modes.life) (c : Part.sub [.modes] ps = true)
    (k : Within ps s t) : Within ps s { t with modes := x0 } := by
  refine .of_parts (t := t) (fun p hp => ?_) c k
  cases p <;> first | rfl | exact a | exact b | cases hp

theorem Within.set_modes_mode {ps : List Part} {s t : State} {x0} (b : x0.life = t.modes.life) (c : Part.sub [.modes, .mode] ps = true)
    (k : Within ps s t) : Within ps s { t with modes := x0 } := by
  refine .of_parts (t := t) (fun p hp => ?_) c k
  cases p <;> first | rfl | exact b | cases hp

theorem Within.set_modes_life {ps : List Part} {s t : State} {x0} (a : x0.mode = t.modes.mode) (c : Part.sub [.modes, .life] ps = true)
    (k : Within ps s t) : Within ps s { t with modes := x0 } := by
  refine .of_parts (t := t) (fun p hp => ?_) c k
  cases p <;> first | rfl | exact a | cases hp

theorem Within.set_modes_mode_life {ps : List Part} {s t : State} {x0} (c : Part.sub [.modes, .mode, .life] ps = true)
    (k : Within ps s t) : Within ps s { t with modes := x0 } := by
  refine .of_parts (t := t) (fun p hp => ?_) c k
  cases p <;> first | rfl | cases hp

theorem Within.set_cfg {ps : List Part} {s t : State} {x0} (c : Part.sub [.cfg] ps = true)
    (k : Within ps s t) : Within ps s { t with cfg := x0 } := by
  refine .of_parts (t := t) (fun p hp => ?_) c k
  cases p <;> first | rfl | cases hp

theorem Within.set_fw {ps : List Part} {s t : State} {x0} (c : Part.sub [.fw] ps = true)
    (k : Within ps s t) : Within ps s { t with fw := x0 } := by
  refine .of_parts (t := t) (fun p hp => ?_) c k
  cases p <;> first | rfl | cases hp

theorem Within.set_out {ps : List Part} {s t : State} {x0} (c : Part.sub [.out] ps = true)
    (k : Within ps s t) : Within ps s { t with out := x0 } := by
  refine .of_parts (t := t) (fun p hp => ?_) c k
  cases p <;> first | rfl | cases hp

theorem Within.set_fresh {ps : List Part} {s t : State} {x0} (c : Part.sub [.fresh] ps = true)
    (k : Within ps s t) : Within ps s { t with fresh := x0 } := by
  refine .of_parts (t := t) (fun p hp => ?_) c k
  cases p <;> first | rfl | cases hp

theorem Within.set_pending {ps : List Part} {s t : State} {x0} (c : Part.sub [.pending] ps = true)
    (k : Within ps s t) : Within ps s { t with pending := x0 } := by
  refine .of_parts (t := t) (fun p hp => ?_) c k
  cases p <;> first | rfl | cases hp

theorem Within.set_cpl_cfg {ps : List Part} {s t : State} {x0 x1} (c : Part.sub [.cpl, .cfg] ps = true)
    (k : Within ps s t) : Within ps s { t with cpl := x0, cfg := x1 } := by
  refine .of_parts (t := t) (fun p hp => ?_) c k
  cases p <;> first | rfl | cases hp

theorem Within.set_cpl_image {ps : List Part} {s t : State} {x0 x1} (c : Part.sub [.cpl, .image] ps = true)
    (k : Within ps s t) : Within ps s { t with cpl := x0, image := x1 } := by
  refine .of_parts (t := t) (fun p hp => ?_) c k
  cases p <;> first | rfl | cases hp

theorem Within.set_cpl_loop {ps : List Part} {s t : State} {x0 x1} (c : Part.sub [.cpl, .loop] ps = true)
    (k : Within ps s t) : Within ps s { t with cpl := x0, loop := x1 } := by
  refine .of_parts (t := t) (fun p hp => ?_) c k
  cases p <;> first | rfl | cases hp

theorem Within.set_host_power_cpl_pair_modes {ps : List Part} {s t : State} {x0 x1 x2 x3 x4} (a : x4.mode = t.modes.mode) (b : x4.life = t.modes.life) (c : Part.sub [.host, .power, .cpl, .pair, .modes] ps = true)
    (k : Within ps s t) : Within ps s { t with host := x0, power := x1, cpl := x2, pair := x3, modes := x4 } := by
  refine .of_parts (t := t) (fun p hp => ?_) c k
  cases p <;> first | rfl | exact a | exact b | cases hp

theorem Within.set_host_power_cpl_pair_modes_mode {ps : List Part} {s t : State} {x0 x1 x2 x3 x4} (b : x4.life = t.modes.life) (c : Part.sub [.host, .power, .cpl, .pair, .modes, .mode] ps = true)
    (k : Within ps s t) : Within ps s { t with host := x0, power := x1, cpl := x2, pair := x3, modes := x4 } := by
  refine .of_parts (t := t) (fun p hp => ?_) c k
  cases p <;> first | rfl | exact b | cases hp

theorem Within.set_host_power_cpl_pair_modes_life {ps : List Part} {s t : State} {x0 x1 x2 x3 x4} (a : x4.mode = t.modes.mode) (c : Part.sub [.host, .power, .cpl, .pair, .modes, .life] ps = true)
    (k : Within ps s t) : Within ps s { t with host := x0, power := x1, cpl := x2, pair := x3, modes := x4 } := by
  refine .of_parts (t := t) (fun p hp => ?_) c k
  cases p <;> first | rfl | exact a | cases hp

theorem Within.set_host_power_cpl_pair_modes_mode_life {ps : List Part} {s t : State} {x0 x1 x2 x3 x4} (c : Part.sub [.host, .power, .cpl, .pair, .modes, .mode, .life] ps = true)
    (k : Within ps s t) : Within ps s { t with host := x0, power := x1, cpl := x2, pair := x3, modes := x4 } := by
  refine .of_parts (t := t) (fun p hp => ?_) c k
  cases p <;> first | rfl | cases hp

theorem Within.set_image_net {ps : List Part} {s t : State} {x0 x1} (c : Part.sub [.image, .net] ps = true)
    (k : Within ps s t) : Within ps s { t with image := x0, net := x1 } := by
  refine .of_parts (t := t) (fun p hp => ?_) c k
  cases p <;> first | rfl | cases hp

theorem Within.set_image_pair {ps : List Part} {s t : State} {x0 x1} (c : Part.sub [.image, .pair] ps = true)
    (k : Within ps s t) : Within ps s { t with image := x0, pair := x1 } := by
  refine .of_parts (t := t) (fun p hp => ?_) c k
  cases p <;> first | rfl | cases hp

theorem Within.set_image_prog {ps : List Part} {s t : State} {x0 x1} (c : Part.sub [.image, .prog] ps = true)
    (k : Within ps s t) : Within ps s { t with image := x0, prog := x1 } := by
  refine .of_parts (t := t) (fun p hp => ?_) c k
  cases p <;> first | rfl | cases hp

theorem Within.set_image_pub_pair_modes {ps : List Part} {s t : State} {x0 x1 x2 x3} (a : x3.mode = t.modes.mode) (b : x3.life = t.modes.life) (c : Part.sub [.image, .pub, .pair, .modes] ps = true)
    (k : Within ps s t) : Within ps s { t with image := x0, pub := x1, pair := x2, modes := x3 } := by
  refine .of_parts (t := t) (fun p hp => ?_) c k
  cases p <;> first | rfl | exact a | exact b | cases hp

theorem Within.set_image_pub_pair_modes_mode {ps : List Part} {s t : State} {x0 x1 x2 x3} (b : x3.life = t.modes.life) (c : Part.sub [.image, .pub, .pair, .modes, .mode] ps = true)
    (k : Within ps s t) : Within ps s { t with image := x0, pub := x1, pair := x2, modes := x3 } := by
  refine .of_parts (t := t) (fun p hp => ?_) c k
  cases p <;> first | rfl | exact b | cases hp

theorem Within.set_image_pub_pair_modes_life {ps : List Part} {s t : State} {x0 x1 x2 x3} (a : x3.mode = t.modes.mode) (c : Part.sub [.image, .pub, .pair, .modes, .life] ps = true)
    (k : Within ps s t) : Within ps s { t with image := x0, pub := x1, pair := x2, modes := x3 } := by
  refine .of_parts (t := t) (fun p hp => ?_) c k
  cases p <;> first | rfl | exact a | cases hp

theorem Within.set_image_pub_pair_modes_mode_life {ps : List Part} {s t : State} {x0 x1 x2 x3} (c : Part.sub [.image, .pub, .pair, .modes, .mode, .life] ps = true)
    (k : Within ps s t) : Within ps s { t with image := x0, pub := x1, pair := x2, modes := x3 } := by
  refine .of_parts (t := t) (fun p hp => ?_) c k
  cases p <;> first | rfl | cases hp

theorem Within.set_image_safety {ps : List Part} {s t : State} {x0 x1} (c : Part.sub [.image, .safety] ps = true)
    (k : Within ps s t) : Within ps s { t with image := x0, safety := x1 } := by
  refine .of_parts (t := t) (fun p hp => ?_) c k
  cases p <;> first | rfl | cases hp

theorem Within.set_modes_cfg {ps : List Part} {s t : State} {x0 x1} (a : x0.mode = t.modes.mode) (b : x0.life = t.modes.life) (c : Part.sub [.modes, .cfg] ps = true)
    (k : Within ps s t) : Within ps s { t with modes := x0, cfg := x1 } := by
  refine .of_parts (t := t) (fun p hp => ?_) c k
  cases p <;> first | rfl | exact a | exact b | cases hp

theorem Within.set_modes_cfg_mode {ps : List Part} {s t : State} {x0 x1} (b : x0.life = t.modes.life) (c : Part.sub [.modes, .cfg, .mode] ps = true)
    (k : Within ps s t) : Within ps s { t with modes := x0, cfg := x1 } := by
  refine .of_parts (t := t) (fun p hp => ?_) c k
  cases p <;> first | rfl | exact b | cases hp

theorem Within.set_modes_cfg_life {ps : List Part} {s t : State} {x0 x1} (a : x0.mode = t.modes.mode) (c : Part.sub [.modes, .cfg, .life] ps = true)
    (k : Within ps s t) : Within ps s { t with modes := x0, cfg := x1 } := by
  refine .of_parts (t := t) (fun p hp => ?_) c k
  cases p <;> first | rfl | exact a | cases hp

theorem Within.set_modes_cfg_mode_life {ps : List Part} {s t : State} {x0 x1} (c : Part.sub [.modes, .cfg, .mode, .life] ps = true)
    (k : Within ps s t) : Within ps s { t with modes := x0, cfg := x1 } := by
  refine .of_parts (t := t) (fun p hp => ?_) c k
  cases p <;> first | rfl | cases hp

theorem Within.set_net_can_panel {ps : List Part} {s t : State} {x0 x1 x2} (c : Part.sub [.net, .can, .panel] ps = true)
    (k : Within ps s t) : Within ps s { t with net := x0, can := x1, panel := x2 } := by
  refine .of_parts (t := t) (fun p hp => ?_) c k
  cases p <;> first | rfl | cases hp

theorem Within.set_net_pair {ps : List Part} {s t : State} {x0 x1} (c : Part.sub [.net, .pair] ps = true)
    (k : Within ps s t) : Within ps s { t with net := x0, pair := x1 } := by
  refine .of_parts (t := t) (fun p hp => ?_) c k
  cases p <;> first | rfl | cases hp

theorem Within.set_plinth_fresh {ps : List Part} {s t : State} {x0 x1} (c : Part.sub [.plinth, .fresh] ps = true)
    (k : Within ps s t) : Within ps s { t with plinth := x0, fresh := x1 } := by
  refine .of_parts (t := t) (fun p hp => ?_) c k
  cases p <;> first | rfl | cases hp

theorem Within.set_power_modes {ps : List Part} {s t : State} {x0 x1} (a : x1.mode = t.modes.mode) (b : x1.life = t.modes.life) (c : Part.sub [.power, .modes] ps = true)
    (k : Within ps s t) : Within ps s { t with power := x0, modes := x1 } := by
  refine .of_parts (t := t) (fun p hp => ?_) c k
  cases p <;> first | rfl | exact a | exact b | cases hp

theorem Within.set_power_modes_mode {ps : List Part} {s t : State} {x0 x1} (b : x1.life = t.modes.life) (c : Part.sub [.power, .modes, .mode] ps = true)
    (k : Within ps s t) : Within ps s { t with power := x0, modes := x1 } := by
  refine .of_parts (t := t) (fun p hp => ?_) c k
  cases p <;> first | rfl | exact b | cases hp

theorem Within.set_power_modes_life {ps : List Part} {s t : State} {x0 x1} (a : x1.mode = t.modes.mode) (c : Part.sub [.power, .modes, .life] ps = true)
    (k : Within ps s t) : Within ps s { t with power := x0, modes := x1 } := by
  refine .of_parts (t := t) (fun p hp => ?_) c k
  cases p <;> first | rfl | exact a | cases hp

theorem Within.set_power_modes_mode_life {ps : List Part} {s t : State} {x0 x1} (c : Part.sub [.power, .modes, .mode, .life] ps = true)
    (k : Within ps s t) : Within ps s { t with power := x0, modes := x1 } := by
  refine .of_parts (t := t) (fun p hp => ?_) c k
  cases p <;> first | rfl | cases hp

theorem Within.set_power_pair_modes {ps : List Part} {s t : State} {x0 x1 x2} (a : x2.mode = t.modes.mode) (b : x2.life = t.modes.life) (c : Part.sub [.power, .pair, .modes] ps = true)
    (k : Within ps s t) : Within ps s { t with power := x0, pair := x1, modes := x2 } := by
  refine .of_parts (t := t) (fun p hp => ?_) c k
  cases p <;> first | rfl | exact a | exact b | cases hp

theorem Within.set_power_pair_modes_mode {ps : List Part} {s t : State} {x0 x1 x2} (b : x2.life = t.modes.life) (c : Part.sub [.power, .pair, .modes, .mode] ps = true)
    (k : Within ps s t) : Within ps s { t with power := x0, pair := x1, modes := x2 } := by
  refine .of_parts (t := t) (fun p hp => ?_) c k
  cases p <;> first | rfl | exact b | cases hp

theorem Within.set_power_pair_modes_life {ps : List Part} {s t : State} {x0 x1 x2} (a : x2.mode = t.modes.mode) (c : Part.sub [.power, .pair, .modes, .life] ps = true)
    (k : Within ps s t) : Within ps s { t with power := x0, pair := x1, modes := x2 } := by
  refine .of_parts (t := t) (fun p hp => ?_) c k
  cases p <;> first | rfl | exact a | cases hp

theorem Within.set_power_pair_modes_mode_life {ps : List Part} {s t : State} {x0 x1 x2} (c : Part.sub [.power, .pair, .modes, .mode, .life] ps = true)
    (k : Within ps s t) : Within ps s { t with power := x0, pair := x1, modes := x2 } := by
  refine .of_parts (t := t) (fun p hp => ?_) c k
  cases p <;> first | rfl | cases hp

theorem Within.set_prog_cfg {ps : List Part} {s t : State} {x0 x1} (c : Part.sub [.prog, .cfg] ps = true)
    (k : Within ps s t) : Within ps s { t with prog := x0, cfg := x1 } := by
  refine .of_parts (t := t) (fun p hp => ?_) c k
  cases p <;> first | rfl | cases hp

theorem Within.set_recorder_host_time_power_cpl_retained_image_pub_prog_loop_dig_safety_net_panel_pair_modes_cfg {ps : List Part} {s t : State} {x0 x1 x2 x3 x4 x5 x6 x7 x8 x9 x10 x11 x12 x13 x14 x15 x16} (a : x15.mode = t.modes.mode) (b : x15.life = t.modes.life) (c : Part.sub [.recorder, .host, .time, .power, .cpl, .retained, .image, .pub, .prog, .loop, .dig, .safety, .net, .panel, .pair, .modes, .cfg] ps = true)
    (k : Within ps s t) : Within ps s { t with recorder := x0, host := x1, time := x2, power := x3, cpl := x4, retained := x5, image := x6, pub := x7, prog := x8, loop := x9, dig := x10, safety := x11, net := x12, panel := x13, pair := x14, modes := x15, cfg := x16 } := by
  refine .of_parts (t := t) (fun p hp => ?_) c k
  cases p <;> first | rfl | exact a | exact b | cases hp

theorem Within.set_recorder_host_time_power_cpl_retained_image_pub_prog_loop_dig_safety_net_panel_pair_modes_cfg_mode {ps : List Part} {s t : State} {x0 x1 x2 x3 x4 x5 x6 x7 x8 x9 x10 x11 x12 x13 x14 x15 x16} (b : x15.life = t.modes.life) (c : Part.sub [.recorder, .host, .time, .power, .cpl, .retained, .image, .pub, .prog, .loop, .dig, .safety, .net, .panel, .pair, .modes, .cfg, .mode] ps = true)
    (k : Within ps s t) : Within ps s { t with recorder := x0, host := x1, time := x2, power := x3, cpl := x4, retained := x5, image := x6, pub := x7, prog := x8, loop := x9, dig := x10, safety := x11, net := x12, panel := x13, pair := x14, modes := x15, cfg := x16 } := by
  refine .of_parts (t := t) (fun p hp => ?_) c k
  cases p <;> first | rfl | exact b | cases hp

theorem Within.set_recorder_host_time_power_cpl_retained_image_pub_prog_loop_dig_safety_net_panel_pair_modes_cfg_life {ps : List Part} {s t : State} {x0 x1 x2 x3 x4 x5 x6 x7 x8 x9 x10 x11 x12 x13 x14 x15 x16} (a : x15.mode = t.modes.mode) (c : Part.sub [.recorder, .host, .time, .power, .cpl, .retained, .image, .pub, .prog, .loop, .dig, .safety, .net, .panel, .pair, .modes, .cfg, .life] ps = true)
    (k : Within ps s t) : Within ps s { t with recorder := x0, host := x1, time := x2, power := x3, cpl := x4, retained := x5, image := x6, pub := x7, prog := x8, loop := x9, dig := x10, safety := x11, net := x12, panel := x13, pair := x14, modes := x15, cfg := x16 } := by
  refine .of_parts (t := t) (fun p hp => ?_) c k
  cases p <;> first | rfl | exact a | cases hp

theorem Within.set_recorder_host_time_power_cpl_retained_image_pub_prog_loop_dig_safety_net_panel_pair_modes_cfg_mode_life {ps : List Part} {s t : State} {x0 x1 x2 x3 x4 x5 x6 x7 x8 x9 x10 x11 x12 x13 x14 x15 x16} (c : Part.sub [.recorder, .host, .time, .power, .cpl, .retained, .image, .pub, .prog, .loop, .dig, .safety, .net, .panel, .pair, .modes, .cfg, .mode, .life] ps = true)
    (k : Within ps s t) : Within ps s { t with recorder := x0, host := x1, time := x2, power := x3, cpl := x4, retained := x5, image := x6, pub := x7, prog := x8, loop := x9, dig := x10, safety := x11, net := x12, panel := x13, pair := x14, modes := x15, cfg := x16 } := by
  refine .of_parts (t := t) (fun p hp => ?_) c k
  cases p <;> first | rfl | cases hp

theorem Within.set_safety_modes {ps : List Part} {s t : State} {x0 x1} (a : x1.mode = t.modes.mode) (b : x1.life = t.modes.life) (c : Part.sub [.safety, .modes] ps = true)
    (k : Within ps s t) : Within ps s { t with safety := x0, modes := x1 } := by
  refine .of_parts (t := t) (fun p hp => ?_) c k
  cases p <;> first | rfl | exact a | exact b | cases hp

theorem Within.set_safety_modes_mode {ps : List Part} {s t : State} {x0 x1} (b : x1.life = t.modes.life) (c : Part.sub [.safety, .modes, .mode] ps = true)
    (k : Within ps s t) : Within ps s { t with safety := x0, modes := x1 } := by
  refine .of_parts (t := t) (fun p hp => ?_) c k
  cases p <;> first | rfl | exact b | cases hp

theorem Within.set_safety_modes_life {ps : List Part} {s t : State} {x0 x1} (a : x1.mode = t.modes.mode) (c : Part.sub [.safety, .modes, .life] ps = true)
    (k : Within ps s t) : Within ps s { t with safety := x0, modes := x1 } := by
  refine .of_parts (t := t) (fun p hp => ?_) c k
  cases p <;> first | rfl | exact a | cases hp

theorem Within.set_safety_modes_mode_life {ps : List Part} {s t : State} {x0 x1} (c : Part.sub [.safety, .modes, .mode, .life] ps = true)
    (k : Within ps s t) : Within ps s { t with safety := x0, modes := x1 } := by
  refine .of_parts (t := t) (fun p hp => ?_) c k
  cases p <;> first | rfl | cases hp

theorem Within.set_task_prog_cfg {ps : List Part} {s t : State} {x0 x1 x2} (c : Part.sub [.task, .prog, .cfg] ps = true)
    (k : Within ps s t) : Within ps s { t with task := x0, prog := x1, cfg := x2 } := by
  refine .of_parts (t := t) (fun p hp => ?_) c k
  cases p <;> first | rfl | cases hp

theorem Within.set_task_retained_image_pub {ps : List Part} {s t : State} {x0 x1 x2 x3} (c : Part.sub [.task, .retained, .image, .pub] ps = true)
    (k : Within ps s t) : Within ps s { t with task := x0, retained := x1, image := x2, pub := x3 } := by
  refine .of_parts (t := t) (fun p hp => ?_) c k
  cases p <;> first | rfl | cases hp

theorem Within.set_uc_dig {ps : List Part} {s t : State} {x0 x1} (c : Part.sub [.uc, .dig] ps = true)
    (k : Within ps s t) : Within ps s { t with uc := x0, dig := x1 } := by
  refine .of_parts (t := t) (fun p hp => ?_) c k
  cases p <;> first | rfl | cases hp

theorem Within.set_uc_dig_counter_group_safety {ps : List Part} {s t : State} {x0 x1 x2 x3 x4} (c : Part.sub [.uc, .dig, .counter, .group, .safety] ps = true)
    (k : Within ps s t) : Within ps s { t with uc := x0, dig := x1, counter := x2, group := x3, safety := x4 } := by
  refine .of_parts (t := t) (fun p hp => ?_) c k
  cases p <;> first | rfl | cases hp

theorem Within.set_pair_modes {ps : List Part} {s t : State} {x0 x1} (a : x1.mode = t.modes.mode) (b : x1.life = t.modes.life) (c : Part.sub [.pair, .modes] ps = true)
    (k : Within ps s t) : Within ps s { t with pair := x0, modes := x1 } := by
  refine .of_parts (t := t) (fun p hp => ?_) c k
  cases p <;> first | rfl | exact a | exact b | cases hp

theorem Within.set_pair_modes_mode {ps : List Part} {s t : State} {x0 x1} (b : x1.life = t.modes.life) (c : Part.sub [.pair, .modes, .mode] ps = true)
    (k : Within ps s t) : Within ps s { t with pair := x0, modes := x1 } := by
  refine .of_parts (t := t) (fun p hp => ?_) c k
  cases p <;> first | rfl | exact b | cases hp

theorem Within.set_pair_modes_life {ps : List Part} {s t : State} {x0 x1} (a : x1.mode = t.modes.mode) (c : Part.sub [.pair, .modes, .life] ps = true)
    (k : Within ps s t) : Within ps s { t with pair := x0, modes := x1 } := by
  refine .of_parts (t := t) (fun p hp => ?_) c k
  cases p <;> first | rfl | exact a | cases hp

theorem Within.set_pair_modes_mode_life {ps : List Part} {s t : State} {x0 x1} (c : Part.sub [.pair, .modes, .mode, .life] ps = true)
    (k : Within ps s t) : Within ps s { t with pair := x0, modes := x1 } := by
  refine .of_parts (t := t) (fun p hp => ?_) c k
  cases p <;> first | rfl | cases hp

theorem Within.set_task_prog {ps : List Part} {s t : State} {x0 x1} (c : Part.sub [.task, .prog] ps = true)
    (k : Within ps s t) : Within ps s { t with task := x0, prog := x1 } := by
  refine .of_parts (t := t) (fun p hp => ?_) c k
  cases p <;> first | rfl | cases hp

theorem Within.set_retained_prog {ps : List Part} {s t : State} {x0 x1} (c : Part.sub [.retained, .prog] ps = true)
    (k : Within ps s t) : Within ps s { t with retained := x0, prog := x1 } := by
  refine .of_parts (t := t) (fun p hp => ?_) c k
  cases p <;> first | rfl | cases hp

theorem Within.set_cpl_fresh {ps : List Part} {s t : State} {x0 x1} (c : Part.sub [.cpl, .fresh] ps = true)
    (k : Within ps s t) : Within ps s { t with cpl := x0, fresh := x1 } := by
  refine .of_parts (t := t) (fun p hp => ?_) c k
  cases p <;> first | rfl | cases hp

theorem Within.set_cpl_task_retained_image_pub {ps : List Part} {s t : State} {x0 x1 x2 x3 x4} (c : Part.sub [.cpl, .task, .retained, .image, .pub] ps = true)
    (k : Within ps s t) : Within ps s { t with cpl := x0, task := x1, retained := x2, image := x3, pub := x4 } := by
  refine .of_parts (t := t) (fun p hp => ?_) c k
  cases p <;> first | rfl | cases hp

theorem Within.set_power_cpl {ps : List Part} {s t : State} {x0 x1} (c : Part.sub [.power, .cpl] ps = true)
    (k : Within ps s t) : Within ps s { t with power := x0, cpl := x1 } := by
  refine .of_parts (t := t) (fun p hp => ?_) c k
  cases p <;> first | rfl | cases hp

end Sys2Proof.Machine
end

