-- ==== Sys2Proof/Laws/FrameCore.lean ====
section
/-! SUPPORT. Which parts of the block each operation may change: the shared operations, the image, the channels and the modes. -/

set_option maxRecDepth 4000

namespace Sys2Proof.Machine

theorem emit_within (i s) : Within [.out] s (emit i s) := by
  unfold emit
  exact .set_out rfl (.refl _ _)

theorem emits_within (i s) : Within [.out] s (emits i s) := by
  unfold emits
  exact .foldl (fun _ _ => (.step (emit_within ..) rfl (.refl _ _))) _ (.refl _ _)

theorem nextFree_within (s) : Within [.fresh] s (nextFree s) := by
  unfold nextFree
  exact .set_fresh rfl (.refl _ _)

theorem powerMod_within (i s) : Within [.power] s (powerMod i s) := by
  unfold powerMod
  exact .set_power rfl (.refl _ _)

theorem demandClock_within (i s) : Within [.power] s (demandClock i s) := by
  unfold demandClock
  exact .step (powerMod_within ..) rfl (.refl _ _)

theorem raiseIrq_within (i s) : Within [.host, .out] s (raiseIrq i s) := by
  unfold raiseIrq
  exact .ite (fun _ => (.refl _ _)) (fun _ => (.ite (fun _ => (.step (emit_within ..) rfl (.set_host rfl (.refl _ _)))) (fun _ =>
    (.set_host rfl (.refl _ _)))))

theorem pathMod_within (i j s) : Within [.recorder] s (pathMod i j s) := by
  unfold pathMod
  exact .set_recorder rfl (.refl _ _)

theorem offeredMany_within (i j k l s) : Within [.recorder] s (offeredMany i j k l s) := by
  unfold offeredMany
  exact .step (pathMod_within ..) rfl (.refl _ _)

theorem offered_within (i j s) : Within [.recorder] s (offered i j s) := by
  unfold offered
  exact .step (offeredMany_within ..) rfl (.refl _ _)

theorem pathCoalesced_within (i s) : Within [.recorder] s (pathCoalesced i s) := by
  unfold pathCoalesced
  exact .step (pathMod_within ..) rfl (.refl _ _)

theorem pathShed_within (i j s) : Within [.recorder] s (pathShed i j s) := by
  unfold pathShed
  exact .step (pathMod_within ..) rfl (.refl _ _)

theorem pathDelivered_within (i j k s) : Within [.recorder] s (pathDelivered i j k s) := by
  unfold pathDelivered
  exact .step (pathMod_within ..) rfl (.refl _ _)

theorem admitReserve_within (i s) : Within [.recorder] s (admitReserve i s) := by
  unfold admitReserve
  exact .ite (fun _ => (.set_recorder rfl (.refl _ _))) (fun _ => (.ite (fun _ => (.ite (fun _ => (.set_recorder rfl (.refl _ _)))
    (fun _ => (.set_recorder rfl (.refl _ _))))) (fun _ => (.ite (fun _ => (.set_recorder rfl (.refl _ _))) (fun _ =>
    (by split; exacts [(.step (pathCoalesced_within ..) rfl (.set_recorder rfl (.refl _ _))), (.set_recorder rfl (.refl _ _))]))))))

theorem admitGeneral_within (i s) : Within [.recorder] s (admitGeneral i s) := by
  unfold admitGeneral
  exact (by split; exacts [(.step (pathCoalesced_within ..) rfl (.set_recorder rfl (.refl _ _))), (.ite (fun _ => (.set_recorder rfl
    (.refl _ _))) (fun _ => (by split; exacts [(.step (pathShed_within ..) rfl (.set_recorder rfl (.refl _ _))), (.step
    (pathShed_within ..) rfl (.set_recorder rfl (.refl _ _)))])))])

theorem admitRecord_within (i s) : Within [.recorder] s (admitRecord i s) := by
  unfold admitRecord
  exact .ite (fun _ => (.step (pathShed_within ..) rfl (.set_recorder rfl (.ite (fun _ => (.step (offered_within ..) rfl (.refl _
    _))) (fun _ => (.refl _ _)))))) (fun _ => (.ite (fun _ => (.step (admitReserve_within ..) rfl (.step (offered_within ..) rfl
    (.ite (fun _ => (.step (pathDelivered_within ..) rfl (.ite (fun _ => (.step (offered_within ..) rfl (.refl _ _))) (fun _ =>
    (.refl _ _))))) (fun _ => (.ite (fun _ => (.step (offered_within ..) rfl (.refl _ _))) (fun _ => (.refl _ _)))))))) (fun _ =>
    (.step (admitGeneral_within ..) rfl (.step (offered_within ..) rfl (.ite (fun _ => (.step (pathDelivered_within ..) rfl (.ite
    (fun _ => (.step (offered_within ..) rfl (.refl _ _))) (fun _ => (.refl _ _))))) (fun _ => (.ite (fun _ => (.step
    (offered_within ..) rfl (.refl _ _))) (fun _ => (.refl _ _))))))))))

theorem record_within (i j k l s) : Within [.recorder] s (record i j k l s) := by
  unfold record
  exact .step (admitRecord_within ..) rfl (.refl _ _)

theorem recordSig_within (i j k l m s) : Within [.recorder] s (recordSig i j k l m s) := by
  unfold recordSig
  exact .step (admitRecord_within ..) rfl (.refl _ _)

theorem audit_within (i j k l s) : Within [.recorder] s (audit i j k l s) := by
  unfold audit
  exact .step (admitRecord_within ..) rfl (.refl _ _)

theorem tlsMod_within (i j s) : Within [.host] s (tlsMod i j s) := by
  unfold tlsMod
  exact .set_host rfl (.refl _ _)

theorem sessionMod_within (i j s) : Within [.host] s (sessionMod i j s) := by
  unfold sessionMod
  exact (by split; exacts [(.set_host rfl (.refl _ _)), (.step (tlsMod_within ..) rfl (.refl _ _))])

theorem mailboxMod_within (i j s) : Within [.host] s (mailboxMod i j s) := by
  unfold mailboxMod
  exact (by split; exacts [(.set_host rfl (.refl _ _)), (.step (tlsMod_within ..) rfl (.refl _ _))])

theorem setFlag_within (i j k s) : Within [.host] s (setFlag i j k s) := by
  unfold setFlag
  exact (by split; exacts [(.set_host rfl (.refl _ _)), (.step (tlsMod_within ..) rfl (.refl _ _))])

theorem carriagePut_within (i j k s) : Within [.host] s (carriagePut i j k s) := by
  unfold carriagePut
  exact (by split; exacts [(.set_host rfl (.refl _ _)), (.step (tlsMod_within ..) rfl (.refl _ _))])

theorem tlsSent_within (i s) : Within [.host, .power] s (tlsSent i s) := by
  unfold tlsSent
  exact .step (demandClock_within ..) rfl (.step (tlsMod_within ..) rfl (.refl _ _))

theorem returnCarriage_within (i j k l s) : Within [.host, .power, .out] s (returnCarriage i j k l s) := by
  unfold returnCarriage
  exact (by dsimp -proj only; split; exacts [(.step (setFlag_within ..) rfl (.refl _ _)), (.step (tlsSent_within ..) rfl (.step
    (emit_within ..) rfl (.step (setFlag_within ..) rfl (.refl _ _))))])

theorem deliver_within (i j k s) : Within [.host, .power, .out] s (deliver i j k s) := by
  unfold deliver
  exact (by split; exacts [(.ite (fun _ => (.step (mailboxMod_within ..) rfl (.set_host rfl (.refl _ _)))) (fun _ => (.step
    (raiseIrq_within ..) rfl (.step (mailboxMod_within ..) rfl (.set_host rfl (.refl _ _)))))), (.step (tlsSent_within ..) rfl
    (.step (emit_within ..) rfl (.step (mailboxMod_within ..) rfl (.refl _ _))))])

theorem respond_within (i j s) : Within [.host, .power, .out] s (respond i j s) := by
  unfold respond
  exact (by split; exacts [(.refl _ _), (.step (deliver_within ..) rfl (.foldl (fun _ _ => (.step (returnCarriage_within ..) rfl
    (.refl _ _))) _ (.ite (fun _ => (.refl _ _)) (fun _ => (.step (carriagePut_within ..) rfl (.refl _ _))))))])

theorem runCommand_within {ws : List Part} {k : Nat} {m : MbxId} {f : Req → State → State × Resp} (c : Part.sub [.host, .power, .out] ws = true)
    (h : ∀ q t, Within ws t (f q t).1) (s : State) : Within ws s (runCommand k m f s) := by
  unfold runCommand
  split
  · exact .refl _ _
  · exact .ite (fun _ => .step (respond_within ..) c (h _ _)) (fun _ => .refl _ _)

theorem runCommand_step {ws : List Part} {k : Nat} {m : MbxId} {f : Req → State → State × Resp} {s t : State}
    (c : Part.sub [.host, .power, .out] ws = true) (h : ∀ q u, Within ws u (f q u).1) (p : Within ws s t) : Within ws s (runCommand k m f t) :=
  p.trans (runCommand_within c h t)

theorem readCommand_within (k m f) (s : State) : Within [.host, .power, .out] s (readCommand k m f s) :=
  runCommand_within rfl (fun _ _ => .refl _ _) _

theorem poison_within (i j s) : Within [.host, .power, .out] s (poison i j s) := by
  unfold poison
  exact (by dsimp -proj only; split; exacts [(.step (raiseIrq_within ..) rfl (.step (setFlag_within ..) rfl (.refl _ _))), (.step
    (tlsSent_within ..) rfl (.step (emit_within ..) rfl (.step (setFlag_within ..) rfl (.refl _ _))))])

theorem poisonAll_within (i s) : Within [.host, .power, .out] s (poisonAll i s) := by
  unfold poisonAll
  exact .foldl (fun _ _ => (.step (poison_within ..) rfl (.refl _ _))) _ (.refl _ _)

theorem endSubscriptions_within (i s) : Within [.host, .power, .out] s (endSubscriptions i s) := by
  unfold endSubscriptions
  exact .foldl (fun _ _ => (.foldl (fun _ _ => (.ite (fun _ => (.step (poison_within ..) rfl (.refl _ _))) (fun _ => (.refl _ _))))
    _ (.refl _ _))) _ (.set_host rfl (.refl _ _))

theorem discardNotice_within (i j s) : Within [.host, .power, .out] s (discardNotice i j s) := by
  unfold discardNotice
  exact (by split; exacts [(.refl _ _), (.ite (fun _ => (.step (deliver_within ..) rfl (.refl _ _))) (fun _ => (.refl _ _)))])

theorem advanceEpoch_within (s) : Within [.host, .out] s (advanceEpoch s) := by
  unfold advanceEpoch
  exact .step (raiseIrq_within ..) rfl (.set_host rfl (.refl _ _))

theorem taskMod_within (i j s) : Within [.task] s (taskMod i j s) := by
  unfold taskMod
  exact .set_task rfl (.refl _ _)

theorem putRec_within (i j s) : Within [.image] s (putRec i j s) := by
  unfold putRec
  exact .set_image rfl (.refl _ _)

theorem stationMod_within (i j s) : Within [.image] s (stationMod i j s) := by
  unfold stationMod
  exact .set_image rfl (.refl _ _)

theorem intake_within (i j s) : Within [.cpl, .image] s (intake i j s) := by
  unfold intake
  exact .set_cpl_image rfl (.refl _ _)

theorem intakeDiscrete_within (i j s) : Within [.cpl] s (intakeDiscrete i j s) := by
  unfold intakeDiscrete
  exact .set_cpl rfl (.refl _ _)

theorem intakeOwn_within (i s) : Within [.cpl, .image] s (intakeOwn i s) := by
  unfold intakeOwn
  exact .ite (fun _ => (.refl _ _)) (fun _ => (.step (intake_within ..) rfl (.refl _ _)))

theorem intakeFull_within (s) : Within [.recorder, .image] s (intakeFull s) := by
  unfold intakeFull
  exact .ite (fun _ => (.step (record_within ..) rfl (.set_image rfl (.set_image rfl (.refl _ _))))) (fun _ => (.set_image rfl
    (.refl _ _)))

theorem deliverAt_within (i j k l m s) : Within [.cpl, .image] s (deliverAt i j k l m s) := by
  unfold deliverAt
  exact .ite (fun _ => (.refl _ _)) (fun _ => (.step (intakeOwn_within ..) rfl (.refl _ _)))

theorem deliverOwn_within (i j k l s) : Within [.cpl, .image] s (deliverOwn i j k l s) := by
  unfold deliverOwn
  exact .step (deliverAt_within ..) rfl (.refl _ _)

theorem deliverInt_within (i j k l m s) : Within [.cpl, .image] s (deliverInt i j k l m s) := by
  unfold deliverInt
  exact .ite (fun _ => (.refl _ _)) (fun _ => (.step (intakeOwn_within ..) rfl (.refl _ _)))

theorem deliverStatus_within (i j s) : Within [.cpl, .image] s (deliverStatus i j s) := by
  unfold deliverStatus
  exact .step (intakeOwn_within ..) rfl (.refl _ _)

theorem staleOver_within (i s) : Within [.image] s (staleOver i s) := by
  unfold staleOver
  exact .set_image rfl (.refl _ _)

theorem queuePublication_within (i s) : Within [.recorder, .image, .pub] s (queuePublication i s) := by
  unfold queuePublication
  exact .ite (fun _ => (.step (pathCoalesced_within ..) rfl (.step (offered_within ..) rfl (.refl _ _)))) (fun _ => (.step
    (putRec_within ..) rfl (.set_pub rfl (.step (offered_within ..) rfl (.refl _ _)))))

theorem followPublication_within (i s) : Within [.image, .pub] s (followPublication i s) := by
  unfold followPublication
  exact .ite (fun _ => (.refl _ _)) (fun _ => (.step (putRec_within ..) rfl (.set_pub rfl (.refl _ _))))

theorem subFill_within (i j s) : Within [.host, .power, .out] s (subFill i j s) := by
  unfold subFill
  exact (by split; exacts [(.refl _ _), (by split; exacts [(.refl _ _), (by split; exacts [(.refl _ _), (.ite (fun _ => (.refl _ _))
    (fun _ => (.ite (fun _ => (.refl _ _)) (fun _ => (.ite (fun _ => (.refl _ _)) (fun _ => (.step (subFill_within ..) rfl (.step
    (raiseIrq_within ..) rfl (.set_host rfl (.step (returnCarriage_within ..) rfl (.step (carriagePut_within ..) rfl (.refl _
    _))))))))))))])])])

theorem subFillAll_within (s) : Within [.host, .power, .out] s (subFillAll s) := by
  unfold subFillAll
  exact .foldl (fun _ _ => (.step (subFill_within ..) rfl (.refl _ _))) _ (.refl _ _)

theorem subNotify_within (i j s) : Within [.host] s (subNotify i j s) := by
  unfold subNotify
  exact .set_host rfl (.refl _ _)

theorem noteEvent_within (i s) : Within [.image] s (noteEvent i s) := by
  unfold noteEvent
  exact .set_image rfl (.refl _ _)

theorem poolSweep_within (s) : Within [.image] s (poolSweep s) := by
  unfold poolSweep
  exact .set_image rfl (.refl _ _)

theorem alarmRecord_within (i j k s) : Within [.recorder] s (alarmRecord i j k s) := by
  unfold alarmRecord
  exact .ite (fun _ => (.refl _ _)) (fun _ => (.ite (fun _ => (.step (recordSig_within ..) rfl (.refl _ _))) (fun _ => (.refl _
    _))))

theorem changeRec_within (i j k l m s) : Within [.recorder, .host, .image, .pub] s (changeRec i j k l m s) := by
  unfold changeRec
  exact .ite (fun _ => (.step (putRec_within ..) rfl (.refl _ _))) (fun _ => (.ite (fun _ => (.step (subNotify_within ..) rfl (.ite
    (fun _ => (.ite (fun _ => (.set_image rfl (.ite (fun _ => (.step (alarmRecord_within ..) rfl (.step (putRec_within ..) rfl (.ite
    (fun _ => (.set_image rfl (.refl _ _))) (fun _ => (.refl _ _)))))) (fun _ => (.step (putRec_within ..) rfl (.ite (fun _ =>
    (.set_image rfl (.refl _ _))) (fun _ => (.refl _ _)))))))) (fun _ => (.ite (fun _ => (.step (alarmRecord_within ..) rfl (.step
    (putRec_within ..) rfl (.ite (fun _ => (.set_image rfl (.refl _ _))) (fun _ => (.refl _ _)))))) (fun _ => (.step (putRec_within
    ..) rfl (.ite (fun _ => (.set_image rfl (.refl _ _))) (fun _ => (.refl _ _))))))))) (fun _ => (.ite (fun _ => (.step
    (queuePublication_within ..) rfl (.ite (fun _ => (.set_image rfl (.ite (fun _ => (.step (alarmRecord_within ..) rfl (.step
    (putRec_within ..) rfl (.ite (fun _ => (.set_image rfl (.refl _ _))) (fun _ => (.refl _ _)))))) (fun _ => (.step (putRec_within
    ..) rfl (.ite (fun _ => (.set_image rfl (.refl _ _))) (fun _ => (.refl _ _)))))))) (fun _ => (.ite (fun _ => (.step
    (alarmRecord_within ..) rfl (.step (putRec_within ..) rfl (.ite (fun _ => (.set_image rfl (.refl _ _))) (fun _ => (.refl _
    _)))))) (fun _ => (.step (putRec_within ..) rfl (.ite (fun _ => (.set_image rfl (.refl _ _))) (fun _ => (.refl _ _))))))))))
    (fun _ => (.ite (fun _ => (.step (followPublication_within ..) rfl (.ite (fun _ => (.set_image rfl (.ite (fun _ => (.step
    (alarmRecord_within ..) rfl (.step (putRec_within ..) rfl (.ite (fun _ => (.set_image rfl (.refl _ _))) (fun _ => (.refl _
    _)))))) (fun _ => (.step (putRec_within ..) rfl (.ite (fun _ => (.set_image rfl (.refl _ _))) (fun _ => (.refl _ _)))))))) (fun
    _ => (.ite (fun _ => (.step (alarmRecord_within ..) rfl (.step (putRec_within ..) rfl (.ite (fun _ => (.set_image rfl (.refl _
    _))) (fun _ => (.refl _ _)))))) (fun _ => (.step (putRec_within ..) rfl (.ite (fun _ => (.set_image rfl (.refl _ _))) (fun _ =>
    (.refl _ _)))))))))) (fun _ => (.ite (fun _ => (.set_image rfl (.ite (fun _ => (.step (alarmRecord_within ..) rfl (.step
    (putRec_within ..) rfl (.ite (fun _ => (.set_image rfl (.refl _ _))) (fun _ => (.refl _ _)))))) (fun _ => (.step (putRec_within
    ..) rfl (.ite (fun _ => (.set_image rfl (.refl _ _))) (fun _ => (.refl _ _)))))))) (fun _ => (.ite (fun _ => (.step
    (alarmRecord_within ..) rfl (.step (putRec_within ..) rfl (.ite (fun _ => (.set_image rfl (.refl _ _))) (fun _ => (.refl _
    _)))))) (fun _ => (.step (putRec_within ..) rfl (.ite (fun _ => (.set_image rfl (.refl _ _))) (fun _ => (.refl _
    _)))))))))))))))) (fun _ => (.ite (fun _ => (.ite (fun _ => (.set_image rfl (.ite (fun _ => (.step (alarmRecord_within ..) rfl
    (.step (putRec_within ..) rfl (.ite (fun _ => (.set_image rfl (.refl _ _))) (fun _ => (.refl _ _)))))) (fun _ => (.step
    (putRec_within ..) rfl (.ite (fun _ => (.set_image rfl (.refl _ _))) (fun _ => (.refl _ _)))))))) (fun _ => (.ite (fun _ =>
    (.step (alarmRecord_within ..) rfl (.step (putRec_within ..) rfl (.ite (fun _ => (.set_image rfl (.refl _ _))) (fun _ => (.refl
    _ _)))))) (fun _ => (.step (putRec_within ..) rfl (.ite (fun _ => (.set_image rfl (.refl _ _))) (fun _ => (.refl _ _)))))))))
    (fun _ => (.ite (fun _ => (.step (queuePublication_within ..) rfl (.ite (fun _ => (.set_image rfl (.ite (fun _ => (.step
    (alarmRecord_within ..) rfl (.step (putRec_within ..) rfl (.ite (fun _ => (.set_image rfl (.refl _ _))) (fun _ => (.refl _
    _)))))) (fun _ => (.step (putRec_within ..) rfl (.ite (fun _ => (.set_image rfl (.refl _ _))) (fun _ => (.refl _ _)))))))) (fun
    _ => (.ite (fun _ => (.step (alarmRecord_within ..) rfl (.step (putRec_within ..) rfl (.ite (fun _ => (.set_image rfl (.refl _
    _))) (fun _ => (.refl _ _)))))) (fun _ => (.step (putRec_within ..) rfl (.ite (fun _ => (.set_image rfl (.refl _ _))) (fun _ =>
    (.refl _ _)))))))))) (fun _ => (.ite (fun _ => (.step (followPublication_within ..) rfl (.ite (fun _ => (.set_image rfl (.ite
    (fun _ => (.step (alarmRecord_within ..) rfl (.step (putRec_within ..) rfl (.ite (fun _ => (.set_image rfl (.refl _ _))) (fun _
    => (.refl _ _)))))) (fun _ => (.step (putRec_within ..) rfl (.ite (fun _ => (.set_image rfl (.refl _ _))) (fun _ => (.refl _
    _)))))))) (fun _ => (.ite (fun _ => (.step (alarmRecord_within ..) rfl (.step (putRec_within ..) rfl (.ite (fun _ => (.set_image
    rfl (.refl _ _))) (fun _ => (.refl _ _)))))) (fun _ => (.step (putRec_within ..) rfl (.ite (fun _ => (.set_image rfl (.refl _
    _))) (fun _ => (.refl _ _)))))))))) (fun _ => (.ite (fun _ => (.set_image rfl (.ite (fun _ => (.step (alarmRecord_within ..) rfl
    (.step (putRec_within ..) rfl (.ite (fun _ => (.set_image rfl (.refl _ _))) (fun _ => (.refl _ _)))))) (fun _ => (.step
    (putRec_within ..) rfl (.ite (fun _ => (.set_image rfl (.refl _ _))) (fun _ => (.refl _ _)))))))) (fun _ => (.ite (fun _ =>
    (.step (alarmRecord_within ..) rfl (.step (putRec_within ..) rfl (.ite (fun _ => (.set_image rfl (.refl _ _))) (fun _ => (.refl
    _ _)))))) (fun _ => (.step (putRec_within ..) rfl (.ite (fun _ => (.set_image rfl (.refl _ _))) (fun _ => (.refl _
    _)))))))))))))))))

theorem keepStation_within (i j s) : Within [.image] s (keepStation i j s) := by
  unfold keepStation
  exact .step (stationMod_within ..) rfl (.refl _ _)

theorem setMirror_within (i j k s) : Within [.recorder, .host, .image] s (setMirror i j k s) := by
  unfold setMirror
  exact .ite (fun _ => (.refl _ _)) (fun _ => (.foldl (fun _ _ => (.step (subNotify_within ..) rfl (.refl _ _))) _
    (by split; exacts [(.step (record_within ..) rfl (.step (stationMod_within ..) rfl (.step (keepStation_within ..) rfl (.refl _
    _)))), (.step (record_within ..) rfl (.step (stationMod_within ..) rfl (.step (keepStation_within ..) rfl (.refl _ _)))), (.step
    (record_within ..) rfl (.step (stationMod_within ..) rfl (.step (keepStation_within ..) rfl (.refl _ _)))), (.step
    (record_within ..) rfl (.step (stationMod_within ..) rfl (.step (keepStation_within ..) rfl (.refl _ _)))), (.step
    (stationMod_within ..) rfl (.step (keepStation_within ..) rfl (.refl _ _)))])))

theorem findGap_within (i j s) : Within [.recorder, .host, .image] s (findGap i j s) := by
  unfold findGap
  exact (by dsimp -proj only; split; exacts [(.step (setMirror_within ..) rfl (.step (stationMod_within ..) rfl (.step
    (keepStation_within ..) rfl (.refl _ _)))), (.step (setMirror_within ..) rfl (.step (stationMod_within ..) rfl (.step
    (keepStation_within ..) rfl (.refl _ _)))), (.step (stationMod_within ..) rfl (.step (keepStation_within ..) rfl (.refl _ _)))])

theorem applyEntry_within (i j s k) : Within [.recorder, .host, .image, .pub] s (applyEntry i j s k) := by
  unfold applyEntry
  exact (by dsimp -proj only; split; exacts [(by split; exacts [(.step (setMirror_within ..) rfl (.refl _ _)), (.step
    (setMirror_within ..) rfl (.refl _ _)), (.step (setMirror_within ..) rfl (.refl _ _)), (.refl _ _)]), (.ite (fun _ => (.refl _
    _)) (fun _ => (by split; exacts [(.refl _ _), (.step (changeRec_within ..) rfl (.refl _ _)), (.step (changeRec_within ..) rfl
    (.refl _ _)), (.step (changeRec_within ..) rfl (.refl _ _)), (.ite (fun _ => (.refl _ _)) (fun _ => (.step (changeRec_within ..)
    rfl (.ite (fun _ => (.set_image rfl (.refl _ _))) (fun _ => (.refl _ _)))))), (.step (changeRec_within ..) rfl (.set_image rfl
    (.refl _ _))), (.step (changeRec_within ..) rfl (.set_image rfl (.refl _ _))), (.step (changeRec_within ..) rfl (.ite (fun _ =>
    (.step (recordSig_within ..) rfl (.refl _ _))) (fun _ => (.refl _ _))))])))])

theorem staleSignals_within (i j s) : Within [.cpl, .image] s (staleSignals i j s) := by
  unfold staleSignals
  exact .step (intakeOwn_within ..) rfl (.refl _ _)

theorem taskStale_within (i j s) : Within [.cpl, .image] s (taskStale i j s) := by
  unfold taskStale
  exact .step (staleSignals_within ..) rfl (.refl _ _)

theorem ucMod_within (i j s) : Within [.uc] s (ucMod i j s) := by
  unfold ucMod
  exact .set_uc rfl (.refl _ _)

theorem setHealth_within (i j k s) : Within [.modes] s (setHealth i j k s) := by
  unfold setHealth
  exact .ite (fun _ => (.refl _ _)) (fun _ => (.set_modes rfl rfl rfl (.refl _ _)))

theorem healthFollows_within (i j s) : Within [.modes] s (healthFollows i j s) := by
  unfold healthFollows
  exact (by split; exacts [(.refl _ _), (.refl _ _), (.refl _ _), (.step (setHealth_within ..) rfl (.refl _ _))])

theorem ucDiagRecords_within (i j k s) : Within [.recorder, .uc] s (ucDiagRecords i j k s) := by
  unfold ucDiagRecords
  exact .step (ucMod_within ..) rfl (.foldl (fun _ _ => (.ite (fun _ => (.step (record_within ..) rfl (.refl _ _))) (fun _ => (.refl
    _ _)))) _ (.refl _ _))

theorem ucEmit_within (i s) : Within [.cpl, .image, .uc] s (ucEmit i s) := by
  unfold ucEmit
  exact .ite (fun _ => (.step (ucMod_within ..) rfl (.step (deliverOwn_within ..) rfl (.step (staleOver_within ..) rfl (.refl _
    _))))) (fun _ => (.refl _ _))

theorem ucSetDiag_within (i j s) : Within [.recorder, .cpl, .image, .uc] s (ucSetDiag i j s) := by
  unfold ucSetDiag
  exact .step (ucEmit_within ..) rfl (.step (ucDiagRecords_within ..) rfl (.step (ucMod_within ..) rfl (.step (ucMod_within ..) rfl
    (.refl _ _))))

theorem ucCommand_within (i j s) : Within [.recorder, .cpl, .image, .uc] s (ucCommand i j s) := by
  unfold ucCommand
  exact .ite (fun _ => (.refl _ _)) (fun _ => (.ite (fun _ => (.step (ucSetDiag_within ..) rfl (.refl _ _))) (fun _ => (.step
    (ucSetDiag_within ..) rfl (.refl _ _)))))

theorem ucIdle_within (i s) : Within [.recorder, .cpl, .image, .uc] s (ucIdle i s) := by
  unfold ucIdle
  exact .ite (fun _ => (.step (ucCommand_within ..) rfl (.refl _ _))) (fun _ => (.refl _ _))

theorem ucInputSample_within (i j k l m s) : Within [.recorder, .cpl, .image, .uc] s (ucInputSample i j k l m s) := by
  unfold ucInputSample
  exact .step (ucEmit_within ..) rfl (.step (ucDiagRecords_within ..) rfl (.step (ucMod_within ..) rfl (.refl _ _)))

theorem ucOutputSample_within (i j k s) : Within [.recorder, .cpl, .image, .uc] s (ucOutputSample i j k s) := by
  unfold ucOutputSample
  exact .ite (fun _ => (.refl _ _)) (fun _ => (.step (ucSetDiag_within ..) rfl (.refl _ _)))

theorem conversion_within (i j k l m s) : Within [.recorder, .cpl, .image, .uc, .modes] s (conversion i j k l m s) := by
  unfold conversion
  exact (by dsimp -proj only; split; exacts [(.ite (fun _ => (.ite (fun _ => (.step (ucOutputSample_within ..) rfl (.step
    (ucMod_within ..) rfl (.refl _ _)))) (fun _ => (.step (ucInputSample_within ..) rfl (.step (ucMod_within ..) rfl (.refl _
    _)))))) (fun _ => (.refl _ _))), (.ite (fun _ => (.refl _ _)) (fun _ => (.ite (fun _ => (.step (ucMod_within ..) rfl (.refl _
    _))) (fun _ => (.ite (fun _ => (.step (ucOutputSample_within ..) rfl (.step (ucMod_within ..) rfl (.ite (fun _ => (.step
    (ucMod_within ..) rfl (.step (setHealth_within ..) rfl (.step (ucMod_within ..) rfl (.refl _ _))))) (fun _ => (.step
    (setHealth_within ..) rfl (.step (ucMod_within ..) rfl (.refl _ _)))))))) (fun _ => (.step (ucInputSample_within ..) rfl (.step
    (ucMod_within ..) rfl (.ite (fun _ => (.step (ucMod_within ..) rfl (.step (setHealth_within ..) rfl (.step (ucMod_within ..) rfl
    (.refl _ _))))) (fun _ => (.step (setHealth_within ..) rfl (.step (ucMod_within ..) rfl (.refl _ _))))))))))))), (.refl _ _)])

theorem ucConfigure_within (i j s) : Within [.uc, .modes] s (ucConfigure i j s) := by
  unfold ucConfigure
  exact .ite (fun _ => (.step (ucMod_within ..) rfl (.refl _ _))) (fun _ => (.ite (fun _ => (.step (healthFollows_within ..) rfl
    (.step (ucMod_within ..) rfl (.refl _ _)))) (fun _ => (.ite (fun _ => (.step (healthFollows_within ..) rfl (.step (ucMod_within
    ..) rfl (.refl _ _)))) (fun _ => (.ite (fun _ => (.step (ucMod_within ..) rfl (.refl _ _))) (fun _ => (.step (ucMod_within ..)
    rfl (.refl _ _)))))))))

theorem stepConversionComplete_within (i j k l m s) : Within [.recorder, .cpl, .image, .uc, .modes] s (stepConversionComplete i j k
  l m s) := by
  unfold stepConversionComplete
  exact .step (conversion_within ..) rfl (.refl _ _)

theorem execCjSample_within (i j s) (t : State) (h : execCjSample i j s = .next t) : Within [.recorder, .cj] s t := by
  unfold execCjSample at h
  injection h with h
  subst h
  exact .ite (fun _ => (.step (record_within ..) rfl (.set_cj rfl (.refl _ _)))) (fun _ => (.set_cj rfl (.refl _ _)))

theorem stepUcOpenCircuitDetect_within (i j s) : Within [.recorder, .cpl, .image, .uc] s (stepUcOpenCircuitDetect i j s) := by
  unfold stepUcOpenCircuitDetect
  exact .ite (fun _ => (.refl _ _)) (fun _ => (.ite (fun _ => (.step (ucSetDiag_within ..) rfl (.refl _ _))) (fun _ => (.ite (fun _
    => (.refl _ _)) (fun _ => (.step (ucSetDiag_within ..) rfl (.refl _ _)))))))

theorem execTestPulse_within (i s) (t : State) (h : execTestPulse i s = .next t) : Within [.uc] s t := by
  unfold execTestPulse at h
  injection h with h
  subst h
  exact .ite (fun _ => (.step (ucMod_within ..) rfl (.refl _ _))) (fun _ => (.refl _ _))

theorem stepTestPulseEnd_within (i j s) : Within [.recorder, .cpl, .image, .uc] s (stepTestPulseEnd i j s) := by
  unfold stepTestPulseEnd
  exact .ite (fun _ => (.step (ucSetDiag_within ..) rfl (.refl _ _))) (fun _ => (.refl _ _))

theorem stepUcComplianceLowDetect_within (i j s) : Within [.recorder, .cpl, .image, .uc] s (stepUcComplianceLowDetect i j s) := by
  unfold stepUcComplianceLowDetect
  exact .ite (fun _ => (.refl _ _)) (fun _ => (.ite (fun _ => (.step (ucSetDiag_within ..) rfl (.refl _ _))) (fun _ => (.ite (fun _
    => (.refl _ _)) (fun _ => (.step (ucSetDiag_within ..) rfl (.refl _ _)))))))

theorem stepUcShortCircuitDetect_within (i j s) : Within [.recorder, .cpl, .image, .uc] s (stepUcShortCircuitDetect i j s) := by
  unfold stepUcShortCircuitDetect
  exact .ite (fun _ => (.refl _ _)) (fun _ => (.step (ucSetDiag_within ..) rfl (.refl _ _)))

theorem execUcLoopSupplyLimit_within (i s) (t : State) (h : execUcLoopSupplyLimit i s = .next t) : Within [.recorder, .cpl, .image,
  .uc] s t := by
  unfold execUcLoopSupplyLimit at h
  injection h with h
  subst h
  exact .ite (fun _ => (.step (ucSetDiag_within ..) rfl (.refl _ _))) (fun _ => (.refl _ _))

theorem ucFail_within (i j s) : Within [.recorder, .cpl, .image, .uc, .modes] s (ucFail i j s) := by
  unfold ucFail
  exact .ite (fun _ => (.refl _ _)) (fun _ => (.ite (fun _ => (.step (record_within ..) rfl (.step (setHealth_within ..) rfl (.step
    (ucMod_within ..) rfl (.refl _ _))))) (fun _ => (.step (ucEmit_within ..) rfl (.step (record_within ..) rfl (.step
    (setHealth_within ..) rfl (.step (ucMod_within ..) rfl (.refl _ _))))))))

theorem stepConverterRegulationFault_within (i s) : Within [.recorder, .cpl, .image, .uc, .modes] s (stepConverterRegulationFault i
  s) := by
  unfold stepConverterRegulationFault
  exact .step (ucFail_within ..) rfl (.refl _ _)

theorem execChannelReconfigStep_within (i s) (t : State) (h : execChannelReconfigStep i s = .next t) : Within [.uc] s t := by
  unfold execChannelReconfigStep at h
  injection h with h
  subst h
  exact .step (ucMod_within ..) rfl (.refl _ _)

theorem digMod_within (i j s) : Within [.dig] s (digMod i j s) := by
  unfold digMod
  exact .set_dig rfl (.refl _ _)

theorem groupMod_within (i j s) : Within [.group] s (groupMod i j s) := by
  unfold groupMod
  exact .set_group rfl (.refl _ _)

theorem drainSoe_within (i s) : Within [.recorder, .group] s (drainSoe i s) := by
  unfold drainSoe
  exact .foldl (fun _ _ => (.step (admitRecord_within ..) rfl (.refl _ _))) _ (.step (groupMod_within ..) rfl (.refl _ _))

theorem digEmit_within (i j s) : Within [.cpl, .image, .dig] s (digEmit i j s) := by
  unfold digEmit
  exact .ite (fun _ => (.step (deliverInt_within ..) rfl (.step (digMod_within ..) rfl (.refl _ _)))) (fun _ => (.step
    (deliverStatus_within ..) rfl (.step (digMod_within ..) rfl (.refl _ _))))

theorem digFresh_within (i s) : Within [.cpl, .image, .dig] s (digFresh i s) := by
  unfold digFresh
  exact .ite (fun _ => (.step (digEmit_within ..) rfl (.step (staleOver_within ..) rfl (.ite (fun _ => (.refl _ _)) (fun _ => (.step
    (staleOver_within ..) rfl (.refl _ _))))))) (fun _ => (.refl _ _))

theorem deliverCounts_within (i s) : Within [.cpl, .image] s (deliverCounts i s) := by
  unfold deliverCounts
  exact (by dsimp -proj only; split; exacts [(.step (deliverOwn_within ..) rfl (.step (deliverInt_within ..) rfl (.refl _ _))),
    (.step (deliverOwn_within ..) rfl (.step (deliverInt_within ..) rfl (.refl _ _))), (.step (deliverOwn_within ..) rfl (.step
    (deliverInt_within ..) rfl (.refl _ _))), (.refl _ _)])

theorem deliverCounting_within (i s) : Within [.cpl, .image] s (deliverCounting i s) := by
  unfold deliverCounting
  exact .ite (fun _ => (.foldl (fun _ _ => (.ite (fun _ => (.step (deliverCounts_within ..) rfl (.refl _ _))) (fun _ => (.refl _
    _)))) _ (.refl _ _))) (fun _ => (.refl _ _))

theorem sendStateWord_within (i s) : Within [.cpl, .image, .dig, .group, .out] s (sendStateWord i s) := by
  unfold sendStateWord
  exact .step (emit_within ..) rfl (.step (intakeDiscrete_within ..) rfl (.step (deliverCounting_within ..) rfl (.foldl (fun _ _ =>
    (.step (digFresh_within ..) rfl (.refl _ _))) _ (.step (groupMod_within ..) rfl (.refl _ _)))))

theorem digSetDiag_within (i j s) : Within [.recorder, .cpl, .image, .dig] s (digSetDiag i j s) := by
  unfold digSetDiag
  exact .ite (fun _ => (.step (digEmit_within ..) rfl (.step (digMod_within ..) rfl (.foldl (fun _ _ => (.ite (fun _ => (.step
    (record_within ..) rfl (.refl _ _))) (fun _ => (.refl _ _)))) _ (.step (digMod_within ..) rfl (.refl _ _)))))) (fun _ => (.step
    (digMod_within ..) rfl (.foldl (fun _ _ => (.ite (fun _ => (.step (record_within ..) rfl (.refl _ _))) (fun _ => (.refl _ _))))
    _ (.step (digMod_within ..) rfl (.refl _ _)))))

theorem soeEntry_within (i j s) : Within [.group] s (soeEntry i j s) := by
  unfold soeEntry
  exact .ite (fun _ => (.step (groupMod_within ..) rfl (.refl _ _))) (fun _ => (.step (groupMod_within ..) rfl (.refl _ _)))

theorem chatterCheck_within (i j s) : Within [.recorder, .cpl, .image, .dig] s (chatterCheck i j s) := by
  unfold chatterCheck
  exact .ite (fun _ => (.step (digSetDiag_within ..) rfl (.step (digMod_within ..) rfl (.refl _ _)))) (fun _ => (.step
    (digMod_within ..) rfl (.refl _ _)))

theorem acceptState_within (i j s) : Within [.recorder, .cpl, .image, .dig, .group, .out] s (acceptState i j s) := by
  unfold acceptState
  exact .ite (fun _ => (.step (digEmit_within ..) rfl (.step (digMod_within ..) rfl (.refl _ _)))) (fun _ => (.step
    (sendStateWord_within ..) rfl (.step (digEmit_within ..) rfl (.ite (fun _ => (.step (soeEntry_within ..) rfl (.step
    (chatterCheck_within ..) rfl (.step (groupMod_within ..) rfl (.step (digMod_within ..) rfl (.refl _ _)))))) (fun _ => (.step
    (chatterCheck_within ..) rfl (.step (groupMod_within ..) rfl (.step (digMod_within ..) rfl (.refl _ _)))))))))

theorem levelChange_within (i j s) : Within [.recorder, .cpl, .image, .dig, .group, .out] s (levelChange i j s) := by
  unfold levelChange
  exact .ite (fun _ => (.step (digMod_within ..) rfl (.refl _ _))) (fun _ => (.ite (fun _ => (.step (acceptState_within ..) rfl
    (.step (digMod_within ..) rfl (.step (digMod_within ..) rfl (.refl _ _))))) (fun _ => (.step (digMod_within ..) rfl (.step
    (digMod_within ..) rfl (.refl _ _))))))

theorem execDigitalInputChange_within (i j s) (t : State) (h : execDigitalInputChange i j s = .next t) : Within [.recorder, .cpl,
  .image, .dig, .group, .out] s t := by
  unfold execDigitalInputChange at h
  injection h with h
  subst h
  exact .step (levelChange_within ..) rfl (.refl _ _)

theorem execDigitalTransitionAccepted_within (i s) (t : State) (h : execDigitalTransitionAccepted i s = .next t) : Within
  [.recorder, .cpl, .image, .dig, .group, .out] s t := by
  unfold execDigitalTransitionAccepted at h
  injection h with h
  subst h
  exact .ite (fun _ => (.step (acceptState_within ..) rfl (.refl _ _))) (fun _ => (.refl _ _))

theorem execStateWordSend_within (i s) (t : State) (h : execStateWordSend i s = .next t) : Within [.recorder, .cpl, .image, .dig,
  .group, .out] s t := by
  unfold execStateWordSend at h
  injection h with h
  subst h
  exact .ite (fun _ => (.step (sendStateWord_within ..) rfl (.step (drainSoe_within ..) rfl (.refl _ _)))) (fun _ => (.refl _ _))

theorem alignTimes_within (i j s) : Within [.dig] s (alignTimes i j s) := by
  unfold alignTimes
  exact .foldl (fun _ _ => (.step (digMod_within ..) rfl (.refl _ _))) _ (.refl _ _)

theorem execDigitalAlignment_within (i s) (t : State) (h : execDigitalAlignment i s = .next t) : Within [.recorder, .dig, .group] s
  t := by
  unfold execDigitalAlignment at h
  injection h with h
  subst h
  exact .step (drainSoe_within ..) rfl (.step (groupMod_within ..) rfl (.ite (fun _ => (.refl _ _)) (fun _ => (.step
    (alignTimes_within ..) rfl (.refl _ _)))))

theorem execChatterClear_within (i s) (t : State) (h : execChatterClear i s = .next t) : Within [.recorder, .cpl, .image, .dig] s t
  := by
  unfold execChatterClear at h
  injection h with h
  subst h
  exact .ite (fun _ => (.step (digSetDiag_within ..) rfl (.refl _ _))) (fun _ => (.refl _ _))

theorem digCommand_within (i j s) : Within [.recorder, .cpl, .image, .dig] s (digCommand i j s) := by
  unfold digCommand
  exact .ite (fun _ => (.refl _ _)) (fun _ => (.ite (fun _ => (.step (digMod_within ..) rfl (.refl _ _))) (fun _ => (.ite (fun _ =>
    (.step (digSetDiag_within ..) rfl (.refl _ _))) (fun _ => (.step (digMod_within ..) rfl (.refl _ _)))))))

theorem digIdle_within (i s) : Within [.recorder, .cpl, .image, .dig] s (digIdle i s) := by
  unfold digIdle
  exact .ite (fun _ => (.step (digCommand_within ..) rfl (.refl _ _))) (fun _ => (.refl _ _))

theorem stepOutputMismatchDetect_within (i j s) : Within [.recorder, .cpl, .image, .dig] s (stepOutputMismatchDetect i j s) := by
  unfold stepOutputMismatchDetect
  exact .ite (fun _ => (.ite (fun _ => (.step (digSetDiag_within ..) rfl (.refl _ _))) (fun _ => (.refl _ _)))) (fun _ => (.ite (fun
    _ => (.refl _ _)) (fun _ => (.ite (fun _ => (.refl _ _)) (fun _ => (.step (digSetDiag_within ..) rfl (.refl _ _)))))))

theorem stepSwitchShortCircuit_within (i j s) : Within [.recorder, .cpl, .image, .dig] s (stepSwitchShortCircuit i j s) := by
  unfold stepSwitchShortCircuit
  exact .ite (fun _ => (.refl _ _)) (fun _ => (.ite (fun _ => (.ite (fun _ => (.step (digSetDiag_within ..) rfl (.refl _ _))) (fun _
    => (.refl _ _)))) (fun _ => (.ite (fun _ => (.refl _ _)) (fun _ => (.step (digSetDiag_within ..) rfl (.refl _ _)))))))

theorem execSwitchRetry_within (i s) (t : State) (h : execSwitchRetry i s = .next t) : Within [.dig] s t := by
  unfold execSwitchRetry at h
  injection h with h
  subst h
  exact (by split; exacts [(.ite (fun _ => (.step (digMod_within ..) rfl (.refl _ _))) (fun _ => (.refl _ _))), (.refl _ _)])

theorem stepGroupOverloadShed_within (i j k s) : Within [.recorder, .cpl, .image, .dig, .group] s (stepGroupOverloadShed i j k s) :=
  by
  unfold stepGroupOverloadShed
  exact .ite (fun _ => (.step (groupMod_within ..) rfl (.refl _ _))) (fun _ => (.step (groupMod_within ..) rfl (.step
    (digSetDiag_within ..) rfl (.step (groupMod_within ..) rfl (.refl _ _)))))

theorem stepOpenLoadDetect_within (i j s) : Within [.recorder, .cpl, .image, .dig] s (stepOpenLoadDetect i j s) := by
  unfold stepOpenLoadDetect
  exact .ite (fun _ => (.refl _ _)) (fun _ => (.ite (fun _ => (.step (digSetDiag_within ..) rfl (.refl _ _))) (fun _ => (.ite (fun _
    => (.step (digSetDiag_within ..) rfl (.refl _ _))) (fun _ => (.refl _ _))))))

theorem execFsLowDetect_within (i j k s) (t : State) (h : execFsLowDetect i j k s = .next t) : Within [.recorder, .cpl, .image,
  .dig, .group] s t := by
  unfold execFsLowDetect at h
  injection h with h
  subst h
  exact .ite (fun _ => (.step (record_within ..) rfl (.foldl (fun _ _ => (.ite (fun _ => (.step (digEmit_within ..) rfl (.refl _
    _))) (fun _ => (.refl _ _)))) _ (.step (groupMod_within ..) rfl (.refl _ _))))) (fun _ => (.ite (fun _ => (.step (record_within
    ..) rfl (.foldl (fun _ _ => (.ite (fun _ => (.step (digEmit_within ..) rfl (.refl _ _))) (fun _ => (.refl _ _)))) _ (.step
    (groupMod_within ..) rfl (.refl _ _))))) (fun _ => (.foldl (fun _ _ => (.ite (fun _ => (.step (digEmit_within ..) rfl (.refl _
    _))) (fun _ => (.refl _ _)))) _ (.step (groupMod_within ..) rfl (.refl _ _))))))

theorem digFail_within (i s) : Within [.cpl, .image, .dig] s (digFail i s) := by
  unfold digFail
  exact .ite (fun _ => (.refl _ _)) (fun _ => (.ite (fun _ => (.step (digMod_within ..) rfl (.refl _ _))) (fun _ => (.step
    (digEmit_within ..) rfl (.step (digMod_within ..) rfl (.refl _ _))))))

theorem groupFail_within (i j s) : Within [.recorder, .cpl, .image, .dig, .group, .modes] s (groupFail i j s) := by
  unfold groupFail
  exact .ite (fun _ => (.refl _ _)) (fun _ => (.step (record_within ..) rfl (.step (setHealth_within ..) rfl (.foldl (fun _ _ =>
    (.step (digFail_within ..) rfl (.refl _ _))) _ (.step (groupMod_within ..) rfl (.refl _ _))))))

theorem stepGroupConverterFault_within (i s) : Within [.recorder, .cpl, .image, .dig, .group, .modes] s (stepGroupConverterFault i
  s) := by
  unfold stepGroupConverterFault
  exact .step (groupFail_within ..) rfl (.refl _ _)

theorem counterMod_within (i j s) : Within [.counter] s (counterMod i j s) := by
  unfold counterMod
  exact .set_counter rfl (.refl _ _)

theorem execCountEdge_within (i j k l s) (t : State) (h : execCountEdge i j k l s = .next t) : Within [.recorder, .cpl, .image,
  .dig, .counter] s t := by
  unfold execCountEdge at h
  injection h with h
  subst h
  exact .ite (fun _ => (.refl _ _)) (fun _ => (.ite (fun _ => (.step (counterMod_within ..) rfl (.ite (fun _ => (.step
    (digSetDiag_within ..) rfl (.refl _ _))) (fun _ => (.refl _ _))))) (fun _ => (.ite (fun _ => (.step (counterMod_within ..) rfl
    (.ite (fun _ => (.step (digSetDiag_within ..) rfl (.refl _ _))) (fun _ => (.refl _ _))))) (fun _ => (.ite (fun _ => (.step
    (digSetDiag_within ..) rfl (.refl _ _))) (fun _ => (.refl _ _))))))))

theorem execEncoderIndex_within (i s) (t : State) (h : execEncoderIndex i s = .next t) : Within [.recorder, .cpl, .image, .dig,
  .counter] s t := by
  unfold execEncoderIndex at h
  injection h with h
  subst h
  exact .ite (fun _ => (.refl _ _)) (fun _ => (.ite (fun _ => (.step (digSetDiag_within ..) rfl (.step (counterMod_within ..) rfl
    (.refl _ _)))) (fun _ => (.step (counterMod_within ..) rfl (.refl _ _)))))

theorem execEncoderRefEdge_within (i s) (t : State) (h : execEncoderRefEdge i s = .next t) : Within [.counter] s t := by
  unfold execEncoderRefEdge at h
  injection h with h
  subst h
  exact .ite (fun _ => (.step (counterMod_within ..) rfl (.refl _ _))) (fun _ => (.refl _ _))

theorem execPeriodEdge_within (i s) (t : State) (h : execPeriodEdge i s = .next t) : Within [.recorder, .cpl, .image, .dig,
  .counter] s t := by
  unfold execPeriodEdge at h
  injection h with h
  subst h
  exact .ite (fun _ => (.refl _ _)) (fun _ => (.ite (fun _ => (.step (digSetDiag_within ..) rfl (.step (counterMod_within ..) rfl
    (.refl _ _)))) (fun _ => (.ite (fun _ => (.step (digSetDiag_within ..) rfl (.step (counterMod_within ..) rfl (.refl _ _)))) (fun
    _ => (.step (counterMod_within ..) rfl (.refl _ _)))))))

theorem execCountTimeout_within (i s) (t : State) (h : execCountTimeout i s = .next t) : Within [.cpl, .image, .counter] s t := by
  unfold execCountTimeout at h
  injection h with h
  subst h
  exact .ite (fun _ => (.step (counterMod_within ..) rfl (.step (deliverOwn_within ..) rfl (.refl _ _)))) (fun _ => (.refl _ _))

theorem digConfigure_within (i j s) : Within [.recorder, .cpl, .image, .dig, .group, .out] s (digConfigure i j s) := by
  unfold digConfigure
  exact .ite (fun _ => (.step (digMod_within ..) rfl (.refl _ _))) (fun _ => (.ite (fun _ => (.step (digMod_within ..) rfl (.refl _
    _))) (fun _ => (.ite (fun _ => (.step (digMod_within ..) rfl (.refl _ _))) (fun _ => (.step (levelChange_within ..) rfl (.step
    (digMod_within ..) rfl (.refl _ _))))))))

theorem execDigitalReconfigStep_within (i s) (t : State) (h : execDigitalReconfigStep i s = .next t) : Within [.recorder, .cpl,
  .image, .dig, .counter, .group, .out] s t := by
  unfold execDigitalReconfigStep at h
  injection h with h
  subst h
  exact .ite (fun _ => (.refl _ _)) (fun _ => (.ite (fun _ => (.set_counter rfl (.step (digMod_within ..) rfl (.refl _ _)))) (fun _
    => (.ite (fun _ => (.step (acceptState_within ..) rfl (.step (digMod_within ..) rfl (.refl _ _)))) (fun _ => (.step
    (digMod_within ..) rfl (.refl _ _)))))))

theorem execChanStatusGet_within (i s) (t : State) (h : execChanStatusGet i s = .next t) : Within [.host, .power, .out] s t := by
  unfold execChanStatusGet at h
  injection h with h
  subst h
  exact .step (readCommand_within ..) rfl (.refl _ _)

theorem stepChanTest_within (i j k s) : Within [.recorder, .host, .power, .cpl, .image, .uc, .out] s (stepChanTest i j k s) := by
  unfold stepChanTest
  exact runCommand_step rfl (fun _ _ => (.ite_fst (fun _ => (.ite_fst (fun _ => (.refl _ _)) (fun _ => (.ite_fst (fun _ => (.refl _
    _)) (fun _ => (.ite_fst (fun _ => (.ite (fun _ => (.step (ucSetDiag_within ..) rfl (.refl _ _))) (fun _ => (.refl _ _)))) (fun _
    => (.refl _ _)))))))) (fun _ => (.ite_fst (fun _ => (.ite_fst (fun _ => (.refl _ _)) (fun _ => (.refl _ _)))) (fun _ => (.refl _
    _)))))) (.refl _ _)

theorem funcMod_within (i j s) : Within [.safety] s (funcMod i j s) := by
  unfold funcMod
  exact .set_safety rfl (.refl _ _)

theorem ucCommandRaw_within (i j s) : Within [.recorder, .cpl, .image, .uc] s (ucCommandRaw i j s) := by
  unfold ucCommandRaw
  exact .step (ucCommand_within ..) rfl (.refl _ _)

theorem applySafe_within (i s) : Within [.recorder, .cpl, .image, .uc, .dig] s (applySafe i s) := by
  unfold applySafe
  exact .ite (fun _ => (.refl _ _)) (fun _ => (.foldl (fun _ _ => (.ite (fun _ => (.step (ucCommand_within ..) rfl (.refl _ _)))
    (fun _ => (.step (ucCommandRaw_within ..) rfl (.refl _ _))))) _ (.foldl (fun _ _ => (.step (digCommand_within ..) rfl (.refl _
    _))) _ (.refl _ _))))

theorem setFault_within (i j s) : Within [.recorder, .cpl, .image, .dig, .safety] s (setFault i j s) := by
  unfold setFault
  exact .ite (fun _ => (.refl _ _)) (fun _ => (.ite (fun _ => (.step (digCommand_within ..) rfl (.step (deliverInt_within ..) rfl
    (.step (funcMod_within ..) rfl (.refl _ _))))) (fun _ => (.step (deliverInt_within ..) rfl (.step (funcMod_within ..) rfl (.refl
    _ _))))))

theorem driveSafety_within (s) : Within [.recorder, .cpl, .image, .uc, .dig] s (driveSafety s) := by
  unfold driveSafety
  exact .foldl (fun _ _ => (.ite (fun _ => (.step (digCommand_within ..) rfl (.ite (fun _ => (.step (applySafe_within ..) rfl (.refl
    _ _))) (fun _ => (.refl _ _))))) (fun _ => (.ite (fun _ => (.step (applySafe_within ..) rfl (.refl _ _))) (fun _ => (.refl _
    _)))))) _ (.refl _ _)

theorem forceSafe_within (i s j) : Within [.recorder, .cpl, .image, .uc, .dig, .safety] s (forceSafe i s j) := by
  unfold forceSafe
  exact (by split; exacts [(.refl _ _), (.step (record_within ..) rfl (.refl _ _)), (.step (record_within ..) rfl (.step
    (setFault_within ..) rfl (.step (applySafe_within ..) rfl (.step (funcMod_within ..) rfl (.refl _ _)))))])

theorem forceTaskSafe_within (i j s) : Within [.recorder, .cpl, .image, .uc, .dig, .safety] s (forceTaskSafe i j s) := by
  unfold forceTaskSafe
  exact .foldl (fun _ _ => (.step (forceSafe_within ..) rfl (.refl _ _))) _ (.refl _ _)

theorem forceAllSafe_within (i s) : Within [.recorder, .cpl, .image, .uc, .dig, .safety] s (forceAllSafe i s) := by
  unfold forceAllSafe
  exact .foldl (fun _ _ => (.step (forceSafe_within ..) rfl (.refl _ _))) _ (.refl _ _)

theorem reacting_step {ps : List Part} {f : State → State} {s t : State} (c : Part.sub [.recorder, .cpl, .image, .uc, .dig, .safety] ps = true) (h : Within ps s (f t)) :
    Within ps s (reacting f t) :=
  .foldl (fun _ _ => .ite (fun _ => .step (forceSafe_within ..) c (.refl _ _)) (fun _ => .refl _ _)) _ h

theorem reacting_within {f : State → State} {s : State} (h : Within [.recorder, .cpl, .image, .uc, .dig, .safety] s (f s)) : Within [.recorder, .cpl, .image, .uc, .dig, .safety] s (reacting f s) := reacting_step rfl h

theorem capabilityChanged_within (s) : Within [.recorder, .cpl, .image, .uc, .dig, .safety] s (capabilityChanged s) := by
  unfold capabilityChanged
  exact .foldl (fun _ _ => (.ite (fun _ => (by split; exacts [(.ite (fun _ => (.step (forceSafe_within ..) rfl (.refl _ _))) (fun _
    => (.step (setFault_within ..) rfl (.step (funcMod_within ..) rfl (.refl _ _))))), (.refl _ _)])) (fun _ =>
    (by split; exacts [(.step (setFault_within ..) rfl (.step (funcMod_within ..) rfl (.refl _ _))), (.step (funcMod_within ..) rfl
    (.refl _ _))])))) _ (.refl _ _)

theorem pairMod_within (i j s) : Within [.safety] s (pairMod i j s) := by
  unfold pairMod
  exact .set_safety rfl (.refl _ _)

theorem concludePair_within (i j k s) : Within [.cpl, .image, .safety] s (concludePair i j k s) := by
  unfold concludePair
  exact .ite (fun _ => (.step (pairMod_within ..) rfl (.refl _ _))) (fun _ => (.step (deliverInt_within ..) rfl (.step
    (pairMod_within ..) rfl (.refl _ _))))

theorem funcGather_within (i j k s l) : Within [.recorder, .cpl, .image, .uc, .dig, .safety] s (funcGather i j k s l) := by
  unfold funcGather
  exact .ite (fun _ => (by split; exacts [(.foldl (fun _ _ => (.step (concludePair_within ..) rfl (.refl _ _))) _ (.step
    (funcMod_within ..) rfl (.step (funcMod_within ..) rfl (.ite (fun _ => (.step (forceSafe_within ..) rfl (.foldl_fst (fun _ _ =>
    (.step (pairMod_within ..) rfl (.refl _ _))) _ (.refl _ _)))) (fun _ => (.foldl_fst (fun _ _ => (.step (pairMod_within ..) rfl
    (.refl _ _))) _ (.refl _ _))))))), (.foldl (fun _ _ => (.step (concludePair_within ..) rfl (.refl _ _))) _ (.ite (fun _ =>
    (.step (record_within ..) rfl (.step (funcMod_within ..) rfl (.step (funcMod_within ..) rfl (.ite (fun _ => (.step
    (forceSafe_within ..) rfl (.foldl_fst (fun _ _ => (.step (pairMod_within ..) rfl (.refl _ _))) _ (.refl _ _)))) (fun _ =>
    (.foldl_fst (fun _ _ => (.step (pairMod_within ..) rfl (.refl _ _))) _ (.refl _ _)))))))) (fun _ => (.step (funcMod_within ..)
    rfl (.ite (fun _ => (.step (forceSafe_within ..) rfl (.foldl_fst (fun _ _ => (.step (pairMod_within ..) rfl (.refl _ _))) _
    (.refl _ _)))) (fun _ => (.foldl_fst (fun _ _ => (.step (pairMod_within ..) rfl (.refl _ _))) _ (.refl _ _))))))))])) (fun _ =>
    (.foldl (fun _ _ => (.step (concludePair_within ..) rfl (.refl _ _))) _ (.step (funcMod_within ..) rfl (.ite (fun _ => (.step
    (forceSafe_within ..) rfl (.foldl_fst (fun _ _ => (.step (pairMod_within ..) rfl (.refl _ _))) _ (.refl _ _)))) (fun _ =>
    (.foldl_fst (fun _ _ => (.step (pairMod_within ..) rfl (.refl _ _))) _ (.refl _ _)))))))

theorem safetyGather_within (i j k s) : Within [.recorder, .cpl, .image, .uc, .dig, .safety] s (safetyGather i j k s) := by
  unfold safetyGather
  exact .foldl (fun _ _ => (.step (funcGather_within ..) rfl (.refl _ _))) _ (.refl _ _)

theorem clearLatches_within (i s) : Within [.safety] s (clearLatches i s) := by
  unfold clearLatches
  exact .foldl (fun _ _ => (.step (pairMod_within ..) rfl (.refl _ _))) _ (.refl _ _)

theorem funcReset__within (s i) : Within [.recorder, .cpl, .image, .dig, .safety] s (funcReset_ s i) := by
  unfold funcReset_
  exact .ite (fun _ => (.step (admitRecord_within ..) rfl (.ite (fun _ => (.step (setFault_within ..) rfl (.step (funcMod_within ..)
    rfl (.step (clearLatches_within ..) rfl (.refl _ _))))) (fun _ => (.step (funcMod_within ..) rfl (.step (clearLatches_within ..)
    rfl (.refl _ _))))))) (fun _ => (.step (funcMod_within ..) rfl (.refl _ _)))

theorem reachingSafe_step {ps : List Part} {n : Nat} {f : State → State} {s t : State} (c : Part.sub [.recorder] ps = true)
    (h : Within ps s (f t)) : Within ps s (reachingSafe n f t) :=
  .foldl (fun _ _ => .ite (fun _ => .step (record_within ..) c (.refl _ _)) (fun _ => .refl _ _)) _ h

theorem reachingSafe_within {n : Nat} {f : State → State} {s : State} (h : Within [.recorder] s (f s)) : Within [.recorder] s (reachingSafe n f s) :=
  reachingSafe_step rfl h

theorem safetyCommit_within (i s) : Within [.recorder, .cpl, .image, .dig, .safety] s (safetyCommit i s) := by
  unfold safetyCommit
  exact .foldl (fun _ _ => (.step (funcReset__within ..) rfl (.refl _ _))) _ (.refl _ _)

theorem changeLog_within (i j k l m n p q s) : Within [.recorder, .safety, .out] s (changeLog i j k l m n p q s) := by
  unfold changeLog
  exact .ite (fun _ => (.step (emit_within ..) rfl (.ite (fun _ => (.step (record_within ..) rfl (.set_safety rfl (.refl _ _))))
    (fun _ => (.set_safety rfl (.refl _ _)))))) (fun _ => (.ite (fun _ => (.step (record_within ..) rfl (.set_safety rfl (.refl _
    _)))) (fun _ => (.set_safety rfl (.refl _ _)))))

theorem changeLogBy_within (i j k l m n s) : Within [.recorder, .safety, .out] s (changeLogBy i j k l m n s) := by
  unfold changeLogBy
  exact .step (changeLog_within ..) rfl (.refl _ _)

theorem checkPassword_within (i j s) : Within [.recorder, .safety] s (checkPassword i j s).2 := by
  unfold checkPassword
  exact (by split; exacts [(.refl _ _), (.refl _ _), (.ite_snd (fun _ => (.refl _ _)) (fun _ => (.step (audit_within ..) rfl
    (.set_safety rfl (.refl _ _)))))])

theorem safetyChangeCheck_within (i j s) : Within [.recorder, .safety] s (safetyChangeCheck i j s).2 := by
  unfold safetyChangeCheck
  exact .ite_snd (fun _ => (.refl _ _)) (fun _ => (.step (checkPassword_within ..) rfl (.refl _ _)))

theorem execPasswordLockoutEnd_within (s) (t : State) (h : execPasswordLockoutEnd s = .next t) : Within [.safety] s t := by
  unfold execPasswordLockoutEnd at h
  injection h with h
  subst h
  exact (by split; exacts [(.ite (fun _ => (.set_safety rfl (.refl _ _))) (fun _ => (.refl _ _))), (.refl _ _)])

theorem execDegradedTimeExpiry_within (i s) (t : State) (h : execDegradedTimeExpiry i s = .next t) : Within [.recorder, .cpl,
  .image, .uc, .dig, .safety] s t := by
  unfold execDegradedTimeExpiry at h
  injection h with h
  subst h
  exact (by split; exacts [(.ite (fun _ => (.step (forceSafe_within ..) rfl (.refl _ _))) (fun _ => (.refl _ _))), (.refl _ _)])

theorem execSafetyPasswordSet_within (a s) (t : State) (h : execSafetyPasswordSet a s = .next t) : Within [.recorder, .host, .power, .safety, .out, .fresh] s t := by
  unfold execSafetyPasswordSet at h
  cases h
  refine runCommand_within rfl (fun q u => ?_) _
  have key : Within [.recorder, .host, .power, .safety, .out, .fresh] u (checkPassword (slice q.pay 4 68) (reqSession q u) u).2 :=
    .step (checkPassword_within ..) rfl (.refl _ _)
  generalize hr : checkPassword (slice q.pay 4 68) (reqSession q u) u = r at key
  dsimp only
  rw [hr]
  obtain ⟨x, v⟩ := r
  dsimp only at key
  cases x <;> dsimp only <;> repeat' first
    | with_reducible exact .refl _ _
    | exact key
    | with_reducible refine .ite_fst (fun _ => ?_) (fun _ => ?_)
    | exact .step (changeLogBy_within ..) rfl (.set_safety rfl (.refl _ _))
    | exact .step (changeLogBy_within ..) rfl (.set_safety rfl (.step (nextFree_within ..) rfl (.step (nextFree_within ..) rfl (.refl _ _))))
    | exact .step (changeLogBy_within ..) rfl (.set_safety rfl (.step (nextFree_within ..) rfl (.step (nextFree_within ..) rfl key)))
    | split

theorem execChangelogRead_within (i s) (t : State) (h : execChangelogRead i s = .next t) : Within [.host, .power, .out] s t := by
  unfold execChangelogRead at h
  injection h with h
  subst h
  exact .step (readCommand_within ..) rfl (.refl _ _)

theorem execChangelogAck_within (i s) (t : State) (h : execChangelogAck i s = .next t) : Within [.recorder, .host, .power, .safety,
  .out] s t := by
  unfold execChangelogAck at h
  injection h with h
  subst h
  exact runCommand_step rfl (fun _ _ => (.ite_fst (fun _ => (.refl _ _)) (fun _ => (.ite_fst (fun _ => (.refl _ _)) (fun _ => (.step
    (changeLogBy_within ..) rfl (.set_safety rfl (.refl _ _)))))))) (.refl _ _)

theorem funcCreate_within (i j s) : Within [.recorder, .cpl, .image, .uc, .dig, .safety] s (funcCreate i j s) := by
  unfold funcCreate
  exact .step (forceSafe_within ..) rfl (.step (funcMod_within ..) rfl (.refl _ _))

theorem funcDelete_within (i s) : Within [.recorder, .cpl, .image, .uc, .dig, .safety] s (funcDelete i s) := by
  unfold funcDelete
  exact .step (funcMod_within ..) rfl (.set_safety rfl (.step (applySafe_within ..) rfl (.refl _ _)))

theorem funcFollow_within (s i) : Within [.recorder, .cpl, .image, .uc, .dig, .safety] s (funcFollow s i) := by
  unfold funcFollow
  exact .ite (fun _ => (.refl _ _)) (fun _ => (.ite (fun _ => (.step (funcCreate_within ..) rfl (.refl _ _))) (fun _ => (.ite (fun _
    => (.step (funcDelete_within ..) rfl (.refl _ _))) (fun _ => (.step (funcMod_within ..) rfl (.refl _ _)))))))

theorem funcsFollow_within (i s) : Within [.recorder, .cpl, .image, .uc, .dig, .safety] s (funcsFollow i s) := by
  unfold funcsFollow
  exact .step (capabilityChanged_within ..) rfl (.foldl (fun _ _ => (.step (funcFollow_within ..) rfl (.refl _ _))) _ (.refl _ _))

theorem everyOutput_step {ps : List Part} {fu fd : Nat → State → State} {s t : State} (hu : ∀ n u, Within ps u (fu n u))
    (hd : ∀ n u, Within ps u (fd n u)) (h : Within ps s t) : Within ps s (everyOutput fu fd t) :=
  .foldl (fun _ _ => .ite (fun _ => hd _ _) (fun _ => .refl _ _)) _
    (.foldl (fun _ _ => .ite (fun _ => hu _ _) (fun _ => .refl _ _)) _ h)

theorem everyOutput_within {ps : List Part} {fu fd : Nat → State → State} (hu : ∀ n u, Within ps u (fu n u))
    (hd : ∀ n u, Within ps u (fd n u)) (s : State) : Within ps s (everyOutput fu fd s) := everyOutput_step hu hd (.refl _ _)

theorem outputsIdle_within (s) : Within [.recorder, .cpl, .image, .uc, .dig] s (outputsIdle s) :=
  everyOutput_within (fun n u => .step (ucIdle_within n u) rfl (.refl _ _)) (fun n u => .step (digIdle_within n u) rfl (.refl _ _)) s

theorem outputsOff_within (s) : Within [.uc, .dig] s (outputsOff s) := by
  unfold outputsOff
  exact .set_uc_dig rfl (.refl _ _)

theorem applyOutputs_within (i s) : Within [.recorder, .cpl, .image, .uc, .dig, .safety] s (applyOutputs i s) := by
  unfold applyOutputs
  exact .foldl (fun _ _ => (.ite (fun _ => (.refl _ _)) (fun _ => (.ite (fun _ => (.step (digCommand_within ..) rfl (.refl _ _)))
    (fun _ => (.step (ucCommand_within ..) rfl (.refl _ _))))))) _ (.set_safety rfl (.refl _ _))

theorem idleOutputsOf_within (i s) : Within [.recorder, .cpl, .image, .uc, .dig] s (idleOutputsOf i s) := by
  unfold idleOutputsOf
  exact .foldl (fun _ _ => (.ite (fun _ => (.refl _ _)) (fun _ => (.ite (fun _ => (.step (digIdle_within ..) rfl (.refl _ _))) (fun
    _ => (.step (ucIdle_within ..) rfl (.refl _ _))))))) _ (.refl _ _)

theorem takeState_within (i j s) : Within [.recorder, .cpl, .task, .image, .uc, .dig, .safety] s (takeState i j s) := by
  unfold takeState
  exact (by split; exacts [(.refl _ _), (by dsimp -proj only; split; exacts [(.step (taskStale_within ..) rfl (.step
    (forceTaskSafe_within ..) rfl (.ite (fun _ => (.step (idleOutputsOf_within ..) rfl (.step (taskMod_within ..) rfl (.refl _ _))))
    (fun _ => (.step (taskMod_within ..) rfl (.refl _ _)))))), (.step (taskStale_within ..) rfl (.step (forceTaskSafe_within ..) rfl
    (.ite (fun _ => (.step (idleOutputsOf_within ..) rfl (.step (taskMod_within ..) rfl (.refl _ _)))) (fun _ => (.step
    (taskMod_within ..) rfl (.refl _ _)))))), (.ite (fun _ => (.step (taskMod_within ..) rfl (.refl _ _))) (fun _ => (.step
    (taskStale_within ..) rfl (.step (taskMod_within ..) rfl (.refl _ _))))), (.ite (fun _ => (.step (taskMod_within ..) rfl (.refl
    _ _))) (fun _ => (.step (taskStale_within ..) rfl (.step (taskMod_within ..) rfl (.refl _ _))))), (.step (taskMod_within ..) rfl
    (.refl _ _))])])

theorem endCycle_within (i s) : Within [.recorder, .cpl, .task, .image, .uc, .dig, .safety] s (endCycle i s) := by
  unfold endCycle
  exact (by split; exacts [(.refl _ _), (by dsimp -proj only; split; exacts [(.step (takeState_within ..) rfl (.step (taskMod_within
    ..) rfl (.refl _ _))), (.ite (fun _ => (.step (takeState_within ..) rfl (.step (taskMod_within ..) rfl (.refl _ _)))) (fun _ =>
    (.step (taskMod_within ..) rfl (.refl _ _))))])])

theorem discardCycle_within (i s) : Within [.recorder, .cpl, .task, .image, .uc, .dig, .safety] s (discardCycle i s) := by
  unfold discardCycle
  exact (by split; exacts [(.refl _ _), (.ite (fun _ => (.refl _ _)) (fun _ => (.step (poolSweep_within ..) rfl (.step
    (endCycle_within ..) rfl (.foldl (fun _ _ => (.step (funcMod_within ..) rfl (.refl _ _))) _ (.refl _ _))))))])

theorem leaveRunning_within (i j s) : Within [.recorder, .cpl, .task, .image, .uc, .dig, .safety] s (leaveRunning i j s) := by
  unfold leaveRunning
  exact (by split; exacts [(.refl _ _), (.ite (fun _ => (.step (takeState_within ..) rfl (.refl _ _))) (fun _ => (.ite (fun _ =>
    (.step (takeState_within ..) rfl (.step (discardCycle_within ..) rfl (.refl _ _)))) (fun _ => (.step (taskMod_within ..) rfl
    (.refl _ _))))))])

theorem enterRunning_within (i s) : Within [.recorder, .cpl, .task, .image, .uc, .dig, .safety] s (enterRunning i s) := by
  unfold enterRunning
  exact (by split; exacts [(.refl _ _), (.step (takeState_within ..) rfl (.step (taskMod_within ..) rfl (.refl _ _)))])

theorem checkPending_within (s) : Within [.modes] s (checkPending s) := by
  unfold checkPending
  exact (by split; exacts [(.ite (fun _ => (.set_modes rfl rfl rfl (.refl _ _))) (fun _ => (.refl _ _))), (.refl _ _)])

theorem tasksFollow_within (i s) : Within [.recorder, .cpl, .task, .image, .uc, .dig, .safety] s (tasksFollow i s) := by
  unfold tasksFollow
  exact .foldl (fun _ _ => (by split; exacts [(.refl _ _), (by split; exacts [(.step (leaveRunning_within ..) rfl (.refl _ _)),
    (.step (leaveRunning_within ..) rfl (.refl _ _)), (.step (leaveRunning_within ..) rfl (.refl _ _)), (.step (leaveRunning_within
    ..) rfl (.refl _ _)), (.ite (fun _ => (.refl _ _)) (fun _ => (.step (leaveRunning_within ..) rfl (.refl _ _)))), (.step
    (enterRunning_within ..) rfl (.refl _ _)), (.step (enterRunning_within ..) rfl (.refl _ _)), (.step (enterRunning_within ..) rfl
    (.refl _ _)), (.refl _ _)])])) _ (.refl _ _)

theorem loopsStop_within (s) : Within [.recorder, .loop] s (loopsStop s) := by
  unfold loopsStop
  exact .ite (fun _ => (.foldl (fun _ _ => (.step (record_within ..) rfl (.refl _ _))) _ (.set_loop rfl (.refl _ _)))) (fun _ =>
    (.set_loop rfl (.refl _ _)))

theorem abandonSession_within (s) : Within [.recorder, .cfg] s (abandonSession s) := by
  unfold abandonSession
  exact (by split; exacts [(.refl _ _), (.step (record_within ..) rfl (.set_cfg rfl (.refl _ _)))])

theorem detachDebugger_within (s) : Within [.recorder, .cpl] s (detachDebugger s) := by
  unfold detachDebugger
  exact (by split; exacts [(.refl _ _), (.step (audit_within ..) rfl (.set_cpl rfl (.refl _ _)))])

theorem loseRole_within (i s) : Within [.recorder, .host, .power, .cpl, .modes, .cfg, .out] s (loseRole i s) := by
  unfold loseRole
  exact .step (endSubscriptions_within ..) rfl (by split; exacts [(.ite (fun _ => (.step (detachDebugger_within ..) rfl
    (by split; exacts [(.ite (fun _ => (.step (abandonSession_within ..) rfl (.set_modes rfl rfl rfl (.step (sessionMod_within ..)
    rfl (.refl _ _))))) (fun _ => (.set_modes rfl rfl rfl (.step (sessionMod_within ..) rfl (.refl _ _))))), (.set_modes rfl rfl rfl
    (.step (sessionMod_within ..) rfl (.refl _ _)))]))) (fun _ => (by split; exacts [(.ite (fun _ => (.step (abandonSession_within
    ..) rfl (.set_modes rfl rfl rfl (.step (sessionMod_within ..) rfl (.refl _ _))))) (fun _ => (.set_modes rfl rfl rfl (.step
    (sessionMod_within ..) rfl (.refl _ _))))), (.set_modes rfl rfl rfl (.step (sessionMod_within ..) rfl (.refl _ _)))]))),
    (by split; exacts [(.ite (fun _ => (.step (abandonSession_within ..) rfl (.set_modes rfl rfl rfl (.step (sessionMod_within ..)
    rfl (.refl _ _))))) (fun _ => (.set_modes rfl rfl rfl (.step (sessionMod_within ..) rfl (.refl _ _))))), (.set_modes rfl rfl rfl
    (.step (sessionMod_within ..) rfl (.refl _ _)))])])

theorem writeExchange_within (s) : Within [.prog] s (writeExchange s) := by
  unfold writeExchange
  exact .set_prog rfl (.refl _ _)

theorem abandonExchange_within (s) : Within [.recorder, .prog, .cfg, .out] s (abandonExchange s) := by
  unfold abandonExchange
  exact (by split; exacts [(.ite (fun _ => (.step (emit_within ..) rfl (.step (record_within ..) rfl (.step (writeExchange_within
    ..) rfl (.set_prog_cfg rfl (.refl _ _)))))) (fun _ => (.step (record_within ..) rfl (.step (writeExchange_within ..) rfl
    (.set_prog_cfg rfl (.refl _ _)))))), (.ite (fun _ => (.step (emit_within ..) rfl (.step (record_within ..) rfl (.step
    (writeExchange_within ..) rfl (.set_prog_cfg rfl (.refl _ _)))))) (fun _ => (.step (record_within ..) rfl (.step
    (writeExchange_within ..) rfl (.set_prog_cfg rfl (.refl _ _)))))), (.refl _ _)])

theorem canFollow_within (s) : Within [.can] s (canFollow s) := by
  unfold canFollow
  exact .set_can rfl (.refl _ _)

theorem closeTls_within (i s) : Within [.recorder, .host, .power, .cpl, .modes, .cfg, .out] s (closeTls i s) := by
  unfold closeTls
  exact (by split; exacts [(.refl _ _), (.step (emit_within ..) rfl (.set_host rfl (.step (loseRole_within ..) rfl (.refl _ _))))])

theorem tlsEpoch_within (i s) : Within [.host, .power, .out] s (tlsEpoch i s) := by
  unfold tlsEpoch
  exact .ite (fun _ => (.step (tlsSent_within ..) rfl (.step (emit_within ..) rfl (.refl _ _)))) (fun _ => (.refl _ _))

theorem hostSwitchover_within (i s) : Within [.recorder, .host, .power, .cpl, .modes, .cfg, .out] s (hostSwitchover i s) := by
  unfold hostSwitchover
  exact .ite (fun _ => (.foldl (fun _ _ => (.step (closeTls_within ..) rfl (.refl _ _))) _ (.foldl (fun _ _ => (.step
    (poisonAll_within ..) rfl (.refl _ _))) _ (.step (poisonAll_within ..) rfl (.step (endSubscriptions_within ..) rfl (.foldl (fun
    _ _ => (.step (discardNotice_within ..) rfl (.refl _ _))) _ (.step (abandonSession_within ..) rfl (.ite (fun _ => (.step
    (advanceEpoch_within ..) rfl (.refl _ _))) (fun _ => (.foldl (fun _ _ => (.step (tlsEpoch_within ..) rfl (.refl _ _))) _ (.step
    (advanceEpoch_within ..) rfl (.refl _ _)))))))))))) (fun _ => (.foldl (fun _ _ => (.step (poisonAll_within ..) rfl (.refl _ _)))
    _ (.step (poisonAll_within ..) rfl (.step (endSubscriptions_within ..) rfl (.foldl (fun _ _ => (.step (discardNotice_within ..)
    rfl (.refl _ _))) _ (.step (abandonSession_within ..) rfl (.ite (fun _ => (.step (advanceEpoch_within ..) rfl (.refl _ _))) (fun
    _ => (.foldl (fun _ _ => (.step (tlsEpoch_within ..) rfl (.refl _ _))) _ (.step (advanceEpoch_within ..) rfl (.refl _
    _)))))))))))

theorem discardAll_within (s) : Within [.recorder, .cpl, .task, .image, .uc, .dig, .safety] s (discardAll s) := by
  unfold discardAll
  exact .foldl (fun _ _ => (.step (discardCycle_within ..) rfl (.refl _ _))) _ (.refl _ _)

theorem lanesIdle_within (s) : Within [.power, .cpl] s (lanesIdle s) := by
  unfold lanesIdle
  exact .foldl (fun _ _ => (by dsimp -proj only; split; exacts [(.set_cpl rfl (.refl _ _)), (.set_cpl rfl (.refl _ _)), (.set_cpl
    rfl (.refl _ _)), (.set_power_cpl rfl (.refl _ _))])) _ (.refl _ _)

theorem stopTasks_within (s) : Within [.recorder, .cpl, .task, .image, .uc, .dig, .safety] s (stopTasks s) := by
  unfold stopTasks
  exact .step (poolSweep_within ..) rfl (.foldl (fun _ _ => (by split; exacts [(.refl _ _), (.ite (fun _ => (.step (taskMod_within
    ..) rfl (.refl _ _))) (fun _ => (.step (takeState_within ..) rfl (.step (taskMod_within ..) rfl (.refl _ _)))))])) _ (.refl _
    _))

theorem enterSafe_within (s) : Within [.recorder, .cpl, .task, .image, .prog, .uc, .dig, .safety, .can, .pair, .modes, .cfg, .out,
  .mode] s (enterSafe s) := by
  unfold enterSafe
  exact .ite (fun _ => (.refl _ _)) (fun _ => (.step (canFollow_within ..) rfl (.step (record_within ..) rfl (.step
    (outputsOff_within ..) rfl (.step (stopTasks_within ..) rfl (.set_pair_modes_mode rfl rfl (.step (abandonExchange_within ..) rfl
    (.refl _ _))))))))

theorem enterMaintenance_within (s) : Within [.recorder, .cpl, .task, .image, .prog, .uc, .dig, .safety, .can, .pair, .modes, .cfg,
  .out, .mode] s (enterMaintenance s) := by
  unfold enterMaintenance
  exact .step (canFollow_within ..) rfl (.step (outputsOff_within ..) rfl (.step (stopTasks_within ..) rfl (.set_pair_modes_mode rfl
    rfl (.step (abandonExchange_within ..) rfl (.refl _ _)))))

theorem demote_within (i j s) : Within [.recorder, .cpl, .task, .image, .prog, .uc, .dig, .safety, .pair, .cfg, .out] s (demote i j
  s) := by
  unfold demote
  exact .step (emit_within ..) rfl (.set_pair rfl (.step (abandonExchange_within ..) rfl (.step (discardAll_within ..) rfl (.refl _
    _))))

theorem selfDemote_within (i j s) : Within [.recorder, .cpl, .task, .image, .prog, .uc, .dig, .safety, .can, .pair, .modes, .cfg,
  .out, .mode] s (selfDemote i j s) := by
  unfold selfDemote
  exact (by split; exacts [(by split; exacts [(.step (demote_within ..) rfl (.refl _ _)), (.set_pair rfl (.refl _ _)), (.step
    (enterSafe_within ..) rfl (.refl _ _))]), (by split; exacts [(.step (demote_within ..) rfl (.refl _ _)), (.set_pair rfl (.refl _
    _)), (.step (enterSafe_within ..) rfl (.refl _ _))]), (by split; exacts [(.step (demote_within ..) rfl (.refl _ _)), (.set_pair
    rfl (.refl _ _)), (.step (enterSafe_within ..) rfl (.refl _ _))]), (.step (enterSafe_within ..) rfl (.refl _ _)), (.refl _ _)])

theorem leaveStep_within (s) : Within [.recorder, .cpl, .task, .image, .uc, .dig, .safety, .pair] s (leaveStep s) := by
  unfold leaveStep
  exact (by split; exacts [(.step (record_within ..) rfl (.set_pair rfl (.step (discardAll_within ..) rfl (.refl _ _)))), (.step
    (record_within ..) rfl (.set_pair rfl (.step (discardAll_within ..) rfl (.refl _ _)))), (.refl _ _)])

theorem goAlone_within (s) : Within [.recorder, .pair] s (goAlone s) := by
  unfold goAlone
  exact (by split; exacts [(.step (record_within ..) rfl (.set_pair rfl (.refl _ _))), (.step (record_within ..) rfl (.set_pair rfl
    (.refl _ _))), (.refl _ _)])

end Sys2Proof.Machine
end

