-- ==== Sys2Proof/Laws/FrameUnits.lean ====
section
/-! SUPPORT. Which parts of the block each operation may change: the networks, the Plinth, the time unit, CAN, the lanes and the publisher. -/

set_option maxRecDepth 4000

namespace Sys2Proof.Machine

theorem portMod_within (i j s) : Within [.net] s (portMod i j s) := by
  unfold portMod
  exact .set_net rfl (.refl _ _)

theorem sendNet_within (i j k s) : Within [.out] s (sendNet i j k s) := by
  unfold sendNet
  exact .foldl (fun _ _ => (.step (emit_within ..) rfl (.refl _ _))) _ (.refl _ _)

theorem decodeSignal_within (a b c d e f) (g : List Entry × State) : Within [.image, .net] g.2 (decodeSignal a b c d e f g).2 := by
  unfold decodeSignal
  exact .ite_snd (fun _ => .refl _ _) (fun _ => .set_image_net rfl (.refl _ _))

theorem decodeEntry_within (a b c d) (e : List Entry × State) (f) : Within [.image, .net] e.2 (decodeEntry a b c d e f).2 := by
  unfold decodeEntry
  split
  · exact .refl _ _
  · exact .foldl_snd (fun _ _ => .ite_snd (fun _ => decodeSignal_within ..) (fun _ => .ite_snd (fun _ => decodeSignal_within ..)
      (fun _ => decodeSignal_within ..))) _ (.refl _ _)

theorem decodeEntries_within (a b c d e s) : Within [.image, .net] s (decodeEntries a b c d e s).2 :=
  .foldl_snd (fun t x => decodeEntry_within a b c d t x) _ (.refl _ _)

theorem heardNow_within (i s) : Within [.net] s (heardNow i s) := by
  unfold heardNow
  exact .set_net rfl (.refl _ _)

theorem dispatchIn_within (i j k l m n s) : Within [.recorder, .cpl, .image, .net] s (dispatchIn i j k l m n s) := by
  unfold dispatchIn
  exact .ite (fun _ => (.set_image rfl (.refl _ _))) (fun _ => (.ite (fun _ => (.step (decodeEntries_within ..) rfl (.step
    (heardNow_within ..) rfl (.refl _ _)))) (fun _ => (.ite (fun _ => (.step (intake_within ..) rfl (.step (decodeEntries_within ..)
    rfl (.step (heardNow_within ..) rfl (.refl _ _))))) (fun _ => (.step (intakeFull_within ..) rfl (.step (heardNow_within ..) rfl
    (.refl _ _))))))))

theorem nodeMod_within (i j s) : Within [.net] s (nodeMod i j s) := by
  unfold nodeMod
  exact .set_net rfl (.refl _ _)

theorem outMod_within (i j s) : Within [.net] s (outMod i j s) := by
  unfold outMod
  exact .set_net rfl (.refl _ _)

theorem sendTelegram_within (i s) : Within [.net, .out] s (sendTelegram i s) := by
  unfold sendTelegram
  exact .ite (fun _ => (.refl _ _)) (fun _ => (.ite (fun _ => (.step (outMod_within ..) rfl (.refl _ _))) (fun _ => (.ite (fun _ =>
    (.step (nodeMod_within ..) rfl (.refl _ _))) (fun _ => (.ite (fun _ => (.refl _ _)) (fun _ => (.step (outMod_within ..) rfl
    (.step (emit_within ..) rfl (.refl _ _))))))))))

theorem sendNode_within (i s) : Within [.net, .out] s (sendNode i s) := by
  unfold sendNode
  exact .foldl (fun _ _ => (.step (sendTelegram_within ..) rfl (.refl _ _))) _ (.refl _ _)

theorem ownerTakeover_within (s) : Within [.net, .out] s (ownerTakeover s) := by
  unfold ownerTakeover
  exact .foldl (fun _ _ => (.step (sendTelegram_within ..) rfl (.refl _ _))) _ (.foldl (fun _ _ => (.step (nodeMod_within ..) rfl
    (.refl _ _))) _ (.set_net rfl (.refl _ _)))

theorem adoptTables_within (s) : Within [.net] s (adoptTables s) := by
  unfold adoptTables
  exact (by split; exacts [(.refl _ _), (.set_net rfl (.refl _ _))])

theorem ownerEcho_within (i j s) : Within [.recorder, .cpl, .task, .image, .prog, .uc, .dig, .safety, .net, .can, .pair, .modes,
  .cfg, .out, .mode] s (ownerEcho i j s) := by
  unfold ownerEcho
  exact .ite (fun _ => (.step (selfDemote_within ..) rfl (.step (record_within ..) rfl (.ite (fun _ => (.step (nodeMod_within ..)
    rfl (.set_net rfl (.refl _ _)))) (fun _ => (.set_net rfl (.refl _ _))))))) (fun _ => (.ite (fun _ => (.step (nodeMod_within ..)
    rfl (.set_net rfl (.refl _ _)))) (fun _ => (.set_net rfl (.refl _ _)))))

theorem execNodeTelegramReceived_within (i j k s) (t : State) (h : execNodeTelegramReceived i j k s = .next t) : Within [.recorder,
  .cpl, .task, .image, .prog, .uc, .dig, .safety, .net, .can, .pair, .modes, .cfg, .out, .mode] s t := by
  unfold execNodeTelegramReceived at h
  injection h with h
  subst h
  exact .ite (fun _ => (.refl _ _)) (fun _ => (.ite (fun _ => (.ite (fun _ => (.step (nodeMod_within ..) rfl (.refl _ _))) (fun _ =>
    (.set_net rfl (.refl _ _))))) (fun _ => (.ite (fun _ => (.ite (fun _ => (.step (sendNode_within ..) rfl (.step (ownerEcho_within
    ..) rfl (.ite (fun _ => (.step (record_within ..) rfl (.step (nodeMod_within ..) rfl (.refl _ _)))) (fun _ => (.step
    (nodeMod_within ..) rfl (.refl _ _))))))) (fun _ => (.step (ownerEcho_within ..) rfl (.ite (fun _ => (.step (record_within ..)
    rfl (.step (nodeMod_within ..) rfl (.refl _ _)))) (fun _ => (.step (nodeMod_within ..) rfl (.refl _ _)))))))) (fun _ => (.step
    (dispatchIn_within ..) rfl (.ite (fun _ => (.step (sendNode_within ..) rfl (.step (ownerEcho_within ..) rfl (.ite (fun _ =>
    (.step (record_within ..) rfl (.step (nodeMod_within ..) rfl (.refl _ _)))) (fun _ => (.step (nodeMod_within ..) rfl (.refl _
    _))))))) (fun _ => (.step (ownerEcho_within ..) rfl (.ite (fun _ => (.step (record_within ..) rfl (.step (nodeMod_within ..) rfl
    (.refl _ _)))) (fun _ => (.step (nodeMod_within ..) rfl (.refl _ _)))))))))))))

theorem execOutputHoldoffExpiry_within (i j s) (t : State) (h : execOutputHoldoffExpiry i j s = .next t) : Within [.net, .out] s t
  := by
  unfold execOutputHoldoffExpiry at h
  injection h with h
  subst h
  exact .ite (fun _ => (.step (sendTelegram_within ..) rfl (.refl _ _))) (fun _ => (.refl _ _))

theorem execTakeoverFlagExpiry_within (i s) (t : State) (h : execTakeoverFlagExpiry i s = .next t) : Within [.net] s t := by
  unfold execTakeoverFlagExpiry at h
  injection h with h
  subst h
  exact (by split; exacts [(.ite (fun _ => (.step (nodeMod_within ..) rfl (.refl _ _))) (fun _ => (.refl _ _))), (.refl _ _)])

theorem execNodeSilent_within (i s) (t : State) (h : execNodeSilent i s = .next t) : Within [.recorder, .net] s t := by
  unfold execNodeSilent at h
  injection h with h
  subst h
  exact (by dsimp -proj only; split; exacts [(.refl _ _), (.ite (fun _ => (.refl _ _)) (fun _ => (.step (record_within ..) rfl
    (.step (nodeMod_within ..) rfl (.refl _ _)))))])

theorem execSignalStaleTimeout_within (i j s) (t : State) (h : execSignalStaleTimeout i j s = .next t) : Within [.cpl, .image] s t
  := by
  unfold execSignalStaleTimeout at h
  injection h with h
  subst h
  exact (by dsimp -proj only; split; exacts [(.refl _ _), (.ite (fun _ => (.refl _ _)) (fun _ => (.ite (fun _ => (.ite (fun _ =>
    (.step (intakeOwn_within ..) rfl (.set_image rfl (.refl _ _)))) (fun _ => (.refl _ _)))) (fun _ => (.ite (fun _ => (.step
    (intakeOwn_within ..) rfl (.set_image rfl (.refl _ _)))) (fun _ => (.refl _ _)))))))])

theorem egressMod_within (i j s) : Within [.net] s (egressMod i j s) := by
  unfold egressMod
  exact .set_net rfl (.refl _ _)

theorem egressFill_within (s) : Within [.net] s (egressFill s) := by
  unfold egressFill
  exact .foldl (fun _ _ => (.foldl (fun _ _ => (.step (egressMod_within ..) rfl (.refl _ _))) _ (.refl _ _))) _ (.refl _ _)

theorem portServe_within (i s) : Within [.net, .out] s (portServe i s) := by
  unfold portServe
  exact .ite (fun _ => (.ite (fun _ => (.refl _ _)) (fun _ => (.step (egressMod_within ..) rfl (.refl _ _))))) (fun _ => (.ite (fun
    _ => (.refl _ _)) (fun _ => (by split; exacts [(.refl _ _), (.step (emit_within ..) rfl (.step (egressMod_within ..) rfl (.refl
    _ _)))]))))

theorem egressTick_within (s) : Within [.net, .out] s (egressTick s) := by
  unfold egressTick
  exact .set_net rfl (.foldl (fun _ _ => (.step (portServe_within ..) rfl (.refl _ _))) _ (.step (egressFill_within ..) rfl (.refl _
    _)))

theorem execArpRefresh_within (s) (t : State) (h : execArpRefresh s = .next t) : Within [.out] s t := by
  unfold execArpRefresh at h
  injection h with h
  subst h
  exact .foldl (fun _ _ => (.step (sendNet_within ..) rfl (.refl _ _))) _ (.refl _ _)

theorem execArpFrame_within (i j k l m s) (t : State) (h : execArpFrame i j k l m s = .next t) : Within [.net, .out] s t := by
  unfold execArpFrame at h
  injection h with h
  subst h
  exact .ite (fun _ => (.ite (fun _ => (.ite (fun _ => (.step (sendNet_within ..) rfl (by split; exacts [(.step (nodeMod_within ..)
    rfl (.refl _ _)), (.refl _ _)]))) (fun _ => (by split; exacts [(.step (nodeMod_within ..) rfl (.refl _ _)), (.refl _ _)]))))
    (fun _ => (.step (emit_within ..) rfl (by split; exacts [(.step (nodeMod_within ..) rfl (.refl _ _)), (.refl _ _)]))))) (fun _
    => (by split; exacts [(.step (nodeMod_within ..) rfl (.refl _ _)), (.refl _ _)]))

theorem execIgmpQuery_within (i s) (t : State) (h : execIgmpQuery i s = .next t) : Within [.out] s t := by
  unfold execIgmpQuery at h
  injection h with h
  subst h
  exact .foldl (fun _ _ => (.step (sendNet_within ..) rfl (.refl _ _))) _ (.refl _ _)

theorem portJoin_within (i s) : Within [.out] s (portJoin i s) := by
  unfold portJoin
  exact .ite (fun _ => (.refl _ _)) (fun _ => (.ite (fun _ => (.foldl (fun _ _ => (.step (emit_within ..) rfl (.refl _ _))) _
    (.foldl (fun _ _ => (.step (emit_within ..) rfl (.refl _ _))) _ (.refl _ _)))) (fun _ => (.foldl (fun _ _ => (.step (emit_within
    ..) rfl (.refl _ _))) _ (.refl _ _)))))

theorem execIcmpEchoRequest_within (i j k s) (t : State) (h : execIcmpEchoRequest i j k s = .next t) : Within [.out] s t := by
  unfold execIcmpEchoRequest at h
  injection h with h
  subst h
  exact .ite (fun _ => (.step (sendNet_within ..) rfl (.refl _ _))) (fun _ => (.step (emit_within ..) rfl (.refl _ _)))

theorem execHsrRingFrame_within (i j k l s) (t : State) (h : execHsrRingFrame i j k l s = .next t) : Within [.out] s t := by
  unfold execHsrRingFrame at h
  injection h with h
  subst h
  exact .ite (fun _ => (.refl _ _)) (fun _ => (.step (emit_within ..) rfl (.refl _ _)))

theorem execLinkChange_within (i j k s) (t : State) (h : execLinkChange i j k s = .next t) : Within [.recorder, .net, .out] s t :=
  by
  unfold execLinkChange at h
  injection h with h
  subst h
  exact .ite (fun _ => (.refl _ _)) (fun _ => (.ite (fun _ => (.step (portMod_within ..) rfl (.refl _ _))) (fun _ => (.ite (fun _ =>
    (.step (record_within ..) rfl (.step (portJoin_within ..) rfl (.step (portMod_within ..) rfl (.refl _ _))))) (fun _ => (.ite
    (fun _ => (.step (record_within ..) rfl (.step (portMod_within ..) rfl (.refl _ _)))) (fun _ => (.step (record_within ..) rfl
    (.step (portMod_within ..) rfl (.refl _ _))))))))))

theorem execSupervisionFrame_within (i j k l s) (t : State) (h : execSupervisionFrame i j k l s = .next t) : Within [.recorder,
  .net] s t := by
  unfold execSupervisionFrame at h
  injection h with h
  subst h
  exact .ite (fun _ => (.refl _ _)) (fun _ => (.ite (fun _ => (.step (portMod_within ..) rfl (.set_net rfl (.ite (fun _ => (.step
    (record_within ..) rfl (.step (portMod_within ..) rfl (.refl _ _)))) (fun _ => (.step (portMod_within ..) rfl (.refl _ _)))))))
    (fun _ => (.set_net rfl (.set_net rfl (.ite (fun _ => (.step (record_within ..) rfl (.step (portMod_within ..) rfl (.refl _
    _)))) (fun _ => (.step (portMod_within ..) rfl (.refl _ _)))))))))

theorem execSupervisionSend_within (s) (t : State) (h : execSupervisionSend s = .next t) : Within [.net, .out] s t := by
  unfold execSupervisionSend at h
  injection h with h
  subst h
  exact .set_net rfl (.step (sendNet_within ..) rfl (.step (sendNet_within ..) rfl (.refl _ _)))

theorem execSupervisionLoss_within (i s) (t : State) (h : execSupervisionLoss i s = .next t) : Within [.recorder, .net] s t := by
  unfold execSupervisionLoss at h
  injection h with h
  subst h
  exact .ite (fun _ => (.refl _ _)) (fun _ => (.step (record_within ..) rfl (.step (portMod_within ..) rfl (.refl _ _))))

theorem execDupTableForget_within (i j s) (t : State) (h : execDupTableForget i j s = .next t) : Within [.net] s t := by
  unfold execDupTableForget at h
  injection h with h
  subst h
  exact .ite (fun _ => (.set_net rfl (.refl _ _))) (fun _ => (.set_net rfl (.refl _ _)))

theorem execPortFrameDiscard_within (i j s) (t : State) (h : execPortFrameDiscard i j s = .next t) : Within [.recorder, .net] s t :=
  by
  unfold execPortFrameDiscard at h
  injection h with h
  subst h
  exact .ite (fun _ => (.step (record_within ..) rfl (.step (portMod_within ..) rfl (.refl _ _)))) (fun _ => (.step (portMod_within
    ..) rfl (.refl _ _)))

theorem plinthMod_within (i s) : Within [.plinth] s (plinthMod i s) := by
  unfold plinthMod
  exact .set_plinth rfl (.refl _ _)

theorem drawbarArrives_within (s) : Within [.power] s (drawbarArrives s) := by
  unfold drawbarArrives
  exact .ite (fun _ => (.step (demandClock_within ..) rfl (.refl _ _))) (fun _ => (.refl _ _))

theorem noticeAlarm_within (i j s) : Within [.recorder, .plinth] s (noticeAlarm i j s) := by
  unfold noticeAlarm
  exact .ite (fun _ => (.step (record_within ..) rfl (.step (plinthMod_within ..) rfl (.refl _ _)))) (fun _ => (.refl _ _))

theorem plinthEdge_within (s) : Within [.recorder, .plinth] s (plinthEdge s) := by
  unfold plinthEdge
  exact .ite (fun _ => (.step (noticeAlarm_within ..) rfl (.step (noticeAlarm_within ..) rfl (.step (plinthMod_within ..) rfl (.refl
    _ _))))) (fun _ => (.step (plinthMod_within ..) rfl (.refl _ _)))

theorem bkpWrite_within (i j s) : Within [.plinth] s (bkpWrite i j s) := by
  unfold bkpWrite
  exact .step (plinthMod_within ..) rfl (.refl _ _)

theorem bkpWrites_within (i j s) : Within [.plinth] s (bkpWrites i j s) := by
  unfold bkpWrites
  exact .step (plinthMod_within ..) rfl (.refl _ _)

theorem execRtcTicksLoRead_within (s) (t : State) (h : execRtcTicksLoRead s = .next t) : Within [.host, .plinth] s t := by
  unfold execRtcTicksLoRead at h
  injection h with h
  subst h
  exact .set_host rfl (.step (plinthMod_within ..) rfl (.refl _ _))

theorem execRtcCtrlLoadTicks_within (s) (t : State) (h : execRtcCtrlLoadTicks s = .next t) : Within [.plinth] s t := by
  unfold execRtcCtrlLoadTicks at h
  injection h with h
  subst h
  exact .step (plinthMod_within ..) rfl (.refl _ _)

theorem execRtcCtrlLoadWday_within (s) (t : State) (h : execRtcCtrlLoadWday s = .next t) : Within [.plinth] s t := by
  unfold execRtcCtrlLoadWday at h
  injection h with h
  subst h
  exact .step (plinthMod_within ..) rfl (.refl _ _)

theorem execRtcCtrlMarkLost_within (s) (t : State) (h : execRtcCtrlMarkLost s = .next t) : Within [.plinth] s t := by
  unfold execRtcCtrlMarkLost at h
  injection h with h
  subst h
  exact .step (plinthMod_within ..) rfl (.refl _ _)

theorem execRtcLoadApply_within (s) (t : State) (h : execRtcLoadApply s = .next t) : Within [.recorder, .plinth] s t := by
  unfold execRtcLoadApply at h
  injection h with h
  subst h
  exact .ite (fun _ => (.step (plinthEdge_within ..) rfl (.refl _ _))) (fun _ => (.refl _ _))

theorem execRtcWrap_within (s) (t : State) (h : execRtcWrap s = .next t) : Within [.recorder, .plinth] s t := by
  unfold execRtcWrap at h
  injection h with h
  subst h
  exact .ite (fun _ => (.step (plinthEdge_within ..) rfl (.refl _ _))) (fun _ => (.refl _ _))

theorem execDayPhaseRollover_within (s) (t : State) (h : execDayPhaseRollover s = .next t) : Within [.recorder, .plinth] s t := by
  unfold execDayPhaseRollover at h
  injection h with h
  subst h
  exact .ite (fun _ => (.step (plinthEdge_within ..) rfl (.refl _ _))) (fun _ => (.refl _ _))

theorem execRtcAlarmMatch_within (i s) (t : State) (h : execRtcAlarmMatch i s = .next t) : Within [.recorder, .plinth] s t := by
  unfold execRtcAlarmMatch at h
  injection h with h
  subst h
  exact .ite (fun _ => (.step (plinthEdge_within ..) rfl (.refl _ _))) (fun _ => (.refl _ _))

theorem execCellMeasurement_within (i s) (t : State) (h : execCellMeasurement i s = .next t) : Within [.recorder, .plinth] s t := by
  unfold execCellMeasurement at h
  injection h with h
  subst h
  exact .ite (fun _ => (.refl _ _)) (fun _ => (.ite (fun _ => (.step (record_within ..) rfl (.step (plinthMod_within ..) rfl (.refl
    _ _)))) (fun _ => (.ite (fun _ => (.step (record_within ..) rfl (.step (plinthMod_within ..) rfl (.refl _ _)))) (fun _ => (.refl
    _ _))))))

theorem execRetentionMonitorTrip_within (s) (t : State) (h : execRetentionMonitorTrip s = .next t) : Within [.plinth] s t := by
  unfold execRetentionMonitorTrip at h
  injection h with h
  subst h
  exact .step (plinthMod_within ..) rfl (.refl _ _)

theorem execPlinthPowerOnReset_within (s) (t : State) (h : execPlinthPowerOnReset s = .next t) : Within [.plinth, .fresh] s t := by
  unfold execPlinthPowerOnReset at h
  injection h with h
  subst h
  exact .set_plinth_fresh rfl (.refl _ _)

theorem execRtcAlarmSet_within (i s) (t : State) (h : execRtcAlarmSet i s = .next t) : Within [.host, .plinth, .power, .out] s t :=
  by
  unfold execRtcAlarmSet at h
  injection h with h
  subst h
  exact runCommand_step rfl (fun _ _ => (.ite_fst (fun _ => (.refl _ _)) (fun _ => (.step (plinthMod_within ..) rfl (.refl _ _)))))
    (.refl _ _)

theorem execBackupRead_within (i s) (t : State) (h : execBackupRead i s = .next t) : Within [.host, .power, .out] s t := by
  unfold execBackupRead at h
  injection h with h
  subst h
  exact .step (readCommand_within ..) rfl (.refl _ _)

theorem execBackupWrite_within (i s) (t : State) (h : execBackupWrite i s = .next t) : Within [.host, .plinth, .power, .out] s t :=
  by
  unfold execBackupWrite at h
  injection h with h
  subst h
  exact runCommand_step rfl (fun _ _ => (.ite_fst (fun _ => (.refl _ _)) (fun _ => (.ite_fst (fun _ => (.refl _ _)) (fun _ => (.step
    (bkpWrites_within ..) rfl (.refl _ _))))))) (.refl _ _)

theorem timeMod_within (i s) : Within [.time] s (timeMod i s) := by
  unfold timeMod
  exact .set_time rfl (.refl _ _)

theorem setRate_within (i j s) : Within [.time] s (setRate i j s) := by
  unfold setRate
  exact .step (timeMod_within ..) rfl (.refl _ _)

theorem shiftTasks_within (i s) : Within [.cpl, .task, .retained, .image, .pub] s (shiftTasks i s) := by
  unfold shiftTasks
  exact .set_cpl_task_retained_image_pub rfl (.refl _ _)

theorem shiftLoops_within (i s) : Within [.loop] s (shiftLoops i s) := by
  unfold shiftLoops
  exact .set_loop rfl (.refl _ _)

theorem shiftField_within (i s) : Within [.uc, .dig, .counter, .group, .safety] s (shiftField i s) := by
  unfold shiftField
  exact .set_uc_dig_counter_group_safety rfl (.refl _ _)

theorem shiftNet_within (i s) : Within [.net, .can, .panel] s (shiftNet i s) := by
  unfold shiftNet
  exact .set_net_can_panel rfl (.refl _ _)

theorem shiftRest_within (i s) : Within [.host, .power, .cpl, .pair, .modes] s (shiftRest i s) := by
  unfold shiftRest
  exact .set_host_power_cpl_pair_modes rfl rfl rfl (.refl _ _)

theorem loadPlinth_within (s) : Within [.time, .plinth] s (loadPlinth s) := by
  unfold loadPlinth
  exact .ite (fun _ => (.refl _ _)) (fun _ => (.step (timeMod_within ..) rfl (.step (plinthMod_within ..) rfl (.refl _ _))))

theorem applyStep_within (i s) : Within [.recorder, .host, .time, .plinth, .power, .cpl, .task, .retained, .image, .pub, .loop, .uc,
  .dig, .counter, .group, .safety, .net, .can, .panel, .pair, .modes] s (applyStep i s) := by
  unfold applyStep
  exact .ite (fun _ => (.step (loadPlinth_within ..) rfl (.step (audit_within ..) rfl (.step (shiftRest_within ..) rfl (.step
    (shiftNet_within ..) rfl (.step (shiftField_within ..) rfl (.step (shiftLoops_within ..) rfl (.step (shiftTasks_within ..) rfl
    (.step (timeMod_within ..) rfl (.refl _ _)))))))))) (fun _ => (.step (audit_within ..) rfl (.step (shiftRest_within ..) rfl
    (.step (shiftNet_within ..) rfl (.step (shiftField_within ..) rfl (.step (shiftLoops_within ..) rfl (.step (shiftTasks_within
    ..) rfl (.step (timeMod_within ..) rfl (.refl _ _)))))))))

theorem beginStep_within (i s) : Within [.time, .out] s (beginStep i s) := by
  unfold beginStep
  exact .ite (fun _ => (.step (emit_within ..) rfl (.step (timeMod_within ..) rfl (.step (timeMod_within ..) rfl (.refl _ _)))))
    (fun _ => (.step (timeMod_within ..) rfl (.step (timeMod_within ..) rfl (.refl _ _))))

theorem restartSession_within (s) : Within [.recorder, .time, .out] s (restartSession s) := by
  unfold restartSession
  exact .ite (fun _ => (.step (emit_within ..) rfl (.step (audit_within ..) rfl (.step (timeMod_within ..) rfl (.refl _ _))))) (fun
    _ => (.step (audit_within ..) rfl (.step (timeMod_within ..) rfl (.refl _ _))))

theorem ppsTick_within (i s) : Within [.time, .out] s (ppsTick i s) := by
  unfold ppsTick
  exact .ite (fun _ => (.ite (fun _ => (.step (timeMod_within ..) rfl (.refl _ _))) (fun _ => (.refl _ _)))) (fun _ => (.ite (fun _
    => (.step (emit_within ..) rfl (.step (timeMod_within ..) rfl (.refl _ _)))) (fun _ => (.ite (fun _ => (.step (timeMod_within
    ..) rfl (.refl _ _))) (fun _ => (.refl _ _))))))

theorem crystalTick_within (s) : Within [.recorder, .plinth] s (crystalTick s) := by
  unfold crystalTick
  exact .ite (fun _ => (.step (plinthEdge_within ..) rfl (.step (plinthMod_within ..) rfl (.step (plinthMod_within ..) rfl (.refl _
    _))))) (fun _ => (.step (plinthMod_within ..) rfl (.step (plinthMod_within ..) rfl (.refl _ _))))

theorem refTick_within (s) : Within [.recorder, .host, .time, .plinth, .power, .cpl, .task, .retained, .image, .pub, .loop, .uc,
  .dig, .counter, .group, .safety, .net, .can, .panel, .pair, .modes, .out] s (refTick s) := by
  unfold refTick
  exact .step (crystalTick_within ..) rfl (.step (ppsTick_within ..) rfl (by split; exacts [(.step (applyStep_within ..) rfl (.step
    (timeMod_within ..) rfl (.refl _ _))), (.step (timeMod_within ..) rfl (.refl _ _))]))

theorem idleTick_within (s) : Within [.recorder, .host, .time, .plinth, .power, .cpl, .task, .retained, .image, .pub, .loop, .uc,
  .dig, .counter, .group, .safety, .net, .can, .panel, .pair, .modes, .out] s (idleTick s) := by
  unfold idleTick
  exact .ite (fun _ => (.step (egressTick_within ..) rfl (.step (refTick_within ..) rfl (.refl _ _)))) (fun _ => (.step
    (plinthEdge_within ..) rfl (.refl _ _)))

theorem holdOver_within (s) : Within [.time] s (holdOver s) := by
  unfold holdOver
  exact .step (setRate_within ..) rfl (.step (timeMod_within ..) rfl (.refl _ _))

theorem sourceLost_within (s) : Within [.time] s (sourceLost s) := by
  unfold sourceLost
  exact (by dsimp -proj only; split; exacts [(.ite (fun _ => (.ite (fun _ => (.step (setRate_within ..) rfl (.step (timeMod_within
    ..) rfl (.ite (fun _ => (.step (holdOver_within ..) rfl (.refl _ _))) (fun _ => (.step (timeMod_within ..) rfl (.refl _ _)))))))
    (fun _ => (.step (timeMod_within ..) rfl (.ite (fun _ => (.step (holdOver_within ..) rfl (.refl _ _))) (fun _ => (.step
    (timeMod_within ..) rfl (.refl _ _)))))))) (fun _ => (.ite (fun _ => (.step (holdOver_within ..) rfl (.refl _ _))) (fun _ =>
    (.step (timeMod_within ..) rfl (.refl _ _)))))), (.ite (fun _ => (.step (holdOver_within ..) rfl (.refl _ _))) (fun _ => (.step
    (timeMod_within ..) rfl (.refl _ _))))])

theorem sourceValid_within (s) : Within [.time] s (sourceValid s) := by
  unfold sourceValid
  exact .ite (fun _ => (.refl _ _)) (fun _ => (.step (timeMod_within ..) rfl (.refl _ _)))

theorem servoLaw_within (i j s) : Within [.time] s (servoLaw i j s) := by
  unfold servoLaw
  exact .step (setRate_within ..) rfl (.step (timeMod_within ..) rfl (.refl _ _))

theorem becomeLocked_within (s) : Within [.time, .plinth] s (becomeLocked s) := by
  unfold becomeLocked
  exact .ite (fun _ => (.step (loadPlinth_within ..) rfl (.step (timeMod_within ..) rfl (.refl _ _)))) (fun _ => (.step
    (timeMod_within ..) rfl (.refl _ _)))

theorem leaveAcquiring_within (i s) : Within [.time, .out] s (leaveAcquiring i s) := by
  unfold leaveAcquiring
  exact .ite (fun _ => (.refl _ _)) (fun _ => (.ite (fun _ => (.step (beginStep_within ..) rfl (.step (timeMod_within ..) rfl (.refl
    _ _)))) (fun _ => (.ite (fun _ => (.step (timeMod_within ..) rfl (.step (timeMod_within ..) rfl (.refl _ _)))) (fun _ => (.step
    (timeMod_within ..) rfl (.refl _ _)))))))

theorem offsetWatch_within (i s) : Within [.recorder, .time] s (offsetWatch i s) := by
  unfold offsetWatch
  exact .ite (fun _ => (.step (record_within ..) rfl (.step (timeMod_within ..) rfl (.refl _ _)))) (fun _ => (.step (timeMod_within
    ..) rfl (.refl _ _)))

theorem servoStep_within (i j s) : Within [.recorder, .time, .plinth, .out] s (servoStep i j s) := by
  unfold servoStep
  exact (by dsimp -proj only; split; exacts [(.step (offsetWatch_within ..) rfl (.step (sourceValid_within ..) rfl (.step
    (timeMod_within ..) rfl (.refl _ _)))), (.step (offsetWatch_within ..) rfl (.step (sourceValid_within ..) rfl (.step
    (timeMod_within ..) rfl (.refl _ _)))), (.ite (fun _ => (.step (leaveAcquiring_within ..) rfl (.step (timeMod_within ..) rfl
    (.step (offsetWatch_within ..) rfl (.step (sourceValid_within ..) rfl (.step (timeMod_within ..) rfl (.refl _ _))))))) (fun _ =>
    (.step (timeMod_within ..) rfl (.step (offsetWatch_within ..) rfl (.step (sourceValid_within ..) rfl (.step (timeMod_within ..)
    rfl (.refl _ _))))))), (.ite (fun _ => (.step (becomeLocked_within ..) rfl (.step (servoLaw_within ..) rfl (.step
    (timeMod_within ..) rfl (.step (offsetWatch_within ..) rfl (.step (sourceValid_within ..) rfl (.step (timeMod_within ..) rfl
    (.refl _ _)))))))) (fun _ => (.step (servoLaw_within ..) rfl (.step (timeMod_within ..) rfl (.step (offsetWatch_within ..) rfl
    (.step (sourceValid_within ..) rfl (.step (timeMod_within ..) rfl (.refl _ _)))))))), (.ite (fun _ => (.step (timeMod_within ..)
    rfl (.step (servoLaw_within ..) rfl (.step (timeMod_within ..) rfl (.step (offsetWatch_within ..) rfl (.step (sourceValid_within
    ..) rfl (.step (timeMod_within ..) rfl (.refl _ _)))))))) (fun _ => (.step (servoLaw_within ..) rfl (.step (timeMod_within ..)
    rfl (.step (offsetWatch_within ..) rfl (.step (sourceValid_within ..) rfl (.step (timeMod_within ..) rfl (.refl _ _))))))))])

theorem measured_within (i j k s) : Within [.recorder, .time, .plinth, .out] s (measured i j k s) := by
  unfold measured
  exact .ite (fun _ => (.ite (fun _ => (.step (timeMod_within ..) rfl (.refl _ _))) (fun _ => (.refl _ _)))) (fun _ => (.ite (fun _
    => (.step (servoStep_within ..) rfl (.ite (fun _ => (.step (timeMod_within ..) rfl (.refl _ _))) (fun _ => (.refl _ _))))) (fun
    _ => (.ite (fun _ => (.step (servoStep_within ..) rfl (.step (timeMod_within ..) rfl (.ite (fun _ => (.step (timeMod_within ..)
    rfl (.refl _ _))) (fun _ => (.refl _ _)))))) (fun _ => (.ite (fun _ => (.step (timeMod_within ..) rfl (.refl _ _))) (fun _ =>
    (.refl _ _))))))))

theorem masterLost_within (s) : Within [.time] s (masterLost s) := by
  unfold masterLost
  exact (by dsimp -proj only; split; exacts [(.step (timeMod_within ..) rfl (.refl _ _)), (.step (timeMod_within ..) rfl (.refl _
    _))])

theorem execPtpAnnounce_within (i j s) (t : State) (h : execPtpAnnounce i j s = .next t) : Within [.time] s t := by
  unfold execPtpAnnounce at h
  injection h with h
  subst h
  exact .ite (fun _ => (.refl _ _)) (fun _ => (by dsimp -proj only; split; exacts [(.step (timeMod_within ..) rfl (.refl _ _)),
    (.ite (fun _ => (.step (sourceValid_within ..) rfl (.step (timeMod_within ..) rfl (.step (timeMod_within ..) rfl (.refl _ _)))))
    (fun _ => (.step (timeMod_within ..) rfl (.step (timeMod_within ..) rfl (.refl _ _)))))]))

theorem execPtpSync_within (i j k l m n s) (t : State) (h : execPtpSync i j k l m n s = .next t) : Within [.time, .out] s t := by
  unfold execPtpSync at h
  injection h with h
  subst h
  exact .ite (fun _ => (.refl _ _)) (fun _ => (.step (emit_within ..) rfl (.step (timeMod_within ..) rfl (.refl _ _))))

theorem execPtpFollowUp_within (i j k l s) (t : State) (h : execPtpFollowUp i j k l s = .next t) : Within [.time] s t := by
  unfold execPtpFollowUp at h
  injection h with h
  subst h
  exact (by split; exacts [(.ite (fun _ => (.step (timeMod_within ..) rfl (.refl _ _))) (fun _ => (.refl _ _))), (.refl _ _)])

theorem execPtpDelayResp_within (i j k l s) (t : State) (h : execPtpDelayResp i j k l s = .next t) : Within [.recorder, .time,
  .plinth, .out] s t := by
  unfold execPtpDelayResp at h
  injection h with h
  subst h
  exact (by split; exacts [(by split; exacts [(.refl _ _), (.ite (fun _ => (.step (timeMod_within ..) rfl (.refl _ _))) (fun _ =>
    (.step (measured_within ..) rfl (.step (timeMod_within ..) rfl (.refl _ _)))))]), (.refl _ _)])

theorem execSyncTimeout_within (s) (t : State) (h : execSyncTimeout s = .next t) : Within [.time] s t := by
  unfold execSyncTimeout at h
  injection h with h
  subst h
  exact .ite (fun _ => (.step (sourceLost_within ..) rfl (.ite (fun _ => (.step (masterLost_within ..) rfl (.refl _ _))) (fun _ =>
    (.refl _ _))))) (fun _ => (.refl _ _))

theorem execOffsetQuiet_within (s) (t : State) (h : execOffsetQuiet s = .next t) : Within [.recorder, .time] s t := by
  unfold execOffsetQuiet at h
  injection h with h
  subst h
  exact (by split; exacts [(.ite (fun _ => (.step (record_within ..) rfl (.step (timeMod_within ..) rfl (.refl _ _)))) (fun _ =>
    (.refl _ _))), (.refl _ _)])

theorem execPpsEdge_within (i s) (t : State) (h : execPpsEdge i s = .next t) : Within [.recorder, .time, .plinth, .out] s t := by
  unfold execPpsEdge at h
  injection h with h
  subst h
  exact (by dsimp -proj only; split; exacts [(.step (timeMod_within ..) rfl (.refl _ _)), (.ite (fun _ => (.step (timeMod_within ..)
    rfl (.refl _ _))) (fun _ => (.ite (fun _ => (.step (measured_within ..) rfl (.step (timeMod_within ..) rfl (.step
    (timeMod_within ..) rfl (.refl _ _))))) (fun _ => (.step (timeMod_within ..) rfl (.refl _ _))))))])

theorem execPpsMissing_within (s) (t : State) (h : execPpsMissing s = .next t) : Within [.time] s t := by
  unfold execPpsMissing at h
  injection h with h
  subst h
  exact (by split; exacts [(.ite (fun _ => (.ite (fun _ => (.step (sourceLost_within ..) rfl (.step (timeMod_within ..) rfl (.refl _
    _)))) (fun _ => (.step (timeMod_within ..) rfl (.refl _ _))))) (fun _ => (.refl _ _))), (.refl _ _)])

theorem execRef10Measure_within (i s) (t : State) (h : execRef10Measure i s = .next t) : Within [.time] s t := by
  unfold execRef10Measure at h
  injection h with h
  subst h
  exact .ite (fun _ => (.refl _ _)) (fun _ => (.ite (fun _ => (.step (setRate_within ..) rfl (.step (timeMod_within ..) rfl (.refl _
    _)))) (fun _ => (.step (timeMod_within ..) rfl (.refl _ _)))))

theorem execPpsOutSecond_within (s) (t : State) (h : execPpsOutSecond s = .next t) : Within [.time, .out] s t := by
  unfold execPpsOutSecond at h
  injection h with h
  subst h
  exact .ite (fun _ => (.step (emit_within ..) rfl (.step (timeMod_within ..) rfl (.refl _ _)))) (fun _ => (.refl _ _))

theorem execPlinthReload_within (s) (t : State) (h : execPlinthReload s = .next t) : Within [.time, .plinth] s t := by
  unfold execPlinthReload at h
  injection h with h
  subst h
  exact .ite (fun _ => (.refl _ _)) (fun _ => (.ite (fun _ => (.step (loadPlinth_within ..) rfl (.refl _ _))) (fun _ => (.step
    (timeMod_within ..) rfl (.refl _ _)))))

theorem execTimeNotValidWarning_within (s) (t : State) (h : execTimeNotValidWarning s = .next t) : Within [.recorder, .time] s t :=
  by
  unfold execTimeNotValidWarning at h
  injection h with h
  subst h
  exact .ite (fun _ => (.refl _ _)) (fun _ => (.step (record_within ..) rfl (.step (timeMod_within ..) rfl (.refl _ _))))

theorem execDrawbarTime_within (i s) (t : State) (h : execDrawbarTime i s = .next t) : Within [.recorder, .time, .plinth, .out] s t
  := by
  unfold execDrawbarTime at h
  injection h with h
  subst h
  exact .ite (fun _ => (.refl _ _)) (fun _ => (.step (servoStep_within ..) rfl (.step (timeMod_within ..) rfl (.refl _ _))))

theorem execTimeStreamStop_within (s) (t : State) (h : execTimeStreamStop s = .next t) : Within [.time] s t := by
  unfold execTimeStreamStop at h
  injection h with h
  subst h
  exact .ite (fun _ => (.step (holdOver_within ..) rfl (.refl _ _))) (fun _ => (.refl _ _))

theorem execPairTimeStep_within (s) (t : State) (h : execPairTimeStep s = .next t) : Within [.recorder, .host, .time, .plinth,
  .power, .cpl, .task, .retained, .image, .pub, .loop, .uc, .dig, .counter, .group, .safety, .net, .can, .panel, .pair, .modes] s t
  := by
  unfold execPairTimeStep at h
  injection h with h
  subst h
  exact (by split; exacts [(.ite (fun _ => (.step (applyStep_within ..) rfl (.step (timeMod_within ..) rfl (.refl _ _)))) (fun _ =>
    (.refl _ _))), (.refl _ _)])

theorem timeTakeover_within (s) : Within [.time] s (timeTakeover s) := by
  unfold timeTakeover
  exact .ite (fun _ => (.refl _ _)) (fun _ => (.ite (fun _ => (.step (setRate_within ..) rfl (.step (timeMod_within ..) rfl (.refl _
    _)))) (fun _ => (.step (timeMod_within ..) rfl (.refl _ _)))))

theorem writeInc_within (i s) : Within [.time] s (writeInc i s) := by
  unfold writeInc
  exact .step (timeMod_within ..) rfl (.refl _ _)

theorem writeTimeCtrl_within (i j k s) : Within [.recorder, .time, .out] s (writeTimeCtrl i j k s) := by
  unfold writeTimeCtrl
  exact .ite (fun _ => (.step (timeMod_within ..) rfl (.refl _ _))) (fun _ => (.ite (fun _ => (.step (beginStep_within ..) rfl (.ite
    (fun _ => (.step (restartSession_within ..) rfl (.step (timeMod_within ..) rfl (.refl _ _)))) (fun _ => (.step (timeMod_within
    ..) rfl (.refl _ _)))))) (fun _ => (.ite (fun _ => (.step (restartSession_within ..) rfl (.step (timeMod_within ..) rfl (.refl _
    _)))) (fun _ => (.step (timeMod_within ..) rfl (.refl _ _)))))))

theorem timeWrite_within (i j s) : Within [.recorder, .time, .out] s (timeWrite i j s) := by
  unfold timeWrite
  exact (by split; exacts [(.step (writeInc_within ..) rfl (.refl _ _)), (.step (timeMod_within ..) rfl (.refl _ _)), (.step
    (timeMod_within ..) rfl (.refl _ _)), (.step (timeMod_within ..) rfl (.refl _ _)), (.step (writeTimeCtrl_within ..) rfl (.refl _
    _)), (.refl _ _)])

theorem execTimeWrap_within (s) (t : State) (h : execTimeWrap s = .next t) : Within [.recorder, .host, .time, .plinth, .power, .cpl,
  .task, .retained, .image, .pub, .loop, .uc, .dig, .counter, .group, .safety, .net, .can, .panel, .pair, .modes, .out] s t := by
  unfold execTimeWrap at h
  injection h with h
  subst h
  exact .ite (fun _ => (.step (refTick_within ..) rfl (.refl _ _))) (fun _ => (.refl _ _))

theorem execTimeNsRead_within (s) (t : State) (h : execTimeNsRead s = .next t) : Within [.host, .time] s t := by
  unfold execTimeNsRead at h
  injection h with h
  subst h
  exact .set_host rfl (.step (timeMod_within ..) rfl (.refl _ _))

theorem execTimeIncWrite_within (i s) (t : State) (h : execTimeIncWrite i s = .next t) : Within [.time] s t := by
  unfold execTimeIncWrite at h
  injection h with h
  subst h
  exact .step (writeInc_within ..) rfl (.refl _ _)

theorem execTimeCtrlStep_within (i s) (t : State) (h : execTimeCtrlStep i s = .next t) : Within [.recorder, .time, .out] s t := by
  unfold execTimeCtrlStep at h
  injection h with h
  subst h
  exact .step (writeTimeCtrl_within ..) rfl (.refl _ _)

theorem execTimeCtrlNewSession_within (i j s) (t : State) (h : execTimeCtrlNewSession i j s = .next t) : Within [.recorder, .time,
  .out] s t := by
  unfold execTimeCtrlNewSession at h
  injection h with h
  subst h
  exact .step (writeTimeCtrl_within ..) rfl (.refl _ _)

theorem execTempRateExpiry_within (s) (t : State) (h : execTempRateExpiry s = .next t) : Within [.time] s t := by
  unfold execTempRateExpiry at h
  injection h with h
  subst h
  exact .ite (fun _ => (.ite (fun _ => (.step (setRate_within ..) rfl (.step (timeMod_within ..) rfl (.refl _ _)))) (fun _ => (.step
    (timeMod_within ..) rfl (.refl _ _))))) (fun _ => (.refl _ _))

theorem execTimeGet_within (i s) (t : State) (h : execTimeGet i s = .next t) : Within [.host, .plinth, .power, .out] s t := by
  unfold execTimeGet at h
  injection h with h
  subst h
  exact runCommand_step rfl (fun _ _ => (.set_plinth rfl (.refl _ _))) (.refl _ _)

theorem execTimeStep_within (i s) (t : State) (h : execTimeStep i s = .next t) : Within [.recorder, .host, .time, .power, .out] s t
  := by
  unfold execTimeStep at h
  injection h with h
  subst h
  exact runCommand_step rfl (fun _ _ => (by dsimp -proj only; split; exacts [(.refl _ _), (.ite_fst (fun _ => (.refl _ _)) (fun _ =>
    (.ite_fst (fun _ => (.ite (fun _ => (.step (restartSession_within ..) rfl (.refl _ _))) (fun _ => (.refl _ _)))) (fun _ =>
    (.step (beginStep_within ..) rfl (.ite (fun _ => (.step (restartSession_within ..) rfl (.refl _ _))) (fun _ => (.refl _
    _))))))))])) (.refl _ _)

theorem execTimeRate_within (i s) (t : State) (h : execTimeRate i s = .next t) : Within [.recorder, .host, .time, .power, .out] s t
  := by
  unfold execTimeRate at h
  injection h with h
  subst h
  exact runCommand_step rfl (fun _ _ => (.ite_fst (fun _ => (.refl _ _)) (fun _ => (.ite_fst (fun _ => (.refl _ _)) (fun _ =>
    (.ite_fst (fun _ => (.refl _ _)) (fun _ => (.ite (fun _ => (.step (setRate_within ..) rfl (.step (timeMod_within ..) rfl (.refl
    _ _)))) (fun _ => (.step (admitRecord_within ..) rfl (.step (setRate_within ..) rfl (.step (timeMod_within ..) rfl (.refl _
    _))))))))))))) (.refl _ _)

theorem execRtcSet_within (i s) (t : State) (h : execRtcSet i s = .next t) : Within [.recorder, .host, .plinth, .power, .out] s t := by
  unfold execRtcSet at h
  cases h
  refine runCommand_within rfl (fun _ _ => ?_) _
  iterate 4 refine .ite_fst (fun _ => .refl _ _) (fun _ => ?_)
  dsimp only
  exact .step (admitRecord_within ..) rfl (.step (plinthMod_within ..) rfl (.refl _ _))

theorem canMod_within (i j s) : Within [.can] s (canMod i j s) := by
  unfold canMod
  exact .set_can rfl (.refl _ _)

theorem objMod_within (i j k s) : Within [.can] s (objMod i j k s) := by
  unfold objMod
  exact .step (canMod_within ..) rfl (.refl _ _)

theorem startNext_within (i s) : Within [.can, .out] s (startNext i s) := by
  unfold startNext
  exact .ite (fun _ => (.refl _ _)) (fun _ => (by split; exacts [(.step (emit_within ..) rfl (.step (canMod_within ..) rfl (.refl _
    _))), (by dsimp -proj only; split; exacts [(.foldl (fun _ _ => (.step (objMod_within ..) rfl (.refl _ _))) _ (.refl _ _)),
    (.step (emit_within ..) rfl (.step (canMod_within ..) rfl (.step (objMod_within ..) rfl (.foldl (fun _ _ => (.step
    (objMod_within ..) rfl (.refl _ _))) _ (.refl _ _)))))])]))

theorem sendObject_within (i s) : Within [.net, .can, .out] s (sendObject i s) := by
  unfold sendObject
  exact .ite (fun _ => (.refl _ _)) (fun _ => (.step (startNext_within ..) rfl (.step (outMod_within ..) rfl (.step (objMod_within
    ..) rfl (.refl _ _)))))

theorem sendOut_within (i s) : Within [.net, .can, .out] s (sendOut i s) := by
  unfold sendOut
  exact .ite (fun _ => (.step (sendTelegram_within ..) rfl (.refl _ _))) (fun _ => (.step (sendObject_within ..) rfl (.refl _ _)))

theorem outputsAfter_within (i s) : Within [.net, .can, .out] s (outputsAfter i s) := by
  unfold outputsAfter
  exact .ite (fun _ => (.refl _ _)) (fun _ => (.foldl (fun _ _ => (.ite (fun _ => (.step (sendOut_within ..) rfl (.refl _ _))) (fun
    _ => (.refl _ _)))) _ (.refl _ _)))

theorem canTakeover_within (s) : Within [.net, .can, .out] s (canTakeover s) := by
  unfold canTakeover
  exact .foldl (fun _ _ => (.step (sendObject_within ..) rfl (.refl _ _))) _ (.step (canFollow_within ..) rfl (.refl _ _))

theorem execOutputRepeatExpiry_within (i s) (t : State) (h : execOutputRepeatExpiry i s = .next t) : Within [.net, .can, .out] s t
  := by
  unfold execOutputRepeatExpiry at h
  injection h with h
  subst h
  exact (by dsimp -proj only; split; exacts [(.step (sendOut_within ..) rfl (.refl _ _)), (.ite (fun _ => (.step (sendOut_within ..)
    rfl (.refl _ _))) (fun _ => (.refl _ _)))])

theorem readObject_within (i j s) : Within [.recorder, .cpl, .image, .net, .can] s (readObject i j s) := by
  unfold readObject
  exact (by split; exacts [(.refl _ _), (.ite (fun _ => (.refl _ _)) (fun _ => (.ite (fun _ => (.step (dispatchIn_within ..) rfl
    (.step (objMod_within ..) rfl (.refl _ _)))) (fun _ => (.step (objMod_within ..) rfl (.refl _ _))))))])

theorem storeFrame_within (i j k s) : Within [.recorder, .cpl, .image, .net, .can] s (storeFrame i j k s) := by
  unfold storeFrame
  exact .ite (fun _ => (.step (objMod_within ..) rfl (.step (objMod_within ..) rfl (.refl _ _)))) (fun _ => (.step
    (readObject_within ..) rfl (.step (objMod_within ..) rfl (.step (objMod_within ..) rfl (.refl _ _)))))

theorem masterConflict_within (i s) : Within [.recorder, .can] s (masterConflict i s) := by
  unfold masterConflict
  exact .ite (fun _ => (.step (canMod_within ..) rfl (.refl _ _))) (fun _ => (.step (record_within ..) rfl (.step (canMod_within ..)
    rfl (.refl _ _))))

theorem execCanFrameReceived_within (i j s) (t : State) (h : execCanFrameReceived i j s = .next t) : Within [.recorder, .cpl,
  .image, .net, .can] s t := by
  unfold execCanFrameReceived at h
  injection h with h
  subst h
  exact .ite (fun _ => (.refl _ _)) (fun _ => (.ite (fun _ => (.step (canMod_within ..) rfl (.step (canMod_within ..) rfl (.refl _
    _)))) (fun _ => (by dsimp -proj only; split; exacts [(.step (canMod_within ..) rfl (.ite (fun _ => (.step (masterConflict_within
    ..) rfl (.step (canMod_within ..) rfl (.refl _ _)))) (fun _ => (.step (canMod_within ..) rfl (.refl _ _))))), (.step
    (storeFrame_within ..) rfl (.ite (fun _ => (.step (masterConflict_within ..) rfl (.step (canMod_within ..) rfl (.refl _ _))))
    (fun _ => (.step (canMod_within ..) rfl (.refl _ _)))))]))))

theorem execCanLockRelease_within (i j s) (t : State) (h : execCanLockRelease i j s = .next t) : Within [.recorder, .cpl, .image,
  .net, .can] s t := by
  unfold execCanLockRelease at h
  injection h with h
  subst h
  exact .ite (fun _ => (.refl _ _)) (fun _ => (by split; exacts [(.step (objMod_within ..) rfl (.refl _ _)), (.step
    (readObject_within ..) rfl (.step (objMod_within ..) rfl (.refl _ _)))]))

theorem execCanTxComplete_within (i j s) (t : State) (h : execCanTxComplete i j s = .next t) : Within [.can, .out] s t := by
  unfold execCanTxComplete at h
  injection h with h
  subst h
  exact (by dsimp -proj only; split; exacts [(.refl _ _), (by split; exacts [(.step (startNext_within ..) rfl (.step (canMod_within
    ..) rfl (.step (canMod_within ..) rfl (.step (canMod_within ..) rfl (.refl _ _))))), (.step (startNext_within ..) rfl (.step
    (canMod_within ..) rfl (.ite (fun _ => (.refl _ _)) (fun _ => (.step (canMod_within ..) rfl (.refl _ _))))))]),
    (by split; exacts [(.step (startNext_within ..) rfl (.step (canMod_within ..) rfl (.step (canMod_within ..) rfl (.step
    (objMod_within ..) rfl (.refl _ _))))), (.step (startNext_within ..) rfl (.step (canMod_within ..) rfl (.step (objMod_within ..)
    rfl (.refl _ _))))])])

theorem execCanReferenceTime_within (i s) (t : State) (h : execCanReferenceTime i s = .next t) : Within [.can, .out] s t := by
  unfold execCanReferenceTime at h
  injection h with h
  subst h
  exact .ite (fun _ => (.refl _ _)) (fun _ => (.step (startNext_within ..) rfl (.step (canMod_within ..) rfl (.refl _ _))))

theorem execCanWindowStart_within (i j s) (t : State) (h : execCanWindowStart i j s = .next t) : Within [.can, .out] s t := by
  unfold execCanWindowStart at h
  injection h with h
  subst h
  exact .ite (fun _ => (.refl _ _)) (fun _ => (.step (startNext_within ..) rfl (.step (objMod_within ..) rfl (.refl _ _))))

theorem execCanMasterResume_within (i s) (t : State) (h : execCanMasterResume i s = .next t) : Within [.recorder, .can] s t := by
  unfold execCanMasterResume at h
  injection h with h
  subst h
  exact (by dsimp -proj only; split; exacts [(.refl _ _), (.ite (fun _ => (.refl _ _)) (fun _ => (.step (record_within ..) rfl
    (.step (canMod_within ..) rfl (.refl _ _)))))])

theorem execCanBusOff_within (i s) (t : State) (h : execCanBusOff i s = .next t) : Within [.recorder, .can] s t := by
  unfold execCanBusOff at h
  injection h with h
  subst h
  exact .ite (fun _ => (.refl _ _)) (fun _ => (.ite (fun _ => (.step (record_within ..) rfl (.step (canMod_within ..) rfl
    (by split; exacts [(.step (objMod_within ..) rfl (.refl _ _)), (.refl _ _)])))) (fun _ => (.step (record_within ..) rfl (.step
    (canMod_within ..) rfl (by split; exacts [(.step (objMod_within ..) rfl (.refl _ _)), (.refl _ _)]))))))

theorem execCanBusoffRecovery_within (i s) (t : State) (h : execCanBusoffRecovery i s = .next t) : Within [.can, .out] s t := by
  unfold execCanBusoffRecovery at h
  injection h with h
  subst h
  exact (by split; exacts [(.refl _ _), (.ite (fun _ => (.refl _ _)) (fun _ => (.step (startNext_within ..) rfl (.step
    (canMod_within ..) rfl (.refl _ _)))))])

theorem execCanBusError_within (i j k s) (t : State) (h : execCanBusError i j k s = .next t) : Within [.can] s t := by
  unfold execCanBusError at h
  injection h with h
  subst h
  exact .ite (fun _ => (.refl _ _)) (fun _ => (.step (canMod_within ..) rfl (.refl _ _)))

theorem canConfigure_within (i j s) : Within [.can, .modes] s (canConfigure i j s) := by
  unfold canConfigure
  exact .ite (fun _ => (.refl _ _)) (fun _ => (.step (healthFollows_within ..) rfl (.set_can rfl (.refl _ _))))

theorem objConfigure_within (i j k s) : Within [.can] s (objConfigure i j k s) := by
  unfold objConfigure
  exact .ite (fun _ => (.refl _ _)) (fun _ => (.step (objMod_within ..) rfl (.refl _ _)))

theorem laneMod_within (i j s) : Within [.cpl] s (laneMod i j s) := by
  unfold laneMod
  exact .set_cpl rfl (.refl _ _)

theorem lanePower_within (i j s) : Within [.power] s (lanePower i j s) := by
  unfold lanePower
  exact .set_power rfl (.refl _ _)

theorem endCopy_within (i s) : Within [.cpl] s (endCopy i s) := by
  unfold endCopy
  exact .set_cpl rfl (.refl _ _)

theorem commitStream_within (i s) : Within [.cpl] s (commitStream i s) := by
  unfold commitStream
  exact .ite (fun _ => (.set_cpl rfl (.refl _ _))) (fun _ => (.refl _ _))

theorem enterResync_within (i s) : Within [.power, .cpl, .loop] s (enterResync i s) := by
  unfold enterResync
  exact (by split; exacts [(.refl _ _), (.set_cpl_loop rfl (.step (lanePower_within ..) rfl (.step (lanePower_within ..) rfl (.step
    (laneMod_within ..) rfl (.refl _ _)))))])

theorem tryResync_within (s) : Within [.power, .cpl, .loop] s (tryResync s) := by
  unfold tryResync
  exact .ite (fun _ => (.refl _ _)) (fun _ => (by split; exacts [(.step (enterResync_within ..) rfl (.refl _ _)), (.refl _ _)]))

theorem rejoinCheck_within (s) : Within [.recorder, .power, .cpl, .image, .loop, .uc, .dig, .safety] s (rejoinCheck s) := by
  unfold rejoinCheck
  exact .ite (fun _ => (.refl _ _)) (fun _ => (.step (tryResync_within ..) rfl (.step (capabilityChanged_within ..) rfl
    (by split; exacts [(.ite (fun _ => (.step (laneMod_within ..) rfl (.foldl (fun _ _ => (.step (laneMod_within ..) rfl (.refl _
    _))) _ (.foldl (fun _ _ => (.step (laneMod_within ..) rfl (.refl _ _))) _ (.refl _ _))))) (fun _ => (.foldl (fun _ _ => (.step
    (laneMod_within ..) rfl (.refl _ _))) _ (.foldl (fun _ _ => (.step (laneMod_within ..) rfl (.refl _ _))) _ (.refl _ _))))),
    (.foldl (fun _ _ => (.step (laneMod_within ..) rfl (.refl _ _))) _ (.foldl (fun _ _ => (.step (laneMod_within ..) rfl (.refl _
    _))) _ (.refl _ _)))]))))

theorem lanesStranded_within (s) : Within [.power, .cpl] s (lanesStranded s) := by
  unfold lanesStranded
  exact .ite (fun _ => (.refl _ _)) (fun _ => (.foldl (fun _ _ => (.step (lanePower_within ..) rfl (.step (laneMod_within ..) rfl
    (.refl _ _)))) _ (.refl _ _)))

theorem discardOrphans_within (s) : Within [.recorder, .cpl, .task, .image, .uc, .dig, .safety] s (discardOrphans s) := by
  unfold discardOrphans
  exact .foldl (fun _ _ => (.ite (fun _ => (.step (discardCycle_within ..) rfl (.refl _ _))) (fun _ => (.refl _ _)))) _ (.refl _ _)

theorem dropLane_within (i s) : Within [.recorder, .power, .cpl, .task, .image, .uc, .dig, .safety, .modes] s (dropLane i s) := by
  unfold dropLane
  exact (by dsimp -proj only; split; exacts [(.refl _ _), (.refl _ _), (.refl _ _), (.step (record_within ..) rfl (.step
    (lanesStranded_within ..) rfl (.step (discardOrphans_within ..) rfl (.step (lanePower_within ..) rfl (.ite (fun _ => (.step
    (setHealth_within ..) rfl (.ite (fun _ => (.step (detachDebugger_within ..) rfl (.ite (fun _ => (.step (endCopy_within ..) rfl
    (.foldl (fun _ _ => (.step (taskMod_within ..) rfl (.refl _ _))) _ (.step (laneMod_within ..) rfl (.refl _ _))))) (fun _ =>
    (.foldl (fun _ _ => (.step (taskMod_within ..) rfl (.refl _ _))) _ (.step (laneMod_within ..) rfl (.refl _ _))))))) (fun _ =>
    (.ite (fun _ => (.step (endCopy_within ..) rfl (.foldl (fun _ _ => (.step (taskMod_within ..) rfl (.refl _ _))) _ (.step
    (laneMod_within ..) rfl (.refl _ _))))) (fun _ => (.foldl (fun _ _ => (.step (taskMod_within ..) rfl (.refl _ _))) _ (.step
    (laneMod_within ..) rfl (.refl _ _))))))))) (fun _ => (.ite (fun _ => (.step (detachDebugger_within ..) rfl (.ite (fun _ =>
    (.step (endCopy_within ..) rfl (.foldl (fun _ _ => (.step (taskMod_within ..) rfl (.refl _ _))) _ (.step (laneMod_within ..) rfl
    (.refl _ _))))) (fun _ => (.foldl (fun _ _ => (.step (taskMod_within ..) rfl (.refl _ _))) _ (.step (laneMod_within ..) rfl
    (.refl _ _))))))) (fun _ => (.ite (fun _ => (.step (endCopy_within ..) rfl (.foldl (fun _ _ => (.step (taskMod_within ..) rfl
    (.refl _ _))) _ (.step (laneMod_within ..) rfl (.refl _ _))))) (fun _ => (.foldl (fun _ _ => (.step (taskMod_within ..) rfl
    (.refl _ _))) _ (.step (laneMod_within ..) rfl (.refl _ _)))))))))))))])

theorem setSpare_within (i s) : Within [.cpl] s (setSpare i s) := by
  unfold setSpare
  exact .set_cpl rfl (.refl _ _)

theorem handoverCheck_within (s) : Within [.recorder, .power, .cpl, .image, .loop, .uc, .dig, .safety, .fresh] s (handoverCheck s)
  := by
  unfold handoverCheck
  exact .ite (fun _ => (.refl _ _)) (fun _ => (.ite (fun _ => (.refl _ _)) (fun _ => (.step (rejoinCheck_within ..) rfl (.step
    (tryResync_within ..) rfl (.step (capabilityChanged_within ..) rfl (by split; exacts [(.foldl (fun _ _ => (.step (laneMod_within
    ..) rfl (.refl _ _))) _ (.set_cpl rfl (.refl _ _))), (.ite (fun _ => (by dsimp -proj only; split; exacts [(.step (laneMod_within
    ..) rfl (.foldl (fun _ _ => (.step (laneMod_within ..) rfl (.refl _ _))) _ (.step (laneMod_within ..) rfl (.step
    (nextFree_within ..) rfl (.set_cpl rfl (.refl _ _)))))), (.foldl (fun _ _ => (.step (laneMod_within ..) rfl (.refl _ _))) _
    (.step (laneMod_within ..) rfl (.step (nextFree_within ..) rfl (.set_cpl rfl (.refl _ _)))))])) (fun _ => (.step (laneMod_within
    ..) rfl (.step (nextFree_within ..) rfl (.set_cpl rfl (.refl _ _)))))), (by split; exacts [(.step (laneMod_within ..) rfl
    (.set_cpl rfl (.refl _ _))), (.set_cpl rfl (.refl _ _))]), (.set_cpl rfl (.refl _ _))])))))))

theorem beginHandover_within (i j s) : Within [.recorder, .power, .cpl, .task, .image, .prog, .loop, .uc, .dig, .safety, .cfg, .out,
  .fresh] s (beginHandover i j s) := by
  unfold beginHandover
  exact .step (handoverCheck_within ..) rfl (.step (tryResync_within ..) rfl (.step (audit_within ..) rfl (.foldl (fun _ _ => (.step
    (taskMod_within ..) rfl (.ite (fun _ => (.step (discardCycle_within ..) rfl (.refl _ _))) (fun _ => (.refl _ _))))) _ (.set_cpl
    rfl (.step (abandonExchange_within ..) rfl (.refl _ _))))))

theorem unusableLane_within (i s) : Within [.recorder, .power, .cpl, .task, .image, .prog, .loop, .uc, .dig, .safety, .cfg, .out,
  .fresh] s (unusableLane i s) := by
  unfold unusableLane
  exact .ite (fun _ => (.refl _ _)) (fun _ => (by split; exacts [(.step (beginHandover_within ..) rfl (.step (record_within ..) rfl
    (.refl _ _))), (.ite (fun _ => (.refl _ _)) (fun _ => (.step (setSpare_within ..) rfl (.refl _ _)))), (.refl _ _)]))

theorem soleLane_within (i j s) : Within [.recorder, .cpl, .task, .image, .prog, .uc, .dig, .safety, .pair, .cfg, .out] s (soleLane
  i j s) := by
  unfold soleLane
  exact (by dsimp -proj only; split; exacts [(.step (leaveStep_within ..) rfl (by split; exacts [(.step (setSpare_within ..) rfl
    (.step (record_within ..) rfl (.step (laneMod_within ..) rfl (.refl _ _)))), (.step (record_within ..) rfl (.step
    (laneMod_within ..) rfl (.refl _ _)))])), (.step (demote_within ..) rfl (by split; exacts [(.step (setSpare_within ..) rfl
    (.step (record_within ..) rfl (.step (laneMod_within ..) rfl (.refl _ _)))), (.step (record_within ..) rfl (.step
    (laneMod_within ..) rfl (.refl _ _)))])), (by split; exacts [(.step (setSpare_within ..) rfl (.step (record_within ..) rfl
    (.step (laneMod_within ..) rfl (.refl _ _)))), (.step (record_within ..) rfl (.step (laneMod_within ..) rfl (.refl _ _)))]),
    (.step (forceAllSafe_within ..) rfl (by split; exacts [(.step (setSpare_within ..) rfl (.step (record_within ..) rfl (.step
    (laneMod_within ..) rfl (.refl _ _)))), (.step (record_within ..) rfl (.step (laneMod_within ..) rfl (.refl _ _)))]))])

theorem excludeLane_within (i s) : Within [.recorder, .power, .cpl, .task, .image, .prog, .loop, .uc, .dig, .safety, .can, .pair,
  .modes, .cfg, .out, .fresh, .mode] s (excludeLane i s) := by
  unfold excludeLane
  exact (by split; exacts [(.refl _ _), (.refl _ _), (.refl _ _), (.step (tryResync_within ..) rfl (.step (capabilityChanged_within
    ..) rfl (by split; exacts [(by dsimp -proj only; split; exacts [(.step (enterSafe_within ..) rfl (.step (record_within ..) rfl
    (.step (unusableLane_within ..) rfl (.ite (fun _ => (.step (unusableLane_within ..) rfl (.step (dropLane_within ..) rfl (.step
    (dropLane_within ..) rfl (.refl _ _))))) (fun _ => (.step (dropLane_within ..) rfl (.refl _ _))))))), (.step (enterSafe_within
    ..) rfl (.step (record_within ..) rfl (.step (unusableLane_within ..) rfl (.ite (fun _ => (.step (unusableLane_within ..) rfl
    (.step (dropLane_within ..) rfl (.step (dropLane_within ..) rfl (.refl _ _))))) (fun _ => (.step (dropLane_within ..) rfl (.refl
    _ _))))))), (.step (enterSafe_within ..) rfl (.step (record_within ..) rfl (.step (unusableLane_within ..) rfl (.ite (fun _ =>
    (.step (unusableLane_within ..) rfl (.step (dropLane_within ..) rfl (.step (dropLane_within ..) rfl (.refl _ _))))) (fun _ =>
    (.step (dropLane_within ..) rfl (.refl _ _))))))), (.step (enterSafe_within ..) rfl (.step (record_within ..) rfl (.step
    (unusableLane_within ..) rfl (.ite (fun _ => (.step (unusableLane_within ..) rfl (.step (dropLane_within ..) rfl (.step
    (dropLane_within ..) rfl (.refl _ _))))) (fun _ => (.step (dropLane_within ..) rfl (.refl _ _))))))), (.step (record_within ..)
    rfl (.step (unusableLane_within ..) rfl (.ite (fun _ => (.step (unusableLane_within ..) rfl (.step (dropLane_within ..) rfl
    (.step (dropLane_within ..) rfl (.refl _ _))))) (fun _ => (.step (dropLane_within ..) rfl (.refl _ _))))))]), (.step
    (record_within ..) rfl (.step (unusableLane_within ..) rfl (.ite (fun _ => (.step (unusableLane_within ..) rfl (.step
    (dropLane_within ..) rfl (.step (dropLane_within ..) rfl (.refl _ _))))) (fun _ => (.step (dropLane_within ..) rfl (.refl _
    _)))))), (by split; exacts [(.step (soleLane_within ..) rfl (.step (unusableLane_within ..) rfl (.ite (fun _ => (.step
    (unusableLane_within ..) rfl (.step (dropLane_within ..) rfl (.step (dropLane_within ..) rfl (.refl _ _))))) (fun _ => (.step
    (dropLane_within ..) rfl (.refl _ _)))))), (.step (unusableLane_within ..) rfl (.ite (fun _ => (.step (unusableLane_within ..)
    rfl (.step (dropLane_within ..) rfl (.step (dropLane_within ..) rfl (.refl _ _))))) (fun _ => (.step (dropLane_within ..) rfl
    (.refl _ _)))))]), (.step (unusableLane_within ..) rfl (.ite (fun _ => (.step (unusableLane_within ..) rfl (.step
    (dropLane_within ..) rfl (.step (dropLane_within ..) rfl (.refl _ _))))) (fun _ => (.step (dropLane_within ..) rfl (.refl _
    _)))))])))])

theorem escalate_within (s) : Within [.recorder, .cpl, .task, .image, .prog, .uc, .dig, .safety, .can, .pair, .modes, .cfg, .out,
  .mode] s (escalate s) := by
  unfold escalate
  exact .step (selfDemote_within ..) rfl (.refl _ _)

theorem countMismatch_within (i s) : Within [.recorder, .power, .cpl, .task, .image, .prog, .loop, .uc, .dig, .safety, .modes, .cfg,
  .out, .fresh] s (countMismatch i s) := by
  unfold countMismatch
  exact .ite (fun _ => (.step (tryResync_within ..) rfl (.step (capabilityChanged_within ..) rfl (.step (unusableLane_within ..) rfl
    (.step (dropLane_within ..) rfl (.step (record_within ..) rfl (.set_cpl rfl (.refl _ _)))))))) (fun _ => (.step (record_within
    ..) rfl (.set_cpl rfl (.refl _ _))))

theorem unresolvedMismatch_within (i s) : Within [.recorder, .power, .cpl, .task, .image, .prog, .loop, .uc, .dig, .safety, .can,
  .pair, .modes, .cfg, .out, .fresh, .mode] s (unresolvedMismatch i s) := by
  unfold unresolvedMismatch
  exact .ite (fun _ => (.step (escalate_within ..) rfl (.step (countMismatch_within ..) rfl (.refl _ _)))) (fun _ => (.step
    (countMismatch_within ..) rfl (.refl _ _)))

theorem couplerFault_within (i s) : Within [.recorder, .power, .cpl, .task, .image, .prog, .loop, .uc, .dig, .safety, .can, .pair,
  .modes, .cfg, .out, .fresh, .mode] s (couplerFault i s) := by
  unfold couplerFault
  exact .step (selfDemote_within ..) rfl (.step (countMismatch_within ..) rfl (.set_cpl rfl (.refl _ _)))

theorem scopesSafe_within (i j k s) : Within [.recorder, .cpl, .image, .uc, .dig, .safety] s (scopesSafe i j k s) := by
  unfold scopesSafe
  exact .foldl (fun _ _ => (.step (forceSafe_within ..) rfl (.refl _ _))) _ (.refl _ _)

theorem execExclusionCountAgeing_within (i s) (t : State) (h : execExclusionCountAgeing i s = .next t) : Within [.cpl] s t := by
  unfold execExclusionCountAgeing at h
  injection h with h
  subst h
  exact .step (laneMod_within ..) rfl (.refl _ _)

theorem execResyncHoldExpiry_within (i s) (t : State) (h : execResyncHoldExpiry i s = .next t) : Within [.power, .cpl] s t := by
  unfold execResyncHoldExpiry at h
  injection h with h
  subst h
  exact .ite (fun _ => (.step (lanePower_within ..) rfl (.step (laneMod_within ..) rfl (.refl _ _)))) (fun _ => (.refl _ _))

theorem execFirmwareReloadComplete_within (i s) (t : State) (h : execFirmwareReloadComplete i s = .next t) : Within [.cpl] s t := by
  unfold execFirmwareReloadComplete at h
  injection h with h
  subst h
  exact .ite (fun _ => (.step (laneMod_within ..) rfl (.refl _ _))) (fun _ => (.refl _ _))

theorem execDramClearComplete_within (i s) (t : State) (h : execDramClearComplete i s = .next t) : Within [.power, .cpl, .loop] s t
  := by
  unfold execDramClearComplete at h
  injection h with h
  subst h
  exact .ite (fun _ => (.step (tryResync_within ..) rfl (.set_cpl rfl (.step (laneMod_within ..) rfl (.refl _ _))))) (fun _ =>
    (.refl _ _))

theorem execResyncCopyComplete_within (s) (t : State) (h : execResyncCopyComplete s = .next t) : Within [.recorder, .power, .cpl,
  .image, .loop, .uc, .dig, .safety] s t := by
  unfold execResyncCopyComplete at h
  injection h with h
  subst h
  exact .ite (fun _ => (.step (lanesIdle_within ..) rfl (.step (rejoinCheck_within ..) rfl (.step (tryResync_within ..) rfl (.step
    (endCopy_within ..) rfl (.step (laneMod_within ..) rfl (.refl _ _))))))) (fun _ => (.refl _ _))

theorem execResyncSuspend_within (s) (t : State) (h : execResyncSuspend s = .next t) : Within [.recorder, .cpl] s t := by
  unfold execResyncSuspend at h
  injection h with h
  subst h
  exact .ite (fun _ => (.step (record_within ..) rfl (.set_cpl rfl (.refl _ _)))) (fun _ => (.refl _ _))

theorem execResyncResume_within (s) (t : State) (h : execResyncResume s = .next t) : Within [.cpl] s t := by
  unfold execResyncResume at h
  injection h with h
  subst h
  exact .ite (fun _ => (by split; exacts [(.set_cpl rfl (.refl _ _)), (.refl _ _)])) (fun _ => (.refl _ _))

theorem journalAction_within (i j s) : Within [.cpl] s (journalAction i j s) := by
  unfold journalAction
  exact (by split; exacts [(.refl _ _), (.ite (fun _ => (.refl _ _)) (fun _ => (.set_cpl rfl (.refl _ _))))])

theorem debugAttach_within (i j k s) : Within [.recorder, .cpl, .task, .image, .uc, .dig, .safety] s (debugAttach i j k s).1 := by
  unfold debugAttach
  exact .step (audit_within ..) rfl (by split; exacts [(.step (capabilityChanged_within ..) rfl (.step (discardOrphans_within ..)
    rfl (.foldl (fun _ _ => (.step (taskMod_within ..) rfl (.refl _ _))) _ (.step (laneMod_within ..) rfl (.set_cpl rfl (.refl _
    _)))))), (.set_cpl rfl (.refl _ _))])

theorem debugJournal_within (a s u) : Within [.cpl, .fresh] u (debugJournal a s u).1 :=
  .step (journalAction_within ..) rfl (.step (nextFree_within ..) rfl (.refl _ _))

theorem debugOperation_within (i j s) : Within [.recorder, .power, .cpl, .prog, .loop, .fresh] s (debugOperation i j s).1 := by
  unfold debugOperation
  exact .ite_fst (fun _ => (.step (tryResync_within ..) rfl (.step (detachDebugger_within ..) rfl (.refl _ _)))) (fun _ => (.ite_fst
    (fun _ => (.ite_fst (fun _ => (.refl _ _)) (fun _ => (.refl _ _)))) (fun _ => (.ite_fst (fun _ => (.refl _ _)) (fun _ =>
    (.ite_fst (fun _ => (.ite_fst (fun _ => (.step (debugJournal_within ..) rfl (.set_cpl rfl (.refl _ _)))) (fun _ => (.set_cpl rfl
    (.refl _ _))))) (fun _ => (.ite_fst (fun _ => (.set_cpl rfl (.refl _ _))) (fun _ => (.ite_fst (fun _ => (.step
    (debugJournal_within ..) rfl (.set_cpl rfl (.refl _ _)))) (fun _ => (.ite_fst (fun _ => (.refl _ _)) (fun _ => (.ite_fst (fun _
    => (.step (debugJournal_within ..) rfl (.set_cpl rfl (.refl _ _)))) (fun _ => (.step (debugJournal_within ..) rfl (.set_prog rfl
    (.refl _ _))))))))))))))))))

theorem sendBlock_within (i j s) : Within [.pub, .out] s (sendBlock i j s) := by
  unfold sendBlock
  exact .ite (fun _ => (.step (emit_within ..) rfl (.step (emit_within ..) rfl (.set_pub rfl (.refl _ _))))) (fun _ => (.step
    (emit_within ..) rfl (.set_pub rfl (.refl _ _))))

theorem published_within (i s) : Within [.image, .cfg] s (published i s) := by
  unfold published
  exact .set_cfg rfl (.step (putRec_within ..) rfl (.refl _ _))

theorem sendChanges_within (s) : Within [.recorder, .image, .pub, .cfg, .out] s (sendChanges s) := by
  unfold sendChanges
  exact .ite (fun _ => (.refl _ _)) (fun _ => (.foldl (fun _ _ => (.step (published_within ..) rfl (.refl _ _))) _ (.step
    (sendBlock_within ..) rfl (.step (pathMod_within ..) rfl (.set_pub rfl (.refl _ _))))))

theorem fullBlocks_within (i s) : Within [.recorder, .image, .pub, .cfg, .out] s (fullBlocks i s) := by
  unfold fullBlocks
  exact (by split; exacts [(.refl _ _), (.ite (fun _ => (.step (fullBlocks_within ..) rfl (.step (sendChanges_within ..) rfl (.refl
    _ _)))) (fun _ => (.refl _ _)))])

theorem publishFull_within (s) : Within [.recorder, .image, .pub, .cfg, .out] s (publishFull s) := by
  unfold publishFull
  exact .step (fullBlocks_within ..) rfl (.refl _ _)

theorem execPubChangeBlockClose_within (s) (t : State) (h : execPubChangeBlockClose s = .next t) : Within [.recorder, .image, .pub,
  .cfg, .out] s t := by
  unfold execPubChangeBlockClose at h
  injection h with h
  subst h
  exact (by split; exacts [(.refl _ _), (.ite (fun _ => (.step (sendChanges_within ..) rfl (.refl _ _))) (fun _ => (.refl _ _)))])

theorem execPubKeepalive_within (s) (t : State) (h : execPubKeepalive s = .next t) : Within [.pub, .out] s t := by
  unfold execPubKeepalive at h
  injection h with h
  subst h
  exact .ite (fun _ => (.step (sendBlock_within ..) rfl (.refl _ _))) (fun _ => (.refl _ _))

theorem execRefreshBlock_within (s) (t : State) (h : execRefreshBlock s = .next t) : Within [.pub, .out] s t := by
  unfold execRefreshBlock at h
  injection h with h
  subst h
  exact .ite (fun _ => (.refl _ _)) (fun _ => (.ite (fun _ => (.refl _ _)) (fun _ => (.set_pub rfl (.step (sendBlock_within ..) rfl
    (.ite (fun _ => (.set_pub rfl (.ite (fun _ => (.set_pub rfl (.refl _ _))) (fun _ => (.refl _ _))))) (fun _ => (.ite (fun _ =>
    (.set_pub rfl (.refl _ _))) (fun _ => (.refl _ _))))))))))

theorem execPubSequenceStore_within (s) (t : State) (h : execPubSequenceStore s = .next t) : Within [.pub] s t := by
  unfold execPubSequenceStore at h
  injection h with h
  subst h
  exact .ite (fun _ => (.set_pub rfl (.refl _ _))) (fun _ => (.refl _ _))

theorem execPubLagWarning_within (s) (t : State) (h : execPubLagWarning s = .next t) : Within [.recorder, .pub] s t := by
  unfold execPubLagWarning at h
  injection h with h
  subst h
  exact .ite (fun _ => (.step (record_within ..) rfl (.set_pub rfl (.refl _ _)))) (fun _ => (.ite (fun _ => (.set_pub rfl (.refl _
    _))) (fun _ => (.refl _ _))))

end Sys2Proof.Machine
end

