-- ==== Sys2Proof/Laws/FramePlant.lean ====
section
/-! SUPPORT. Which parts of the block each operation may change: tasks, loops, panels, commits and exchanges. -/

set_option maxRecDepth 4000

namespace Sys2Proof.Machine

seal followTasks

theorem reconvert_within (i s) : Within [.prog] s (reconvert i s) := by
  unfold reconvert
  exact .ite (fun _ => (.set_prog rfl (.refl _ _))) (fun _ => (.ite (fun _ => (.set_prog rfl (.refl _ _))) (fun _ => (.refl _ _))))

theorem convertTask_within (i s) : Within [.retained, .prog] s (convertTask i s) := by
  unfold convertTask
  exact .set_retained_prog rfl (.refl _ _)

theorem removeTask_within (i j k s) : Within [.recorder, .cpl, .task, .image, .uc, .dig, .safety] s (removeTask i j k s) := by
  unfold removeTask
  exact .step (staleSignals_within ..) rfl (.step (funcsFollow_within ..) rfl (.step (taskMod_within ..) rfl (.ite (fun _ => (.step
    (idleOutputsOf_within ..) rfl (.refl _ _))) (fun _ => (.refl _ _)))))

theorem switchTask_within (i s) : Within [.recorder, .cpl, .task, .retained, .image, .prog, .uc, .dig, .safety] s (switchTask i s)
  := by
  unfold switchTask
  exact (by split; exacts [(.refl _ _), (.ite (fun _ => (.refl _ _)) (fun _ => (by dsimp -proj only; split; exacts [(.step
    (removeTask_within ..) rfl (.set_prog rfl (.step (convertTask_within ..) rfl (.step (taskMod_within ..) rfl (.refl _ _))))),
    (.step (funcsFollow_within ..) rfl (.step (taskMod_within ..) rfl (.set_prog rfl (.step (convertTask_within ..) rfl (.step
    (taskMod_within ..) rfl (.refl _ _))))))])))])

theorem settleCheck_within (s) : Within [.recorder, .task, .prog] s (settleCheck s) := by
  unfold settleCheck
  exact .ite (fun _ => (.step (audit_within ..) rfl (.step (writeExchange_within ..) rfl (.set_task_prog rfl (.refl _ _))))) (fun _
    => (.refl _ _))

theorem switchTasks_within (s) : Within [.recorder, .cpl, .task, .retained, .image, .prog, .uc, .dig, .safety] s (switchTasks s) :=
  by
  unfold switchTasks
  exact .step (settleCheck_within ..) rfl (.step (writeExchange_within ..) rfl (.ite (fun _ => (.set_prog rfl (.foldl (fun _ _ =>
    (.step (switchTask_within ..) rfl (.refl _ _))) _ (.refl _ _)))) (fun _ => (.foldl (fun _ _ => (.step (switchTask_within ..) rfl
    (.refl _ _))) _ (.refl _ _)))))

theorem switchSweep_within (s) : Within [.recorder, .cpl, .task, .retained, .image, .prog, .uc, .dig, .safety] s (switchSweep s) :=
  by
  unfold switchSweep
  exact .ite (fun _ => (.step (switchTasks_within ..) rfl (.refl _ _))) (fun _ => (.refl _ _))

theorem shiftTimers_within (i s) : Within [.task, .prog] s (shiftTimers i s) := by
  unfold shiftTimers
  exact (by split; exacts [(.refl _ _), (.ite (fun _ => (.refl _ _)) (fun _ => (.step (taskMod_within ..) rfl (.set_prog rfl (.refl
    _ _)))))])

theorem gather_within (i s) : Within [.recorder, .power, .cpl, .task, .image, .prog, .loop, .uc, .dig, .safety, .modes, .fresh] s
  (gather i s) := by
  unfold gather
  exact .step (checkPending_within ..) rfl (.step (rejoinCheck_within ..) rfl (.step (handoverCheck_within ..) rfl (.step
    (safetyGather_within ..) rfl (.step (shiftTimers_within ..) rfl (.step (taskMod_within ..) rfl (.refl _ _))))))

theorem execTaskRelease_within (i s) (t : State) (h : execTaskRelease i s = .next t) : Within [.recorder, .power, .cpl, .task,
  .image, .prog, .loop, .uc, .dig, .safety, .modes, .fresh] s t := by
  unfold execTaskRelease at h
  injection h with h
  subst h
  exact .ite (fun _ => (.step (lanesIdle_within ..) rfl (.step (gather_within ..) rfl (.refl _ _)))) (fun _ => (.refl _ _))

theorem passesBegin_within (i s) : Within [.recorder, .power, .cpl, .task, .image, .prog, .loop, .uc, .dig, .safety, .modes, .fresh]
  s (passesBegin i s) := by
  unfold passesBegin
  exact .foldl (fun _ _ => (.ite (fun _ => (.step (gather_within ..) rfl (.refl _ _))) (fun _ => (.refl _ _)))) _ (.refl _ _)

theorem followTasks_within (i s) : Within [.recorder, .power, .cpl, .task, .retained, .image, .prog, .loop, .uc, .dig, .safety,
  .modes, .fresh] s (followTasks i s) := by
  unfold followTasks
  exact .step (lanesIdle_within ..) rfl (.step (checkPending_within ..) rfl (.step (passesBegin_within ..) rfl (.step
    (switchSweep_within ..) rfl (.refl _ _))))

theorem discardDisagreed_within (i j s) : Within [.recorder, .cpl, .task, .image, .uc, .dig, .safety] s (discardDisagreed i j s) :=
  by
  unfold discardDisagreed
  exact .ite (fun _ => (.step (taskMod_within ..) rfl (.step (discardCycle_within ..) rfl (.refl _ _)))) (fun _ => (.ite (fun _ =>
    (.step (forceTaskSafe_within ..) rfl (.step (taskMod_within ..) rfl (.step (discardCycle_within ..) rfl (.refl _ _))))) (fun _
    => (by split; exacts [(.step (scopesSafe_within ..) rfl (.step (taskMod_within ..) rfl (.step (discardCycle_within ..) rfl
    (.refl _ _)))), (.step (forceTaskSafe_within ..) rfl (.step (taskMod_within ..) rfl (.step (discardCycle_within ..) rfl (.refl _
    _))))]))))

theorem discardUnresolved_within (i j s) : Within [.recorder, .power, .cpl, .task, .image, .prog, .loop, .uc, .dig, .safety, .can,
  .pair, .modes, .cfg, .out, .fresh, .mode] s (discardUnresolved i j s) := by
  unfold discardUnresolved
  exact .step (unresolvedMismatch_within ..) rfl (.step (discardDisagreed_within ..) rfl (.refl _ _))

theorem discardFaulty_within (i s) : Within [.recorder, .power, .cpl, .task, .image, .prog, .loop, .uc, .dig, .safety, .can, .pair,
  .modes, .cfg, .out, .fresh, .mode] s (discardFaulty i s) := by
  unfold discardFaulty
  exact .step (couplerFault_within ..) rfl (.step (discardDisagreed_within ..) rfl (.refl _ _))

theorem oddLanes_within (i s) : Within [.recorder, .power, .cpl, .task, .image, .prog, .loop, .uc, .dig, .safety, .can, .pair,
  .modes, .cfg, .out, .fresh, .mode] s (oddLanes i s) := by
  unfold oddLanes
  exact .foldl (fun _ _ => (.step (excludeLane_within ..) rfl (.refl _ _))) _ (.refl _ _)

theorem beginExecute_within (i j k l s) : Within [.task] s (beginExecute i j k l s) := by
  unfold beginExecute
  exact .step (taskMod_within ..) rfl (.refl _ _)

theorem whiffletree_within (i j k l m s) : Within [.recorder, .power, .cpl, .task, .image, .prog, .loop, .uc, .dig, .safety, .can,
  .pair, .modes, .cfg, .out, .fresh, .mode] s (whiffletree i j k l m s) := by
  unfold whiffletree
  exact .ite (fun _ => (.step (discardFaulty_within ..) rfl (.set_cpl rfl (.refl _ _)))) (fun _ => (by split; exacts [(.step
    (discardUnresolved_within ..) rfl (.set_cpl rfl (.refl _ _))), (.ite (fun _ => (.step (discardUnresolved_within ..) rfl
    (.set_cpl rfl (.refl _ _)))) (fun _ => (.step (oddLanes_within ..) rfl (.ite (fun _ => (.step (emit_within ..) rfl (.step
    (beginExecute_within ..) rfl (.set_cpl rfl (.refl _ _))))) (fun _ => (.step (beginExecute_within ..) rfl (.set_cpl rfl (.refl _
    _))))))))]))

theorem execCp1Agree_within (i j k l s) (t : State) (h : execCp1Agree i j k l s = .next t) : Within [.recorder, .power, .cpl, .task,
  .retained, .image, .prog, .loop, .uc, .dig, .safety, .can, .pair, .modes, .cfg, .out, .fresh, .mode] s t := by
  unfold execCp1Agree at h
  injection h with h
  subst h
  exact .ite (fun _ => (.refl _ _)) (fun _ => (by split; exacts [(.step (followTasks_within ..) rfl (.step (beginExecute_within ..)
    rfl (.refl _ _))), (.ite (fun _ => (.refl _ _)) (fun _ => (.step (followTasks_within ..) rfl (.step (whiffletree_within ..) rfl
    (.refl _ _)))))]))

theorem digestCheck_within (i j s) : Within [.recorder, .cpl, .task, .image, .uc, .dig, .safety, .pair] s (digestCheck i j s) := by
  unfold digestCheck
  exact (by split; exacts [(.refl _ _), (by split; exacts [(.ite (fun _ => (.refl _ _)) (fun _ => (.step (leaveStep_within ..) rfl
    (.refl _ _)))), (.refl _ _)])])

theorem compareResults_within (i j k s) : Within [.recorder, .power, .cpl, .task, .image, .prog, .loop, .uc, .dig, .safety, .can,
  .pair, .modes, .cfg, .out, .fresh, .mode] s (compareResults i j k s) := by
  unfold compareResults
  exact (by dsimp -proj only; split; exacts [(.step (discardUnresolved_within ..) rfl (.step (taskMod_within ..) rfl (.refl _ _))),
    (.ite (fun _ => (.step (discardUnresolved_within ..) rfl (.step (taskMod_within ..) rfl (.refl _ _)))) (fun _ => (.step
    (digestCheck_within ..) rfl (.step (oddLanes_within ..) rfl (.step (scopesSafe_within ..) rfl (.step (taskMod_within ..) rfl
    (.step (taskMod_within ..) rfl (.refl _ _))))))))])

theorem execCp2Compare_within (i j k s) (t : State) (h : execCp2Compare i j k s = .next t) : Within [.recorder, .power, .cpl, .task,
  .retained, .image, .prog, .loop, .uc, .dig, .safety, .can, .pair, .modes, .cfg, .out, .fresh, .mode] s t := by
  unfold execCp2Compare at h
  injection h with h
  subst h
  exact .ite (fun _ => (.refl _ _)) (fun _ => (.ite (fun _ => (.step (followTasks_within ..) rfl (.step (discardFaulty_within ..)
    rfl (.set_cpl rfl (.refl _ _))))) (fun _ => (.step (followTasks_within ..) rfl (.step (compareResults_within ..) rfl (.set_cpl
    rfl (.refl _ _)))))))

theorem commitSignal_within (i j s k) : Within [.recorder, .host, .image, .pub] s (commitSignal i j s k) := by
  unfold commitSignal
  exact .ite (fun _ => (.set_image rfl (.refl _ _))) (fun _ => (.ite (fun _ => (.step (changeRec_within ..) rfl (.refl _ _))) (fun _
    => (.refl _ _))))

theorem commitAlarm_within (i j s k) : Within [.recorder, .host, .image, .pub] s (commitAlarm i j s k) := by
  unfold commitAlarm
  exact .ite (fun _ => (.step (changeRec_within ..) rfl (.refl _ _))) (fun _ => (.refl _ _))

theorem freshenTask_within (i j s) : Within [.recorder, .host, .image, .pub] s (freshenTask i j s) := by
  unfold freshenTask
  exact .foldl (fun _ _ => (.step (changeRec_within ..) rfl (.refl _ _))) _ (.refl _ _)

theorem commitSignals_within (i j s) : Within [.recorder, .host, .image, .pub] s (commitSignals i j s) := by
  unfold commitSignals
  exact .ite (fun _ => (.refl _ _)) (fun _ => (.step (noteEvent_within ..) rfl (.foldl (fun _ _ => (.step (commitAlarm_within ..)
    rfl (.refl _ _))) _ (.foldl (fun _ _ => (.step (commitSignal_within ..) rfl (.refl _ _))) _ (.ite (fun _ => (.step
    (freshenTask_within ..) rfl (.set_image rfl (.refl _ _)))) (fun _ => (.set_image rfl (.refl _ _))))))))

theorem commitLoops_within (i s) : Within [.loop] s (commitLoops i s) := by
  unfold commitLoops
  exact .foldl (fun _ _ => (.ite (fun _ => (.set_loop rfl (.refl _ _))) (fun _ => (.refl _ _)))) _ (.refl _ _)

theorem commitInstances_within (i j s) : Within [.prog] s (commitInstances i j s) := by
  unfold commitInstances
  exact .set_prog rfl (.refl _ _)

theorem startWriting_within (s) : Within [.retained] s (startWriting s) := by
  unfold startWriting
  exact (by split; exacts [(.ite (fun _ => (.refl _ _)) (fun _ => (.set_retained rfl (.refl _ _)))), (.refl _ _)])

theorem enqueueCommit_within (i s) : Within [.retained] s (enqueueCommit i s) := by
  unfold enqueueCommit
  exact .step (startWriting_within ..) rfl (.set_retained rfl (.refl _ _))

theorem queueRetained_within (i j s) : Within [.task, .retained] s (queueRetained i j s) := by
  unfold queueRetained
  exact (by split; exacts [(.refl _ _), (.ite (fun _ => (.step (taskMod_within ..) rfl (.set_retained rfl (.refl _ _)))) (fun _ =>
    (.step (enqueueCommit_within ..) rfl (.step (taskMod_within ..) rfl (.set_retained rfl (.refl _ _))))))])

theorem exchFirst_within (i s) : Within [.recorder, .task, .prog] s (exchFirst i s) := by
  unfold exchFirst
  exact (by split; exacts [(.refl _ _), (.ite (fun _ => (.step (settleCheck_within ..) rfl (.step (writeExchange_within ..) rfl
    (.step (taskMod_within ..) rfl (.refl _ _))))) (fun _ => (.refl _ _)))])

theorem commitCycle_within (i j k s) : Within [.recorder, .host, .power, .cpl, .task, .retained, .image, .pub, .prog, .loop, .uc,
  .dig, .safety, .net, .can, .modes, .cfg, .out, .fresh] s (commitCycle i j k s) := by
  unfold commitCycle
  exact .step (poolSweep_within ..) rfl (.step (followTasks_within ..) rfl (.step (endCycle_within ..) rfl (.step (exchFirst_within
    ..) rfl (.step (reconvert_within ..) rfl (.ite (fun _ => (.step (subFillAll_within ..) rfl (.step (publishFull_within ..) rfl
    (.step (outputsAfter_within ..) rfl (.step (taskMod_within ..) rfl (.ite (fun _ => (.step (emit_within ..) rfl (.step
    (commitStream_within ..) rfl (.step (queueRetained_within ..) rfl (.step (commitLoops_within ..) rfl (.step
    (commitInstances_within ..) rfl (.ite (fun _ => (reachingSafe_step rfl (.step (applyOutputs_within ..) rfl (.step
    (safetyCommit_within ..) rfl (.step (taskMod_within ..) rfl (.step (commitSignals_within ..) rfl (.step (taskMod_within ..) rfl
    (.refl _ _)))))))) (fun _ => (.step (safetyCommit_within ..) rfl (.step (taskMod_within ..) rfl (.step (commitSignals_within ..)
    rfl (.step (taskMod_within ..) rfl (.refl _ _))))))))))))) (fun _ => (.step (commitStream_within ..) rfl (.step
    (queueRetained_within ..) rfl (.step (commitLoops_within ..) rfl (.step (commitInstances_within ..) rfl (.ite (fun _ =>
    (reachingSafe_step rfl (.step (applyOutputs_within ..) rfl (.step (safetyCommit_within ..) rfl (.step (taskMod_within ..) rfl
    (.step (commitSignals_within ..) rfl (.step (taskMod_within ..) rfl (.refl _ _)))))))) (fun _ => (.step (safetyCommit_within ..)
    rfl (.step (taskMod_within ..) rfl (.step (commitSignals_within ..) rfl (.step (taskMod_within ..) rfl (.refl _
    _)))))))))))))))))) (fun _ => (.step (taskMod_within ..) rfl (.ite (fun _ => (.step (emit_within ..) rfl (.step
    (commitStream_within ..) rfl (.step (queueRetained_within ..) rfl (.step (commitLoops_within ..) rfl (.step
    (commitInstances_within ..) rfl (.ite (fun _ => (reachingSafe_step rfl (.step (applyOutputs_within ..) rfl (.step
    (safetyCommit_within ..) rfl (.step (taskMod_within ..) rfl (.step (commitSignals_within ..) rfl (.step (taskMod_within ..) rfl
    (.refl _ _)))))))) (fun _ => (.step (safetyCommit_within ..) rfl (.step (taskMod_within ..) rfl (.step (commitSignals_within ..)
    rfl (.step (taskMod_within ..) rfl (.refl _ _))))))))))))) (fun _ => (.step (commitStream_within ..) rfl (.step
    (queueRetained_within ..) rfl (.step (commitLoops_within ..) rfl (.step (commitInstances_within ..) rfl (.ite (fun _ =>
    (reachingSafe_step rfl (.step (applyOutputs_within ..) rfl (.step (safetyCommit_within ..) rfl (.step (taskMod_within ..) rfl
    (.step (commitSignals_within ..) rfl (.step (taskMod_within ..) rfl (.refl _ _)))))))) (fun _ => (.step (safetyCommit_within ..)
    rfl (.step (taskMod_within ..) rfl (.step (commitSignals_within ..) rfl (.step (taskMod_within ..) rfl (.refl _
    _))))))))))))))))))))

theorem execCp3Commit_within (i j s k) (t : State) (h : execCp3Commit i j s k = .next t) : Within [.recorder, .host, .power, .cpl,
  .task, .retained, .image, .pub, .prog, .loop, .uc, .dig, .safety, .net, .can, .modes, .cfg, .out, .fresh] s t := by
  unfold execCp3Commit at h
  injection h with h
  subst h
  exact .ite (fun _ => (.refl _ _)) (fun _ => (.step (commitCycle_within ..) rfl (.refl _ _)))

theorem execLateLaneCheck_within (i j k s) (t : State) (h : execLateLaneCheck i j k s = .next t) : Within [.recorder, .power, .cpl,
  .task, .retained, .image, .prog, .loop, .uc, .dig, .safety, .can, .pair, .modes, .cfg, .out, .fresh, .mode] s t := by
  unfold execLateLaneCheck at h
  injection h with h
  subst h
  exact .ite (fun _ => (.refl _ _)) (fun _ => (.ite (fun _ => (.step (followTasks_within ..) rfl (.step (excludeLane_within ..) rfl
    (.step (taskMod_within ..) rfl (.refl _ _))))) (fun _ => (.step (taskMod_within ..) rfl (.refl _ _)))))

theorem execLagLimitExpiry_within (i j s k) (t : State) (h : execLagLimitExpiry i j s k = .next t) : Within [.recorder, .power,
  .cpl, .task, .retained, .image, .prog, .loop, .uc, .dig, .safety, .can, .pair, .modes, .cfg, .out, .fresh, .mode] s t := by
  unfold execLagLimitExpiry at h
  injection h with h
  subst h
  exact .ite (fun _ => (.step (followTasks_within ..) rfl (.step (excludeLane_within ..) rfl (.refl _ _)))) (fun _ => (.refl _ _))

theorem execWcetExceeded_within (i s) (t : State) (h : execWcetExceeded i s = .next t) : Within [.recorder, .task] s t := by
  unfold execWcetExceeded at h
  injection h with h
  subst h
  exact .ite (fun _ => (.refl _ _)) (fun _ => (.ite (fun _ => (.step (record_within ..) rfl (.step (taskMod_within ..) rfl (.step
    (taskMod_within ..) rfl (.refl _ _))))) (fun _ => (.step (taskMod_within ..) rfl (.refl _ _)))))

theorem overrun_within (i s) : Within [.recorder, .cpl, .task, .image, .uc, .dig, .safety, .pair] s (overrun i s) := by
  unfold overrun
  exact (by split; exacts [(.ite (fun _ => (.step (leaveStep_within ..) rfl (.ite (fun _ => (.step (taskMod_within ..) rfl (.step
    (record_within ..) rfl (.step (taskMod_within ..) rfl (.refl _ _))))) (fun _ => (.step (discardCycle_within ..) rfl (.step
    (record_within ..) rfl (.step (taskMod_within ..) rfl (.refl _ _)))))))) (fun _ => (.ite (fun _ => (.step (record_within ..) rfl
    (.step (forceTaskSafe_within ..) rfl (.ite (fun _ => (.step (taskMod_within ..) rfl (.step (record_within ..) rfl (.step
    (taskMod_within ..) rfl (.refl _ _))))) (fun _ => (.step (discardCycle_within ..) rfl (.step (record_within ..) rfl (.step
    (taskMod_within ..) rfl (.refl _ _))))))))) (fun _ => (.ite (fun _ => (.step (record_within ..) rfl (.step (leaveRunning_within
    ..) rfl (.ite (fun _ => (.step (taskMod_within ..) rfl (.step (record_within ..) rfl (.step (taskMod_within ..) rfl (.refl _
    _))))) (fun _ => (.step (discardCycle_within ..) rfl (.step (record_within ..) rfl (.step (taskMod_within ..) rfl (.refl _
    _))))))))) (fun _ => (.ite (fun _ => (.step (taskMod_within ..) rfl (.step (record_within ..) rfl (.step (taskMod_within ..) rfl
    (.refl _ _))))) (fun _ => (.step (discardCycle_within ..) rfl (.step (record_within ..) rfl (.step (taskMod_within ..) rfl
    (.refl _ _)))))))))))), (.refl _ _)])

theorem execDeadlineOverrun_within (i s) (t : State) (h : execDeadlineOverrun i s = .next t) : Within [.recorder, .power, .cpl,
  .task, .retained, .image, .prog, .loop, .uc, .dig, .safety, .pair, .modes, .fresh] s t := by
  unfold execDeadlineOverrun at h
  injection h with h
  subst h
  exact .ite (fun _ => (.refl _ _)) (fun _ => (.step (followTasks_within ..) rfl (.step (overrun_within ..) rfl (.refl _ _))))

theorem execPassLimitExpiry_within (i s) (t : State) (h : execPassLimitExpiry i s = .next t) : Within [.recorder, .power, .cpl,
  .task, .retained, .image, .prog, .loop, .uc, .dig, .safety, .pair, .modes, .fresh] s t := by
  unfold execPassLimitExpiry at h
  injection h with h
  subst h
  exact .ite (fun _ => (.refl _ _)) (fun _ => (.step (followTasks_within ..) rfl (.step (overrun_within ..) rfl (.refl _ _))))

theorem writeCommit_within (i s) : Within [.retained] s (writeCommit i s) := by
  unfold writeCommit
  exact .set_retained rfl (.refl _ _)

theorem commitDone_within (i s) : Within [.recorder, .task, .prog] s (commitDone i s) := by
  unfold commitDone
  exact (by dsimp -proj only; split; exacts [(.ite (fun _ => (.ite (fun _ => (.refl _ _)) (fun _ => (.step (settleCheck_within ..)
    rfl (.step (writeExchange_within ..) rfl (.step (taskMod_within ..) rfl (.refl _ _))))))) (fun _ => (.ite (fun _ => (.step
    (writeExchange_within ..) rfl (.set_prog rfl (.refl _ _)))) (fun _ => (.refl _ _))))), (.ite (fun _ => (.ite (fun _ => (.refl _
    _)) (fun _ => (.step (settleCheck_within ..) rfl (.step (writeExchange_within ..) rfl (.step (taskMod_within ..) rfl (.refl _
    _))))))) (fun _ => (.ite (fun _ => (.step (writeExchange_within ..) rfl (.set_prog rfl (.refl _ _)))) (fun _ => (.refl _ _))))),
    (.refl _ _)])

theorem execRetainedCommitClosed_within (i s) (t : State) (h : execRetainedCommitClosed i s = .next t) : Within [.recorder, .task,
  .retained, .prog] s t := by
  unfold execRetainedCommitClosed at h
  injection h with h
  subst h
  exact (by split; exacts [(.ite (fun _ => (.step (startWriting_within ..) rfl (.step (commitDone_within ..) rfl (.step
    (writeCommit_within ..) rfl (.set_retained rfl (.refl _ _)))))) (fun _ => (.refl _ _))), (.refl _ _)])

theorem settleWriting_within (s) : Within [.recorder, .task, .retained, .prog] s (settleWriting s) := by
  unfold settleWriting
  exact (by split; exacts [(.ite (fun _ => (.step (commitDone_within ..) rfl (.step (writeCommit_within ..) rfl (.set_retained rfl
    (.refl _ _))))) (fun _ => (.set_retained rfl (.refl _ _)))), (.refl _ _)])

theorem execRetentionLagWarning_within (s) (t : State) (h : execRetentionLagWarning s = .next t) : Within [.recorder, .retained] s t
  := by
  unfold execRetentionLagWarning at h
  injection h with h
  subst h
  exact .ite (fun _ => (.step (record_within ..) rfl (.set_retained rfl (.refl _ _)))) (fun _ => (.ite (fun _ => (.set_retained rfl
    (.refl _ _))) (fun _ => (.refl _ _))))

theorem execLaneFault_within (i s) (t : State) (h : execLaneFault i s = .next t) : Within [.recorder, .power, .cpl, .task,
  .retained, .image, .prog, .loop, .uc, .dig, .safety, .can, .pair, .modes, .cfg, .out, .fresh, .mode] s t := by
  unfold execLaneFault at h
  injection h with h
  subst h
  exact .step (followTasks_within ..) rfl (.step (excludeLane_within ..) rfl (.refl _ _))

theorem execLaneConfigSet_within (i s) (t : State) (h : execLaneConfigSet i s = .next t) : Within [.recorder, .host, .power, .cpl,
  .task, .retained, .image, .prog, .loop, .uc, .dig, .safety, .modes, .cfg, .out, .fresh] s t := by
  unfold execLaneConfigSet at h
  injection h with h
  subst h
  exact runCommand_step rfl (fun _ _ => (by dsimp -proj only; split; exacts [(.refl _ _), (.ite_fst (fun _ => (.ite_fst (fun _ =>
    (.refl _ _)) (fun _ => (.ite_fst (fun _ => (.refl _ _)) (fun _ => (by split; exacts [(.refl _ _), (.ite_fst (fun _ => (.step
    (audit_within ..) rfl (.step (setHealth_within ..) rfl (.step (laneMod_within ..) rfl (.refl _ _))))) (fun _ => (.refl _
    _)))])))))) (fun _ => (by split; exacts [(.refl _ _), (.ite_fst (fun _ => (.refl _ _)) (fun _ => (.ite_fst (fun _ => (.refl _
    _)) (fun _ => (.ite_fst (fun _ => (.refl _ _)) (fun _ => (.ite_fst (fun _ => (.step (audit_within ..) rfl (.set_cpl_cfg rfl
    (.refl _ _)))) (fun _ => (.step (followTasks_within ..) rfl (.step (beginHandover_within ..) rfl (.set_cpl_cfg rfl (.refl _
    _))))))))))))])))])) (.refl _ _)

theorem execDebugAttach_within (i s) (t : State) (h : execDebugAttach i s = .next t) : Within [.recorder, .host, .power, .cpl,
  .task, .retained, .image, .prog, .loop, .uc, .dig, .safety, .modes, .out, .fresh] s t := by
  unfold execDebugAttach at h
  injection h with h
  subst h
  exact runCommand_step rfl (fun _ _ => (.ite_fst (fun _ => (.refl _ _)) (fun _ => (.ite_fst (fun _ => (.refl _ _)) (fun _ =>
    (.ite_fst (fun _ => (.ite_fst (fun _ => (.refl _ _)) (fun _ => (.ite_fst (fun _ => (.refl _ _)) (fun _ => (.step
    (followTasks_within ..) rfl (.step (debugAttach_within ..) rfl (.refl _ _)))))))) (fun _ => (by split; exacts [(.refl _ _),
    (.step (lanesIdle_within ..) rfl (.step (debugOperation_within ..) rfl (.refl _ _)))])))))))) (.refl _ _)

theorem execBreakpointHalt_within (i s j) (t : State) (h : execBreakpointHalt i s j = .next t) : Within [.recorder, .power, .cpl,
  .task, .retained, .image, .prog, .loop, .uc, .dig, .safety, .can, .pair, .modes, .cfg, .out, .fresh, .mode] s t := by
  unfold execBreakpointHalt at h
  injection h with h
  subst h
  exact (by split; exacts [(.refl _ _), (.ite (fun _ => (.refl _ _)) (fun _ => (.ite (fun _ => (.step (followTasks_within ..) rfl
    (.step (discardUnresolved_within ..) rfl (.step (journalAction_within ..) rfl (.set_cpl rfl (.refl _ _)))))) (fun _ => (.step
    (lanesIdle_within ..) rfl (.step (journalAction_within ..) rfl (.set_cpl rfl (.refl _ _))))))))])

theorem loopMod_within (i j s) : Within [.loop] s (loopMod i j s) := by
  unfold loopMod
  exact .set_loop rfl (.refl _ _)

theorem leMod_within (i s) : Within [.loop] s (leMod i s) := by
  unfold leMod
  exact .set_loop rfl (.refl _ _)

theorem loopDrive_within (i j s) : Within [.recorder, .cpl, .image, .uc] s (loopDrive i j s) := by
  unfold loopDrive
  exact (by split; exacts [(.ite (fun _ => (.step (ucCommand_within ..) rfl (.refl _ _))) (fun _ => (.refl _ _))), (.refl _ _)])

theorem loopZero_within (i s) : Within [.recorder, .cpl, .image, .uc] s (loopZero i s) := by
  unfold loopZero
  exact (by split; exacts [(.ite (fun _ => (.step (ucCommandRaw_within ..) rfl (.refl _ _))) (fun _ => (.refl _ _))), (.refl _ _)])

theorem loopSignals_within (i s) : Within [.cpl, .image] s (loopSignals i s) := by
  unfold loopSignals
  exact .step (deliverInt_within ..) rfl (.step (deliverInt_within ..) rfl (.step (deliverOwn_within ..) rfl (.ite (fun _ => (.step
    (deliverOwn_within ..) rfl (.refl _ _))) (fun _ => (.refl _ _)))))

theorem loopOff_within (i s) : Within [.cpl, .image] s (loopOff i s) := by
  unfold loopOff
  exact .ite (fun _ => (.step (loopSignals_within ..) rfl (.refl _ _))) (fun _ => (.refl _ _))

theorem loopEnter_within (i j k s) : Within [.recorder, .cpl, .image, .loop, .uc] s (loopEnter i j k s) := by
  unfold loopEnter
  exact .ite (fun _ => (.step (loopSignals_within ..) rfl (.step (loopZero_within ..) rfl (.step (record_within ..) rfl (.step
    (leMod_within ..) rfl (.step (loopMod_within ..) rfl (.refl _ _))))))) (fun _ => (.step (record_within ..) rfl (.step
    (leMod_within ..) rfl (.step (loopMod_within ..) rfl (.refl _ _)))))

theorem loopPresentZero_within (i s) : Within [.loop] s (loopPresentZero i s) := by
  unfold loopPresentZero
  exact .step (loopMod_within ..) rfl (.refl _ _)

theorem loopRequest_within (i j k l s) : Within [.recorder, .cpl, .image, .loop, .uc] s (loopRequest i j k l s) := by
  unfold loopRequest
  exact .ite (fun _ => (.step (loopEnter_within ..) rfl (.step (loopPresentZero_within ..) rfl (.refl _ _)))) (fun _ => (.ite (fun _
    => (.step (loopMod_within ..) rfl (.step (loopPresentZero_within ..) rfl (.refl _ _)))) (fun _ => (.step (loopPresentZero_within
    ..) rfl (.refl _ _)))))

theorem clearCells_within (i s) : Within [.loop] s (clearCells i s) := by
  unfold clearCells
  exact .step (leMod_within ..) rfl (.refl _ _)

theorem applySched_within (i j s) : Within [.loop] s (applySched i j s).1 := by
  unfold applySched
  exact (by dsimp -proj only; split; exacts [(.ite_fst (fun _ => (.step (loopMod_within ..) rfl (.ite (fun _ => (.step
    (clearCells_within ..) rfl (.step (clearCells_within ..) rfl (.refl _ _)))) (fun _ => (.refl _ _))))) (fun _ => (.refl _ _))),
    (.refl _ _)])

theorem applyTune_within (i j s) : Within [.loop] s (applyTune i j s) := by
  unfold applyTune
  exact .ite (fun _ => (.refl _ _)) (fun _ => (.step (loopMod_within ..) rfl (.refl _ _)))

theorem applyFresh_within (i s) : Within [.recorder, .cpl, .image, .loop, .uc] s (applyFresh i s).1 := by
  unfold applyFresh
  exact (by dsimp -proj only; split; exacts [(.refl _ _), (.ite_fst (fun _ => (.step (loopMod_within ..) rfl (.ite (fun _ => (.step
    (clearCells_within ..) rfl (.step (clearCells_within ..) rfl (.refl _ _)))) (fun _ => (.refl _ _))))) (fun _ => (.ite (fun _ =>
    (.step (loopEnter_within ..) rfl (.ite (fun _ => (.step (loopEnter_within ..) rfl (.step (loopMod_within ..) rfl (.ite (fun _ =>
    (.step (clearCells_within ..) rfl (.step (clearCells_within ..) rfl (.refl _ _)))) (fun _ => (.refl _ _)))))) (fun _ => (.step
    (loopMod_within ..) rfl (.ite (fun _ => (.step (clearCells_within ..) rfl (.step (clearCells_within ..) rfl (.refl _ _)))) (fun
    _ => (.refl _ _)))))))) (fun _ => (.ite (fun _ => (.step (loopEnter_within ..) rfl (.step (loopMod_within ..) rfl (.ite (fun _
    => (.step (clearCells_within ..) rfl (.step (clearCells_within ..) rfl (.refl _ _)))) (fun _ => (.refl _ _)))))) (fun _ =>
    (.step (loopMod_within ..) rfl (.ite (fun _ => (.step (clearCells_within ..) rfl (.step (clearCells_within ..) rfl (.refl _
    _)))) (fun _ => (.refl _ _))))))))))])

theorem applyReset_within (i j s) : Within [.loop] s (applyReset i j s).1 := by
  unfold applyReset
  exact (by dsimp -proj only; split; exacts [(.ite_fst (fun _ => (.step (loopMod_within ..) rfl (.step (clearCells_within ..) rfl
    (.refl _ _)))) (fun _ => (.refl _ _))), (.refl _ _)])

theorem loopFaults_within (i j s) : Within [.recorder, .cpl, .image, .loop, .uc] s (loopFaults i j s) := by
  unfold loopFaults
  exact (by dsimp -proj only; split; exacts [(.ite (fun _ => (.step (loopEnter_within ..) rfl (.refl _ _))) (fun _ => (.ite (fun _
    => (.step (loopEnter_within ..) rfl (.refl _ _))) (fun _ => (.refl _ _))))), (.ite (fun _ => (.step (loopEnter_within ..) rfl
    (.refl _ _))) (fun _ => (.refl _ _))), (.refl _ _)])

theorem loopHostAsk_within (i j s) : Within [.recorder, .cpl, .image, .loop, .uc] s (loopHostAsk i j s) := by
  unfold loopHostAsk
  exact (by split; exacts [(.refl _ _), (.ite (fun _ => (.step (loopMod_within ..) rfl (by split; exacts [(.ite (fun _ => (.step
    (loopMod_within ..) rfl (.refl _ _))) (fun _ => (.step (loopRequest_within ..) rfl (.step (loopMod_within ..) rfl (.refl _
    _))))), (.step (loopMod_within ..) rfl (.refl _ _))]))) (fun _ => (by split; exacts [(.ite (fun _ => (.step (loopMod_within ..)
    rfl (.refl _ _))) (fun _ => (.step (loopRequest_within ..) rfl (.step (loopMod_within ..) rfl (.refl _ _))))), (.step
    (loopMod_within ..) rfl (.refl _ _))])))])

theorem loopProgMode_within (i j s) : Within [.recorder, .cpl, .image, .loop, .uc] s (loopProgMode i j s) := by
  unfold loopProgMode
  exact (by dsimp -proj only; split; exacts [(.ite (fun _ => (.refl _ _)) (fun _ => (by split; exacts [(.ite (fun _ => (.step
    (loopMod_within ..) rfl (.refl _ _))) (fun _ => (.step (loopRequest_within ..) rfl (.step (loopMod_within ..) rfl (.refl _
    _))))), (.step (loopMod_within ..) rfl (.step (loopMod_within ..) rfl (.refl _ _)))]))), (.refl _ _)])

theorem loopModes_within (i j s) : Within [.recorder, .cpl, .image, .loop, .uc] s (loopModes i j s) := by
  unfold loopModes
  exact .ite (fun _ => (.step (loopHostAsk_within ..) rfl (.step (loopFaults_within ..) rfl (.refl _ _)))) (fun _ =>
    (by split; exacts [(.step (loopMod_within ..) rfl (.step (loopProgMode_within ..) rfl (.step (loopHostAsk_within ..) rfl (.step
    (loopFaults_within ..) rfl (.refl _ _))))), (.step (loopProgMode_within ..) rfl (.step (loopHostAsk_within ..) rfl (.step
    (loopFaults_within ..) rfl (.refl _ _))))]))

theorem loopDue_within (i j s) : Within [.recorder, .cpl, .image, .loop, .uc] s (loopDue i j s).1 := by
  unfold loopDue
  exact .step (applyTune_within ..) rfl (.step (applyReset_within ..) rfl (.step (applySched_within ..) rfl (.step
    (applyFresh_within ..) rfl (.refl _ _))))

theorem loopAdvance_within (i j s) : Within [.loop] s (loopAdvance i j s) := by
  unfold loopAdvance
  exact .step (loopMod_within ..) rfl (.refl _ _)

theorem execLoopSampleTick_within (i s) (t : State) (h : execLoopSampleTick i s = .next t) : Within [.recorder, .cpl, .image, .loop,
  .uc] s t := by
  unfold execLoopSampleTick at h
  injection h with h
  subst h
  exact .ite (fun _ => (.refl _ _)) (fun _ => (.ite (fun _ => (.step (loopAdvance_within ..) rfl (.step (loopDue_within ..) rfl
    (.refl _ _)))) (fun _ => (.ite (fun _ => (.step (loopOff_within ..) rfl (.step (loopMod_within ..) rfl (.step
    (loopAdvance_within ..) rfl (.step (loopModes_within ..) rfl (.step (loopDue_within ..) rfl (.refl _ _))))))) (fun _ => (.step
    (loopMod_within ..) rfl (.step (loopAdvance_within ..) rfl (.step (loopModes_within ..) rfl (.step (loopDue_within ..) rfl
    (.refl _ _))))))))))

theorem loopAgreed_within (i j k s) : Within [.recorder, .cpl, .image, .loop, .uc, .out] s (loopAgreed i j k s) := by
  unfold loopAgreed
  exact (by dsimp -proj only; split; exacts [(.refl _ _), (.ite (fun _ => (.step (emit_within ..) rfl (.step (loopSignals_within ..)
    rfl (.step (loopDrive_within ..) rfl (.step (leMod_within ..) rfl (.step (loopMod_within ..) rfl (.refl _ _))))))) (fun _ =>
    (.step (loopSignals_within ..) rfl (.step (loopDrive_within ..) rfl (.step (leMod_within ..) rfl (.step (loopMod_within ..) rfl
    (.refl _ _)))))))])

theorem execLoopCopyDelivery_within (i j k l s) (t : State) (h : execLoopCopyDelivery i j k l s = .next t) : Within [.recorder,
  .power, .cpl, .task, .retained, .image, .prog, .loop, .uc, .dig, .safety, .can, .pair, .modes, .cfg, .out, .fresh, .mode] s t :=
  by
  unfold execLoopCopyDelivery at h
  injection h with h
  subst h
  exact (by dsimp -proj only; split; exacts [(.refl _ _), (.ite (fun _ => (.refl _ _)) (fun _ => (.ite (fun _ => (.refl _ _)) (fun _
    => (by split; exacts [(.ite (fun _ => (.step (loopMod_within ..) rfl (.refl _ _))) (fun _ => (.step (followTasks_within ..) rfl
    (.step (excludeLane_within ..) rfl (.step (loopMod_within ..) rfl (.refl _ _)))))), (.ite (fun _ => (.step (followTasks_within
    ..) rfl (.foldl (fun _ _ => (.step (excludeLane_within ..) rfl (.refl _ _))) _ (.step (loopAgreed_within ..) rfl (.step
    (loopMod_within ..) rfl (.refl _ _)))))) (fun _ => (.step (loopMod_within ..) rfl (.refl _ _))))])))))])

theorem loopMissed_within (i s) : Within [.recorder, .cpl, .image, .loop, .uc] s (loopMissed i s) := by
  unfold loopMissed
  exact .ite (fun _ => (.step (loopEnter_within ..) rfl (.step (leMod_within ..) rfl (.step (loopMod_within ..) rfl (.refl _ _)))))
    (fun _ => (.step (leMod_within ..) rfl (.step (loopMod_within ..) rfl (.refl _ _))))

theorem execLoopSampleDeadline_within (i s) (t : State) (h : execLoopSampleDeadline i s = .next t) : Within [.recorder, .power,
  .cpl, .task, .retained, .image, .prog, .loop, .uc, .dig, .safety, .can, .pair, .modes, .cfg, .out, .fresh, .mode] s t := by
  unfold execLoopSampleDeadline at h
  injection h with h
  subst h
  exact (by dsimp -proj only; split; exacts [(.refl _ _), (.ite (fun _ => (.refl _ _)) (fun _ => (by split; exacts [(.step
    (followTasks_within ..) rfl (.foldl (fun _ _ => (.step (excludeLane_within ..) rfl (.refl _ _))) _ (.step (loopMod_within ..)
    rfl (.refl _ _)))), (.ite (fun _ => (.step (followTasks_within ..) rfl (.step (unresolvedMismatch_within ..) rfl (.ite (fun _ =>
    (.step (leMod_within ..) rfl (.step (loopMissed_within ..) rfl (.refl _ _)))) (fun _ => (.step (loopEnter_within ..) rfl (.step
    (leMod_within ..) rfl (.step (loopMissed_within ..) rfl (.refl _ _))))))))) (fun _ => (.step (loopMissed_within ..) rfl (.refl _
    _))))])))])

theorem execLoopCheckpointWrite_within (s) (t : State) (h : execLoopCheckpointWrite s = .next t) : Within [.loop] s t := by
  unfold execLoopCheckpointWrite at h
  injection h with h
  subst h
  exact .ite (fun _ => (.refl _ _)) (fun _ => (.step (leMod_within ..) rfl (.refl _ _)))

theorem loopTake_within (i s) : Within [.loop] s (loopTake i s) := by
  unfold loopTake
  exact .ite (fun _ => (.refl _ _)) (fun _ => (by dsimp -proj only; split; exacts [(.refl _ _), (.ite (fun _ => (.step
    (loopMod_within ..) rfl (.refl _ _))) (fun _ => (.step (leMod_within ..) rfl (.step (loopMod_within ..) rfl (.refl _ _)))))]))

theorem execLoopStateEntryReceived_within (i s) (t : State) (h : execLoopStateEntryReceived i s = .next t) : Within [.loop] s t :=
  by
  unfold execLoopStateEntryReceived at h
  injection h with h
  subst h
  exact .ite (fun _ => (.step (loopTake_within ..) rfl (.refl _ _))) (fun _ => (.refl _ _))

theorem loopsTakeover_within (s) : Within [.recorder, .cpl, .image, .loop, .uc] s (loopsTakeover s) := by
  unfold loopsTakeover
  exact .foldl (fun _ _ => (.ite (fun _ => (.refl _ _)) (fun _ => (.ite (fun _ => (.step (loopMod_within ..) rfl (.refl _ _))) (fun
    _ => (.step (loopDrive_within ..) rfl (.step (loopMod_within ..) rfl (.refl _ _)))))))) _ (.refl _ _)

theorem storeLoop_within (i j s) : Within [.cfg] s (storeLoop i j s) := by
  unfold storeLoop
  exact .set_cfg rfl (.refl _ _)

theorem takeTune_within (i j k s) : Within [.loop, .cfg] s (takeTune i j k s) := by
  unfold takeTune
  exact .ite (fun _ => (.refl _ _)) (fun _ => (.step (storeLoop_within ..) rfl (.step (loopMod_within ..) rfl (.refl _ _))))

theorem takeApply_within (i j k l s) : Within [.loop, .cfg] s (takeApply i j k l s) := by
  unfold takeApply
  exact .ite (fun _ => (.refl _ _)) (fun _ => (.step (loopMod_within ..) rfl (.step (storeLoop_within ..) rfl (.refl _ _))))

theorem takeReset_within (i j s) : Within [.loop] s (takeReset i j s) := by
  unfold takeReset
  exact .ite (fun _ => (.refl _ _)) (fun _ => (.step (loopMod_within ..) rfl (.refl _ _)))

theorem tellStandby_within (i s) : Within [.out] s (tellStandby i s) := by
  unfold tellStandby
  exact .ite (fun _ => (.step (emit_within ..) rfl (.refl _ _))) (fun _ => (.refl _ _))

theorem execTuneWrite_within (i s) (t : State) (h : execTuneWrite i s = .next t) : Within [.host, .power, .loop, .cfg, .out] s t :=
  by
  unfold execTuneWrite at h
  injection h with h
  subst h
  exact runCommand_step rfl (fun _ _ => (.ite_fst (fun _ => (.refl _ _)) (fun _ => (by dsimp -proj only; split; exacts [(.refl _ _),
    (.step (tellStandby_within ..) rfl (.step (takeTune_within ..) rfl (.refl _ _)))])))) (.refl _ _)

theorem execGroupApply_within (i s) (t : State) (h : execGroupApply i s = .next t) : Within [.host, .power, .loop, .cfg, .out] s t
  := by
  unfold execGroupApply at h
  injection h with h
  subst h
  exact runCommand_step rfl (fun _ _ => (.ite_fst (fun _ => (.refl _ _)) (fun _ => (.ite_fst (fun _ => (.refl _ _)) (fun _ =>
    (.ite_fst (fun _ => (.refl _ _)) (fun _ => (.ite_fst (fun _ => (.refl _ _)) (fun _ => (.ite_fst (fun _ => (.step
    (applySched_within ..) rfl (.step (takeApply_within ..) rfl (.refl _ _)))) (fun _ => (.step (tellStandby_within ..) rfl (.step
    (takeApply_within ..) rfl (.refl _ _)))))))))))))) (.refl _ _)

theorem execLoopStateGet_within (i s) (t : State) (h : execLoopStateGet i s = .next t) : Within [.host, .power, .loop, .out] s t :=
  by
  unfold execLoopStateGet at h
  injection h with h
  subst h
  exact runCommand_step rfl (fun _ _ => (.ite_fst (fun _ => (.refl _ _)) (fun _ => (.ite_fst (fun _ => (.refl _ _)) (fun _ =>
    (.foldl (fun _ _ => (.ite (fun _ => (.refl _ _)) (fun _ => (.step (loopMod_within ..) rfl (.refl _ _))))) _ (.refl _ _)))))))
    (.refl _ _)

theorem execLoopModeSet_within (i s) (t : State) (h : execLoopModeSet i s = .next t) : Within [.host, .power, .loop, .out] s t := by
  unfold execLoopModeSet at h
  injection h with h
  subst h
  exact runCommand_step rfl (fun _ _ => (by dsimp -proj only; split; exacts [(.refl _ _), (.ite_fst (fun _ => (.refl _ _)) (fun _ =>
    (.ite_fst (fun _ => (.refl _ _)) (fun _ => (.ite_fst (fun _ => (.ite (fun _ => (.step (loopMod_within ..) rfl (.refl _ _))) (fun
    _ => (.refl _ _)))) (fun _ => (.ite_fst (fun _ => (.refl _ _)) (fun _ => (.step (loopMod_within ..) rfl (.refl _ _))))))))))]))
    (.refl _ _)

theorem execLoopRepReset_within (i s) (t : State) (h : execLoopRepReset i s = .next t) : Within [.recorder, .host, .power, .loop,
  .out] s t := by
  unfold execLoopRepReset at h
  injection h with h
  subst h
  exact runCommand_step rfl (fun _ _ => (.ite_fst (fun _ => (.foldl (fun _ _ => (.step (record_within ..) rfl (.step (tellStandby_within ..) rfl (.step (takeReset_within ..) rfl (.refl _ _))))) _ (.refl _ _))) (fun _ => (.ite_fst (fun _ => (.refl _ _)) (fun _ => (by (try dsimp only); exact .step (record_within ..) rfl (.step (tellStandby_within ..) rfl (.step (takeReset_within ..) rfl (.refl _ _))))))))) (.refl _ _)

theorem dropShadows_within (i j s) : Within [.recorder, .loop] s (dropShadows i j s) := by
  unfold dropShadows
  exact .ite (fun _ => (.step (loopMod_within ..) rfl (.refl _ _))) (fun _ => (.step (record_within ..) rfl (.step (loopMod_within
    ..) rfl (.refl _ _))))

theorem loopConfigure_within (i j s) : Within [.recorder, .cpl, .image, .loop, .uc] s (loopConfigure i j s) := by
  unfold loopConfigure
  exact .ite (fun _ => (.refl _ _)) (fun _ => (.ite (fun _ => (.step (loopMod_within ..) rfl (.step (clearCells_within ..) rfl
    (.step (loopZero_within ..) rfl (.refl _ _))))) (fun _ => (.ite (fun _ => (.step (clearCells_within ..) rfl (.step
    (loopMod_within ..) rfl (.refl _ _)))) (fun _ => (.ite (fun _ => (.step (applyFresh_within ..) rfl (.step (dropShadows_within
    ..) rfl (.step (loopMod_within ..) rfl (.refl _ _))))) (fun _ => (.step (dropShadows_within ..) rfl (.step (loopMod_within ..)
    rfl (.refl _ _))))))))))

theorem loopsRestart_within (i s) : Within [.recorder, .cpl, .image, .loop, .uc] s (loopsRestart i s) := by
  unfold loopsRestart
  exact .foldl (fun _ _ => (.ite (fun _ => (.step (loopEnter_within ..) rfl (.refl _ _))) (fun _ => (.refl _ _)))) _ (.refl _ _)

theorem loopsOutFailed_within (i s) : Within [.recorder, .cpl, .image, .loop, .uc] s (loopsOutFailed i s) := by
  unfold loopsOutFailed
  exact .ite (fun _ => (.refl _ _)) (fun _ => (.foldl (fun _ _ => (.ite (fun _ => (.step (loopEnter_within ..) rfl (.refl _ _)))
    (fun _ => (.refl _ _)))) _ (.refl _ _)))

theorem execConverterRegulationFault_within (i s) (t : State) (h : execConverterRegulationFault i s = .next t) : Within [.recorder,
  .cpl, .image, .loop, .uc, .dig, .safety, .modes] s t := by
  unfold execConverterRegulationFault at h
  injection h with h
  subst h
  exact .step (loopsOutFailed_within ..) rfl (reacting_step rfl (.step (stepConverterRegulationFault_within ..) rfl (.refl _ _)))

theorem admitCommand_within (i s) : Within [.host, .power, .out] s (admitCommand i s) := by
  unfold admitCommand
  exact (by split; exacts [(.refl _ _), (.ite (fun _ => (.refl _ _)) (fun _ => (by split; exacts [(.step (deliver_within ..) rfl
    (.refl _ _)), (by dsimp -proj only; split; exacts [(.step (demandClock_within ..) rfl (.step (mailboxMod_within ..) rfl (.refl _
    _))), (.step (mailboxMod_within ..) rfl (.refl _ _))])])))])

theorem admitWaiting_within (s) : Within [.host, .power, .out] s (admitWaiting s) := by
  unfold admitWaiting
  exact .foldl (fun _ _ => (.step (admitCommand_within ..) rfl (.refl _ _))) _ (.refl _ _)

theorem submit_within (i j s) : Within [.host, .power, .out] s (submit i j s) := by
  unfold submit
  exact .ite (fun _ => (.step (sessionMod_within ..) rfl (.step (mailboxMod_within ..) rfl (.refl _ _)))) (fun _ => (.step
    (admitCommand_within ..) rfl (.step (sessionMod_within ..) rfl (.step (mailboxMod_within ..) rfl (.refl _ _)))))

theorem panelMod_within (i j s) : Within [.panel] s (panelMod i j s) := by
  unfold panelMod
  exact .set_panel rfl (.refl _ _)

theorem updateMod_within (i j s) : Within [.updates] s (updateMod i j s) := by
  unfold updateMod
  exact .set_updates rfl (.refl _ _)

theorem queueUpdate_within (i j k l m n p q s) : Within [.panel, .updates] s (queueUpdate i j k l m n p q s) := by
  unfold queueUpdate
  exact .set_updates rfl (.step (panelMod_within ..) rfl (.refl _ _))

theorem completeUpdate_within (i j k s) : Within [.panel] s (completeUpdate i j k s) := by
  unfold completeUpdate
  exact .step (panelMod_within ..) rfl (.refl _ _)

theorem finishUpdate_within (i s j) : Within [.panel, .updates] s (finishUpdate i s j) := by
  unfold finishUpdate
  exact .ite (fun _ => (.refl _ _)) (fun _ => (.ite (fun _ => (.step (queueUpdate_within ..) rfl (.step (panelMod_within ..) rfl
    (.step (updateMod_within ..) rfl (.refl _ _))))) (fun _ => (.step (panelMod_within ..) rfl (.step (updateMod_within ..) rfl
    (.refl _ _))))))

theorem endFlights_within (i s) : Within [.panel, .updates] s (endFlights i s) := by
  unfold endFlights
  exact .foldl (fun _ _ => (.step (finishUpdate_within ..) rfl (.refl _ _))) _ (.step (panelMod_within ..) rfl (.refl _ _))

theorem panelOff_within (i s) : Within [.panel] s (panelOff i s) := by
  unfold panelOff
  exact .step (panelMod_within ..) rfl (.refl _ _)

theorem panelPowerFault_within (i s) : Within [.recorder, .panel] s (panelPowerFault i s) := by
  unfold panelPowerFault
  exact .step (record_within ..) rfl (.step (panelMod_within ..) rfl (.step (panelOff_within ..) rfl (.refl _ _)))

theorem changeBand_within (i s) : Within [.recorder, .panel, .fresh] s (changeBand i s) := by
  unfold changeBand
  exact .ite (fun _ => (.refl _ _)) (fun _ => (.ite (fun _ => (.step (panelMod_within ..) rfl (.refl _ _))) (fun _ => (.ite (fun _
    => (.step (nextFree_within ..) rfl (.step (panelMod_within ..) rfl (.refl _ _)))) (fun _ => (.step (panelPowerFault_within ..)
    rfl (.step (nextFree_within ..) rfl (.step (panelMod_within ..) rfl (.refl _ _)))))))))

theorem takePanelRecord_within (i j s) : Within [.panel, .updates, .modes] s (takePanelRecord i j s) := by
  unfold takePanelRecord
  exact .step (healthFollows_within ..) rfl (.foldl (fun _ _ => (.step (completeUpdate_within ..) rfl (.refl _ _))) _ (.set_updates
    rfl (.step (panelMod_within ..) rfl (.refl _ _))))

theorem panelConfigure_within (i j s) : Within [.panel, .updates, .modes] s (panelConfigure i j s) := by
  unfold panelConfigure
  exact .ite (fun _ => (.step (panelMod_within ..) rfl (.refl _ _))) (fun _ => (.ite (fun _ => (.step (takePanelRecord_within ..)
    rfl (.refl _ _))) (fun _ => (.step (panelMod_within ..) rfl (.refl _ _)))))

theorem panelIdleWork_within (i s) : Within [.recorder, .panel, .updates, .modes, .fresh] s (panelIdleWork i s) := by
  unfold panelIdleWork
  exact .ite (fun _ => (.refl _ _)) (fun _ => (.step (changeBand_within ..) rfl (by split; exacts [(.step (takePanelRecord_within
    ..) rfl (.refl _ _)), (.refl _ _)])))

theorem reachPixel_within (i s j) : Within [.panel, .updates] s (reachPixel i s j) := by
  unfold reachPixel
  exact .step (panelMod_within ..) rfl (by split; exacts [(.step (updateMod_within ..) rfl (.refl _ _)), (.refl _ _)])

theorem openIntent_within (i s) : Within [.panel] s (openIntent i s) := by
  unfold openIntent
  exact .step (panelMod_within ..) rfl (.refl _ _)

theorem admitUpdate_within (i s) : Within [.panel, .updates] s (admitUpdate i s) := by
  unfold admitUpdate
  exact .foldl (fun _ _ => (.step (reachPixel_within ..) rfl (.refl _ _))) _ (.step (openIntent_within ..) rfl (.step
    (updateMod_within ..) rfl (.refl _ _)))

theorem admitQueued_within (i j s) : Within [.panel, .updates] s (admitQueued i j s) := by
  unfold admitQueued
  exact (by split; exacts [(.refl _ _), (by split; exacts [(.ite (fun _ => (.step (admitQueued_within ..) rfl (.step
    (admitUpdate_within ..) rfl (.refl _ _)))) (fun _ => (.refl _ _))), (.refl _ _)])])

theorem driveFrame_within (i s) : Within [.panel, .out] s (driveFrame i s) := by
  unfold driveFrame
  exact .ite (fun _ => (.step (emit_within ..) rfl (.step (panelMod_within ..) rfl (.step (panelMod_within ..) rfl (.refl _ _)))))
    (fun _ => (.step (panelMod_within ..) rfl (.step (panelMod_within ..) rfl (.refl _ _))))

theorem frameStart_within (i s) : Within [.recorder, .panel, .updates, .modes, .out, .fresh] s (frameStart i s) := by
  unfold frameStart
  exact .ite (fun _ => (.step (panelMod_within ..) rfl (.step (panelIdleWork_within ..) rfl (.step (endFlights_within ..) rfl (.refl
    _ _))))) (fun _ => (.ite (fun _ => (.step (panelMod_within ..) rfl (.step (panelIdleWork_within ..) rfl (.step
    (endFlights_within ..) rfl (.refl _ _))))) (fun _ => (.ite (fun _ => (.step (panelIdleWork_within ..) rfl (.step
    (endFlights_within ..) rfl (.refl _ _)))) (fun _ => (.foldl (fun _ _ => (.step (finishUpdate_within ..) rfl (.refl _ _))) _
    (.step (driveFrame_within ..) rfl (.step (admitQueued_within ..) rfl (.step (panelIdleWork_within ..) rfl (.step
    (endFlights_within ..) rfl (.refl _ _)))))))))))

theorem execPanelFrameStart_within (i s) (t : State) (h : execPanelFrameStart i s = .next t) : Within [.recorder, .panel, .updates,
  .modes, .out, .fresh] s t := by
  unfold execPanelFrameStart at h
  injection h with h
  subst h
  exact .ite (fun _ => (.refl _ _)) (fun _ => (.ite (fun _ => (.refl _ _)) (fun _ => (.step (frameStart_within ..) rfl (.refl _
    _)))))

theorem followBand_within (i s) : Within [.recorder, .panel, .updates, .fresh] s (followBand i s) := by
  unfold followBand
  exact .ite (fun _ => (.step (panelMod_within ..) rfl (.refl _ _))) (fun _ => (.ite (fun _ => (.step (changeBand_within ..) rfl
    (.refl _ _))) (fun _ => (.ite (fun _ => (.step (panelMod_within ..) rfl (.refl _ _))) (fun _ => (.ite (fun _ => (.set_updates
    rfl (.step (panelMod_within ..) rfl (.step (panelMod_within ..) rfl (.refl _ _))))) (fun _ => (.step (record_within ..) rfl
    (.set_updates rfl (.step (panelMod_within ..) rfl (.step (panelMod_within ..) rfl (.refl _ _))))))))))))

theorem execPanelTempRead_within (i j s) (t : State) (h : execPanelTempRead i j s = .next t) : Within [.recorder, .panel, .updates,
  .fresh] s t := by
  unfold execPanelTempRead at h
  injection h with h
  subst h
  exact .ite (fun _ => (.refl _ _)) (fun _ => (by split; exacts [(.step (followBand_within ..) rfl (.step (panelMod_within ..) rfl
    (.refl _ _))), (.ite (fun _ => (.step (record_within ..) rfl (.step (panelMod_within ..) rfl (.refl _ _)))) (fun _ => (.step
    (panelMod_within ..) rfl (.refl _ _))))]))

theorem execPanelBandHold_within (i s) (t : State) (h : execPanelBandHold i s = .next t) : Within [.recorder, .panel, .updates,
  .modes, .fresh] s t := by
  unfold execPanelBandHold at h
  injection h with h
  subst h
  exact (by split; exacts [(.ite (fun _ => (.step (panelIdleWork_within ..) rfl (.step (panelMod_within ..) rfl (.refl _ _)))) (fun
    _ => (.refl _ _))), (.refl _ _)])

theorem execPwrGoodRise_within (i j s) (t : State) (h : execPwrGoodRise i j s = .next t) : Within [.recorder, .panel] s t := by
  unfold execPwrGoodRise at h
  injection h with h
  subst h
  exact .ite (fun _ => (.refl _ _)) (fun _ => (.ite (fun _ => (.step (panelMod_within ..) rfl (.refl _ _))) (fun _ => (.step
    (panelPowerFault_within ..) rfl (.refl _ _)))))

theorem execPwrGoodTimeout_within (i s) (t : State) (h : execPwrGoodTimeout i s = .next t) : Within [.recorder, .panel] s t := by
  unfold execPwrGoodTimeout at h
  injection h with h
  subst h
  exact .ite (fun _ => (.step (panelPowerFault_within ..) rfl (.refl _ _))) (fun _ => (.refl _ _))

theorem execPanelPowerOff_within (i s) (t : State) (h : execPanelPowerOff i s = .next t) : Within [.panel] s t := by
  unfold execPanelPowerOff at h
  injection h with h
  subst h
  exact .ite (fun _ => (.step (panelOff_within ..) rfl (.refl _ _))) (fun _ => (.refl _ _))

theorem faultUpdate_within (i j s k) : Within [.panel, .updates] s (faultUpdate i j s k) := by
  unfold faultUpdate
  exact .step (panelMod_within ..) rfl (.step (queueUpdate_within ..) rfl (.step (completeUpdate_within ..) rfl (.set_updates rfl
    (.refl _ _))))

theorem execPwrGoodLow_within (i s) (t : State) (h : execPwrGoodLow i s = .next t) : Within [.recorder, .panel, .updates] s t := by
  unfold execPwrGoodLow at h
  injection h with h
  subst h
  exact .ite (fun _ => (.refl _ _)) (fun _ => (.step (panelPowerFault_within ..) rfl (.foldl (fun _ _ => (.step (faultUpdate_within
    ..) rfl (.refl _ _))) _ (.step (panelMod_within ..) rfl (.refl _ _)))))

theorem execPanelCleanIdle_within (i s) (t : State) (h : execPanelCleanIdle i s = .next t) : Within [.panel, .updates] s t := by
  unfold execPanelCleanIdle at h
  injection h with h
  subst h
  exact .ite (fun _ => (by split; exacts [(.step (queueUpdate_within ..) rfl (.refl _ _)), (.refl _ _)])) (fun _ => (.refl _ _))

theorem execPanelCheckpointWritten_within (i j s) (t : State) (h : execPanelCheckpointWritten i j s = .next t) : Within [.panel,
  .updates] s t := by
  unfold execPanelCheckpointWritten at h
  injection h with h
  subst h
  exact (by split; exacts [(.refl _ _), (.step (panelMod_within ..) rfl (.step (completeUpdate_within ..) rfl (.set_updates rfl
    (.step (panelMod_within ..) rfl (.refl _ _)))))])

theorem panelStart_within (i j s) : Within [.recorder, .panel, .updates] s (panelStart i j s) := by
  unfold panelStart
  exact .ite (fun _ => (.step (panelMod_within ..) rfl (.step (panelMod_within ..) rfl (.refl _ _)))) (fun _ => (.ite (fun _ =>
    (.step (record_within ..) rfl (.step (queueUpdate_within ..) rfl (.step (panelMod_within ..) rfl (.step (panelMod_within ..) rfl
    (.refl _ _)))))) (fun _ => (.ite (fun _ => (.step (panelMod_within ..) rfl (.refl _ _))) (fun _ => (.step (record_within ..) rfl
    (.foldl (fun _ _ => (.step (panelMod_within ..) rfl (.step (queueUpdate_within ..) rfl (.refl _ _)))) _ (.step (panelMod_within
    ..) rfl (.refl _ _)))))))))

theorem panelsStart_within (s) : Within [.recorder, .panel, .updates, .modes] s (panelsStart s) := by
  unfold panelsStart
  exact .foldl (fun _ _ => (.step (healthFollows_within ..) rfl (.step (panelStart_within ..) rfl (.refl _ _)))) _ (.set_updates rfl
    (.refl _ _))

theorem forwardPanel_within (i j s) : Within [.out] s (forwardPanel i j s) := by
  unfold forwardPanel
  exact .ite (fun _ => (.step (emit_within ..) rfl (.refl _ _))) (fun _ => (.refl _ _))

theorem emptyUpdate_within (i s) : Within [.panel] s (emptyUpdate i s).1 := by
  unfold emptyUpdate
  exact .step (completeUpdate_within ..) rfl (.step (panelMod_within ..) rfl (.refl _ _))

theorem execPanelUpdate_within (i s) (t : State) (h : execPanelUpdate i s = .next t) : Within [.host, .power, .panel, .updates,
  .out] s t := by
  unfold execPanelUpdate at h
  injection h with h
  subst h
  exact runCommand_step rfl (fun _ _ => (by dsimp -proj only; split; exacts [(.refl _ _), (.ite_fst (fun _ => (.refl _ _)) (fun _ =>
    (by split; exacts [(.refl _ _), (.ite_fst (fun _ => (.step (emptyUpdate_within ..) rfl (.refl _ _))) (fun _ => (.ite_fst (fun _
    => (.refl _ _)) (fun _ => (.ite_fst (fun _ => (.refl _ _)) (fun _ => (.step (forwardPanel_within ..) rfl (.step
    (queueUpdate_within ..) rfl (.refl _ _)))))))))])))])) (.refl _ _)

theorem resetLedger_within (i j k l m s) : Within [.panel] s (resetLedger i j k l m s) := by
  unfold resetLedger
  exact .step (panelMod_within ..) rfl (.refl _ _)

theorem queueClean_within (i j k l m n s) : Within [.panel, .updates] s (queueClean i j k l m n s) := by
  unfold queueClean
  exact .step (queueUpdate_within ..) rfl (.ite (fun _ => (.step (resetLedger_within ..) rfl (.refl _ _))) (fun _ => (.refl _ _)))

theorem execPanelClean_within (i s) (t : State) (h : execPanelClean i s = .next t) : Within [.host, .power, .panel, .updates, .out]
  s t := by
  unfold execPanelClean at h
  injection h with h
  subst h
  exact runCommand_step rfl (fun _ _ => (by dsimp -proj only; split; exacts [(.refl _ _), (by split; exacts [(.refl _ _), (.ite_fst
    (fun _ => (.step (emptyUpdate_within ..) rfl (.refl _ _))) (fun _ => (.ite_fst (fun _ => (.refl _ _)) (fun _ => (.ite_fst (fun _
    => (.refl _ _)) (fun _ => (.step (forwardPanel_within ..) rfl (.step (queueClean_within ..) rfl (.refl _ _)))))))))])])) (.refl
    _ _)

theorem execPanelWaveformLoad_within (i s) (t : State) (h : execPanelWaveformLoad i s = .next t) : Within [.host, .power, .panel,
  .out] s t := by
  unfold execPanelWaveformLoad at h
  injection h with h
  subst h
  exact runCommand_step rfl (fun _ _ => (by dsimp -proj only; split; exacts [(.refl _ _), (.ite_fst (fun _ => (.refl _ _)) (fun _ =>
    (.ite_fst (fun _ => (.refl _ _)) (fun _ => (.ite_fst (fun _ => (.refl _ _)) (fun _ => (.ite_fst (fun _ => (.refl _ _)) (fun _ =>
    (.step (forwardPanel_within ..) rfl (.step (panelMod_within ..) rfl (.refl _ _)))))))))))])) (.refl _ _)

theorem pnlWrite_within (i j s) : Within [.panel] s (pnlWrite i j s) := by
  unfold pnlWrite
  exact .step (panelMod_within ..) rfl (.refl _ _)

theorem execPanelStatus_within (i s) (t : State) (h : execPanelStatus i s = .next t) : Within [.host, .power, .out] s t := by
  unfold execPanelStatus at h
  injection h with h
  subst h
  exact .step (readCommand_within ..) rfl (.refl _ _)

theorem panelUpdateHere_within (i j k l m n p s) : Within [.panel, .updates] s (panelUpdateHere i j k l m n p s) := by
  unfold panelUpdateHere
  exact .ite (fun _ => (.refl _ _)) (fun _ => (.step (queueUpdate_within ..) rfl (.refl _ _)))

theorem panelCleanHere_within (i j k l m n s) : Within [.panel, .updates] s (panelCleanHere i j k l m n s) := by
  unfold panelCleanHere
  exact .ite (fun _ => (.refl _ _)) (fun _ => (.step (queueClean_within ..) rfl (.refl _ _)))

theorem panelWaveformHere_within (i j s) : Within [.panel] s (panelWaveformHere i j s) := by
  unfold panelWaveformHere
  exact .ite (fun _ => (.refl _ _)) (fun _ => (.step (panelMod_within ..) rfl (.refl _ _)))

theorem withSet_within (i s) : Within [.cfg] s (withSet i s) := by
  unfold withSet
  exact .set_cfg rfl (.refl _ _)

theorem rebuildImage_within (i j s) : Within [.recorder, .host, .image, .pub] s (rebuildImage i j s) := by
  unfold rebuildImage
  exact .foldl (fun _ _ => (.ite (fun _ => (.step (putRec_within ..) rfl (.refl _ _))) (fun _ => (.ite (fun _ => (.refl _ _)) (fun _
    => (.ite (fun _ => (.step (changeRec_within ..) rfl (.refl _ _))) (fun _ => (.step (putRec_within ..) rfl (.refl _ _))))))))) _
    (.foldl (fun _ _ => (.set_image rfl (.refl _ _))) _ (.refl _ _))

theorem stationsFollow_within (s) : Within [.image] s (stationsFollow s) := by
  unfold stationsFollow
  exact .foldl (fun _ _ => (.ite (fun _ => (.step (stationMod_within ..) rfl (.refl _ _))) (fun _ => (.ite (fun _ => (.step
    (stationMod_within ..) rfl (.refl _ _))) (fun _ => (.refl _ _)))))) _ (.refl _ _)

theorem auditForce_within (i j k l m s) : Within [.recorder] s (auditForce i j k l m s) := by
  unfold auditForce
  exact .step (admitRecord_within ..) rfl (.refl _ _)

theorem dropForces_within (i j k s) : Within [.recorder, .image] s (dropForces i j k s) := by
  unfold dropForces
  exact .foldl (fun _ _ => (.step (auditForce_within ..) rfl (.refl _ _))) _ (.set_image rfl (.refl _ _))

theorem realignMerge_within (i s) : Within [.image] s (realignMerge i s) := by
  unfold realignMerge
  exact .ite (fun _ => (.refl _ _)) (fun _ => (.set_image rfl (.refl _ _)))

theorem takeSet_within (i j k l s) : Within [.recorder, .host, .cpl, .image, .pub, .loop, .uc, .dig, .group, .safety, .net, .can,
  .panel, .updates, .modes, .cfg, .out] s (takeSet i j k l s) := by
  unfold takeSet
  exact .step (funcsFollow_within ..) rfl (.set_safety rfl (.foldl (fun _ _ => (.step (panelConfigure_within ..) rfl (.refl _ _))) _
    (.foldl (fun _ _ => (.step (loopConfigure_within ..) rfl (.refl _ _))) _ (.foldl (fun _ _ => (.step (digConfigure_within ..) rfl
    (.refl _ _))) _ (.foldl (fun _ _ => (.step (ucConfigure_within ..) rfl (.refl _ _))) _ (.foldl (fun _ _ => (.step
    (objConfigure_within ..) rfl (.refl _ _))) _ (.foldl (fun _ _ => (.step (canConfigure_within ..) rfl (.refl _ _))) _ (.ite (fun
    _ => (.set_net rfl (.ite (fun _ => (.step (realignMerge_within ..) rfl (.set_cfg rfl (.refl _ _)))) (fun _ => (.step
    (rebuildImage_within ..) rfl (.step (stationsFollow_within ..) rfl (.step (dropForces_within ..) rfl (.step (realignMerge_within
    ..) rfl (.set_cfg rfl (.refl _ _)))))))))) (fun _ => (.set_net rfl (.ite (fun _ => (.step (realignMerge_within ..) rfl (.set_cfg
    rfl (.refl _ _)))) (fun _ => (.step (rebuildImage_within ..) rfl (.step (stationsFollow_within ..) rfl (.step (dropForces_within
    ..) rfl (.step (realignMerge_within ..) rfl (.set_cfg rfl (.refl _ _))))))))))))))))))

theorem sendSet_within (i j k s) : Within [.out] s (sendSet i j k s) := by
  unfold sendSet
  exact .ite (fun _ => (.step (emits_within ..) rfl (.refl _ _))) (fun _ => (.refl _ _))

theorem retainedCaution_within (i s) : Within [.recorder] s (retainedCaution i s) := by
  unfold retainedCaution
  exact .ite (fun _ => (.step (record_within ..) rfl (.refl _ _))) (fun _ => (.refl _ _))

theorem commitSet_within (i j k l m s) : Within [.recorder, .host, .cpl, .image, .pub, .loop, .uc, .dig, .group, .safety, .net,
  .can, .panel, .updates, .modes, .cfg, .out] s (commitSet i j k l m s) := by
  unfold commitSet
  exact .step (retainedCaution_within ..) rfl (.step (audit_within ..) rfl (.step (takeSet_within ..) rfl (.set_cfg rfl (.step
    (sendSet_within ..) rfl (.refl _ _)))))

theorem execCfgSessionOpen_within (i s) (t : State) (h : execCfgSessionOpen i s = .next t) : Within [.host, .power, .cfg, .out] s t
  := by
  unfold execCfgSessionOpen at h
  injection h with h
  subst h
  exact runCommand_step rfl (fun _ _ => (by split; exacts [(.refl _ _), (.set_cfg rfl (.refl _ _))])) (.refl _ _)

theorem sessionSet_within (i s) : Within [.cfg] s (sessionSet i s) := by
  unfold sessionSet
  exact .set_cfg rfl (.refl _ _)

theorem execCfgWrite_within (i s) (t : State) (h : execCfgWrite i s = .next t) : Within [.host, .power, .cfg, .out] s t := by
  unfold execCfgWrite at h
  injection h with h
  subst h
  exact runCommand_step rfl (fun _ _ => (by dsimp -proj only; split; exacts [(.ite_fst (fun _ => (.refl _ _)) (fun _ => (.ite_fst
    (fun _ => (.refl _ _)) (fun _ => (.ite_fst (fun _ => (.refl _ _)) (fun _ => (.ite_fst (fun _ => (.refl _ _)) (fun _ => (.step
    (sessionSet_within ..) rfl (.refl _ _)))))))))), (.refl _ _)])) (.refl _ _)

theorem execCfgRead_within (i s) (t : State) (h : execCfgRead i s = .next t) : Within [.host, .power, .out] s t := by
  unfold execCfgRead at h
  injection h with h
  subst h
  exact .step (readCommand_within ..) rfl (.refl _ _)

theorem execCfgAbandon_within (i s) (t : State) (h : execCfgAbandon i s = .next t) : Within [.recorder, .host, .power, .cfg, .out] s
  t := by
  unfold execCfgAbandon at h
  injection h with h
  subst h
  exact runCommand_step rfl (fun _ _ => (by split; exacts [(.refl _ _), (.ite_fst (fun _ => (.refl _ _)) (fun _ => (.ite_fst (fun _
    => (.refl _ _)) (fun _ => (.ite_fst (fun _ => (.refl _ _)) (fun _ => (.step (abandonSession_within ..) rfl (.refl _ _))))))))]))
    (.refl _ _)

theorem execCfgCommit_within (i s) (t : State) (h : execCfgCommit i s = .next t) : Within [.recorder, .host, .power, .cpl, .image,
  .pub, .loop, .uc, .dig, .group, .safety, .net, .can, .panel, .updates, .modes, .cfg, .out] s t := by
  unfold execCfgCommit at h
  injection h with h
  subst h
  exact runCommand_step rfl (fun _ _ => (by split; exacts [(.refl _ _), (.ite_fst (fun _ => (.refl _ _)) (fun _ =>
    (by dsimp -proj only; split; exacts [(.ite_snd (fun _ => (.step (safetyChangeCheck_within ..) rfl (.refl _ _))) (fun _ => (.refl
    _ _))), (.ite_fst (fun _ => (.ite_snd (fun _ => (.step (safetyChangeCheck_within ..) rfl (.refl _ _))) (fun _ => (.refl _ _))))
    (fun _ => (.ite_fst (fun _ => (.ite_snd (fun _ => (.step (safetyChangeCheck_within ..) rfl (.refl _ _))) (fun _ => (.refl _
    _)))) (fun _ => (by split; exacts [(.ite_snd (fun _ => (.step (safetyChangeCheck_within ..) rfl (.refl _ _))) (fun _ => (.refl _
    _))), (.ite_fst (fun _ => (.ite_snd (fun _ => (.step (safetyChangeCheck_within ..) rfl (.refl _ _))) (fun _ => (.refl _ _))))
    (fun _ => (.step (commitSet_within ..) rfl (.ite (fun _ => (.step (changeLogBy_within ..) rfl (.ite_snd (fun _ => (.step
    (safetyChangeCheck_within ..) rfl (.refl _ _))) (fun _ => (.refl _ _))))) (fun _ => (.ite_snd (fun _ => (.step
    (safetyChangeCheck_within ..) rfl (.refl _ _))) (fun _ => (.refl _ _))))))))])))))])))])) (.refl _ _)

theorem slotMod_within (i j s) : Within [.prog] s (slotMod i j s) := by
  unfold slotMod
  exact .set_prog rfl (.refl _ _)

theorem execProgLoad_within (i s) (t : State) (h : execProgLoad i s = .next t) : Within [.host, .power, .prog, .out] s t := by
  unfold execProgLoad at h
  injection h with h
  subst h
  exact runCommand_step rfl (fun _ _ => (.ite_fst (fun _ => (.refl _ _)) (fun _ => (.ite_fst (fun _ => (.refl _ _)) (fun _ =>
    (.ite_fst (fun _ => (.refl _ _)) (fun _ => (.ite_fst (fun _ => (.refl _ _)) (fun _ => (.ite_fst (fun _ => (.refl _ _)) (fun _ =>
    (.ite_fst (fun _ => (.refl _ _)) (fun _ => (.step (slotMod_within ..) rfl (.refl _ _))))))))))))))) (.refl _ _)

theorem execProgVerify_within (i s) (t : State) (h : execProgVerify i s = .next t) : Within [.host, .power, .prog, .out] s t := by
  unfold execProgVerify at h
  injection h with h
  subst h
  exact runCommand_step rfl (fun _ _ => (by split; exacts [(.refl _ _), (.ite_fst (fun _ => (.refl _ _)) (fun _ =>
    (by dsimp -proj only; split; exacts [(.refl _ _), (.ite (fun _ => (.step (emit_within ..) rfl (.step (slotMod_within ..) rfl
    (.refl _ _)))) (fun _ => (.step (slotMod_within ..) rfl (.refl _ _))))])))])) (.refl _ _)

theorem nameOld_within (s) : Within [.prog] s (nameOld s) := by
  unfold nameOld
  exact .set_prog rfl (.refl _ _)

theorem turnSlots_within (s) : Within [.prog] s (turnSlots s) := by
  unfold turnSlots
  exact .set_prog rfl (.refl _ _)

theorem orphanFields_within (s) : Within [.recorder] s (orphanFields s) := by
  unfold orphanFields
  exact .foldl (fun _ _ => (.step (record_within ..) rfl (.refl _ _))) _ (.refl _ _)

theorem castNow_within (s) : Within [.recorder, .cpl, .task, .retained, .image, .prog, .uc, .dig, .safety] s (castNow s) := by
  unfold castNow
  exact .step (switchTasks_within ..) rfl (.step (orphanFields_within ..) rfl (.step (turnSlots_within ..) rfl (.refl _ _)))

theorem fillArea_within (s) : Within [.prog] s (fillArea s) := by
  unfold fillArea
  exact .foldl (fun _ _ => (.set_prog rfl (.refl _ _))) _ (.set_prog rfl (.refl _ _))

theorem stopCommit_within (s i) : Within [.task, .retained] s (stopCommit s i) := by
  unfold stopCommit
  exact .ite (fun _ => (.refl _ _)) (fun _ => (.step (queueRetained_within ..) rfl (.refl _ _)))

theorem stopDone_within (s i) : Within [.task] s (stopDone s i) := by
  unfold stopDone
  exact .ite (fun _ => (.step (taskMod_within ..) rfl (.refl _ _))) (fun _ => (.refl _ _))

theorem castInStop_within (s) : Within [.recorder, .cpl, .task, .retained, .image, .prog, .uc, .dig, .safety] s (castInStop s) := by
  unfold castInStop
  exact .step (settleCheck_within ..) rfl (.foldl (fun _ _ => (.step (stopCommit_within ..) rfl (.refl _ _))) _ (.step
    (writeExchange_within ..) rfl (.foldl (fun _ _ => (.step (stopDone_within ..) rfl (.refl _ _))) _ (.set_prog rfl (.foldl (fun _
    _ => (.step (switchTask_within ..) rfl (.step (discardCycle_within ..) rfl (.refl _ _)))) _ (.step (orphanFields_within ..) rfl
    (.step (turnSlots_within ..) rfl (.step (fillArea_within ..) rfl (.step (nameOld_within ..) rfl (.refl _ _))))))))))

theorem execCastPoint_within (s) (t : State) (h : execCastPoint s = .next t) : Within [.recorder, .cpl, .task, .retained, .image,
  .prog, .uc, .dig, .safety, .cfg, .out] s t := by
  unfold execCastPoint at h
  injection h with h
  subst h
  exact .ite (fun _ => (.refl _ _)) (fun _ => (.ite (fun _ => (.step (abandonExchange_within ..) rfl (.refl _ _))) (fun _ => (.step
    (castNow_within ..) rfl (.refl _ _)))))

theorem becomeReady_within (s) : Within [.prog, .out] s (becomeReady s) := by
  unfold becomeReady
  exact .ite (fun _ => (.set_prog rfl (.refl _ _))) (fun _ => (.ite (fun _ => (.step (emit_within ..) rfl (.set_prog rfl (.set_prog
    rfl (.refl _ _))))) (fun _ => (.set_prog rfl (.set_prog rfl (.refl _ _))))))

theorem execPreparationCaughtUp_within (s) (t : State) (h : execPreparationCaughtUp s = .next t) : Within [.prog, .out] s t := by
  unfold execPreparationCaughtUp at h
  injection h with h
  subst h
  exact .ite (fun _ => (.refl _ _)) (fun _ => (.ite (fun _ => (.step (emit_within ..) rfl (.set_prog rfl (.set_prog rfl (.step
    (fillArea_within ..) rfl (.refl _ _)))))) (fun _ => (.ite (fun _ => (.set_prog rfl (.step (fillArea_within ..) rfl (.refl _
    _)))) (fun _ => (.step (becomeReady_within ..) rfl (.set_prog rfl (.step (fillArea_within ..) rfl (.refl _ _)))))))))

theorem standbyReady_within (s) : Within [.prog, .out] s (standbyReady s) := by
  unfold standbyReady
  exact .ite (fun _ => (.ite (fun _ => (.step (becomeReady_within ..) rfl (.set_prog rfl (.refl _ _)))) (fun _ => (.set_prog rfl
    (.refl _ _))))) (fun _ => (.refl _ _))

theorem execStandbyReadyAck_within (s) (t : State) (h : execStandbyReadyAck s = .next t) : Within [.prog, .out] s t := by
  unfold execStandbyReadyAck at h
  injection h with h
  subst h
  exact .step (standbyReady_within ..) rfl (.refl _ _)

theorem execCastAbandonDeadline_within (s) (t : State) (h : execCastAbandonDeadline s = .next t) : Within [.recorder, .prog, .cfg,
  .out] s t := by
  unfold execCastAbandonDeadline at h
  injection h with h
  subst h
  exact .ite (fun _ => (.refl _ _)) (fun _ => (.ite (fun _ => (.step (abandonExchange_within ..) rfl (.refl _ _))) (fun _ => (.refl
    _ _))))

theorem sendBound_within (i s) : Within [.out] s (sendBound i s) := by
  unfold sendBound
  exact .ite (fun _ => (.step (emits_within ..) rfl (.refl _ _))) (fun _ => (.refl _ _))

theorem acceptExchange_within (i j k l m s) : Within [.recorder, .cpl, .task, .retained, .image, .prog, .uc, .dig, .safety, .cfg,
  .out] s (acceptExchange i j k l m s) := by
  unfold acceptExchange
  exact .ite (fun _ => (.step (castInStop_within ..) rfl (.ite (fun _ => (.step (emit_within ..) rfl (.ite (fun _ => (.step
    (sendBound_within ..) rfl (.set_task_prog_cfg rfl (.refl _ _)))) (fun _ => (.set_task_prog_cfg rfl (.refl _ _)))))) (fun _ =>
    (.ite (fun _ => (.step (sendBound_within ..) rfl (.set_task_prog_cfg rfl (.refl _ _)))) (fun _ => (.set_task_prog_cfg rfl (.refl
    _ _)))))))) (fun _ => (.step (writeExchange_within ..) rfl (.step (nameOld_within ..) rfl (.ite (fun _ => (.step (emit_within
    ..) rfl (.ite (fun _ => (.step (sendBound_within ..) rfl (.set_task_prog_cfg rfl (.refl _ _)))) (fun _ => (.set_task_prog_cfg
    rfl (.refl _ _)))))) (fun _ => (.ite (fun _ => (.step (sendBound_within ..) rfl (.set_task_prog_cfg rfl (.refl _ _)))) (fun _ =>
    (.set_task_prog_cfg rfl (.refl _ _)))))))))

theorem execProgExchange_within (i s) (t : State) (h : execProgExchange i s = .next t) : Within [.recorder, .host, .power, .cpl,
  .task, .retained, .image, .prog, .uc, .dig, .safety, .cfg, .out] s t := by
  unfold execProgExchange at h
  injection h with h
  subst h
  exact runCommand_step rfl (fun _ _ => (.ite_fst (fun _ => (.ite_fst (fun _ => (.step (abandonExchange_within ..) rfl (.refl _ _)))
    (fun _ => (.refl _ _)))) (fun _ => (by dsimp -proj only; split; exacts [(.refl _ _), (by split; exacts [(.ite_snd (fun _ =>
    (.step (checkPassword_within ..) rfl (.refl _ _))) (fun _ => (.refl _ _))), (.step (acceptExchange_within ..) rfl (.ite (fun _
    => (.step (changeLogBy_within ..) rfl (.ite_snd (fun _ => (.step (checkPassword_within ..) rfl (.refl _ _))) (fun _ => (.refl _
    _))))) (fun _ => (.ite_snd (fun _ => (.step (checkPassword_within ..) rfl (.refl _ _))) (fun _ => (.refl _ _))))))])])))) (.refl
    _ _)

theorem dropForce_within (i s j) : Within [.recorder, .host, .image, .pub, .safety, .out] s (dropForce i s j) := by
  unfold dropForce
  exact (by split; exacts [(.refl _ _), (.ite (fun _ => (.step (changeRec_within ..) rfl (.ite (fun _ => (.step (changeLog_within
    ..) rfl (.set_image rfl (.step (auditForce_within ..) rfl (.refl _ _))))) (fun _ => (.set_image rfl (.step (auditForce_within
    ..) rfl (.refl _ _))))))) (fun _ => (.ite (fun _ => (.step (changeLog_within ..) rfl (.set_image rfl (.step (auditForce_within
    ..) rfl (.refl _ _))))) (fun _ => (.set_image rfl (.step (auditForce_within ..) rfl (.refl _ _)))))))])

theorem exchangeMerge_within (i s) : Within [.recorder, .host, .cpl, .image, .pub, .prog, .loop, .uc, .dig, .group, .safety, .net,
  .can, .panel, .updates, .modes, .cfg, .out] s (exchangeMerge i s) := by
  unfold exchangeMerge
  exact .ite (fun _ => (.refl _ _)) (fun _ => (by dsimp -proj only; split; exacts [(.step (commitSet_within ..) rfl (.set_prog_cfg
    rfl (.ite (fun _ => (.step (changeLog_within ..) rfl (.set_prog rfl (.foldl (fun _ _ => (.step (dropForce_within ..) rfl (.refl
    _ _))) _ (.refl _ _))))) (fun _ => (.set_prog rfl (.foldl (fun _ _ => (.step (dropForce_within ..) rfl (.refl _ _))) _ (.refl _
    _))))))), (.set_prog rfl (.foldl (fun _ _ => (.step (dropForce_within ..) rfl (.refl _ _))) _ (.refl _ _)))]))

theorem restartData_within (i j s) : Within [.retained, .prog] s (restartData i j s) := by
  unfold restartData
  exact .set_retained_prog rfl (.refl _ _)

theorem restartTask_within (i s j) : Within [.recorder, .cpl, .task, .retained, .image, .prog, .uc, .dig, .safety] s (restartTask i
  s j) := by
  unfold restartTask
  exact .ite (fun _ => (.step (forceTaskSafe_within ..) rfl (.step (taskMod_within ..) rfl (.step (restartData_within ..) rfl (.refl
    _ _))))) (fun _ => (.step (restartData_within ..) rfl (.refl _ _)))

theorem restartAbandons_within (s) : Within [.recorder, .prog, .cfg, .out] s (restartAbandons s) := by
  unfold restartAbandons
  exact .step (abandonExchange_within ..) rfl (.refl _ _)

theorem coldAuth_within (i j k s) : Within [.recorder, .safety] s (coldAuth i j k s).2 := by
  unfold coldAuth
  exact .ite_snd (fun _ => (.refl _ _)) (fun _ => (by dsimp -proj only; split; exacts [(.step (safetyChangeCheck_within ..) rfl
    (.refl _ _)), (.ite_snd (fun _ => (.step (safetyChangeCheck_within ..) rfl (.refl _ _))) (fun _ => (.step
    (safetyChangeCheck_within ..) rfl (.refl _ _))))]))

theorem taskCommand_step {ps : List Part} {q : Req} {s t : State} {f : Nat → Task → Option Nat × State}
    (h : ∀ n k, Within ps t (f n k).2) (p : Within ps s t) : Within ps s (taskCommand q t f).1 := by
  unfold taskCommand
  dsimp only
  split
  · rename_i k _ _
    have := h (fld8 q.pay 0) k
    split <;> exact p.trans this
  · exact p

theorem taskCommand_within {ps : List Part} {q : Req} {s : State} {f : Nat → Task → Option Nat × State}
    (h : ∀ n k, Within ps s (f n k).2) : Within ps s (taskCommand q s f).1 := taskCommand_step h (.refl _ _)

theorem execProgStart_within (i s) (t : State) (h : execProgStart i s = .next t) : Within [.recorder, .host, .power, .cpl, .task,
  .retained, .image, .prog, .loop, .uc, .dig, .safety, .modes, .cfg, .out, .fresh] s t := by
  unfold execProgStart at h
  injection h with h
  subst h
  exact runCommand_step rfl (fun _ _ => (.ite_fst (fun _ => (.refl _ _)) (fun _ => (taskCommand_step (fun _ _ => (.ite_snd (fun _ =>
    (.refl _ _)) (fun _ => (.ite_snd (fun _ => (.refl _ _)) (fun _ => (.ite_snd (fun _ => (.refl _ _)) (fun _ =>
    (by dsimp -proj only; split; exacts [(.step (coldAuth_within ..) rfl (.refl _ _)), (.step (followTasks_within ..) rfl (.step
    (enterRunning_within ..) rfl (.ite (fun _ => (.step (loopsRestart_within ..) rfl (.step (restartTask_within ..) rfl (.step
    (restartAbandons_within ..) rfl (.ite (fun _ => (.step (changeLogBy_within ..) rfl (.step (coldAuth_within ..) rfl (.refl _
    _)))) (fun _ => (.step (coldAuth_within ..) rfl (.refl _ _)))))))) (fun _ => (.step (restartTask_within ..) rfl (.step
    (restartAbandons_within ..) rfl (.ite (fun _ => (.step (changeLogBy_within ..) rfl (.step (coldAuth_within ..) rfl (.refl _
    _)))) (fun _ => (.step (coldAuth_within ..) rfl (.refl _ _))))))))))])))))))) (.refl _ _))))) (.refl _ _)

theorem execProgStop_within (i s) (t : State) (h : execProgStop i s = .next t) : Within [.recorder, .host, .power, .cpl, .task,
  .retained, .image, .prog, .loop, .uc, .dig, .safety, .modes, .out, .fresh] s t := by
  unfold execProgStop at h
  injection h with h
  subst h
  exact runCommand_step rfl (fun _ _ => (taskCommand_step (fun _ _ => (.ite_snd (fun _ => (.refl _ _)) (fun _ => (.step
    (followTasks_within ..) rfl (.step (leaveRunning_within ..) rfl (.refl _ _)))))) (.refl _ _))) (.refl _ _)

theorem execProgHold_within (i s) (t : State) (h : execProgHold i s = .next t) : Within [.recorder, .host, .power, .cpl, .task,
  .retained, .image, .prog, .loop, .uc, .dig, .safety, .modes, .out, .fresh] s t := by
  unfold execProgHold at h
  injection h with h
  subst h
  exact runCommand_step rfl (fun _ _ => (.ite_fst (fun _ => (.refl _ _)) (fun _ => (taskCommand_step (fun _ _ => (.ite_snd (fun _ =>
    (.refl _ _)) (fun _ => (.step (followTasks_within ..) rfl (.step (leaveRunning_within ..) rfl (.refl _ _)))))) (.refl _ _)))))
    (.refl _ _)

theorem execProgStep_within (i s) (t : State) (h : execProgStep i s = .next t) : Within [.recorder, .host, .power, .cpl, .task,
  .retained, .image, .prog, .loop, .uc, .dig, .safety, .modes, .out, .fresh] s t := by
  unfold execProgStep at h
  injection h with h
  subst h
  exact runCommand_step rfl (fun _ _ => (taskCommand_step (fun _ _ => (.ite_snd (fun _ => (.refl _ _)) (fun _ => (.ite_snd (fun _ => (.refl _ _)) (fun _ => (by (try dsimp only); exact .step (followTasks_within ..) rfl (by split; exacts [(by (try dsimp only); exact .step (taskMod_within ..) rfl (.step (takeState_within ..) rfl (.refl _ _))), (by (try dsimp only); exact .step (takeState_within ..) rfl (.refl _ _))]))))))) (.refl _ _))) (.refl _ _)

theorem execProgResume_within (i s) (t : State) (h : execProgResume i s = .next t) : Within [.recorder, .host, .power, .cpl, .task,
  .retained, .image, .prog, .loop, .uc, .dig, .safety, .modes, .out, .fresh] s t := by
  unfold execProgResume at h
  injection h with h
  subst h
  exact runCommand_step rfl (fun _ _ => (taskCommand_step (fun _ _ => (.ite_snd (fun _ => (.refl _ _)) (fun _ => (.ite_snd (fun _ =>
    (.step (followTasks_within ..) rfl (.step (enterRunning_within ..) rfl (.refl _ _)))) (fun _ => (.step (taskMod_within ..) rfl
    (.refl _ _))))))) (.refl _ _))) (.refl _ _)

end Sys2Proof.Machine
end

