-- ==== Sys2Proof/Laws/FramePair.lean ====
section
/-! SUPPORT. Which parts of the block each operation may change: the pair, starts and what hosts do. -/

set_option maxRecDepth 4000

namespace Sys2Proof.Machine

seal followTasks

theorem execSigRead_within (i s) (t : State) (h : execSigRead i s = .next t) : Within [.host, .power, .out] s t := by
  unfold execSigRead at h
  injection h with h
  subst h
  exact .step (readCommand_within ..) rfl (.refl _ _)

theorem execSigWrite_within (i s) (t : State) (h : execSigWrite i s = .next t) : Within [.host, .power, .cpl, .image, .out] s t :=
  by
  unfold execSigWrite at h
  injection h with h
  subst h
  exact runCommand_step rfl (fun _ _ => (.ite_fst (fun _ => (.refl _ _)) (fun _ => (.ite_fst (fun _ => (.refl _ _)) (fun _ =>
    (.ite_fst (fun _ => (.refl _ _)) (fun _ => (by split; exacts [(.refl _ _), (.ite_fst (fun _ => (.step (intake_within ..) rfl
    (.refl _ _))) (fun _ => (.refl _ _)))])))))))) (.refl _ _)

theorem toStandby_within (i s) : Within [.out] s (toStandby i s) := by
  unfold toStandby
  exact .ite (fun _ => (.step (emit_within ..) rfl (.refl _ _))) (fun _ => (.refl _ _))

theorem setForce_within (i j s) : Within [.cpl, .image] s (setForce i j s) := by
  unfold setForce
  exact .step (intake_within ..) rfl (.set_image rfl (.refl _ _))

theorem execSigForce_within (i s) (t : State) (h : execSigForce i s = .next t) : Within [.recorder, .host, .power, .cpl, .image,
  .safety, .out] s t := by
  unfold execSigForce at h
  injection h with h
  subst h
  exact runCommand_step rfl (fun _ _ => (by dsimp -proj only; split; exacts [(.refl _ _), (by split; exacts [(.ite_snd (fun _ =>
    (.step (safetyChangeCheck_within ..) rfl (.refl _ _))) (fun _ => (.refl _ _))), (.ite_fst (fun _ => (.ite_snd (fun _ => (.step
    (safetyChangeCheck_within ..) rfl (.refl _ _))) (fun _ => (.refl _ _)))) (fun _ => (.ite_fst (fun _ => (.ite_snd (fun _ =>
    (.step (safetyChangeCheck_within ..) rfl (.refl _ _))) (fun _ => (.refl _ _)))) (fun _ => (.step (toStandby_within ..) rfl
    (.step (setForce_within ..) rfl (.ite (fun _ => (.step (changeLogBy_within ..) rfl (.step (auditForce_within ..) rfl (.ite_snd
    (fun _ => (.step (safetyChangeCheck_within ..) rfl (.refl _ _))) (fun _ => (.refl _ _)))))) (fun _ => (.step (auditForce_within
    ..) rfl (.ite_snd (fun _ => (.step (safetyChangeCheck_within ..) rfl (.refl _ _))) (fun _ => (.refl _ _))))))))))))])])) (.refl
    _ _)

theorem removeForce_within (i s j) : Within [.recorder, .cpl, .image, .safety, .out] s (removeForce i s j) := by
  unfold removeForce
  exact .step (toStandby_within ..) rfl (.step (intake_within ..) rfl (.set_image rfl (.ite (fun _ => (.step (changeLogBy_within ..)
    rfl (.step (auditForce_within ..) rfl (.refl _ _)))) (fun _ => (.step (auditForce_within ..) rfl (.refl _ _))))))

theorem execSigUnforce_within (i s) (t : State) (h : execSigUnforce i s = .next t) : Within [.recorder, .host, .power, .cpl, .image,
  .safety, .out] s t := by
  unfold execSigUnforce at h
  injection h with h
  subst h
  exact runCommand_step rfl (fun _ _ => (by dsimp -proj only; split; exacts [(.refl _ _), (by split; exacts [(.ite_snd (fun _ =>
    (.step (safetyChangeCheck_within ..) rfl (.refl _ _))) (fun _ => (.refl _ _))), (.ite_fst (fun _ => (.ite_snd (fun _ => (.step
    (safetyChangeCheck_within ..) rfl (.refl _ _))) (fun _ => (.refl _ _)))) (fun _ => (.foldl (fun _ _ => (.step
    (removeForce_within ..) rfl (.refl _ _))) _ (.ite_snd (fun _ => (.step (safetyChangeCheck_within ..) rfl (.refl _ _))) (fun _ =>
    (.refl _ _))))))])])) (.refl _ _)

theorem execSigSubscribe_within (i s) (t : State) (h : execSigSubscribe i s = .next t) : Within [.host, .power, .out] s t := by
  unfold execSigSubscribe at h
  injection h with h
  subst h
  exact runCommand_step rfl (fun _ _ => (.ite_fst (fun _ => (by split; exacts [(.refl _ _), (by split; exacts [(.refl _ _), (.foldl
    (fun _ _ => (.ite (fun _ => (.step (poison_within ..) rfl (.refl _ _))) (fun _ => (.refl _ _)))) _ (.set_host rfl (.refl _
    _)))])])) (fun _ => (.ite_fst (fun _ => (.refl _ _)) (fun _ => (.ite_fst (fun _ => (.refl _ _)) (fun _ => (.ite_fst (fun _ =>
    (.refl _ _)) (fun _ => (by split; exacts [(.refl _ _), (.ite_fst (fun _ => (.refl _ _)) (fun _ => (.set_host rfl (.refl _
    _))))])))))))))) (.refl _ _)

theorem execSubscriptionIntervalExpiry_within (i s) (t : State) (h : execSubscriptionIntervalExpiry i s = .next t) : Within [.host,
  .power, .out] s t := by
  unfold execSubscriptionIntervalExpiry at h
  injection h with h
  subst h
  exact .step (subFill_within ..) rfl (.refl _ _)

theorem execSigBulkRead_within (i s) (t : State) (h : execSigBulkRead i s = .next t) : Within [.host, .power, .out] s t := by
  unfold execSigBulkRead at h
  injection h with h
  subst h
  exact .step (readCommand_within ..) rfl (.refl _ _)

theorem pairUnit_within (i s) : Within [.pair] s (pairUnit i s) := by
  unfold pairUnit
  exact .set_pair rfl (.refl _ _)

theorem pubTakeover_within (s) : Within [.recorder, .image, .pub] s (pubTakeover s) := by
  unfold pubTakeover
  exact .foldl (fun _ _ => (.step (queuePublication_within ..) rfl (.step (putRec_within ..) rfl (.refl _ _)))) _ (.set_pub rfl
    (.refl _ _))

theorem followPublished_within (i j s) : Within [.image, .pub, .cfg] s (followPublished i j s) := by
  unfold followPublished
  exact .foldl (fun _ _ => (.step (published_within ..) rfl (.refl _ _))) _ (.set_pub rfl (.refl _ _))

theorem driveHeld_within (i s) : Within [.recorder, .cpl, .image, .uc, .dig, .safety] s (driveHeld i s) := by
  unfold driveHeld
  exact .step (driveSafety_within ..) rfl (.foldl (fun _ _ => (by split; exacts [(.refl _ _),
    (by dsimp -proj only; split; exacts [(.step (idleOutputsOf_within ..) rfl (.step (applyOutputs_within ..) rfl (.refl _ _))),
    (.step (idleOutputsOf_within ..) rfl (.step (applyOutputs_within ..) rfl (.refl _ _))), (.step (applyOutputs_within ..) rfl
    (.refl _ _))])])) _ (.refl _ _))

theorem takeoverUnits_within (i s) : Within [.recorder, .host, .time, .power, .cpl, .image, .pub, .net, .can, .modes, .cfg, .out] s
  (takeoverUnits i s) := by
  unfold takeoverUnits
  exact .step (record_within ..) rfl (.step (hostSwitchover_within ..) rfl (.step (timeTakeover_within ..) rfl (.step
    (ownerTakeover_within ..) rfl (.step (pubTakeover_within ..) rfl (.step (canTakeover_within ..) rfl (.refl _ _))))))

theorem takeover_within (i s) : Within [.recorder, .host, .time, .power, .cpl, .task, .retained, .image, .pub, .prog, .loop, .uc,
  .dig, .safety, .net, .can, .pair, .modes, .cfg, .out, .fresh, .mode] s (takeover i s) := by
  unfold takeover
  exact .step (takeoverUnits_within ..) rfl (.step (loopsTakeover_within ..) rfl (.step (driveHeld_within ..) rfl (.step
    (followTasks_within ..) rfl (.foldl (fun _ _ => (by split; exacts [(.refl _ _), (.ite (fun _ => (.step (discardCycle_within ..)
    rfl (.refl _ _))) (fun _ => (.refl _ _)))])) _ (.step (pairUnit_within ..) rfl (.set_modes_mode rfl rfl (.step
    (abandonExchange_within ..) rfl (.refl _ _))))))))

theorem takeoverRefused_within (s) : Within [.recorder] s (takeoverRefused s) := by
  unfold takeoverRefused
  exact .step (record_within ..) rfl (.refl _ _)

theorem lossCheck_within (i s) : Within [.recorder, .host, .time, .power, .cpl, .task, .retained, .image, .pub, .prog, .loop, .uc,
  .dig, .safety, .net, .can, .pair, .modes, .cfg, .out, .fresh, .mode] s (lossCheck i s) := by
  unfold lossCheck
  exact .ite (fun _ => (.refl _ _)) (fun _ => (.ite (fun _ => (.step (takeover_within ..) rfl (.refl _ _))) (fun _ => (.step
    (takeoverRefused_within ..) rfl (.refl _ _)))))

theorem execHeartbeatSend_within (s) (t : State) (h : execHeartbeatSend s = .next t) : Within [.pair, .out] s t := by
  unfold execHeartbeatSend at h
  injection h with h
  subst h
  exact .ite (fun _ => (.refl _ _)) (fun _ => (.step (emit_within ..) rfl (.step (pairUnit_within ..) rfl (.refl _ _))))

theorem reachFollow_within (s) : Within [.pair] s (reachFollow s) := by
  unfold reachFollow
  exact .step (pairUnit_within ..) rfl (.refl _ _)

theorem heartbeatNews_within (i s) : Within [.recorder, .cpl, .task, .image, .uc, .dig, .safety, .pair] s (heartbeatNews i s) := by
  unfold heartbeatNews
  exact (by dsimp -proj only; split; exacts [(.ite (fun _ => (.step (pairUnit_within ..) rfl (.step (reachFollow_within ..) rfl
    (.step (pairUnit_within ..) rfl (.refl _ _))))) (fun _ => (.step (reachFollow_within ..) rfl (.step (pairUnit_within ..) rfl
    (.refl _ _))))), (.ite (fun _ => (.step (goAlone_within ..) rfl (.step (reachFollow_within ..) rfl (.step (pairUnit_within ..)
    rfl (.refl _ _))))) (fun _ => (.step (reachFollow_within ..) rfl (.step (pairUnit_within ..) rfl (.refl _ _))))), (.ite (fun _
    => (.step (goAlone_within ..) rfl (.step (reachFollow_within ..) rfl (.step (pairUnit_within ..) rfl (.refl _ _))))) (fun _ =>
    (.step (reachFollow_within ..) rfl (.step (pairUnit_within ..) rfl (.refl _ _))))), (.ite (fun _ => (.step (leaveStep_within ..)
    rfl (.step (reachFollow_within ..) rfl (.step (pairUnit_within ..) rfl (.refl _ _))))) (fun _ => (.step (reachFollow_within ..)
    rfl (.step (pairUnit_within ..) rfl (.refl _ _))))), (.ite (fun _ => (.step (leaveStep_within ..) rfl (.step (reachFollow_within
    ..) rfl (.step (pairUnit_within ..) rfl (.refl _ _))))) (fun _ => (.step (reachFollow_within ..) rfl (.step (pairUnit_within ..)
    rfl (.refl _ _))))), (.step (reachFollow_within ..) rfl (.step (pairUnit_within ..) rfl (.refl _ _)))])

theorem execHeartbeatReceived_within (i j s) (t : State) (h : execHeartbeatReceived i j s = .next t) : Within [.recorder, .power,
  .cpl, .task, .image, .uc, .dig, .safety, .pair] s t := by
  unfold execHeartbeatReceived at h
  injection h with h
  subst h
  exact .ite (fun _ => (.refl _ _)) (fun _ => (.ite (fun _ => (.step (heartbeatNews_within ..) rfl (.step (drawbarArrives_within ..)
    rfl (.step (pairUnit_within ..) rfl (.refl _ _))))) (fun _ => (.step (drawbarArrives_within ..) rfl (.step (pairUnit_within ..)
    rfl (.refl _ _))))))

theorem execHeartbeatLoss_within (s) (t : State) (h : execHeartbeatLoss s = .next t) : Within [.recorder, .host, .time, .power,
  .cpl, .task, .retained, .image, .pub, .prog, .loop, .uc, .dig, .safety, .net, .can, .pair, .modes, .cfg, .out, .fresh, .mode] s t
  := by
  unfold execHeartbeatLoss at h
  injection h with h
  subst h
  exact .ite (fun _ => (.refl _ _)) (fun _ => (.ite (fun _ => (.step (goAlone_within ..) rfl (.step (pairUnit_within ..) rfl (.refl
    _ _)))) (fun _ => (.step (lossCheck_within ..) rfl (.step (pairUnit_within ..) rfl (.refl _ _))))))

theorem execReachDemote_within (s) (t : State) (h : execReachDemote s = .next t) : Within [.recorder, .cpl, .task, .image, .prog,
  .uc, .dig, .safety, .can, .pair, .modes, .cfg, .out, .mode] s t := by
  unfold execReachDemote at h
  injection h with h
  subst h
  exact (by split; exacts [(.refl _ _), (.ite (fun _ => (.step (selfDemote_within ..) rfl (.refl _ _))) (fun _ => (.refl _ _)))])

theorem execPairLiveToggle_within (s) (t : State) (h : execPairLiveToggle s = .next t) : Within [.pair] s t := by
  unfold execPairLiveToggle at h
  injection h with h
  subst h
  exact (by split; exacts [(.refl _ _), (.step (pairUnit_within ..) rfl (.refl _ _)), (.step (pairUnit_within ..) rfl (.refl _ _)),
    (.step (pairUnit_within ..) rfl (.refl _ _))])

theorem execPairLiveStale_within (s) (t : State) (h : execPairLiveStale s = .next t) : Within [.recorder, .host, .time, .power,
  .cpl, .task, .retained, .image, .pub, .prog, .loop, .uc, .dig, .safety, .net, .can, .pair, .modes, .cfg, .out, .fresh, .mode] s t
  := by
  unfold execPairLiveStale at h
  injection h with h
  subst h
  exact .ite (fun _ => (.step (lossCheck_within ..) rfl (.step (pairUnit_within ..) rfl (.refl _ _)))) (fun _ => (.step
    (pairUnit_within ..) rfl (.refl _ _)))

theorem beginRelease_within (s) : Within [.recorder, .host, .power, .cpl, .uc, .pair, .modes, .cfg, .out] s (beginRelease s) := by
  unfold beginRelease
  exact .step (hostSwitchover_within ..) rfl (.set_uc rfl (.step (pairUnit_within ..) rfl (.refl _ _)))

theorem execPairActIChange_within (i s) (t : State) (h : execPairActIChange i s = .next t) : Within [.recorder, .host, .time,
  .power, .cpl, .task, .retained, .image, .pub, .prog, .loop, .uc, .dig, .safety, .net, .can, .pair, .modes, .cfg, .out, .fresh,
  .mode] s t := by
  unfold execPairActIChange at h
  injection h with h
  subst h
  exact .ite (fun _ => (.step (pairUnit_within ..) rfl (.refl _ _))) (fun _ => (.ite (fun _ => (.ite (fun _ => (.step
    (beginRelease_within ..) rfl (.step (pairUnit_within ..) rfl (.refl _ _)))) (fun _ => (.step (pairUnit_within ..) rfl (.refl _
    _))))) (fun _ => (.step (lossCheck_within ..) rfl (.step (pairUnit_within ..) rfl (.refl _ _))))))

theorem execActivityConflict_within (s) (t : State) (h : execActivityConflict s = .next t) : Within [.recorder, .cpl, .task, .image, .uc, .dig, .safety, .can, .pair, .modes, .mode] s t := by
  unfold execActivityConflict at h
  cases h
  extract_lets quiet s1 s2
  have h1 : Within [.recorder, .pair] s s1 := .step (record_within ..) rfl (.step (pairUnit_within ..) rfl (.refl _ _))
  have h2 : Within [.recorder, .cpl, .task, .image, .uc, .dig, .safety, .can, .pair, .modes, .mode] s1 s2 :=
    .step (pairUnit_within ..) rfl ((discardAll_within ..).mono rfl)
  clear_value s2 s1
  exact .ite (fun _ => .refl _ _) (fun _ => .trans (h1.mono rfl) (.ite (fun _ => .step (canFollow_within ..) rfl
    (.step (outputsOff_within ..) rfl (.set_modes_mode rfl rfl h2))) (fun _ => .refl _ _)))

theorem execFieldRefreshTimeout_within (s) (t : State) (h : execFieldRefreshTimeout s = .next t) : Within [.uc, .dig] s t := by
  unfold execFieldRefreshTimeout at h
  injection h with h
  subst h
  exact .ite (fun _ => (.step (outputsOff_within ..) rfl (.refl _ _))) (fun _ => (.refl _ _))

theorem execDemoteReceived_within (i s) (t : State) (h : execDemoteReceived i s = .next t) : Within [.recorder, .host, .time,
  .power, .cpl, .task, .retained, .image, .pub, .prog, .loop, .uc, .dig, .safety, .net, .can, .pair, .modes, .cfg, .out, .fresh,
  .mode] s t := by
  unfold execDemoteReceived at h
  injection h with h
  subst h
  exact .ite (fun _ => (.refl _ _)) (fun _ => (.ite (fun _ => (.step (takeover_within ..) rfl (.step (drawbarArrives_within ..) rfl
    (.step (pairUnit_within ..) rfl (.refl _ _))))) (fun _ => (.step (takeoverRefused_within ..) rfl (.step (drawbarArrives_within
    ..) rfl (.step (pairUnit_within ..) rfl (.refl _ _)))))))

theorem execDemotionTakeoverTimeout_within (s) (t : State) (h : execDemotionTakeoverTimeout s = .next t) : Within [.recorder, .host,
  .power, .cpl, .task, .image, .prog, .uc, .dig, .safety, .can, .pair, .modes, .cfg, .out, .mode] s t := by
  unfold execDemotionTakeoverTimeout at h
  injection h with h
  subst h
  exact .ite (fun _ => (.step (admitWaiting_within ..) rfl (.step (enterSafe_within ..) rfl (.refl _ _)))) (fun _ => (.refl _ _))

theorem endRelease_within (s) : Within [.recorder, .host, .power, .cpl, .task, .image, .prog, .uc, .dig, .safety, .can, .pair,
  .modes, .cfg, .out, .mode] s (endRelease s) := by
  unfold endRelease
  exact .ite (fun _ => (.step (admitWaiting_within ..) rfl (.step (enterSafe_within ..) rfl (.refl _ _)))) (fun _ => (.ite (fun _ =>
    (.step (admitWaiting_within ..) rfl (.step (canFollow_within ..) rfl (.step (record_within ..) rfl (.step (outputsOff_within ..)
    rfl (.set_modes_mode rfl rfl (.step (pairUnit_within ..) rfl (.refl _ _)))))))) (fun _ => (.step (canFollow_within ..) rfl
    (.step (outputsOff_within ..) rfl (.set_modes_mode rfl rfl (.step (pairUnit_within ..) rfl (.refl _ _))))))))

theorem execDrawbarLinkChange_within (i j s) (t : State) (h : execDrawbarLinkChange i j s = .next t) : Within [.recorder, .cpl,
  .task, .image, .uc, .dig, .safety, .pair] s t := by
  unfold execDrawbarLinkChange at h
  injection h with h
  subst h
  exact .ite (fun _ => (.refl _ _)) (fun _ => (.ite (fun _ => (.step (pairUnit_within ..) rfl (.refl _ _))) (fun _ => (.ite (fun _
    => (.step (record_within ..) rfl (.step (pairUnit_within ..) rfl (.refl _ _)))) (fun _ =>
    (by dsimp -proj only; split; exacts [(.ite (fun _ => (.step (leaveStep_within ..) rfl (.step (record_within ..) rfl (.step
    (record_within ..) rfl (.step (pairUnit_within ..) rfl (.refl _ _)))))) (fun _ => (.step (record_within ..) rfl (.step
    (pairUnit_within ..) rfl (.refl _ _))))), (.ite (fun _ => (.step (leaveStep_within ..) rfl (.step (record_within ..) rfl (.step
    (record_within ..) rfl (.step (pairUnit_within ..) rfl (.refl _ _)))))) (fun _ => (.step (record_within ..) rfl (.step
    (pairUnit_within ..) rfl (.refl _ _))))), (.ite (fun _ => (.step (goAlone_within ..) rfl (.step (record_within ..) rfl (.step
    (record_within ..) rfl (.step (pairUnit_within ..) rfl (.refl _ _)))))) (fun _ => (.step (record_within ..) rfl (.step
    (pairUnit_within ..) rfl (.refl _ _))))), (.ite (fun _ => (.step (goAlone_within ..) rfl (.step (record_within ..) rfl (.step
    (record_within ..) rfl (.step (pairUnit_within ..) rfl (.refl _ _)))))) (fun _ => (.step (record_within ..) rfl (.step
    (pairUnit_within ..) rfl (.refl _ _))))), (.step (record_within ..) rfl (.step (pairUnit_within ..) rfl (.refl _ _)))]))))))

theorem helloRefused_within (i s) : Within [.recorder, .pair] s (helloRefused i s) := by
  unfold helloRefused
  exact .step (record_within ..) rfl (.step (pairUnit_within ..) rfl (.refl _ _))

theorem beginCatchup_within (s) : Within [.recorder, .pair, .out] s (beginCatchup s) := by
  unfold beginCatchup
  exact .ite (fun _ => (.step (helloRefused_within ..) rfl (.refl _ _))) (fun _ => (.step (emit_within ..) rfl (.step
    (pairUnit_within ..) rfl (.refl _ _))))

theorem helloStandby_within (i s) : Within [.recorder, .cpl, .task, .image, .uc, .dig, .safety, .pair] s (helloStandby i s) := by
  unfold helloStandby
  exact (by dsimp -proj only; split; exacts [(.ite (fun _ => (.step (helloRefused_within ..) rfl (.refl _ _))) (fun _ => (.ite (fun
    _ => (.step (pairUnit_within ..) rfl (.refl _ _))) (fun _ => (.refl _ _))))), (.ite (fun _ => (.step (pairUnit_within ..) rfl
    (.step (leaveStep_within ..) rfl (.refl _ _)))) (fun _ => (.refl _ _))), (.refl _ _)])

theorem defineTasks_within (s) : Within [.task] s (defineTasks s) := by
  unfold defineTasks
  exact .foldl (fun _ _ => (.step (taskMod_within ..) rfl (.refl _ _))) _ (.refl _ _)

theorem copyConfiguration_within (i j k l s) : Within [.recorder, .host, .cpl, .image, .pub, .loop, .uc, .dig, .group, .safety,
  .net, .can, .panel, .updates, .modes, .cfg, .out] s (copyConfiguration i j k l s) := by
  unfold copyConfiguration
  exact .set_image_safety rfl (.step (takeSet_within ..) rfl (.set_cfg rfl (.refl _ _)))

theorem copyProgram_within (i j s) : Within [.task, .prog] s (copyProgram i j s) := by
  unfold copyProgram
  exact .step (defineTasks_within ..) rfl (.set_prog rfl (.refl _ _))

theorem copySignal_within (s i) : Within [.image] s (copySignal s i) := by
  unfold copySignal
  exact .step (putRec_within ..) rfl (.refl _ _)

theorem copyTask_within (s i) : Within [.task] s (copyTask s i) := by
  unfold copyTask
  exact .step (taskMod_within ..) rfl (.refl _ _)

theorem copyLaneState_within (i j k l s) : Within [.task, .image, .prog, .pair] s (copyLaneState i j k l s) := by
  unfold copyLaneState
  exact .step (pairUnit_within ..) rfl (.foldl (fun _ _ => (.step (copyTask_within ..) rfl (.refl _ _))) _ (.foldl (fun _ _ =>
    (.step (copySignal_within ..) rfl (.refl _ _))) _ (.set_image_prog rfl (.refl _ _))))

theorem copyRetained_within (i j s) : Within [.retained, .loop] s (copyRetained i j s) := by
  unfold copyRetained
  exact .foldl (fun _ _ => (.step (loopTake_within ..) rfl (.refl _ _))) _ (.foldl (fun _ _ => (.ite (fun _ => (.refl _ _)) (fun _
    => (.step (enqueueCommit_within ..) rfl (.refl _ _))))) _ (.set_retained rfl (.refl _ _)))

theorem execCatchupPhaseComplete_within (i s) (t : State) (h : execCatchupPhaseComplete i s = .next t) : Within [.recorder, .host,
  .cpl, .task, .retained, .image, .pub, .prog, .loop, .uc, .dig, .group, .safety, .net, .can, .panel, .updates, .pair, .modes, .cfg,
  .out] s t := by
  unfold execCatchupPhaseComplete at h
  injection h with h
  subst h
  exact .ite (fun _ => (.refl _ _)) (fun _ => (by dsimp -proj only; split; exacts [(by split; exacts [(.step (helloStandby_within
    ..) rfl (.refl _ _)), (.refl _ _)]), (.step (pairUnit_within ..) rfl (.step (copyConfiguration_within ..) rfl (.refl _ _))),
    (.step (pairUnit_within ..) rfl (.step (copyProgram_within ..) rfl (.refl _ _))), (.step (pairUnit_within ..) rfl (.step
    (pairUnit_within ..) rfl (.step (copyLaneState_within ..) rfl (.refl _ _)))), (.step (pairUnit_within ..) rfl (.step
    (copyRetained_within ..) rfl (.refl _ _))), (.step (pairUnit_within ..) rfl (.refl _ _)), (.refl _ _)]))

theorem execCatchupSuspend_within (i s) (t : State) (h : execCatchupSuspend i s = .next t) : Within [.recorder, .pair] s t := by
  unfold execCatchupSuspend at h
  injection h with h
  subst h
  exact .ite (fun _ => (.refl _ _)) (fun _ => (.ite (fun _ => (.step (pairUnit_within ..) rfl (.refl _ _))) (fun _ => (.step
    (record_within ..) rfl (.step (pairUnit_within ..) rfl (.refl _ _))))))

theorem execOutOfStepRetry_within (s) (t : State) (h : execOutOfStepRetry s = .next t) : Within [.recorder, .pair, .out] s t := by
  unfold execOutOfStepRetry at h
  injection h with h
  subst h
  exact .ite (fun _ => (.step (beginCatchup_within ..) rfl (.refl _ _))) (fun _ => (.refl _ _))

theorem execAgreedInputsReceived_within (i s) (t : State) (h : execAgreedInputsReceived i s = .next t) : Within [.power, .pair] s t
  := by
  unfold execAgreedInputsReceived at h
  injection h with h
  subst h
  exact .ite (fun _ => (.refl _ _)) (fun _ => (by split; exacts [(.ite (fun _ => (.refl _ _)) (fun _ => (.step
    (drawbarArrives_within ..) rfl (.step (pairUnit_within ..) rfl (.refl _ _))))), (.ite (fun _ => (.refl _ _)) (fun _ => (.step
    (drawbarArrives_within ..) rfl (.step (pairUnit_within ..) rfl (.refl _ _)))))]))

theorem execAgreedInputsTimeout_within (i s) (t : State) (h : execAgreedInputsTimeout i s = .next t) : Within [.recorder, .cpl,
  .task, .image, .uc, .dig, .safety, .pair] s t := by
  unfold execAgreedInputsTimeout at h
  injection h with h
  subst h
  exact .ite (fun _ => (.step (leaveStep_within ..) rfl (.refl _ _))) (fun _ => (.refl _ _))

theorem execCommitDigestReceived_within (i j k l s) (t : State) (h : execCommitDigestReceived i j k l s = .next t) : Within
  [.recorder, .power, .cpl, .task, .retained, .image, .prog, .loop, .uc, .dig, .safety, .pair, .modes, .fresh] s t := by
  unfold execCommitDigestReceived at h
  injection h with h
  subst h
  exact .ite (fun _ => (.refl _ _)) (fun _ => (.ite (fun _ => (.refl _ _)) (fun _ => (.ite (fun _ => (.step (followTasks_within ..)
    rfl (.step (digestCheck_within ..) rfl (.step (drawbarArrives_within ..) rfl (.step (pairUnit_within ..) rfl (.refl _ _))))))
    (fun _ => (.step (drawbarArrives_within ..) rfl (.step (pairUnit_within ..) rfl (.refl _ _))))))))

theorem incomingRecord_within (i j k s) : Within [.cfg] s (incomingRecord i j k s) := by
  unfold incomingRecord
  exact .set_cfg rfl (.refl _ _)

theorem incomingCommit_within (i s) : Within [.recorder, .host, .cpl, .image, .pub, .loop, .uc, .dig, .group, .safety, .net, .can,
  .panel, .updates, .modes, .cfg, .out] s (incomingCommit i s) := by
  unfold incomingCommit
  exact (by split; exacts [(.set_cfg rfl (.refl _ _)), (.step (takeSet_within ..) rfl (.set_cfg rfl (.refl _ _)))])

theorem incomingForce_within (i j k l s) : Within [.image] s (incomingForce i j k l s) := by
  unfold incomingForce
  exact .ite (fun _ => (.refl _ _)) (fun _ => (.set_image rfl (.refl _ _)))

theorem incomingMaquette_within (i s) : Within [.prog] s (incomingMaquette i s) := by
  unfold incomingMaquette
  exact .step (slotMod_within ..) rfl (.refl _ _)

theorem incomingCast_within (i j s) : Within [.recorder, .cpl, .task, .retained, .image, .prog, .uc, .dig, .safety, .cfg, .out] s
  (incomingCast i j s) := by
  unfold incomingCast
  exact .ite (fun _ => (.step (abandonExchange_within ..) rfl (.refl _ _))) (fun _ => (by split; exacts [(.step (emit_within ..) rfl
    (.set_prog rfl (.refl _ _))), (.set_prog rfl (.refl _ _)), (by split; exacts [(.refl _ _), (.ite (fun _ => (.step
    (castInStop_within ..) rfl (.step (nameOld_within ..) rfl (.set_task_prog rfl (.refl _ _))))) (fun _ => (.step
    (writeExchange_within ..) rfl (.step (nameOld_within ..) rfl (.set_task_prog rfl (.refl _ _))))))]), (.refl _ _)]))

theorem incomingHandover_within (i s) : Within [.pair, .out] s (incomingHandover i s) := by
  unfold incomingHandover
  exact .ite (fun _ => (.step (emit_within ..) rfl (.step (pairUnit_within ..) rfl (.refl _ _)))) (fun _ => (.refl _ _))

theorem applyControl_within (i s) : Within [.recorder, .host, .time, .power, .cpl, .task, .retained, .image, .pub, .prog, .loop,
  .uc, .dig, .group, .safety, .net, .can, .panel, .updates, .pair, .modes, .cfg, .out, .fresh, .life] s (applyControl i s) := by
  unfold applyControl
  exact (by split; exacts [(by split; exacts [(.step (followTasks_within ..) rfl (.ite (fun _ => (.step (loopsStop_within ..) rfl
    (.step (tasksFollow_within ..) rfl (.refl _ _)))) (fun _ => (.step (tasksFollow_within ..) rfl (.refl _ _))))), (.refl _ _)]),
    (.step (incomingRecord_within ..) rfl (.refl _ _)), (.step (incomingCommit_within ..) rfl (.refl _ _)), (.step
    (incomingForce_within ..) rfl (.refl _ _)), (.set_image rfl (.refl _ _)), (.set_safety rfl (.refl _ _)), (.step
    (incomingMaquette_within ..) rfl (.refl _ _)), (.step (incomingCast_within ..) rfl (.refl _ _)), (.step (panelUpdateHere_within
    ..) rfl (.refl _ _)), (.step (panelCleanHere_within ..) rfl (.refl _ _)), (.step (panelWaveformHere_within ..) rfl (.refl _ _)),
    (.step (followPublished_within ..) rfl (.refl _ _)), (.set_net rfl (.refl _ _)), (by split; exacts [(.set_modes_life rfl rfl
    (.refl _ _)), (.refl _ _)]), (.step (incomingHandover_within ..) rfl (.refl _ _)), (.step (takeTune_within ..) rfl (.refl _ _)),
    (.step (takeApply_within ..) rfl (.refl _ _)), (.step (takeReset_within ..) rfl (.refl _ _)), (.ite (fun _ => (.step
    (beginCatchup_within ..) rfl (.step (pairUnit_within ..) rfl (.refl _ _)))) (fun _ => (.refl _ _))), (.set_time rfl (.refl _
    _)), (.set_time rfl (.refl _ _))])

theorem execPairControlMessage_within (i s) (t : State) (h : execPairControlMessage i s = .next t) : Within [.recorder, .host,
  .time, .power, .cpl, .task, .retained, .image, .pub, .prog, .loop, .uc, .dig, .group, .safety, .net, .can, .panel, .updates,
  .pair, .modes, .cfg, .out, .fresh, .life] s t := by
  unfold execPairControlMessage at h
  injection h with h
  subst h
  exact .ite (fun _ => (.step (applyControl_within ..) rfl (.step (drawbarArrives_within ..) rfl (.step (pairUnit_within ..) rfl
    (.refl _ _))))) (fun _ => (by split; exacts [(.ite (fun _ => (.step (standbyReady_within ..) rfl (.step (drawbarArrives_within
    ..) rfl (.step (pairUnit_within ..) rfl (.refl _ _))))) (fun _ => (.step (drawbarArrives_within ..) rfl (.step (pairUnit_within
    ..) rfl (.refl _ _))))), (.step (drawbarArrives_within ..) rfl (.step (pairUnit_within ..) rfl (.refl _ _)))]))

theorem execCrossfadeStart_within (s) (t : State) (h : execCrossfadeStart s = .next t) : Within [.recorder, .cpl, .image, .uc, .dig,
  .safety, .pair] s t := by
  unfold execCrossfadeStart at h
  injection h with h
  subst h
  exact (by split; exacts [(.refl _ _), (.ite (fun _ => (.refl _ _)) (fun _ => (.ite (fun _ => (.step (pairUnit_within ..) rfl
    (.refl _ _))) (fun _ => (.step (driveHeld_within ..) rfl (.step (pairUnit_within ..) rfl (.refl _ _)))))))])

theorem execCrossfadeStep_within (s) (t : State) (h : execCrossfadeStep s = .next t) : Within [.pair] s t := by
  unfold execCrossfadeStep at h
  injection h with h
  subst h
  exact .ite (fun _ => (.refl _ _)) (fun _ => (.ite (fun _ => (.step (pairUnit_within ..) rfl (.refl _ _))) (fun _ => (.step
    (pairUnit_within ..) rfl (.refl _ _)))))

theorem execHandoverTime_within (s) (t : State) (h : execHandoverTime s = .next t) : Within [.recorder, .host, .time, .power, .cpl,
  .image, .pub, .prog, .loop, .uc, .dig, .safety, .net, .can, .pair, .modes, .cfg, .out, .mode] s t := by
  unfold execHandoverTime at h
  injection h with h
  subst h
  exact (by split; exacts [(.refl _ _), (.ite (fun _ => (.refl _ _)) (fun _ => (.ite (fun _ => (.step (hostSwitchover_within ..) rfl
    (.set_uc rfl (.step (pairUnit_within ..) rfl (.step (abandonExchange_within ..) rfl (.refl _ _)))))) (fun _ => (.ite (fun _ =>
    (.refl _ _)) (fun _ => (.step (toStandby_within ..) rfl (.step (takeoverUnits_within ..) rfl (.step (loopsTakeover_within ..)
    rfl (.step (driveHeld_within ..) rfl (.set_modes_mode rfl rfl (.step (pairUnit_within ..) rfl (.step (abandonExchange_within ..)
    rfl (.refl _ _))))))))))))))])

theorem execHandoverEnd_within (s) (t : State) (h : execHandoverEnd s = .next t) : Within [.recorder, .host, .power, .cpl, .task,
  .image, .prog, .uc, .dig, .safety, .can, .pair, .modes, .cfg, .out, .mode] s t := by
  unfold execHandoverEnd at h
  injection h with h
  subst h
  exact (by split; exacts [(.refl _ _), (.ite (fun _ => (.refl _ _)) (fun _ => (.ite (fun _ => (.step (endRelease_within ..) rfl
    (.refl _ _))) (fun _ => (.ite (fun _ => (.refl _ _)) (fun _ => (.ite (fun _ => (.step (audit_within ..) rfl (.step
    (endRelease_within ..) rfl (.step (pairUnit_within ..) rfl (.refl _ _))))) (fun _ => (.step (audit_within ..) rfl (.step
    (pairUnit_within ..) rfl (.step (pairUnit_within ..) rfl (.refl _ _))))))))))))])

theorem execVerificationResume_within (s) (t : State) (h : execVerificationResume s = .next t) : Within [.pair] s t := by
  unfold execVerificationResume at h
  injection h with h
  subst h
  exact (by split; exacts [(.ite (fun _ => (.step (pairUnit_within ..) rfl (.refl _ _))) (fun _ => (.refl _ _))), (.refl _ _)])

theorem execPairSwitchover_within (i s) (t : State) (h : execPairSwitchover i s = .next t) : Within [.recorder, .host, .power,
  .pair, .modes, .out] s t := by
  unfold execPairSwitchover at h
  injection h with h
  subst h
  exact runCommand_step rfl (fun _ _ => (by dsimp -proj only; split; exacts [(.refl _ _), (.ite_fst (fun _ => (.refl _ _)) (fun _ =>
    (.ite_fst (fun _ => (.set_modes rfl rfl rfl (.step (record_within ..) rfl (.step (audit_within ..) rfl (.step (pairUnit_within
    ..) rfl (.refl _ _)))))) (fun _ => (.step (emit_within ..) rfl (.step (pairUnit_within ..) rfl (.refl _ _)))))))])) (.refl _ _)

theorem execPairStatus_within (i s) (t : State) (h : execPairStatus i s = .next t) : Within [.host, .power, .out] s t := by
  unfold execPairStatus at h
  injection h with h
  subst h
  exact .step (readCommand_within ..) rfl (.refl _ _)

theorem execPairResync_within (i s) (t : State) (h : execPairResync i s = .next t) : Within [.host, .power, .out] s t := by
  unfold execPairResync at h
  injection h with h
  subst h
  exact runCommand_step rfl (fun _ _ => (by dsimp -proj only; split; exacts [(.refl _ _), (.ite_fst (fun _ => (.refl _ _)) (fun _ =>
    (.ite_fst (fun _ => (.step (emit_within ..) rfl (.refl _ _))) (fun _ => (.refl _ _)))))])) (.refl _ _)

theorem fwMod_within (i s) : Within [.fw] s (fwMod i s) := by
  unfold fwMod
  exact .set_fw rfl (.refl _ _)

theorem execUpdBegin_within (i s) (t : State) (h : execUpdBegin i s = .next t) : Within [.host, .power, .fw, .out] s t := by
  unfold execUpdBegin at h
  injection h with h
  subst h
  exact runCommand_step rfl (fun _ _ => (.ite_fst (fun _ => (.refl _ _)) (fun _ => (.ite_fst (fun _ => (.refl _ _)) (fun _ => (.ite_fst (fun _ => (.refl _ _)) (fun _ => (by (try dsimp only); exact .step (fwMod_within ..) rfl (.refl _ _))))))))) (.refl _ _)

theorem execUpdBlock_within (i s) (t : State) (h : execUpdBlock i s = .next t) : Within [.host, .power, .fw, .out] s t := by
  unfold execUpdBlock at h
  injection h with h
  subst h
  exact runCommand_step rfl (fun _ _ => (.ite_fst (fun _ => (.refl _ _)) (fun _ => (.ite_fst (fun _ => (.refl _ _)) (fun _ => (.ite_fst (fun _ => (.refl _ _)) (fun _ => (.ite_fst (fun _ => (.refl _ _)) (fun _ => (.ite_fst (fun _ => (.refl _ _)) (fun _ => (by (try dsimp only); exact .step (fwMod_within ..) rfl (.refl _ _))))))))))))) (.refl _ _)

theorem execUpdVerify_within (i s) (t : State) (h : execUpdVerify i s = .next t) : Within [.host, .power, .fw, .out] s t := by
  unfold execUpdVerify at h
  injection h with h
  subst h
  exact runCommand_step rfl (fun _ _ => (.ite_fst (fun _ => (.refl _ _)) (fun _ => (.ite_fst (fun _ => (by (try dsimp only); exact .step (fwMod_within ..) rfl (.refl _ _))) (fun _ => (by (try dsimp only); exact .step (fwMod_within ..) rfl (.refl _ _))))))) (.refl _ _)

theorem execUpdActivate_within (i s) (t : State) (h : execUpdActivate i s = .next t) : Within [.recorder, .host, .power, .modes,
  .fw, .out] s t := by
  unfold execUpdActivate at h
  injection h with h
  subst h
  exact runCommand_step rfl (fun _ _ => (.ite_fst (fun _ => (.refl _ _)) (fun _ => (.ite_fst (fun _ => (.refl _ _)) (fun _ =>
    (.ite_fst (fun _ => (.refl _ _)) (fun _ => (by split; exacts [(.refl _ _), (.ite_fst (fun _ => (.refl _ _)) (fun _ => (.ite_fst
    (fun _ => (.set_modes rfl rfl rfl (.step (audit_within ..) rfl (.step (fwMod_within ..) rfl (.refl _ _))))) (fun _ => (.step
    (audit_within ..) rfl (.step (fwMod_within ..) rfl (.refl _ _)))))))])))))))) (.refl _ _)

theorem execUpdCancel_within (i s) (t : State) (h : execUpdCancel i s = .next t) : Within [.host, .power, .fw, .out] s t := by
  unfold execUpdCancel at h
  injection h with h
  subst h
  exact runCommand_step rfl (fun _ _ => (.ite_fst (fun _ => (.refl _ _)) (fun _ => (.ite_fst (fun _ => (by (try dsimp only); exact .step (fwMod_within ..) rfl (.refl _ _))) (fun _ => (.ite_fst (fun _ => (by (try dsimp only); exact .step (fwMod_within ..) rfl (.refl _ _))) (fun _ => (.refl _ _)))))))) (.refl _ _)

theorem bootState_within (p s) : Within [.recorder, .host, .time, .power, .cpl, .task, .retained, .image, .pub, .prog, .loop, .uc, .dig, .counter, .group, .safety, .net, .can, .panel, .updates, .pair, .modes, .cfg, .mode, .life] s (bootState p s) := ⟨fun x hx => by cases x <;> first | rfl | cases hx⟩

theorem bkp2Bit_within (i j s) : Within [.plinth] s (bkp2Bit i j s) := by
  unfold bkp2Bit
  exact .step (bkpWrite_within ..) rfl (.refl _ _)

theorem recordFailure_within (s) : Within [.recorder, .plinth, .modes] s (recordFailure s) := by
  unfold recordFailure
  exact .set_modes rfl rfl rfl (.step (bkpWrites_within ..) rfl (.ite (fun _ => (.step (record_within ..) rfl (.step (bkp2Bit_within
    ..) rfl (.refl _ _)))) (fun _ => (.refl _ _))))

theorem trialFailed_within (s) : Within [.recorder, .fw] s (trialFailed s) := by
  unfold trialFailed
  exact .ite (fun _ => (.step (record_within ..) rfl (.step (audit_within ..) rfl (.step (fwMod_within ..) rfl (.refl _ _))))) (fun
    _ => (.refl _ _))

theorem openHost_within (s) : Within [.host, .out] s (openHost s) := by
  unfold openHost
  exact .ite (fun _ => (.refl _ _)) (fun _ => (.step (raiseIrq_within ..) rfl (.set_host rfl (.refl _ _))))

theorem failStart_within (s) : Within [.recorder, .host, .plinth, .cpl, .task, .image, .prog, .uc, .dig, .safety, .can, .pair,
  .modes, .cfg, .fw, .out, .mode] s (failStart s) := by
  unfold failStart
  exact .step (openHost_within ..) rfl (.step (enterSafe_within ..) rfl (.step (bkp2Bit_within ..) rfl (.step (recordFailure_within
    ..) rfl (.step (trialFailed_within ..) rfl (.refl _ _)))))

theorem plinthCheck_within (s) : Within [.recorder, .plinth] s (plinthCheck s) := by
  unfold plinthCheck
  exact .ite (fun _ => (.step (record_within ..) rfl (.step (plinthMod_within ..) rfl (.refl _ _)))) (fun _ => (.ite (fun _ =>
    (.refl _ _)) (fun _ => (.step (record_within ..) rfl (.step (plinthMod_within ..) rfl (.refl _ _))))))

theorem accountStart_within (i s) : Within [.recorder, .plinth, .modes, .fw] s (accountStart i s) := by
  unfold accountStart
  exact .step (bkpWrite_within ..) rfl (.ite (fun _ => (.step (trialFailed_within ..) rfl (.step (recordFailure_within ..) rfl
    (.refl _ _)))) (fun _ => (.refl _ _)))

theorem startAlarms_within (s) : Within [.recorder, .plinth] s (startAlarms s) := by
  unfold startAlarms
  exact .step (noticeAlarm_within ..) rfl (.step (noticeAlarm_within ..) rfl (.refl _ _))

theorem firstSample_within (s) : Within [.power, .fresh] s (firstSample s) := by
  unfold firstSample
  exact .ite (fun _ => (.step (powerMod_within ..) rfl (.refl _ _))) (fun _ => (.step (nextFree_within ..) rfl (.step
    (powerMod_within ..) rfl (.step (powerMod_within ..) rfl (.refl _ _)))))

theorem stepOne_within (s) : Within [.recorder, .plinth, .power, .modes, .fw, .fresh] s (stepOne s) := by
  unfold stepOne
  exact .set_modes rfl rfl rfl (.step (accountStart_within ..) rfl (.step (startAlarms_within ..) rfl (.step (plinthCheck_within ..)
    rfl (.step (demandClock_within ..) rfl (.step (firstSample_within ..) rfl (.refl _ _))))))

theorem enterBoot_within (i s) : Within [.recorder, .host, .time, .plinth, .power, .cpl, .task, .retained, .image, .pub, .prog,
  .loop, .uc, .dig, .counter, .group, .safety, .net, .can, .panel, .updates, .pair, .modes, .cfg, .fw, .fresh, .mode, .life] s
  (enterBoot i s) := by
  unfold enterBoot
  exact .step (stepOne_within ..) rfl (.step (bootState_within ..) rfl (.refl _ _))

theorem loadBank_within (s) : Within [.fw] s (loadBank s) := by
  unfold loadBank
  exact .step (fwMod_within ..) rfl (.refl _ _)

theorem copyFirmware_within (i s) : Within [.recorder, .fw] s (copyFirmware i s) := by
  unfold copyFirmware
  exact .ite (fun _ => (.refl _ _)) (fun _ => (.ite (fun _ => (.step (record_within ..) rfl (.refl _ _))) (fun _ => (.ite (fun _ =>
    (.step (audit_within ..) rfl (.step (fwMod_within ..) rfl (.step (fwMod_within ..) rfl (.refl _ _))))) (fun _ => (.step
    (record_within ..) rfl (.step (fwMod_within ..) rfl (.step (fwMod_within ..) rfl (.refl _ _)))))))))

theorem laneUnusable_within (i s) : Within [.recorder, .cpl, .modes] s (laneUnusable i s) := by
  unfold laneUnusable
  exact .step (record_within ..) rfl (.step (setHealth_within ..) rfl (.step (laneMod_within ..) rfl (.refl _ _)))

theorem bistMark_within (i s j) : Within [.recorder, .uc, .dig, .group, .modes] s (bistMark i s j) := by
  unfold bistMark
  exact .ite (fun _ => (.step (record_within ..) rfl (.step (ucMod_within ..) rfl (.step (setHealth_within ..) rfl (.refl _ _)))))
    (fun _ => (.ite (fun _ => (.step (record_within ..) rfl (.step (groupMod_within ..) rfl (.foldl (fun _ _ => (.step
    (digMod_within ..) rfl (.refl _ _))) _ (.step (setHealth_within ..) rfl (.refl _ _)))))) (fun _ => (.ite (fun _ => (.step
    (record_within ..) rfl (.step (setHealth_within ..) rfl (.refl _ _)))) (fun _ => (.ite (fun _ => (.step (record_within ..) rfl
    (.step (setHealth_within ..) rfl (.refl _ _)))) (fun _ => (.ite (fun _ => (.step (record_within ..) rfl (.step (setHealth_within
    ..) rfl (.refl _ _)))) (fun _ => (.step (setHealth_within ..) rfl (.refl _ _)))))))))))

theorem bistOutcome_within (i s) : Within [.recorder, .cpl, .uc, .dig, .group, .modes] s (bistOutcome i s).1 := by
  unfold bistOutcome
  exact .foldl (fun _ _ => (.step (laneUnusable_within ..) rfl (.refl _ _))) _ (.foldl (fun _ _ => (.step (bistMark_within ..) rfl
    (.refl _ _))) _ (.refl _ _))

theorem startTime_within (i j s) : Within [.time] s (startTime i j s) := by
  unfold startTime
  exact .step (timeMod_within ..) rfl (.refl _ _)

theorem restoreTask_within (s i) : Within [.task, .retained] s (restoreTask s i) := by
  unfold restoreTask
  exact (by split; exacts [(.refl _ _), (.step (taskMod_within ..) rfl (.set_retained rfl (.refl _ _)))])

theorem convertSaved_within (s i) : Within [.task, .retained, .prog] s (convertSaved s i) := by
  unfold convertSaved
  exact .step (taskMod_within ..) rfl (.set_retained_prog rfl (.refl _ _))

theorem completeTask_within (i s j) : Within [.task, .retained, .prog] s (completeTask i s j) := by
  unfold completeTask
  exact .ite (fun _ => (.step (taskMod_within ..) rfl (.step (restoreTask_within ..) rfl (.refl _ _)))) (fun _ => (.ite (fun _ =>
    (.step (taskMod_within ..) rfl (.step (convertSaved_within ..) rfl (.refl _ _)))) (fun _ => (.step (taskMod_within ..) rfl
    (.refl _ _)))))

theorem initialData_within (s) : Within [.retained, .prog] s (initialData s) := by
  unfold initialData
  exact .foldl (fun _ _ => (.ite (fun _ => (.step (restartData_within ..) rfl (.refl _ _))) (fun _ => (.refl _ _)))) _ (.refl _ _)

theorem startTasks_within (s) : Within [.task] s (startTasks s) := by
  unfold startTasks
  exact .set_task rfl (.step (defineTasks_within ..) rfl (.refl _ _))

theorem startPrograms_within (i s) : Within [.recorder, .task, .retained, .prog] s (startPrograms i s) := by
  unfold startPrograms
  exact .ite (fun _ => (.step (settleCheck_within ..) rfl (.step (writeExchange_within ..) rfl (.set_task rfl (.foldl (fun _ _ =>
    (.step (completeTask_within ..) rfl (.refl _ _))) _ (.step (initialData_within ..) rfl (.step (startTasks_within ..) rfl
    (.set_prog rfl (.set_prog rfl (.refl _ _)))))))))) (fun _ => (.ite (fun _ => (.step (initialData_within ..) rfl (.step
    (startTasks_within ..) rfl (.ite (fun _ => (.step (record_within ..) rfl (.ite (fun _ => (.set_prog rfl (.set_prog rfl (.refl _
    _)))) (fun _ => (.step (writeExchange_within ..) rfl (.set_prog rfl (.set_prog rfl (.refl _ _)))))))) (fun _ => (.ite (fun _ =>
    (.set_prog rfl (.set_prog rfl (.refl _ _)))) (fun _ => (.step (writeExchange_within ..) rfl (.set_prog rfl (.set_prog rfl (.refl
    _ _))))))))))) (fun _ => (.foldl (fun _ _ => (.step (restoreTask_within ..) rfl (.refl _ _))) _ (.step (initialData_within ..)
    rfl (.step (startTasks_within ..) rfl (.ite (fun _ => (.step (record_within ..) rfl (.ite (fun _ => (.set_prog rfl (.set_prog
    rfl (.refl _ _)))) (fun _ => (.step (writeExchange_within ..) rfl (.set_prog rfl (.set_prog rfl (.refl _ _)))))))) (fun _ =>
    (.ite (fun _ => (.set_prog rfl (.set_prog rfl (.refl _ _)))) (fun _ => (.step (writeExchange_within ..) rfl (.set_prog rfl
    (.set_prog rfl (.refl _ _))))))))))))))

theorem startImage_within (i s) : Within [.image] s (startImage i s) := by
  unfold startImage
  exact .step (stationsFollow_within ..) rfl (.set_image rfl (.foldl (fun _ _ => (.step (putRec_within ..) rfl (.refl _ _))) _
    (.refl _ _)))

theorem startForces_within (i s) : Within [.recorder, .image] s (startForces i s) := by
  unfold startForces
  exact .ite (fun _ => (.ite (fun _ => (.set_image rfl (.refl _ _))) (fun _ => (.step (audit_within ..) rfl (.set_image rfl (.refl _
    _)))))) (fun _ => (.foldl (fun _ _ => (.step (putRec_within ..) rfl (.refl _ _))) _ (.set_image rfl (.refl _ _))))

theorem startLoop_within (i s j) : Within [.loop] s (startLoop i s j) := by
  unfold startLoop
  exact .step (loopMod_within ..) rfl (.refl _ _)

theorem startLoops_within (i s) : Within [.recorder, .loop] s (startLoops i s) := by
  unfold startLoops
  exact .ite (fun _ => (.step (record_within ..) rfl (.foldl (fun _ _ => (.step (startLoop_within ..) rfl (.refl _ _))) _ (.step
    (leMod_within ..) rfl (.refl _ _))))) (fun _ => (.foldl (fun _ _ => (.step (startLoop_within ..) rfl (.refl _ _))) _ (.step
    (leMod_within ..) rfl (.refl _ _))))

theorem startFuncs_within (i s) : Within [.recorder, .cpl, .image, .uc, .dig, .safety] s (startFuncs i s) := by
  unfold startFuncs
  exact .foldl (fun _ _ => (.step (forceSafe_within ..) rfl (.refl _ _))) _ (.foldl (fun _ _ => (.step (funcMod_within ..) rfl
    (.refl _ _))) _ (.set_safety rfl (.refl _ _)))

theorem startField_within (s) : Within [.recorder, .cpl, .image, .uc, .dig, .group, .can, .modes, .out] s (startField s) := by
  unfold startField
  exact .foldl (fun _ _ => (.step (objConfigure_within ..) rfl (.refl _ _))) _ (.foldl (fun _ _ => (.step (healthFollows_within ..)
    rfl (.step (canConfigure_within ..) rfl (.refl _ _)))) _ (.foldl (fun _ _ => (.step (digConfigure_within ..) rfl (.refl _ _))) _
    (.foldl (fun _ _ => (.ite (fun _ => (.step (healthFollows_within ..) rfl (.refl _ _))) (fun _ => (.step (ucConfigure_within ..)
    rfl (.refl _ _))))) _ (.refl _ _))))

theorem startLanes_within (s) : Within [.recorder, .power, .cpl, .image, .uc, .dig, .safety, .fresh] s (startLanes s) := by
  unfold startLanes
  exact .step (lanesIdle_within ..) rfl (.step (capabilityChanged_within ..) rfl (.set_cpl_fresh rfl (.foldl (fun _ _ => (.ite (fun
    _ => (.refl _ _)) (fun _ => (.step (lanePower_within ..) rfl (.step (laneMod_within ..) rfl (.refl _ _)))))) _ (.refl _ _))))

theorem startComplete_within (s) : Within [.recorder, .plinth, .modes, .fw] s (startComplete s) := by
  unfold startComplete
  exact .ite (fun _ => (.step (audit_within ..) rfl (.step (fwMod_within ..) rfl (.step (fwMod_within ..) rfl (.step (bkp2Bit_within
    ..) rfl (.set_modes rfl rfl rfl (.refl _ _))))))) (fun _ => (.step (fwMod_within ..) rfl (.step (bkp2Bit_within ..) rfl
    (.set_modes rfl rfl rfl (.refl _ _)))))

theorem enterTarget_within (i j k s) : Within [.recorder, .plinth, .power, .cpl, .task, .image, .pub, .uc, .dig, .safety, .can,
  .pair, .modes, .fw, .mode] s (enterTarget i j k s) := by
  unfold enterTarget
  exact (by dsimp -proj only; split; exacts [(.step (lanesIdle_within ..) rfl (.step (canFollow_within ..) rfl (.step
    (tasksFollow_within ..) rfl (.step (driveSafety_within ..) rfl (.step (outputsIdle_within ..) rfl (.step (startComplete_within
    ..) rfl (.set_image_pub_pair_modes_mode rfl rfl (.refl _ _)))))))), (.step (lanesIdle_within ..) rfl (.step (canFollow_within
    ..) rfl (.step (tasksFollow_within ..) rfl (.step (driveSafety_within ..) rfl (.step (outputsIdle_within ..) rfl (.step
    (startComplete_within ..) rfl (.set_image_pub_pair_modes_mode rfl rfl (.refl _ _)))))))), (.step (lanesIdle_within ..) rfl
    (.step (canFollow_within ..) rfl (.step (outputsOff_within ..) rfl (.step (startComplete_within ..) rfl
    (.set_image_pub_pair_modes_mode rfl rfl (.refl _ _))))))])

theorem becomeActive_within (s) : Within [.recorder, .plinth, .power, .cpl, .task, .image, .pub, .uc, .dig, .safety, .net, .can,
  .pair, .modes, .fw, .out, .mode] s (becomeActive s) := by
  unfold becomeActive
  exact .ite (fun _ => (.step (ownerTakeover_within ..) rfl (.step (enterTarget_within ..) rfl (.refl _ _)))) (fun _ => (.step
    (enterTarget_within ..) rfl (.refl _ _)))

theorem becomeStandby_within (s) : Within [.recorder, .plinth, .power, .cpl, .task, .image, .pub, .uc, .dig, .safety, .can, .pair,
  .modes, .fw, .out, .mode] s (becomeStandby s) := by
  unfold becomeStandby
  exact .step (beginCatchup_within ..) rfl (.step (enterTarget_within ..) rfl (.refl _ _))

theorem decideRole_within (s) : Within [.recorder, .plinth, .power, .cpl, .task, .image, .pub, .uc, .dig, .safety, .net, .can,
  .pair, .modes, .fw, .out, .mode] s (decideRole s) := by
  unfold decideRole
  exact .ite (fun _ => (.step (enterTarget_within ..) rfl (.refl _ _))) (fun _ => (.ite (fun _ => (.step (becomeActive_within ..)
    rfl (.refl _ _))) (fun _ => (.ite (fun _ => (.step (becomeStandby_within ..) rfl (.refl _ _))) (fun _ => (.ite (fun _ => (.step
    (becomeActive_within ..) rfl (.refl _ _))) (fun _ => (.step (emit_within ..) rfl (.set_modes rfl rfl rfl (.refl _ _))))))))))

theorem decideByHello_within (i s) : Within [.recorder, .plinth, .power, .cpl, .task, .image, .pub, .uc, .dig, .safety, .net, .can,
  .pair, .modes, .fw, .out, .mode] s (decideByHello i s) := by
  unfold decideByHello
  exact .ite (fun _ => (.step (becomeActive_within ..) rfl (.refl _ _))) (fun _ => (.step (becomeStandby_within ..) rfl (.refl _
    _)))

theorem recorderScan_within (s) : Within [.recorder] s (recorderScan s) := by
  unfold recorderScan
  exact (by dsimp -proj only; split; exacts [(.set_recorder rfl (.refl _ _)), (.refl _ _)])

theorem loadConfig_within (s) : Within [.recorder, .modes, .cfg] s (loadConfig s) := by
  unfold loadConfig
  exact .foldl (fun _ _ => (.step (record_within ..) rfl (.refl _ _))) _ (.set_modes_cfg rfl rfl rfl (.refl _ _))

theorem startNetwork_within (s) : Within [.net, .pair, .out] s (startNetwork s) := by
  unfold startNetwork
  exact .foldl (fun _ _ => (.step (portJoin_within ..) rfl (.refl _ _))) _ (.set_net_pair rfl (.refl _ _))

theorem startRest_within (i j s) : Within [.recorder, .host, .time, .plinth, .power, .cpl, .task, .retained, .image, .pub, .prog,
  .loop, .uc, .dig, .group, .safety, .net, .can, .panel, .updates, .pair, .modes, .cfg, .fw, .out, .fresh, .mode] s (startRest i j
  s) := by
  unfold startRest
  exact .step (decideRole_within ..) rfl (.step (openHost_within ..) rfl (.step (startNetwork_within ..) rfl (.step
    (startLanes_within ..) rfl (.step (startFuncs_within ..) rfl (.step (panelsStart_within ..) rfl (.step (startLoops_within ..)
    rfl (.step (startField_within ..) rfl (.step (startForces_within ..) rfl (.step (startImage_within ..) rfl (.step
    (startPrograms_within ..) rfl (.step (startTime_within ..) rfl (.step (loadConfig_within ..) rfl (.refl _ _)))))))))))))

theorem bistGroup_within (i s j) : Within [.modes] s (bistGroup i s j) := by
  unfold bistGroup
  exact .set_modes rfl rfl rfl (.foldl (fun _ _ => (.step (setHealth_within ..) rfl (.refl _ _))) _ (.refl _ _))

theorem runBist_within (i s) : Within [.modes] s (runBist i s) := by
  unfold runBist
  exact .foldl (fun _ _ => (.step (bistGroup_within ..) rfl (.refl _ _))) _ (.refl _ _)

theorem runStart_within (i j s) : Within [.recorder, .host, .time, .plinth, .power, .cpl, .task, .retained, .image, .pub, .prog,
  .loop, .uc, .dig, .group, .safety, .net, .can, .panel, .updates, .pair, .modes, .cfg, .fw, .out, .fresh, .mode] s (runStart i j s)
  := by
  unfold runStart
  exact (by dsimp -proj only; split; exacts [(.ite (fun _ => (.step (openHost_within ..) rfl (.step (enterSafe_within ..) rfl (.step
    (bkp2Bit_within ..) rfl (.step (loadBank_within ..) rfl (.set_power_pair_modes rfl rfl rfl (.refl _ _))))))) (fun _ => (.ite
    (fun _ => (.step (failStart_within ..) rfl (.step (bistOutcome_within ..) rfl (.step (runBist_within ..) rfl (.step
    (copyFirmware_within ..) rfl (.step (recorderScan_within ..) rfl (.step (loadBank_within ..) rfl (.set_power_pair_modes rfl rfl
    rfl (.refl _ _))))))))) (fun _ => (.step (startRest_within ..) rfl (.step (bistOutcome_within ..) rfl (.step (runBist_within ..)
    rfl (.step (copyFirmware_within ..) rfl (.step (recorderScan_within ..) rfl (.step (loadBank_within ..) rfl
    (.set_power_pair_modes rfl rfl rfl (.refl _ _)))))))))))), (.ite (fun _ => (.step (openHost_within ..) rfl (.step
    (enterSafe_within ..) rfl (.step (bkp2Bit_within ..) rfl (.step (loadBank_within ..) rfl (.set_power_pair_modes rfl rfl rfl
    (.step (stepOne_within ..) rfl (.set_modes rfl rfl rfl (.refl _ _))))))))) (fun _ => (.ite (fun _ => (.step (failStart_within
    ..) rfl (.step (bistOutcome_within ..) rfl (.step (runBist_within ..) rfl (.step (copyFirmware_within ..) rfl (.step
    (recorderScan_within ..) rfl (.step (loadBank_within ..) rfl (.set_power_pair_modes rfl rfl rfl (.step (stepOne_within ..) rfl
    (.set_modes rfl rfl rfl (.refl _ _))))))))))) (fun _ => (.step (startRest_within ..) rfl (.step (bistOutcome_within ..) rfl
    (.step (runBist_within ..) rfl (.step (copyFirmware_within ..) rfl (.step (recorderScan_within ..) rfl (.step (loadBank_within
    ..) rfl (.set_power_pair_modes rfl rfl rfl (.step (stepOne_within ..) rfl (.set_modes rfl rfl rfl (.refl _ _))))))))))))))])

theorem execStart_within (i j s) (t : State) (h : execStart i j s = .next t) : Within [.recorder, .host, .time, .plinth, .power,
  .cpl, .task, .retained, .image, .pub, .prog, .loop, .uc, .dig, .group, .safety, .net, .can, .panel, .updates, .pair, .modes, .cfg,
  .fw, .out, .fresh, .mode] s t := by
  unfold execStart at h
  injection h with h
  subst h
  exact .ite (fun _ => (.step (runStart_within ..) rfl (.refl _ _))) (fun _ => (.refl _ _))

theorem execStartDelayExpiry_within (s) (t : State) (h : execStartDelayExpiry s = .next t) : Within [.recorder, .host, .time,
  .plinth, .power, .cpl, .task, .retained, .image, .pub, .prog, .loop, .uc, .dig, .counter, .group, .safety, .net, .can, .panel,
  .updates, .pair, .modes, .cfg, .fw, .fresh, .mode, .life] s t := by
  unfold execStartDelayExpiry at h
  injection h with h
  subst h
  exact (by split; exacts [(.ite (fun _ => (.step (enterBoot_within ..) rfl (.refl _ _))) (fun _ => (.refl _ _))), (.refl _ _)])

theorem execBistGroupComplete_within (i j s) (t : State) (h : execBistGroupComplete i j s = .next t) : Within [.modes] s t := by
  unfold execBistGroupComplete at h
  injection h with h
  subst h
  exact .ite (fun _ => (.step (bistGroup_within ..) rfl (.refl _ _))) (fun _ => (.refl _ _))

theorem execStartTimeout_within (s) (t : State) (h : execStartTimeout s = .next t) : Within [.recorder, .host, .plinth, .cpl, .task,
  .image, .prog, .uc, .dig, .safety, .can, .pair, .modes, .cfg, .fw, .out, .mode] s t := by
  unfold execStartTimeout at h
  injection h with h
  subst h
  exact .ite (fun _ => (.step (failStart_within ..) rfl (.refl _ _))) (fun _ => (.refl _ _))

theorem execPairStartWaitExpiry_within (s) (t : State) (h : execPairStartWaitExpiry s = .next t) : Within [.recorder, .plinth,
  .power, .cpl, .task, .image, .pub, .uc, .dig, .safety, .net, .can, .pair, .modes, .fw, .out, .mode] s t := by
  unfold execPairStartWaitExpiry at h
  injection h with h
  subst h
  exact (by split; exacts [(.ite (fun _ => (.refl _ _)) (fun _ => (.ite (fun _ => (.step (becomeStandby_within ..) rfl (.refl _ _)))
    (fun _ => (.step (becomeActive_within ..) rfl (.refl _ _)))))), (.refl _ _)])

theorem execDrawbarHello_within (i j s) (t : State) (h : execDrawbarHello i j s = .next t) : Within [.recorder, .plinth, .power,
  .cpl, .task, .image, .pub, .uc, .dig, .safety, .net, .can, .pair, .modes, .fw, .out, .mode] s t := by
  unfold execDrawbarHello at h
  injection h with h
  subst h
  exact (by dsimp -proj only; split; exacts [(.refl _ _), (.ite (fun _ => (.step (decideByHello_within ..) rfl (.step (emit_within
    ..) rfl (.step (drawbarArrives_within ..) rfl (.step (pairUnit_within ..) rfl (.refl _ _)))))) (fun _ => (.step
    (drawbarArrives_within ..) rfl (.step (pairUnit_within ..) rfl (.refl _ _))))), (.step (helloStandby_within ..) rfl (.step
    (drawbarArrives_within ..) rfl (.step (pairUnit_within ..) rfl (.refl _ _)))), (.ite (fun _ => (.step (emit_within ..) rfl
    (.step (drawbarArrives_within ..) rfl (.step (pairUnit_within ..) rfl (.refl _ _))))) (fun _ => (.step (drawbarArrives_within
    ..) rfl (.step (pairUnit_within ..) rfl (.refl _ _))))), (.ite (fun _ => (.step (emit_within ..) rfl (.step
    (drawbarArrives_within ..) rfl (.step (pairUnit_within ..) rfl (.refl _ _))))) (fun _ => (.step (drawbarArrives_within ..) rfl
    (.step (pairUnit_within ..) rfl (.refl _ _))))), (.ite (fun _ => (.step (emit_within ..) rfl (.step (drawbarArrives_within ..)
    rfl (.step (pairUnit_within ..) rfl (.refl _ _))))) (fun _ => (.step (drawbarArrives_within ..) rfl (.step (pairUnit_within ..)
    rfl (.refl _ _))))), (.step (drawbarArrives_within ..) rfl (.step (pairUnit_within ..) rfl (.refl _ _)))])

theorem hostMod_within (i s) : Within [.host] s (hostMod i s) := by
  unfold hostMod
  exact .set_host rfl (.refl _ _)

theorem countIgnored_within (s) : Within [.host] s (countIgnored s) := by
  unfold countIgnored
  exact .step (hostMod_within ..) rfl (.refl _ _)

theorem countRejected_within (s) : Within [.host] s (countRejected s) := by
  unfold countRejected
  exact .step (hostMod_within ..) rfl (.refl _ _)

theorem protocolError_within (i s) : Within [.host] s (protocolError i s) := by
  unfold protocolError
  exact .step (mailboxMod_within ..) rfl (.refl _ _)

theorem execMbxSubmit_within (i s) (t : State) (h : execMbxSubmit i s = .next t) : Within [.host, .power, .out] s t := by
  unfold execMbxSubmit at h
  injection h with h
  subst h
  exact .ite (fun _ => (.refl _ _)) (fun _ => (.ite (fun _ => (.step (submit_within ..) rfl (.step (demandClock_within ..) rfl
    (.refl _ _)))) (fun _ => (.step (protocolError_within ..) rfl (.step (demandClock_within ..) rfl (.refl _ _))))))

theorem execMbxAck_within (i s) (t : State) (h : execMbxAck i s = .next t) : Within [.host, .power] s t := by
  unfold execMbxAck at h
  injection h with h
  subst h
  exact .ite (fun _ => (.refl _ _)) (fun _ => (.ite (fun _ => (.step (mailboxMod_within ..) rfl (.step (demandClock_within ..) rfl
    (.refl _ _)))) (fun _ => (.step (protocolError_within ..) rfl (.step (demandClock_within ..) rfl (.refl _ _))))))

theorem bufferWrite_within (i j s) : Within [.host] s (bufferWrite i j s).1 := by
  unfold bufferWrite
  exact (by split; exacts [(.refl _ _), (.step (bufferWrite_within ..) rfl (.ite (fun _ => (.step (hostMod_within ..) rfl (.refl _
    _))) (fun _ => (.refl _ _))))])

theorem execMailboxBufferWrite_within (i j s) (t : State) (h : execMailboxBufferWrite i j s = .next t) : Within [.host] s t := by
  unfold execMailboxBufferWrite at h
  injection h with h
  subst h
  exact .ite (fun _ => (.refl _ _)) (fun _ => (.ite (fun _ => (.step (countIgnored_within ..) rfl (.step (bufferWrite_within ..) rfl
    (.refl _ _)))) (fun _ => (.step (bufferWrite_within ..) rfl (.refl _ _)))))

theorem flagTaken_within (i j k s) : Within [.host, .power, .out] s (flagTaken i j k s) := by
  unfold flagTaken
  exact .ite (fun _ => (.step (subFillAll_within ..) rfl (.step (setFlag_within ..) rfl (.refl _ _)))) (fun _ => (.step
    (subFillAll_within ..) rfl (.step (hostMod_within ..) rfl (.step (setFlag_within ..) rfl (.refl _ _)))))

theorem hostFlag_within (i j k s) : Within [.host, .power, .out] s (hostFlag i j k s) := by
  unfold hostFlag
  exact .ite (fun _ => (.step (countRejected_within ..) rfl (.refl _ _))) (fun _ => (.step (flagTaken_within ..) rfl (.refl _ _)))

theorem execFlagWrite_within (i j s) (t : State) (h : execFlagWrite i j s = .next t) : Within [.host, .power, .out] s t := by
  unfold execFlagWrite at h
  injection h with h
  subst h
  exact .ite (fun _ => (.step (hostFlag_within ..) rfl (.refl _ _))) (fun _ => (.refl _ _))

theorem windowWrite_within (i j s) : Within [.host] s (windowWrite i j s).1 := by
  unfold windowWrite
  exact (by split; exacts [(.refl _ _), (.step (windowWrite_within ..) rfl (.ite (fun _ => (.step (hostMod_within ..) rfl (.refl _
    _))) (fun _ => (.refl _ _))))])

theorem execCarriageDataWrite_within (i j s) (t : State) (h : execCarriageDataWrite i j s = .next t) : Within [.host] s t := by
  unfold execCarriageDataWrite at h
  injection h with h
  subst h
  exact .ite (fun _ => (.refl _ _)) (fun _ => (.ite (fun _ => (.step (countIgnored_within ..) rfl (.step (windowWrite_within ..) rfl
    (.refl _ _)))) (fun _ => (.step (windowWrite_within ..) rfl (.refl _ _)))))

theorem writeIrqEnable_within (i s) : Within [.host, .out] s (writeIrqEnable i s) := by
  unfold writeIrqEnable
  exact .foldl (fun _ _ => (.step (emit_within ..) rfl (.refl _ _))) _ (.step (hostMod_within ..) rfl (.refl _ _))

theorem execIrqEnableWrite_within (i s) (t : State) (h : execIrqEnableWrite i s = .next t) : Within [.host, .out] s t := by
  unfold execIrqEnableWrite at h
  injection h with h
  subst h
  exact .ite (fun _ => (.step (writeIrqEnable_within ..) rfl (.refl _ _))) (fun _ => (.refl _ _))

theorem execHiErrorsRead_within (s) (t : State) (h : execHiErrorsRead s = .next t) : Within [.host] s t := by
  unfold execHiErrorsRead at h
  injection h with h
  subst h
  exact .ite (fun _ => (.step (hostMod_within ..) rfl (.refl _ _))) (fun _ => (.refl _ _))

theorem execTsnapLoRead_within (s) (t : State) (h : execTsnapLoRead s = .next t) : Within [.host] s t := by
  unfold execTsnapLoRead at h
  injection h with h
  subst h
  exact .ite (fun _ => (.step (hostMod_within ..) rfl (.refl _ _))) (fun _ => (.refl _ _))

theorem hostReset_within (s) : Within [.recorder, .host, .power, .cpl, .loop, .modes, .cfg, .out] s (hostReset s) := by
  unfold hostReset
  exact .step (tryResync_within ..) rfl (.step (poisonAll_within ..) rfl (.foldl (fun _ _ => (.step (loseRole_within ..) rfl (.refl
    _ _))) _ (.step (hostMod_within ..) rfl (.refl _ _))))

theorem execHostReset_within (s) (t : State) (h : execHostReset s = .next t) : Within [.recorder, .host, .power, .cpl, .loop,
  .modes, .cfg, .out] s t := by
  unfold execHostReset at h
  injection h with h
  subst h
  exact .ite (fun _ => (.step (hostReset_within ..) rfl (.refl _ _))) (fun _ => (.refl _ _))

theorem execPcieLinkLoss_within (s) (t : State) (h : execPcieLinkLoss s = .next t) : Within [.recorder, .host, .power, .cpl, .loop,
  .modes, .cfg, .out] s t := by
  unfold execPcieLinkLoss at h
  injection h with h
  subst h
  exact .ite (fun _ => (.step (hostReset_within ..) rfl (.refl _ _))) (fun _ => (.refl _ _))

theorem execSessionTimeout_within (i s) (t : State) (h : execSessionTimeout i s = .next t) : Within [.recorder, .host, .power, .cpl,
  .loop, .modes, .cfg, .out] s t := by
  unfold execSessionTimeout at h
  injection h with h
  subst h
  exact .ite (fun _ => (.step (tryResync_within ..) rfl (.step (loseRole_within ..) rfl (.refl _ _)))) (fun _ => (.refl _ _))

theorem execLoginLockoutEnd_within (i s) (t : State) (h : execLoginLockoutEnd i s = .next t) : Within [.modes] s t := by
  unfold execLoginLockoutEnd at h
  injection h with h
  subst h
  exact .set_modes rfl rfl rfl (.refl _ _)

theorem execTlsConnect_within (i s) (t : State) (h : execTlsConnect i s = .next t) : Within [.host] s t := by
  unfold execTlsConnect at h
  injection h with h
  subst h
  exact (by split; exacts [(.ite (fun _ => (.step (hostMod_within ..) rfl (.refl _ _))) (fun _ => (.refl _ _))), (.refl _ _)])

theorem endTls_within (i s) : Within [.recorder, .host, .power, .cpl, .loop, .modes, .cfg, .out] s (endTls i s) := by
  unfold endTls
  exact .step (tryResync_within ..) rfl (.step (closeTls_within ..) rfl (.refl _ _))

theorem tlsHeard_within (i s) : Within [.host, .power] s (tlsHeard i s) := by
  unfold tlsHeard
  exact .step (demandClock_within ..) rfl (.step (tlsMod_within ..) rfl (.refl _ _))

theorem execTlsCommand_within (i j k s) (t : State) (h : execTlsCommand i j k s = .next t) : Within [.recorder, .host, .power, .cpl,
  .loop, .modes, .cfg, .out] s t := by
  unfold execTlsCommand at h
  injection h with h
  subst h
  exact (by split; exacts [(.refl _ _), (.ite (fun _ => (.step (endTls_within ..) rfl (.refl _ _))) (fun _ => (.ite (fun _ => (.step
    (submit_within ..) rfl (.step (tlsHeard_within ..) rfl (.refl _ _)))) (fun _ => (.step (tlsHeard_within ..) rfl (.refl _
    _))))))])

theorem tlsTransfer_within (i j s) : Within [.host, .power, .out] s (tlsTransfer i j s) := by
  unfold tlsTransfer
  exact .ite (fun _ => (.step (countRejected_within ..) rfl (.refl _ _))) (fun _ => (.step (flagTaken_within ..) rfl (.step
    (carriagePut_within ..) rfl (.refl _ _))))

theorem execTlsTransfer_within (i j s) (t : State) (h : execTlsTransfer i j s = .next t) : Within [.recorder, .host, .power, .cpl,
  .loop, .modes, .cfg, .out] s t := by
  unfold execTlsTransfer at h
  injection h with h
  subst h
  exact (by split; exacts [(.refl _ _), (.ite (fun _ => (.step (endTls_within ..) rfl (.refl _ _))) (fun _ => (.step
    (tlsTransfer_within ..) rfl (.step (tlsHeard_within ..) rfl (.refl _ _)))))])

theorem execTlsKeepalive_within (i j s) (t : State) (h : execTlsKeepalive i j s = .next t) : Within [.recorder, .host, .power, .cpl,
  .loop, .modes, .cfg, .out] s t := by
  unfold execTlsKeepalive at h
  injection h with h
  subst h
  exact (by split; exacts [(.refl _ _), (.ite (fun _ => (.step (tlsHeard_within ..) rfl (.refl _ _))) (fun _ => (.step
    (endTls_within ..) rfl (.refl _ _))))])

theorem execTlsKeepaliveSend_within (i s) (t : State) (h : execTlsKeepaliveSend i s = .next t) : Within [.host, .power, .out] s t :=
  by
  unfold execTlsKeepaliveSend at h
  injection h with h
  subst h
  exact (by split; exacts [(.refl _ _), (.ite (fun _ => (.step (tlsSent_within ..) rfl (.step (emit_within ..) rfl (.refl _ _))))
    (fun _ => (.refl _ _)))])

theorem execTlsReceiveTimeout_within (i s) (t : State) (h : execTlsReceiveTimeout i s = .next t) : Within [.recorder, .host, .power,
  .cpl, .loop, .modes, .cfg, .out] s t := by
  unfold execTlsReceiveTimeout at h
  injection h with h
  subst h
  exact (by split; exacts [(.refl _ _), (.ite (fun _ => (.step (endTls_within ..) rfl (.refl _ _))) (fun _ => (.refl _ _)))])

theorem execTlsConnectionClosed_within (i s) (t : State) (h : execTlsConnectionClosed i s = .next t) : Within [.recorder, .host,
  .power, .cpl, .loop, .modes, .cfg, .out] s t := by
  unfold execTlsConnectionClosed at h
  injection h with h
  subst h
  exact (by split; exacts [(.refl _ _), (.step (tryResync_within ..) rfl (.step (hostMod_within ..) rfl (.step (loseRole_within ..)
    rfl (.refl _ _))))])

theorem execTlsKeyUpdate_within (i j s) (t : State) (h : execTlsKeyUpdate i j s = .next t) : Within [.host, .power, .out] s t := by
  unfold execTlsKeyUpdate at h
  injection h with h
  subst h
  exact (by split; exacts [(.refl _ _), (.ite (fun _ => (.step (tlsMod_within ..) rfl (.step (tlsHeard_within ..) rfl (.refl _ _))))
    (fun _ => (.ite (fun _ => (.step (emit_within ..) rfl (.step (tlsMod_within ..) rfl (.refl _ _)))) (fun _ => (.refl _ _)))))])

end Sys2Proof.Machine
end

