-- ==== Sys2Proof/Laws/FrameRows.lean ====
section
/-! SUPPORT. Which parts of the block each operation may change: the catalogue, the merge, the recorder and the supplies. -/

set_option maxRecDepth 4000

namespace Sys2Proof.Machine

seal followTasks

theorem netRead_within (i s) : Within [.net] s (netRead i s).2 := by
  unfold netRead
  exact (by split; exacts [(.refl _ _), (.step (portMod_within ..) rfl (.refl _ _)), (.refl _ _), (.refl _ _), (.refl _ _), (.refl _
    _), (.refl _ _)])

theorem netWrite_within (i j s) : Within [.net, .can, .pair] s (netWrite i j s) := by
  unfold netWrite
  exact (by split; exacts [(.step (portMod_within ..) rfl (.refl _ _)), (.step (canMod_within ..) rfl (.refl _ _)), (.step
    (objMod_within ..) rfl (.refl _ _)), (.set_pair rfl (.refl _ _)), (.set_pair rfl (.refl _ _)), (.refl _ _), (.refl _ _)])

theorem loopRegRead_within (i s) : Within [.loop] s (loopRegRead i s).2 := by
  unfold loopRegRead
  exact .ite_snd (fun _ => (.refl _ _)) (fun _ => (.ite_snd (fun _ => (.set_loop rfl (.refl _ _))) (fun _ => (.ite_snd (fun _ =>
    (.set_loop rfl (.refl _ _))) (fun _ => (.ite_snd (fun _ => (.refl _ _)) (fun _ => (.refl _ _))))))))

theorem regRead_within (i j s) : Within [.time, .plinth, .loop, .net] s (regRead i j s).2 := by
  unfold regRead
  exact (by split; exacts [(.refl _ _), (.refl _ _), (.step (loopRegRead_within ..) rfl (.refl _ _)), (.refl _ _), (.step
    (netRead_within ..) rfl (.refl _ _)), (.ite (fun _ => (.step (timeMod_within ..) rfl (.refl _ _))) (fun _ => (.refl _ _))),
    (.ite (fun _ => (.step (plinthMod_within ..) rfl (.refl _ _))) (fun _ => (.refl _ _))), (.refl _ _), (.refl _ _)])

theorem irqClear_within (i s) : Within [.host] s (irqClear i s) := by
  unfold irqClear
  exact .step (hostMod_within ..) rfl (.refl _ _)

theorem doorbellWrite_within (i j s) : Within [.host, .power, .out] s (doorbellWrite i j s) := by
  unfold doorbellWrite
  exact .ite (fun _ => (.ite (fun _ => (.step (mailboxMod_within ..) rfl (.ite (fun _ => (.ite (fun _ => (.step (submit_within ..)
    rfl (.refl _ _))) (fun _ => (.step (protocolError_within ..) rfl (.refl _ _))))) (fun _ => (.refl _ _))))) (fun _ => (.step
    (protocolError_within ..) rfl (.ite (fun _ => (.ite (fun _ => (.step (submit_within ..) rfl (.refl _ _))) (fun _ => (.step
    (protocolError_within ..) rfl (.refl _ _))))) (fun _ => (.refl _ _))))))) (fun _ => (.ite (fun _ => (.ite (fun _ => (.step
    (submit_within ..) rfl (.refl _ _))) (fun _ => (.step (protocolError_within ..) rfl (.refl _ _))))) (fun _ => (.refl _ _))))

theorem mbxStatusWrite_within (i j s) : Within [.host] s (mbxStatusWrite i j s) := by
  unfold mbxStatusWrite
  exact .step (mailboxMod_within ..) rfl (.refl _ _)

theorem flagsWrite_within (i j s) : Within [.host, .power, .out] s (flagsWrite i j s) := by
  unfold flagsWrite
  exact .foldl (fun _ _ => (.step (hostFlag_within ..) rfl (.refl _ _))) _ (.refl _ _)

theorem bar0Write_within (i j s) : Within [.recorder, .host, .power, .cpl, .loop, .modes, .cfg, .out] s (bar0Write i j s) := by
  unfold bar0Write
  exact .ite (fun _ => (.refl _ _)) (fun _ => (.ite (fun _ => (.step (irqClear_within ..) rfl (.refl _ _))) (fun _ => (.ite (fun _
    => (.step (writeIrqEnable_within ..) rfl (.refl _ _))) (fun _ => (.ite (fun _ => (.ite (fun _ => (.step (hostReset_within ..)
    rfl (.refl _ _))) (fun _ => (.refl _ _)))) (fun _ => (.ite (fun _ => (.ite (fun _ => (.step (doorbellWrite_within ..) rfl (.step
    (demandClock_within ..) rfl (.refl _ _)))) (fun _ => (.ite (fun _ => (.step (mbxStatusWrite_within ..) rfl (.refl _ _))) (fun _
    => (.refl _ _)))))) (fun _ => (.ite (fun _ => (.step (flagsWrite_within ..) rfl (.refl _ _))) (fun _ => (.ite (fun _ => (.step
    (hostMod_within ..) rfl (.refl _ _))) (fun _ => (.ite (fun _ => (.ite (fun _ => (.step (countIgnored_within ..) rfl (.step
    (bufferWrite_within ..) rfl (.refl _ _)))) (fun _ => (.step (bufferWrite_within ..) rfl (.refl _ _))))) (fun _ => (.refl _
    _))))))))))))))))

theorem regWrite_within (i j k s) : Within [.recorder, .host, .time, .plinth, .power, .cpl, .loop, .group, .net, .can, .panel,
  .pair, .modes, .cfg, .out] s (regWrite i j k s) := by
  unfold regWrite
  exact (by split; exacts [(.ite (fun _ => (.step (powerMod_within ..) rfl (.refl _ _))) (fun _ => (.ite (fun _ => (.step
    (powerMod_within ..) rfl (.refl _ _))) (fun _ => (.refl _ _))))), (.ite (fun _ => (.set_cpl rfl (.refl _ _))) (fun _ => (.refl _
    _))), (.refl _ _), (.ite (fun _ => (.step (groupMod_within ..) rfl (.refl _ _))) (fun _ => (.refl _ _))), (.step
    (netWrite_within ..) rfl (.refl _ _)), (.step (timeWrite_within ..) rfl (.refl _ _)), (.step (plinthMod_within ..) rfl (.refl _
    _)), (.ite (fun _ => (.step (pnlWrite_within ..) rfl (.refl _ _))) (fun _ => (.refl _ _))), (.ite (fun _ => (.step
    (bar0Write_within ..) rfl (.refl _ _))) (fun _ => (.refl _ _)))])

theorem regReads_within (i j k s) : Within [.time, .plinth, .loop, .net] s (regReads i j k s).2 := by
  unfold regReads
  exact (by split; exacts [(.refl _ _), (.step (regReads_within ..) rfl (.step (regRead_within ..) rfl (.refl _ _)))])

theorem regWrites_within (i j k l s) : Within [.recorder, .host, .time, .plinth, .power, .cpl, .loop, .group, .net, .can, .panel,
  .pair, .modes, .cfg, .out] s (regWrites i j k l s) := by
  unfold regWrites
  exact (by split; exacts [(.refl _ _), (.step (regWrites_within ..) rfl (.step (regWrite_within ..) rfl (.refl _ _)))])

theorem execRegisterWrite_within (i j k s) (t : State) (h : execRegisterWrite i j k s = .next t) : Within [.recorder, .host, .time,
  .plinth, .power, .cpl, .loop, .group, .net, .can, .panel, .pair, .modes, .cfg, .out] s t := by
  unfold execRegisterWrite at h
  injection h with h
  subst h
  exact .step (regWrite_within ..) rfl (.refl _ _)

theorem execIdentGet_within (i s) (t : State) (h : execIdentGet i s = .next t) : Within [.host, .power, .out] s t := by
  unfold execIdentGet at h
  injection h with h
  subst h
  exact .step (readCommand_within ..) rfl (.refl _ _)

theorem execStatusGet_within (i s) (t : State) (h : execStatusGet i s = .next t) : Within [.host, .power, .out] s t := by
  unfold execStatusGet at h
  injection h with h
  subst h
  exact .step (readCommand_within ..) rfl (.refl _ _)

theorem execHealthMapGet_within (i s) (t : State) (h : execHealthMapGet i s = .next t) : Within [.host, .power, .out] s t := by
  unfold execHealthMapGet at h
  injection h with h
  subst h
  exact .step (readCommand_within ..) rfl (.refl _ _)

theorem execModeGet_within (i s) (t : State) (h : execModeGet i s = .next t) : Within [.host, .power, .out] s t := by
  unfold execModeGet at h
  injection h with h
  subst h
  exact .step (readCommand_within ..) rfl (.refl _ _)

theorem programRestart_within (i s) : Within [.recorder, .cpl, .task, .retained, .image, .prog, .loop, .uc, .dig, .safety, .cfg,
  .out] s (programRestart i s) := by
  unfold programRestart
  exact .ite (fun _ => (.step (loopsRestart_within ..) rfl (.foldl (fun _ _ => (.step (restartTask_within ..) rfl (.refl _ _))) _
    (.step (restartAbandons_within ..) rfl (.refl _ _))))) (fun _ => (.foldl (fun _ _ => (.step (restartTask_within ..) rfl (.refl _
    _))) _ (.step (restartAbandons_within ..) rfl (.refl _ _))))

theorem takeMode_within (i j k s) : Within [.recorder, .power, .cpl, .task, .retained, .image, .prog, .loop, .uc, .dig, .safety,
  .can, .pair, .modes, .cfg, .out, .fresh, .mode] s (takeMode i j k s) := by
  unfold takeMode
  exact (by dsimp -proj only; split; exacts [(.step (followTasks_within ..) rfl (.step (tasksFollow_within ..) rfl (.set_modes_mode
    rfl rfl (.ite (fun _ => (.step (programRestart_within ..) rfl (.refl _ _))) (fun _ => (.refl _ _)))))), (.step
    (followTasks_within ..) rfl (.step (tasksFollow_within ..) rfl (.step (loopsStop_within ..) rfl (.set_modes_mode rfl rfl (.refl
    _ _))))), (.step (followTasks_within ..) rfl (.step (tasksFollow_within ..) rfl (.set_modes_mode rfl rfl (.refl _ _)))), (.step
    (enterMaintenance_within ..) rfl (.refl _ _))])

theorem execModeSet_within (i s) (t : State) (h : execModeSet i s = .next t) : Within [.recorder, .host, .power, .cpl, .task,
  .retained, .image, .prog, .loop, .uc, .dig, .safety, .can, .pair, .modes, .cfg, .out, .fresh, .mode] s t := by
  unfold execModeSet at h
  injection h with h
  subst h
  exact runCommand_step rfl (fun _ _ => (by dsimp -proj only; split; exacts [(.refl _ _), (.ite_fst (fun _ => (.refl _ _)) (fun _ =>
    (.ite_fst (fun _ => (.refl _ _)) (fun _ => (.ite_fst (fun _ => (.refl _ _)) (fun _ => (.ite_fst (fun _ => (.refl _ _)) (fun _ =>
    (by split; exacts [(.refl _ _), (by split; exacts [(.step (coldAuth_within ..) rfl (.refl _ _)), (.ite_fst (fun _ => (.step
    (coldAuth_within ..) rfl (.refl _ _))) (fun _ => (.step (toStandby_within ..) rfl (.step (takeMode_within ..) rfl (.ite (fun _
    => (.step (changeLogBy_within ..) rfl (.step (audit_within ..) rfl (.step (coldAuth_within ..) rfl (.refl _ _))))) (fun _ =>
    (.step (audit_within ..) rfl (.step (coldAuth_within ..) rfl (.refl _ _)))))))))])])))))))))])) (.refl _ _)

theorem clearLockout_within (i s) : Within [.recorder, .plinth] s (clearLockout i s) := by
  unfold clearLockout
  exact .step (audit_within ..) rfl (.step (bkpWrites_within ..) rfl (.step (bkp2Bit_within ..) rfl (.refl _ _)))

theorem execStartRequest_within (i s) (t : State) (h : execStartRequest i s = .next t) : Within [.recorder, .host, .plinth, .power,
  .safety, .modes, .out] s t := by
  unfold execStartRequest at h
  injection h with h
  subst h
  exact runCommand_step rfl (fun _ _ => (by dsimp -proj only; split; exacts [(.refl _ _), (.ite_fst (fun _ => (.refl _ _)) (fun _ =>
    (.ite_fst (fun _ => (.refl _ _)) (fun _ => (.ite_fst (fun _ => (.refl _ _)) (fun _ => (by split; exacts [(.step (coldAuth_within
    ..) rfl (.refl _ _)), (.ite_fst (fun _ => (.step (coldAuth_within ..) rfl (.refl _ _))) (fun _ => (.set_modes rfl rfl rfl (.ite
    (fun _ => (.step (changeLogBy_within ..) rfl (.ite (fun _ => (.step (clearLockout_within ..) rfl (.step (coldAuth_within ..) rfl
    (.refl _ _)))) (fun _ => (.step (coldAuth_within ..) rfl (.refl _ _)))))) (fun _ => (.ite (fun _ => (.step (clearLockout_within
    ..) rfl (.step (coldAuth_within ..) rfl (.refl _ _)))) (fun _ => (.step (coldAuth_within ..) rfl (.refl _ _)))))))))])))))))]))
    (.refl _ _)

theorem countFailure_within (i s) : Within [.modes] s (countFailure i s) := by
  unfold countFailure
  exact .ite (fun _ => (.refl _ _)) (fun _ => (.ite (fun _ => (.set_modes rfl rfl rfl (.refl _ _))) (fun _ => (.set_modes rfl rfl
    rfl (.refl _ _)))))

theorem takeRole_within (i j k l s) : Within [.host, .modes] s (takeRole i j k l s) := by
  unfold takeRole
  exact .ite (fun _ => (.set_modes rfl rfl rfl (.set_modes rfl rfl rfl (.step (sessionMod_within ..) rfl (.refl _ _))))) (fun _ =>
    (.set_modes rfl rfl rfl (.step (sessionMod_within ..) rfl (.refl _ _))))

theorem execAuthLogin_within (i s) (t : State) (h : execAuthLogin i s = .next t) : Within [.recorder, .host, .power, .modes, .out] s
  t := by
  unfold execAuthLogin at h
  injection h with h
  subst h
  exact runCommand_step rfl (fun _ _ => (.ite_fst (fun _ => (.refl _ _)) (fun _ => (.ite_fst (fun _ => (.refl _ _)) (fun _ =>
    (by dsimp -proj only; split; exacts [(.step (audit_within ..) rfl (.step (takeRole_within ..) rfl (.refl _ _))), (.step
    (audit_within ..) rfl (.step (countFailure_within ..) rfl (.refl _ _)))])))))) (.refl _ _)

theorem execAuthLogout_within (i s) (t : State) (h : execAuthLogout i s = .next t) : Within [.recorder, .host, .power, .cpl, .loop,
  .modes, .cfg, .out] s t := by
  unfold execAuthLogout at h
  injection h with h
  subst h
  exact runCommand_step rfl (fun _ _ => (.step (tryResync_within ..) rfl (.step (loseRole_within ..) rfl (.refl _ _)))) (.refl _ _)

theorem dropSimulations_within (i s) : Within [.recorder, .cpl, .image, .safety, .out] s (dropSimulations i s) := by
  unfold dropSimulations
  exact .foldl (fun _ _ => (.step (removeForce_within ..) rfl (.refl _ _))) _ (.refl _ _)

theorem eraseItems_within (s) : Within [.safety, .modes] s (eraseItems s) := by
  unfold eraseItems
  exact .set_safety_modes rfl rfl rfl (.refl _ _)

theorem emptySlots_within (s) : Within [.task, .prog] s (emptySlots s) := by
  unfold emptySlots
  exact .foldl (fun _ _ => (.step (taskMod_within ..) rfl (.refl _ _))) _ (.set_prog rfl (.refl _ _))

theorem closeAllTls_within (s) : Within [.recorder, .host, .power, .cpl, .modes, .cfg, .out] s (closeAllTls s) := by
  unfold closeAllTls
  exact .foldl (fun _ _ => (.ite (fun _ => (.step (closeTls_within ..) rfl (.refl _ _))) (fun _ => (.refl _ _)))) _ (.refl _ _)

theorem keepViewerOwner_within (s) : Within [.recorder, .host, .power, .cpl, .modes, .cfg, .out] s (keepViewerOwner s) := by
  unfold keepViewerOwner
  exact .foldl (fun _ _ => (.ite (fun _ => (.refl _ _)) (fun _ => (.step (loseRole_within ..) rfl (.refl _ _))))) _ (.refl _ _)

theorem enableCompat_within (s) : Within [.recorder, .host, .power, .cpl, .loop, .safety, .modes, .cfg, .out] s (enableCompat s) := by
  unfold enableCompat
  extract_lets s1
  have h1 : Within [.recorder, .host, .power, .cpl, .loop, .safety, .modes, .cfg, .out] s s1 := .step (keepViewerOwner_within ..) rfl (.step (closeAllTls_within ..) rfl
    (.step (eraseItems_within ..) rfl (.refl _ _)))
  clear_value s1
  exact .step (tryResync_within ..) rfl (.set_modes rfl rfl rfl h1)

theorem takeLife_within (i j k s) : Within [.recorder, .host, .power, .cpl, .task, .image, .prog, .loop, .safety, .modes, .cfg,
  .out, .life] s (takeLife i j k s) := by
  unfold takeLife
  exact .step (toStandby_within ..) rfl (by split; exacts [(.step (tryResync_within ..) rfl (.foldl (fun _ _ => (.step
    (loseRole_within ..) rfl (.refl _ _))) _ (.set_modes_life rfl rfl (.refl _ _)))), (.step (dropSimulations_within ..) rfl
    (.set_modes_life rfl rfl (.refl _ _))), (.step (emptySlots_within ..) rfl (.step (eraseItems_within ..) rfl (.set_modes_life rfl
    rfl (.refl _ _)))), (.set_modes_life rfl rfl (.refl _ _))])

theorem execLifecycleSet_within (i s) (t : State) (h : execLifecycleSet i s = .next t) : Within [.recorder, .host, .power, .cpl,
  .task, .image, .prog, .loop, .safety, .modes, .cfg, .out, .life] s t := by
  unfold execLifecycleSet at h
  injection h with h
  subst h
  exact runCommand_step rfl (fun _ _ => (.ite_fst (fun _ => (.refl _ _)) (fun _ => (by split; exacts [(.refl _ _), (.ite_fst (fun _
    => (.ite_fst (fun _ => (.refl _ _)) (fun _ => (.ite_fst (fun _ => (.refl _ _)) (fun _ => (.ite_fst (fun _ => (.refl _ _)) (fun _
    => (.step (audit_within ..) rfl (.step (enableCompat_within ..) rfl (.refl _ _)))))))))) (fun _ => (by split; exacts [(.refl _
    _), (.ite_fst (fun _ => (.refl _ _)) (fun _ => (.ite_fst (fun _ => (.refl _ _)) (fun _ => (.ite_fst (fun _ => (.refl _ _)) (fun
    _ => (.step (takeLife_within ..) rfl (.step (audit_within ..) rfl (.refl _ _)))))))))])))])))) (.refl _ _)

theorem lockChange_step {ps : List Part} {w : Word} {f : Modes → Modes} {s t : State} (c : Part.sub [.recorder, .modes] ps = true)
    (hm : (f t.modes).mode = t.modes.mode) (hl : (f t.modes).life = t.modes.life) (h : Within ps s t) :
    Within ps s (lockChange w f t) := by
  have k : Within [.recorder, .modes] t { t with modes := f t.modes } := .set_modes hm hl rfl (.refl _ _)
  unfold lockChange
  exact .ite (fun _ => .step k c h) (fun _ => .step (audit_within ..) (by revert c; simp [Part.sub]; exact fun a _ => a) (.step k c h))

theorem lockChange_within {w : Word} {f : Modes → Modes} {s : State} (hm : (f s.modes).mode = s.modes.mode)
    (hl : (f s.modes).life = s.modes.life) : Within [.recorder, .modes] s (lockChange w f s) := lockChange_step rfl hm hl (.refl _ _)

theorem execOwnerLock_within (i s) (t : State) (h : execOwnerLock i s = .next t) : Within [.recorder, .host, .power, .modes, .out] s
  t := by
  unfold execOwnerLock at h
  injection h with h
  subst h
  exact runCommand_step rfl (fun _ _ => (.ite_fst (fun _ => (.refl _ _)) (fun _ => (.ite_fst (fun _ => (.refl _ _)) (fun _ => (.ite_fst (fun _ => (.refl _ _)) (fun _ => (by (try dsimp only); exact .step (lockChange_within rfl rfl) rfl (.refl _ _))))))))) (.refl _ _)

theorem execDiagRegRead_within (i s) (t : State) (h : execDiagRegRead i s = .next t) : Within [.host, .time, .plinth, .power, .loop,
  .net, .out] s t := by
  unfold execDiagRegRead at h
  injection h with h
  subst h
  exact runCommand_step rfl (fun _ _ => (by split; exacts [(.refl _ _), (.step (regReads_within ..) rfl (.refl _ _))])) (.refl _ _)

theorem execDiagRegWrite_within (i s) (t : State) (h : execDiagRegWrite i s = .next t) : Within [.recorder, .host, .time, .plinth,
  .power, .cpl, .loop, .group, .net, .can, .panel, .pair, .modes, .cfg, .out] s t := by
  unfold execDiagRegWrite at h
  injection h with h
  subst h
  exact runCommand_step rfl (fun _ _ => (by split; exacts [(.refl _ _), (.step (regWrites_within ..) rfl (.refl _ _))])) (.refl _ _)

theorem bistPass_within (s i) : Within [.recorder, .cpl, .image, .uc, .dig, .group, .net, .can, .modes, .out] s (bistPass s i) := by
  unfold bistPass
  exact .ite (fun _ => (.refl _ _)) (fun _ => (.ite (fun _ => (.step (ucConfigure_within ..) rfl (.step (ucMod_within ..) rfl (.step
    (setHealth_within ..) rfl (.refl _ _))))) (fun _ => (.ite (fun _ => (.foldl (fun _ _ => (.step (digConfigure_within ..) rfl
    (.step (digMod_within ..) rfl (.refl _ _)))) _ (.step (groupMod_within ..) rfl (.step (setHealth_within ..) rfl (.refl _ _)))))
    (fun _ => (.ite (fun _ => (.step (portMod_within ..) rfl (.step (setHealth_within ..) rfl (.refl _ _)))) (fun _ => (.ite (fun _
    => (.step (canConfigure_within ..) rfl (.step (canMod_within ..) rfl (.step (setHealth_within ..) rfl (.refl _ _))))) (fun _ =>
    (.step (setHealth_within ..) rfl (.refl _ _)))))))))))

theorem bistLane_within (i j s k) : Within [.recorder, .power, .cpl, .task, .image, .prog, .loop, .uc, .dig, .safety, .modes, .cfg,
  .out, .fresh] s (bistLane i j s k) := by
  unfold bistLane
  exact .ite (fun _ => (.step (capabilityChanged_within ..) rfl (.step (unusableLane_within ..) rfl (.step (record_within ..) rfl
    (.step (setHealth_within ..) rfl (.step (lanePower_within ..) rfl (.step (laneMod_within ..) rfl (.refl _ _)))))))) (fun _ =>
    (.ite (fun _ => (.step (laneMod_within ..) rfl (.refl _ _))) (fun _ => (.refl _ _))))

theorem execBistRun_within (i j k s) (t : State) (h : execBistRun i j k s = .next t) : Within [.recorder, .host, .power, .cpl,
  .task, .image, .prog, .loop, .uc, .dig, .group, .safety, .net, .can, .modes, .cfg, .out, .fresh] s t := by
  unfold execBistRun at h
  injection h with h
  subst h
  exact runCommand_step rfl (fun _ _ => (by split; exacts [(.refl _ _), (.foldl (fun _ _ => (.step (bistLane_within ..) rfl (.refl _
    _))) _ (.foldl (fun _ _ => (.step (bistMark_within ..) rfl (.refl _ _))) _ (.foldl (fun _ _ => (.step (bistPass_within ..) rfl
    (.refl _ _))) _ (.refl _ _))))])) (.refl _ _)

theorem execConversionComplete_within (i j k l m s) (t : State) (h : execConversionComplete i j k l m s = .next t) : Within
  [.recorder, .cpl, .image, .uc, .dig, .safety, .modes] s t := by
  unfold execConversionComplete at h
  injection h with h
  subst h
  exact reacting_step rfl (.step (stepConversionComplete_within ..) rfl (.refl _ _))

theorem execUcOpenCircuitDetect_within (i j s) (t : State) (h : execUcOpenCircuitDetect i j s = .next t) : Within [.recorder, .cpl,
  .image, .uc, .dig, .safety] s t := by
  unfold execUcOpenCircuitDetect at h
  injection h with h
  subst h
  exact reacting_step rfl (.step (stepUcOpenCircuitDetect_within ..) rfl (.refl _ _))

theorem execTestPulseEnd_within (i j s) (t : State) (h : execTestPulseEnd i j s = .next t) : Within [.recorder, .cpl, .image, .uc,
  .dig, .safety] s t := by
  unfold execTestPulseEnd at h
  injection h with h
  subst h
  exact reacting_step rfl (.step (stepTestPulseEnd_within ..) rfl (.refl _ _))

theorem execUcComplianceLowDetect_within (i j s) (t : State) (h : execUcComplianceLowDetect i j s = .next t) : Within [.recorder,
  .cpl, .image, .uc, .dig, .safety] s t := by
  unfold execUcComplianceLowDetect at h
  injection h with h
  subst h
  exact reacting_step rfl (.step (stepUcComplianceLowDetect_within ..) rfl (.refl _ _))

theorem execUcShortCircuitDetect_within (i j s) (t : State) (h : execUcShortCircuitDetect i j s = .next t) : Within [.recorder,
  .cpl, .image, .uc, .dig, .safety] s t := by
  unfold execUcShortCircuitDetect at h
  injection h with h
  subst h
  exact reacting_step rfl (.step (stepUcShortCircuitDetect_within ..) rfl (.refl _ _))

theorem execOutputMismatchDetect_within (i j s) (t : State) (h : execOutputMismatchDetect i j s = .next t) : Within [.recorder,
  .cpl, .image, .uc, .dig, .safety] s t := by
  unfold execOutputMismatchDetect at h
  injection h with h
  subst h
  exact reacting_step rfl (.step (stepOutputMismatchDetect_within ..) rfl (.refl _ _))

theorem execSwitchShortCircuit_within (i j s) (t : State) (h : execSwitchShortCircuit i j s = .next t) : Within [.recorder, .cpl,
  .image, .uc, .dig, .safety] s t := by
  unfold execSwitchShortCircuit at h
  injection h with h
  subst h
  exact reacting_step rfl (.step (stepSwitchShortCircuit_within ..) rfl (.refl _ _))

theorem execGroupOverloadShed_within (i j k s) (t : State) (h : execGroupOverloadShed i j k s = .next t) : Within [.recorder, .cpl,
  .image, .uc, .dig, .group, .safety] s t := by
  unfold execGroupOverloadShed at h
  injection h with h
  subst h
  exact reacting_step rfl (.step (stepGroupOverloadShed_within ..) rfl (.refl _ _))

theorem execOpenLoadDetect_within (i j s) (t : State) (h : execOpenLoadDetect i j s = .next t) : Within [.recorder, .cpl, .image,
  .uc, .dig, .safety] s t := by
  unfold execOpenLoadDetect at h
  injection h with h
  subst h
  exact reacting_step rfl (.step (stepOpenLoadDetect_within ..) rfl (.refl _ _))

theorem execGroupConverterFault_within (i s) (t : State) (h : execGroupConverterFault i s = .next t) : Within [.recorder, .cpl,
  .image, .uc, .dig, .group, .safety, .modes] s t := by
  unfold execGroupConverterFault at h
  injection h with h
  subst h
  exact reacting_step rfl (.step (stepGroupConverterFault_within ..) rfl (.refl _ _))

theorem execChanTest_within (i j k s) (t : State) (h : execChanTest i j k s = .next t) : Within [.recorder, .host, .power, .cpl,
  .image, .uc, .dig, .safety, .out] s t := by
  unfold execChanTest at h
  injection h with h
  subst h
  exact reacting_step rfl (.step (stepChanTest_within ..) rfl (.refl _ _))

theorem discardBlock_within (s) : Within [.image] s (discardBlock s) := by
  unfold discardBlock
  exact .set_image rfl (.refl _ _)

theorem countEntries_within (i j s) : Within [.recorder, .image] s (countEntries i j s) := by
  unfold countEntries
  exact .ite (fun _ => (.step (record_within ..) rfl (.step (stationMod_within ..) rfl (.set_image rfl (.refl _ _))))) (fun _ =>
    (.set_image rfl (.refl _ _)))

theorem acceptBlock_within (i j k s) : Within [.recorder, .cpl, .image] s (acceptBlock i j k s) := by
  unfold acceptBlock
  exact .ite (fun _ => (.step (countEntries_within ..) rfl (.step (stationMod_within ..) rfl (.refl _ _)))) (fun _ => (.ite (fun _
    => (.step (intake_within ..) rfl (.step (countEntries_within ..) rfl (.step (stationMod_within ..) rfl (.refl _ _))))) (fun _ =>
    (.step (intakeFull_within ..) rfl (.step (stationMod_within ..) rfl (.step (countEntries_within ..) rfl (.step
    (stationMod_within ..) rfl (.refl _ _))))))))

theorem drainHeld_within (i j s) : Within [.recorder, .cpl, .image] s (drainHeld i j s) := by
  unfold drainHeld
  exact (by split; exacts [(.refl _ _), (by split; exacts [(.refl _ _), (.ite (fun _ => (.step (drainHeld_within ..) rfl (.step
    (discardBlock_within ..) rfl (.step (stationMod_within ..) rfl (.refl _ _))))) (fun _ => (.ite (fun _ => (.step
    (drainHeld_within ..) rfl (.step (acceptBlock_within ..) rfl (.step (stationMod_within ..) rfl (.refl _ _))))) (fun _ => (.refl
    _ _)))))])])

theorem orderBlock_within (i j s) : Within [.recorder, .cpl, .image] s (orderBlock i j s) := by
  unfold orderBlock
  exact .ite (fun _ => (.step (acceptBlock_within ..) rfl (.step (stationMod_within ..) rfl (.refl _ _)))) (fun _ => (.ite (fun _ =>
    (.step (discardBlock_within ..) rfl (.refl _ _))) (fun _ => (.ite (fun _ => (.step (drainHeld_within ..) rfl (.step
    (acceptBlock_within ..) rfl (.refl _ _)))) (fun _ => (.step (stationMod_within ..) rfl (.refl _ _)))))))

theorem execPubBlockReceived_within (i j s) (t : State) (h : execPubBlockReceived i j s = .next t) : Within [.recorder, .cpl,
  .image] s t := by
  unfold execPubBlockReceived at h
  injection h with h
  subst h
  exact .ite (fun _ => (.refl _ _)) (fun _ => (.ite (fun _ => (.ite (fun _ => (.step (record_within ..) rfl (.set_image rfl (.step
    (discardBlock_within ..) rfl (.refl _ _))))) (fun _ => (.step (discardBlock_within ..) rfl (.refl _ _))))) (fun _ =>
    (by split; exacts [(.step (discardBlock_within ..) rfl (.refl _ _)), (.ite (fun _ => (.step (discardBlock_within ..) rfl (.refl
    _ _))) (fun _ => (.step (orderBlock_within ..) rfl (.refl _ _))))]))))

theorem applyHeld_within (i j s) : Within [.recorder, .cpl, .image] s (applyHeld i j s) := by
  unfold applyHeld
  exact .foldl (fun _ _ => (.ite (fun _ => (.step (discardBlock_within ..) rfl (.refl _ _))) (fun _ => (.step (acceptBlock_within
    ..) rfl (.refl _ _))))) _ (.step (stationMod_within ..) rfl (.refl _ _))

theorem execPubGapHoldExpiry_within (i s) (t : State) (h : execPubGapHoldExpiry i s = .next t) : Within [.recorder, .cpl, .image] s
  t := by
  unfold execPubGapHoldExpiry at h
  injection h with h
  subst h
  exact .ite (fun _ => (.step (applyHeld_within ..) rfl (.refl _ _))) (fun _ => (.refl _ _))

theorem execPeerTimeout_within (i s) (t : State) (h : execPeerTimeout i s = .next t) : Within [.cpl, .image] s t := by
  unfold execPeerTimeout at h
  injection h with h
  subst h
  exact .ite (fun _ => (.step (intakeOwn_within ..) rfl (.refl _ _))) (fun _ => (.refl _ _))

theorem execPeerLossTime_within (i s) (t : State) (h : execPeerLossTime i s = .next t) : Within [.cpl, .image] s t := by
  unfold execPeerLossTime at h
  injection h with h
  subst h
  exact .ite (fun _ => (.step (intakeOwn_within ..) rfl (.refl _ _))) (fun _ => (.refl _ _))

theorem mergeBlock_within (i j s) : Within [.recorder, .host, .image] s (mergeBlock i j s) := by
  unfold mergeBlock
  exact (by split; exacts [(.ite (fun _ => (by dsimp -proj only; split; exacts [(.ite (fun _ => (.ite (fun _ => (.step
    (setMirror_within ..) rfl (.step (stationMod_within ..) rfl (.step (stationMod_within ..) rfl (by split; exacts [(.step
    (setMirror_within ..) rfl (.ite (fun _ => (.step (findGap_within ..) rfl (.refl _ _))) (fun _ => (.refl _ _)))), (.step
    (setMirror_within ..) rfl (.ite (fun _ => (.step (findGap_within ..) rfl (.refl _ _))) (fun _ => (.refl _ _)))), (.step
    (setMirror_within ..) rfl (.ite (fun _ => (.step (findGap_within ..) rfl (.refl _ _))) (fun _ => (.refl _ _)))), (.ite (fun _ =>
    (.step (findGap_within ..) rfl (.refl _ _))) (fun _ => (.refl _ _)))]))))) (fun _ => (.step (stationMod_within ..) rfl (.step
    (stationMod_within ..) rfl (by split; exacts [(.step (setMirror_within ..) rfl (.ite (fun _ => (.step (findGap_within ..) rfl
    (.refl _ _))) (fun _ => (.refl _ _)))), (.step (setMirror_within ..) rfl (.ite (fun _ => (.step (findGap_within ..) rfl (.refl _
    _))) (fun _ => (.refl _ _)))), (.step (setMirror_within ..) rfl (.ite (fun _ => (.step (findGap_within ..) rfl (.refl _ _)))
    (fun _ => (.refl _ _)))), (.ite (fun _ => (.step (findGap_within ..) rfl (.refl _ _))) (fun _ => (.refl _ _)))])))))) (fun _ =>
    (.step (stationMod_within ..) rfl (by split; exacts [(.step (setMirror_within ..) rfl (.ite (fun _ => (.step (findGap_within ..)
    rfl (.refl _ _))) (fun _ => (.refl _ _)))), (.step (setMirror_within ..) rfl (.ite (fun _ => (.step (findGap_within ..) rfl
    (.refl _ _))) (fun _ => (.refl _ _)))), (.step (setMirror_within ..) rfl (.ite (fun _ => (.step (findGap_within ..) rfl (.refl _
    _))) (fun _ => (.refl _ _)))), (.ite (fun _ => (.step (findGap_within ..) rfl (.refl _ _))) (fun _ => (.refl _ _)))])))), (.step
    (stationMod_within ..) rfl (by split; exacts [(.step (setMirror_within ..) rfl (.ite (fun _ => (.step (findGap_within ..) rfl
    (.refl _ _))) (fun _ => (.refl _ _)))), (.step (setMirror_within ..) rfl (.ite (fun _ => (.step (findGap_within ..) rfl (.refl _
    _))) (fun _ => (.refl _ _)))), (.step (setMirror_within ..) rfl (.ite (fun _ => (.step (findGap_within ..) rfl (.refl _ _)))
    (fun _ => (.refl _ _)))), (.ite (fun _ => (.step (findGap_within ..) rfl (.refl _ _))) (fun _ => (.refl _ _)))]))])) (fun _ =>
    (by split; exacts [(.step (setMirror_within ..) rfl (.ite (fun _ => (.step (findGap_within ..) rfl (.refl _ _))) (fun _ =>
    (.refl _ _)))), (.step (setMirror_within ..) rfl (.ite (fun _ => (.step (findGap_within ..) rfl (.refl _ _))) (fun _ => (.refl _
    _)))), (.step (setMirror_within ..) rfl (.ite (fun _ => (.step (findGap_within ..) rfl (.refl _ _))) (fun _ => (.refl _ _)))),
    (.ite (fun _ => (.step (findGap_within ..) rfl (.refl _ _))) (fun _ => (.refl _ _)))]))), (.refl _ _)])

theorem mergeDiscards_within (i s) : Within [.recorder, .host, .image] s (mergeDiscards i s) := by
  unfold mergeDiscards
  exact .foldl (fun _ _ => (.step (findGap_within ..) rfl (.step (stationMod_within ..) rfl (.refl _ _)))) _ (.refl _ _)

theorem applyAll_within (i j k s) : Within [.recorder, .host, .image, .pub] s (applyAll i j k s) := by
  unfold applyAll
  exact .foldl (fun _ _ => (.step (applyEntry_within ..) rfl (.refl _ _))) _ (.refl _ _)

theorem afterEvent_within (i s) : Within [.recorder, .host, .power, .image, .pub, .net, .can, .cfg, .out] s (afterEvent i s) := by
  unfold afterEvent
  exact .step (poolSweep_within ..) rfl (.step (subFillAll_within ..) rfl (.step (publishFull_within ..) rfl (.step
    (outputsAfter_within ..) rfl (.step (noteEvent_within ..) rfl (.refl _ _)))))

theorem mergeOwn_within (i s) : Within [.recorder, .host, .power, .cpl, .image, .pub, .prog, .loop, .uc, .dig, .group, .safety,
  .net, .can, .panel, .updates, .modes, .cfg, .out] s (mergeOwn i s) := by
  unfold mergeOwn
  exact .step (afterEvent_within ..) rfl (.ite (fun _ => (.step (emit_within ..) rfl (.step (exchangeMerge_within ..) rfl (.foldl
    (fun _ _ => (.step (applyAll_within ..) rfl (.step (mergeBlock_within ..) rfl (.refl _ _)))) _ (.step (mergeDiscards_within ..)
    rfl (.set_image rfl (.refl _ _))))))) (fun _ => (.step (exchangeMerge_within ..) rfl (.foldl (fun _ _ => (.step (applyAll_within
    ..) rfl (.step (mergeBlock_within ..) rfl (.refl _ _)))) _ (.step (mergeDiscards_within ..) rfl (.set_image rfl (.refl _
    _)))))))

theorem mergeAgreed_within (i j s) : Within [.recorder, .host, .cpl, .image, .pub, .prog, .loop, .uc, .dig, .group, .safety, .net,
  .can, .panel, .updates, .pair, .modes, .cfg, .out] s (mergeAgreed i j s) := by
  unfold mergeAgreed
  exact .step (poolSweep_within ..) rfl (.step (noteEvent_within ..) rfl (.step (exchangeMerge_within ..) rfl (.step
    (applyAll_within ..) rfl (.foldl (fun _ _ => (.step (mergeBlock_within ..) rfl (.refl _ _))) _ (.set_image_pair rfl (.refl _
    _))))))

theorem mergeAmong_step {ps : List Part} {n : Nat} {p : List Lane} {d : List (Lane × Nat)} {f : State → State} {s t : State}
    (c : Part.sub [.recorder, .power, .cpl, .task, .retained, .image, .prog, .loop, .uc, .dig, .safety, .can, .pair, .modes, .cfg, .out, .fresh, .mode] ps = true) (h : Within ps s (f t)) (k : Within ps s t) : Within ps s (mergeAmong n p d f t) := by
  unfold mergeAmong
  dsimp only
  split
  · exact .step ((followTasks_within ..).mono rfl) c (.step ((unresolvedMismatch_within ..).mono rfl) c k)
  · exact .step ((followTasks_within ..).mono rfl) c (.step ((oddLanes_within ..).mono rfl) c h)

theorem mergeAmong_within {n : Nat} {p : List Lane} {d : List (Lane × Nat)} {f : State → State} {s : State}
    (h : Within [.recorder, .power, .cpl, .task, .retained, .image, .prog, .loop, .uc, .dig, .safety, .can, .pair, .modes, .cfg, .out, .fresh, .mode] s (f s)) : Within [.recorder, .power, .cpl, .task, .retained, .image, .prog, .loop, .uc, .dig, .safety, .can, .pair, .modes, .cfg, .out, .fresh, .mode] s (mergeAmong n p d f s) := mergeAmong_step rfl h (.refl _ _)

theorem mergeAt_within (i j k s) : Within [.recorder, .host, .power, .cpl, .task, .retained, .image, .pub, .prog, .loop, .uc, .dig,
  .group, .safety, .net, .can, .panel, .updates, .pair, .modes, .cfg, .out, .fresh, .mode] s (mergeAt i j k s) := by
  unfold mergeAt
  exact .ite (fun _ => (by split; exacts [(.refl _ _), (mergeAmong_step rfl (.step (mergeAgreed_within ..) rfl (.refl _ _)) (.refl _
    _))])) (fun _ => (.ite (fun _ => (.refl _ _)) (fun _ => (mergeAmong_step rfl (.step (mergeOwn_within ..) rfl (.refl _ _)) (.refl
    _ _)))))

theorem execMergeTick_within (s i j) (t : State) (h : execMergeTick s i j = .next t) : Within [.recorder, .host, .power, .cpl,
  .task, .retained, .image, .pub, .prog, .loop, .uc, .dig, .group, .safety, .net, .can, .panel, .updates, .pair, .modes, .cfg, .out,
  .fresh, .mode] s t := by
  unfold execMergeTick at h
  injection h with h
  subst h
  exact .ite (fun _ => (.refl _ _)) (fun _ => (.step (mergeAt_within ..) rfl (.step (adoptTables_within ..) rfl (.set_image rfl
    (.refl _ _)))))

theorem execPerSecondCoalescing_within (s) (t : State) (h : execPerSecondCoalescing s = .next t) : Within [.recorder, .image] s t :=
  by
  unfold execPerSecondCoalescing at h
  injection h with h
  subst h
  exact .set_image rfl (.foldl (fun _ _ => (.step (recordSig_within ..) rfl (.refl _ _))) _ (.foldl (fun _ _ => (.step
    (record_within ..) rfl (.refl _ _))) _ (.foldl (fun _ _ => (.step (record_within ..) rfl (.refl _ _))) _ (.refl _ _))))

theorem recMod_within (i s) : Within [.recorder] s (recMod i s) := by
  unfold recMod
  exact .set_recorder rfl (.refl _ _)

theorem place_within (i s) : Within [.recorder] s (place i s) := by
  unfold place
  exact .ite (fun _ => (.step (recMod_within ..) rfl (.refl _ _))) (fun _ => (by dsimp -proj only; split; exacts [(.step
    (recMod_within ..) rfl (.refl _ _)), (.step (recMod_within ..) rfl (.refl _ _))]))

theorem stageWaiting_within (i j s) : Within [.recorder] s (stageWaiting i j s) := by
  unfold stageWaiting
  exact (by split; exacts [(.step (recMod_within ..) rfl (.refl _ _)), (.ite (fun _ => (.step (stageWaiting_within ..) rfl (.step
    (recMod_within ..) rfl (.refl _ _)))) (fun _ => (.step (stageWaiting_within ..) rfl (.refl _ _))))])

theorem execRecorderWrite_within (s) (t : State) (h : execRecorderWrite s = .next t) : Within [.recorder, .power] s t := by
  unfold execRecorderWrite at h
  injection h with h
  subst h
  exact .ite (fun _ => (.refl _ _)) (fun _ => (by split; exacts [(.refl _ _), (.step (stageWaiting_within ..) rfl (.ite (fun _ =>
    (.step (place_within ..) rfl (.step (demandClock_within ..) rfl (.set_recorder rfl (.refl _ _))))) (fun _ => (.step
    (pathDelivered_within ..) rfl (.step (place_within ..) rfl (.step (demandClock_within ..) rfl (.set_recorder rfl (.refl _
    _))))))))]))

theorem placePowerFail_within (s) : Within [.recorder] s (placePowerFail s) := by
  unfold placePowerFail
  exact .step (place_within ..) rfl (.refl _ _)

theorem execEvtRead_within (i s) (t : State) (h : execEvtRead i s = .next t) : Within [.recorder, .host, .power, .out] s t := by
  unfold execEvtRead at h
  injection h with h
  subst h
  exact runCommand_step rfl (fun _ _ => (.ite_fst (fun _ => (.refl _ _)) (fun _ => (.ite_fst (fun _ => (.refl _ _)) (fun _ =>
    (.ite_fst (fun _ => (.refl _ _)) (fun _ => (.foldl (fun _ _ => (.step (pathDelivered_within ..) rfl (.refl _ _))) _ (.step
    (offeredMany_within ..) rfl (.refl _ _)))))))))) (.refl _ _)

theorem execEvtClear_within (i s) (t : State) (h : execEvtClear i s = .next t) : Within [.recorder, .host, .power, .out] s t := by
  unfold execEvtClear at h
  injection h with h
  subst h
  exact runCommand_step rfl (fun _ _ => (.step (place_within ..) rfl (.step (recMod_within ..) rfl (.refl _ _)))) (.refl _ _)

theorem execEvtStats_within (i s) (t : State) (h : execEvtStats i s = .next t) : Within [.host, .power, .out] s t := by
  unfold execEvtStats at h
  injection h with h
  subst h
  exact .step (readCommand_within ..) rfl (.refl _ _)

theorem execFloodSummary_within (s) (t : State) (h : execFloodSummary s = .next t) : Within [.recorder] s t := by
  unfold execFloodSummary at h
  injection h with h
  subst h
  exact .ite (fun _ => (.step (admitRecord_within ..) rfl (.foldl (fun _ _ => (.step (pathMod_within ..) rfl (.refl _ _))) _ (.step
    (recMod_within ..) rfl (.refl _ _))))) (fun _ => (.refl _ _))

theorem feedFalls_within (i s) : Within [.recorder, .power] s (feedFalls i s) := by
  unfold feedFalls
  exact (by split; exacts [(.step (record_within ..) rfl (.step (powerMod_within ..) rfl (.refl _ _))), (.step (record_within ..)
    rfl (.step (powerMod_within ..) rfl (.refl _ _)))])

theorem execFeedUndervoltage_within (i s) (t : State) (h : execFeedUndervoltage i s = .next t) : Within [.recorder, .power] s t :=
  by
  unfold execFeedUndervoltage at h
  injection h with h
  subst h
  exact .ite (fun _ => (.step (feedFalls_within ..) rfl (.refl _ _))) (fun _ => (.refl _ _))

theorem execFeedRestored_within (i s) (t : State) (h : execFeedRestored i s = .next t) : Within [.recorder, .host, .time, .plinth,
  .power, .cpl, .task, .retained, .image, .pub, .prog, .loop, .uc, .dig, .counter, .group, .safety, .net, .can, .panel, .updates,
  .pair, .modes, .cfg, .fw, .fresh, .mode, .life] s t := by
  unfold execFeedRestored at h
  injection h with h
  subst h
  exact .ite (fun _ => (.step (enterBoot_within ..) rfl (by split; exacts [(.step (powerMod_within ..) rfl (.refl _ _)), (.step
    (powerMod_within ..) rfl (.refl _ _))]))) (fun _ => (by split; exacts [(.step (powerMod_within ..) rfl (.refl _ _)), (.step
    (powerMod_within ..) rfl (.refl _ _))]))

theorem execPowerFail_within (s) (t : State) (h : execPowerFail s = .next t) : Within [.recorder, .plinth, .power, .cpl, .task,
  .image, .prog, .uc, .dig, .safety, .can, .pair, .modes, .cfg, .out, .mode] s t := by
  unfold execPowerFail at h
  injection h with h
  subst h
  exact .ite (fun _ => (.refl _ _)) (fun _ => (.step (placePowerFail_within ..) rfl (.ite (fun _ => (.step (selfDemote_within ..)
    rfl (.ite (fun _ => (.step (bkp2Bit_within ..) rfl (.step (powerMod_within ..) rfl (.ite (fun _ => (.step (feedFalls_within ..)
    rfl (.ite (fun _ => (.step (feedFalls_within ..) rfl (.refl _ _))) (fun _ => (.refl _ _))))) (fun _ => (.ite (fun _ => (.step
    (feedFalls_within ..) rfl (.refl _ _))) (fun _ => (.refl _ _)))))))) (fun _ => (.step (powerMod_within ..) rfl (.ite (fun _ =>
    (.step (feedFalls_within ..) rfl (.ite (fun _ => (.step (feedFalls_within ..) rfl (.refl _ _))) (fun _ => (.refl _ _))))) (fun _
    => (.ite (fun _ => (.step (feedFalls_within ..) rfl (.refl _ _))) (fun _ => (.refl _ _)))))))))) (fun _ => (.ite (fun _ =>
    (.step (bkp2Bit_within ..) rfl (.step (powerMod_within ..) rfl (.ite (fun _ => (.step (feedFalls_within ..) rfl (.ite (fun _ =>
    (.step (feedFalls_within ..) rfl (.refl _ _))) (fun _ => (.refl _ _))))) (fun _ => (.ite (fun _ => (.step (feedFalls_within ..)
    rfl (.refl _ _))) (fun _ => (.refl _ _)))))))) (fun _ => (.step (powerMod_within ..) rfl (.ite (fun _ => (.step
    (feedFalls_within ..) rfl (.ite (fun _ => (.step (feedFalls_within ..) rfl (.refl _ _))) (fun _ => (.refl _ _))))) (fun _ =>
    (.ite (fun _ => (.step (feedFalls_within ..) rfl (.refl _ _))) (fun _ => (.refl _ _))))))))))))

theorem plinthState_within (s) : Within [.recorder, .host, .time, .power, .cpl, .task, .retained, .image, .pub, .prog, .loop, .uc,
  .dig, .counter, .group, .safety, .net, .can, .panel, .updates, .pair, .modes, .cfg, .mode, .life] s (plinthState s) := by
  unfold plinthState
  exact .set_power_modes_mode rfl rfl (.step (bootState_within ..) rfl (.refl _ _))

theorem execHoldUpEnd_within (s) (t : State) (h : execHoldUpEnd s = .next t) : Within [.recorder, .host, .time, .plinth, .power,
  .cpl, .task, .retained, .image, .pub, .prog, .loop, .uc, .dig, .counter, .group, .safety, .net, .can, .panel, .updates, .pair,
  .modes, .cfg, .fw, .fresh, .mode, .life] s t := by
  unfold execHoldUpEnd at h
  injection h with h
  subst h
  exact .ite (fun _ => (.refl _ _)) (fun _ => (.ite (fun _ => (.step (enterBoot_within ..) rfl (.step (plinthState_within ..) rfl
    (.step (settleWriting_within ..) rfl (.refl _ _))))) (fun _ => (.step (plinthState_within ..) rfl (.step (settleWriting_within
    ..) rfl (.refl _ _))))))

theorem execRefFault_within (i s) (t : State) (h : execRefFault i s = .next t) : Within [.recorder, .power, .cpl, .task, .image,
  .prog, .uc, .dig, .safety, .can, .pair, .modes, .cfg, .out, .mode] s t := by
  unfold execRefFault at h
  injection h with h
  subst h
  exact .ite (fun _ => (.refl _ _)) (fun _ => (.step (selfDemote_within ..) rfl (.ite (fun _ => (.step (powerMod_within ..) rfl
    (.refl _ _))) (fun _ => (.step (record_within ..) rfl (.step (powerMod_within ..) rfl (.refl _ _)))))))

theorem execLaneRailFault_within (i s) (t : State) (h : execLaneRailFault i s = .next t) : Within [.recorder, .power, .cpl, .task,
  .retained, .image, .prog, .loop, .uc, .dig, .safety, .can, .pair, .modes, .cfg, .out, .fresh, .mode] s t := by
  unfold execLaneRailFault at h
  injection h with h
  subst h
  exact .ite (fun _ => (.step (followTasks_within ..) rfl (.step (excludeLane_within ..) rfl (.step (powerMod_within ..) rfl (.refl
    _ _))))) (fun _ => (.refl _ _))

theorem execMgmtClockDemand_within (i s) (t : State) (h : execMgmtClockDemand i s = .next t) : Within [.power] s t := by
  unfold execMgmtClockDemand at h
  injection h with h
  subst h
  exact .ite (fun _ => (.step (demandClock_within ..) rfl (.refl _ _))) (fun _ => (.refl _ _))

theorem execMgmtClockFall_within (s) (t : State) (h : execMgmtClockFall s = .next t) : Within [.power] s t := by
  unfold execMgmtClockFall at h
  injection h with h
  subst h
  exact .ite (fun _ => (.step (powerMod_within ..) rfl (.refl _ _))) (fun _ => (.refl _ _))

theorem wakeLane_within (i s) : Within [.power] s (wakeLane i s) := by
  unfold wakeLane
  exact .ite (fun _ => (.step (lanePower_within ..) rfl (.refl _ _))) (fun _ => (.refl _ _))

theorem execLaneWake_within (i s) (t : State) (h : execLaneWake i s = .next t) : Within [.power] s t := by
  unfold execLaneWake at h
  injection h with h
  subst h
  exact .ite (fun _ => (.step (wakeLane_within ..) rfl (.refl _ _))) (fun _ => (.refl _ _))

theorem execMergeWake_within (s) (t : State) (h : execMergeWake s = .next t) : Within [.power] s t := by
  unfold execMergeWake at h
  injection h with h
  subst h
  exact .ite (fun _ => (.foldl (fun _ _ => (.step (wakeLane_within ..) rfl (.refl _ _))) _ (.refl _ _))) (fun _ => (.refl _ _))

theorem warmRecord_within (s) : Within [.recorder, .power] s (warmRecord s) := by
  unfold warmRecord
  exact .ite (fun _ => (.step (record_within ..) rfl (.step (powerMod_within ..) rfl (.refl _ _)))) (fun _ => (.refl _ _))

theorem hotRecord_within (s) : Within [.recorder, .power] s (hotRecord s) := by
  unfold hotRecord
  exact .ite (fun _ => (.step (record_within ..) rfl (.step (powerMod_within ..) rfl (.refl _ _)))) (fun _ => (.refl _ _))

theorem enteredRecords_within (i s) : Within [.recorder, .power] s (enteredRecords i s) := by
  unfold enteredRecords
  exact .ite (fun _ => (.ite (fun _ => (.refl _ _)) (fun _ => (.step (warmRecord_within ..) rfl (.refl _ _))))) (fun _ => (.step
    (hotRecord_within ..) rfl (.ite (fun _ => (.refl _ _)) (fun _ => (.step (warmRecord_within ..) rfl (.refl _ _))))))

theorem execDieTemperature_within (i j s) (t : State) (h : execDieTemperature i j s = .next t) : Within [.recorder, .power, .cpl,
  .task, .image, .prog, .uc, .dig, .safety, .can, .pair, .modes, .cfg, .out, .mode] s t := by
  unfold execDieTemperature at h
  injection h with h
  subst h
  exact .ite (fun _ => (.refl _ _)) (fun _ => (.ite (fun _ => (.step (selfDemote_within ..) rfl (.step (enteredRecords_within ..)
    rfl (.step (powerMod_within ..) rfl (.refl _ _))))) (fun _ => (.step (enteredRecords_within ..) rfl (.step (powerMod_within ..)
    rfl (.refl _ _))))))

theorem execDieTempRepeat_within (s) (t : State) (h : execDieTempRepeat s = .next t) : Within [.recorder, .power] s t := by
  unfold execDieTempRepeat at h
  injection h with h
  subst h
  exact .ite (fun _ => (.step (hotRecord_within ..) rfl (.step (warmRecord_within ..) rfl (.refl _ _)))) (fun _ => (.refl _ _))

theorem execResetN_within (s) (t : State) (h : execResetN s = .next t) : Within [.recorder, .host, .time, .plinth, .power, .cpl,
  .task, .retained, .image, .pub, .prog, .loop, .uc, .dig, .counter, .group, .safety, .net, .can, .panel, .updates, .pair, .modes,
  .cfg, .fw, .fresh, .mode, .life] s t := by
  unfold execResetN at h
  injection h with h
  subst h
  exact .ite (fun _ => (.step (enterBoot_within ..) rfl (.refl _ _))) (fun _ => (.refl _ _))

theorem execMgmtWatchdogReset_within (s) (t : State) (h : execMgmtWatchdogReset s = .next t) : Within [.recorder, .host, .time,
  .plinth, .power, .cpl, .task, .retained, .image, .pub, .prog, .loop, .uc, .dig, .counter, .group, .safety, .net, .can, .panel,
  .updates, .pair, .modes, .cfg, .fw, .fresh, .mode, .life] s t := by
  unfold execMgmtWatchdogReset at h
  injection h with h
  subst h
  exact .ite (fun _ => (.step (enterBoot_within ..) rfl (.refl _ _))) (fun _ => (.refl _ _))

theorem execManoeuvringInput_within (i s) (t : State) (h : execManoeuvringInput i s = .next t) : Within [.modes] s t := by
  unfold execManoeuvringInput at h
  injection h with h
  subst h
  exact .set_modes rfl rfl rfl (.refl _ _)

theorem execOwnerLockInput_within (i s) (t : State) (h : execOwnerLockInput i s = .next t) : Within [.recorder, .modes] s t := by
  unfold execOwnerLockInput at h
  injection h with h
  subst h
  exact .ite (fun _ => (.step (lockChange_within rfl rfl) rfl (.refl _ _))) (fun _ => (.set_modes rfl rfl rfl (.refl _ _)))

theorem execTckWhileClosed_within (s) (t : State) (h : execTckWhileClosed s = .next t) : Within [.recorder, .modes] s t := by
  unfold execTckWhileClosed at h
  injection h with h
  subst h
  exact .ite (fun _ => (.refl _ _)) (fun _ => (.step (record_within ..) rfl (.set_modes rfl rfl rfl (.refl _ _))))

end Sys2Proof.Machine
end

