-- ==== Sys2Proof/Laws/Modes.lean ====
section
/-! SUPPORT. What the operations that change the mode do to it (R448, R450). -/

namespace Sys2Proof.Machine

seal followTasks

/-- A frame without the mode keeps the mode. -/
theorem Within.mode_eq {ps : List Part} {s t : State} (h : Within ps s t) (c : ps.contains .mode = false) :
    t.modes.mode = s.modes.mode := h.same _ c

theorem enterSafe_mode (s : State) : (enterSafe s).modes.mode = .safe := by
  unfold enterSafe
  split
  · assumption
  · rw [(canFollow_within _).mode_eq rfl, (record_within ..).mode_eq rfl, (outputsOff_within _).mode_eq rfl,
      (stopTasks_within _).mode_eq rfl]

theorem enterMaintenance_mode (s : State) : (enterMaintenance s).modes.mode = .maintenance := by
  unfold enterMaintenance
  rw [(canFollow_within _).mode_eq rfl, (outputsOff_within _).mode_eq rfl, (stopTasks_within _).mode_eq rfl]

/-- The mode stays, or STOP, RUN, HOLD or STANDBY becomes SAFE. -/
def ToSafe (s t : State) : Prop :=
  t.modes.mode = s.modes.mode ∨ (programMode s.modes.mode || s.modes.mode == .standby) = true ∧ t.modes.mode = .safe

theorem ToSafe.refl (s : State) : ToSafe s s := .inl rfl

theorem ToSafe.trans {s t u : State} (h : ToSafe s t) (k : ToSafe t u) : ToSafe s u := by
  rcases h with h | ⟨h, hs⟩ <;> rcases k with k | ⟨k, ks⟩
  · exact .inl (k.trans h)
  · exact .inr ⟨h ▸ k, ks⟩
  · exact .inr ⟨h, k.trans hs⟩
  · rw [hs] at k; cases k

theorem ToSafe.of_within {ps : List Part} {s t : State} (h : Within ps s t) (c : ps.contains .mode = false) : ToSafe s t :=
  .inl (h.mode_eq c)

/-- One more change that keeps the mode. -/
theorem ToSafe.step {ps : List Part} {s t u : State} (h : Within ps t u) (c : ps.contains .mode = false) (k : ToSafe s t) : ToSafe s u :=
  k.trans (.of_within h c)

theorem ToSafe.foldl {α : Type} {f : State → α → State} (h : ∀ t x, ToSafe t (f t x)) (xs : List α) (s : State) :
    ToSafe s (xs.foldl f s) := by
  induction xs generalizing s with
  | nil => exact .refl s
  | cons x xs ih => exact (h s x).trans (ih _)

theorem enterSafe_toSafe {s : State} (h : (programMode s.modes.mode || s.modes.mode == .standby) = true) : ToSafe s (enterSafe s) :=
  .inr ⟨h, enterSafe_mode s⟩

theorem selfDemote_toSafe (cause : Nat) (b : Bool) (s : State) : ToSafe s (selfDemote cause b s) := by
  have hs : ∀ f : Pair → Pair, ToSafe s { s with pair := f s.pair } := fun f =>
    .of_within (ps := [.pair]) (.set_pair rfl (.refl _ _)) rfl
  unfold selfDemote
  split
  iterate 3
    · rename_i hm
      split
      · exact .of_within (demote_within ..) rfl
      · exact hs fun p => { p with toSafe := p.toSafe || b }
      · exact enterSafe_toSafe (by simp [programMode, hm])
  · rename_i hm
    exact enterSafe_toSafe (by simp [programMode, hm])
  · exact .refl s

theorem unresolvedMismatch_toSafe (src : Word) (s : State) : ToSafe s (unresolvedMismatch src s) := by
  unfold unresolvedMismatch escalate
  extract_lets again u
  split
  · exact .trans (.of_within (countMismatch_within ..) rfl) (selfDemote_toSafe ..)
  · exact .of_within (countMismatch_within ..) rfl

theorem couplerFault_toSafe (src : Word) (s : State) : ToSafe s (couplerFault src s) :=
  .trans (.step (countMismatch_within ..) rfl (.of_within (ps := [.cpl]) (.set_cpl rfl (.refl _ _)) rfl)) (selfDemote_toSafe ..)

theorem excludeLane_toSafe (l : Lane) (s : State) : ToSafe s (excludeLane l s) := by
  unfold excludeLane
  split
  · exact .refl _
  · exact .refl _
  · exact .refl _
  · extract_lets s1 s2 s3 t s4
    have h1 : ToSafe s s1 := .of_within (dropLane_within ..) rfl
    have h2 : ToSafe s s2 := by
      simp only [s2]
      split
      · exact .step (unusableLane_within ..) rfl (.step (dropLane_within ..) rfl h1)
      · exact h1
    clear_value s2
    have h3 : ToSafe s s3 := .step (unusableLane_within ..) rfl h2
    clear_value s3
    have h4 : ToSafe s s4 := by
      simp only [s4]
      split
      · have hk : ToSafe s t := .step (record_within ..) rfl h3
        clear_value t
        split <;> first | exact hk | exact hk.trans (enterSafe_toSafe (by simp_all [programMode]))
      · exact .step (record_within ..) rfl h3
      · split
        · exact .step (soleLane_within ..) rfl h3
        · exact h3
      · exact h3
    clear_value s4
    exact .step (tryResync_within _) rfl (.step (capabilityChanged_within _) rfl h4)

theorem oddLanes_toSafe (os : List Lane) (s : State) : ToSafe s (oddLanes os s) := .foldl (fun t x => excludeLane_toSafe x t) _ _

theorem discardUnresolved_toSafe (t : Nat) (x : Option (List Nat)) (s : State) : ToSafe s (discardUnresolved t x s) :=
  .trans (.of_within (discardDisagreed_within ..) rfl) (unresolvedMismatch_toSafe ..)

theorem discardFaulty_toSafe (t : Nat) (s : State) : ToSafe s (discardFaulty t s) :=
  .trans (.of_within (discardDisagreed_within ..) rfl) (couplerFault_toSafe ..)

/-- What follows a change that leaves the mode or ends in SAFE. -/
theorem followTasks_toSafe {old s t : State} (h : ToSafe s t) : ToSafe s (followTasks old t) := .step (followTasks_within ..) rfl h

theorem whiffletree_toSafe (t i h a x s) : ToSafe s (whiffletree t i h a x s) := by
  unfold whiffletree
  extract_lets k used c0 s0
  have h0 : ToSafe s s0 := .of_within (ps := [.cpl]) (.set_cpl rfl (.refl _ _)) rfl
  clear_value s0
  split
  · exact h0.trans (discardFaulty_toSafe ..)
  · split
    · exact h0.trans (discardUnresolved_toSafe ..)
    · split
      · exact h0.trans (discardUnresolved_toSafe ..)
      · extract_lets s1
        have h1 : ToSafe s s1 := .step (beginExecute_within ..) rfl h0
        clear_value s1
        refine .trans ?_ (oddLanes_toSafe ..)
        split
        · exact .step (emit_within ..) rfl h1
        · exact h1

theorem compareResults_toSafe (t h a s) : ToSafe s (compareResults t h a s) := by
  unfold compareResults
  extract_lets key cycle xs cmp bad odd s0
  have h0 : ToSafe s s0 := .of_within (taskMod_within ..) rfl
  clear_value s0
  split
  · exact h0.trans (discardUnresolved_toSafe ..)
  · split
    · exact h0.trans (discardUnresolved_toSafe ..)
    · exact .step (digestCheck_within ..) rfl
        (.trans (.step (scopesSafe_within ..) rfl (.step (taskMod_within ..) rfl h0)) (oddLanes_toSafe ..))

theorem mergeAmong_toSafe {n p d} {f : State → State} {s t : State} (h : ToSafe s (f t)) (k : ToSafe s t) :
    ToSafe s (mergeAmong n p d f t) := by
  unfold mergeAmong
  dsimp only
  split
  · exact followTasks_toSafe (k.trans (unresolvedMismatch_toSafe ..))
  · exact followTasks_toSafe (h.trans (oddLanes_toSafe ..))

theorem ownerEcho_toSafe (n : Nat) (o : BitVec 16) (s : State) : ToSafe s (ownerEcho n o s) := by
  unfold ownerEcho
  extract_lets n s1 s2
  have h1 : ToSafe s s1 := .of_within (ps := [.net]) (.set_net rfl (.refl _ _)) rfl
  clear_value s1
  have h2 : ToSafe s s2 := by
    simp only [s2]
    split
    · exact .step (nodeMod_within ..) rfl h1
    · exact h1
  clear_value s2
  split
  · exact .trans (.step (record_within ..) rfl h2) (selfDemote_toSafe ..)
  · exact h2


/-! ## The rows -/

theorem execCp1Agree_toSafe (t' items present ok s) (t : State) (h : execCp1Agree t' items present ok s = .next t) : ToSafe s t := by
  unfold execCp1Agree at h
  injection h with h
  subst h
  dsimp only
  repeat' split
  all_goals first
    | with_reducible exact .refl _
    | exact followTasks_toSafe (.of_within (beginExecute_within ..) rfl)
    | exact followTasks_toSafe (whiffletree_toSafe ..)

theorem execCp2Compare_toSafe (t' rs ok s) (t : State) (h : execCp2Compare t' rs ok s = .next t) : ToSafe s t := by
  unfold execCp2Compare at h
  injection h with h
  subst h
  extract_lets mem here used c0 s0
  have h0 : ToSafe s s0 := .of_within (ps := [.cpl]) (.set_cpl rfl (.refl _ _)) rfl
  clear_value s0
  repeat' split
  all_goals first
    | with_reducible exact .refl _
    | exact followTasks_toSafe (h0.trans (discardFaulty_toSafe ..))
    | exact followTasks_toSafe (h0.trans (compareResults_toSafe ..))

theorem execLateLaneCheck_toSafe (t' l c s) (t : State) (h : execLateLaneCheck t' l c s = .next t) : ToSafe s t := by
  unfold execLateLaneCheck at h
  injection h with h
  subst h
  extract_lets k late s1
  have h1 : ToSafe s s1 := .of_within (taskMod_within ..) rfl
  clear_value s1
  repeat' split
  all_goals first
    | with_reducible exact .refl _
    | exact followTasks_toSafe (h1.trans (excludeLane_toSafe ..))
    | exact h1

theorem execLagLimitExpiry_toSafe (t' l x s) (t : State) (h : execLagLimitExpiry t' l s x = .next t) : ToSafe s t := by
  unfold execLagLimitExpiry at h
  injection h with h
  subst h
  dsimp only
  split
  · exact followTasks_toSafe (excludeLane_toSafe ..)
  · with_reducible exact .refl _

theorem execBreakpointHalt_toSafe (r c s) (t : State) (h : execBreakpointHalt r s c = .next t) : ToSafe s t := by
  unfold execBreakpointHalt at h
  injection h with h
  subst h
  split
  · exact .refl _
  · split
    · exact .refl _
    · extract_lets k c0 u
      have h1 : ToSafe s u := .step (journalAction_within ..) rfl (.of_within (ps := [.cpl]) (.set_cpl rfl (.refl _ _)) rfl)
      clear_value u
      split
      · exact followTasks_toSafe (h1.trans (discardUnresolved_toSafe ..))
      · exact .step (lanesIdle_within ..) rfl h1

theorem mergeAt_toSafe (k p d s) : ToSafe s (mergeAt k p d s) := by
  unfold mergeAt
  split
  · split
    · exact .refl _
    · exact mergeAmong_toSafe (.of_within (mergeAgreed_within ..) rfl) (.refl _)
  · extract_lets r other
    split
    · exact .refl _
    · exact mergeAmong_toSafe (.of_within (mergeOwn_within ..) rfl) (.refl _)

theorem execMergeTick_toSafe (p d s) (t : State) (h : execMergeTick s p d = .next t) : ToSafe s t := by
  unfold execMergeTick at h
  injection h with h
  subst h
  dsimp only
  split
  · exact .refl _
  · exact .trans (.step (adoptTables_within ..) rfl (.of_within (ps := [.image]) (.set_image rfl (.refl _ _)) rfl)) (mergeAt_toSafe ..)

theorem execLaneFault_toSafe (l s) (t : State) (h : execLaneFault l s = .next t) : ToSafe s t := by
  unfold execLaneFault at h
  injection h with h
  subst h
  exact followTasks_toSafe (excludeLane_toSafe ..)

theorem execLaneRailFault_toSafe (l s) (t : State) (h : execLaneRailFault l s = .next t) : ToSafe s t := by
  unfold execLaneRailFault at h
  injection h with h
  subst h
  split
  · exact followTasks_toSafe (.trans (.of_within (powerMod_within ..) rfl) (excludeLane_toSafe ..))
  · with_reducible exact .refl _

theorem execLoopCopyDelivery_toSafe (n l u g s) (t : State) (h : execLoopCopyDelivery n l u g s = .next t) : ToSafe s t := by
  unfold execLoopCopyDelivery at h
  injection h with h
  subst h
  dsimp only
  repeat' split
  all_goals first
    | with_reducible exact .refl _
    | exact .of_within (loopMod_within ..) rfl
    | exact followTasks_toSafe (.trans (.of_within (loopMod_within ..) rfl) (excludeLane_toSafe ..))
    | exact followTasks_toSafe (.trans (.step (loopAgreed_within ..) rfl (.of_within (loopMod_within ..) rfl))
        (.foldl (fun t k => excludeLane_toSafe k t) _ _))

theorem execLoopSampleDeadline_toSafe (n s) (t : State) (h : execLoopSampleDeadline n s = .next t) : ToSafe s t := by
  unfold execLoopSampleDeadline at h
  injection h with h
  subst h
  have h1 : ToSafe s (loopMissed n.val s) := .of_within (loopMissed_within ..) rfl
  generalize loopMissed n.val s = s1 at h1
  extract_lets x late s2 s3
  split
  · exact .refl s
  · split
    · exact .refl s
    · split
      · exact followTasks_toSafe (.trans (.of_within (loopMod_within ..) rfl) (.foldl (fun t k => excludeLane_toSafe k t) _ _))
      · split
        · have h2 : ToSafe s s2 := .step (leMod_within ..) rfl h1
          clear_value s2
          have h3 : ToSafe s s3 := by
            simp only [s3]; split
            · exact h2
            · exact .step (loopEnter_within ..) rfl h2
          exact followTasks_toSafe (h3.trans (unresolvedMismatch_toSafe ..))
        · exact h1

theorem execDieTemperature_toSafe (x b s) (t : State) (h : execDieTemperature x b s = .next t) : ToSafe s t := by
  unfold execDieTemperature at h
  cases h
  dsimp only
  repeat' split
  all_goals first
    | with_reducible exact .refl _
    | exact .trans (.step (enteredRecords_within ..) rfl (.of_within (powerMod_within ..) rfl)) (selfDemote_toSafe ..)
    | exact .step (enteredRecords_within ..) rfl (.of_within (powerMod_within ..) rfl)

theorem execRefFault_toSafe (b s) (t : State) (h : execRefFault b s = .next t) : ToSafe s t := by
  unfold execRefFault at h
  cases h
  dsimp only
  repeat' split
  all_goals first
    | with_reducible exact .refl _
    | exact .trans (.of_within (powerMod_within ..) rfl) (selfDemote_toSafe ..)
    | exact .trans (.step (record_within ..) rfl (.of_within (powerMod_within ..) rfl)) (selfDemote_toSafe ..)

theorem execReachDemote_toSafe (s) (t : State) (h : execReachDemote s = .next t) : ToSafe s t := by
  unfold execReachDemote at h
  cases h
  repeat' split
  all_goals first
    | with_reducible exact .refl _
    | exact selfDemote_toSafe ..

theorem execPowerFail_toSafe (s) (t : State) (h : execPowerFail s = .next t) : ToSafe s t := by
  unfold execPowerFail at h
  cases h
  refine if h : mainPower s = false ∨ s.power.powerFail = true then ?_ else ?_
  · rw [if_pos h]; exact .refl s
  rw [if_neg h]
  extract_lets s1 s2 s3 s4 s5
  have h1 : ToSafe s s1 := by
    simp only [s1]; split
    · exact .of_within (feedFalls_within ..) rfl
    · exact .refl s
  clear_value s1
  have h2 : ToSafe s s2 := by
    simp only [s2]; split
    · exact .step (feedFalls_within ..) rfl h1
    · exact h1
  clear_value s2
  have h3 : ToSafe s s3 := .step (powerMod_within ..) rfl h2
  clear_value s3
  have h4 : ToSafe s s4 := by
    simp only [s4]; split
    · exact .step (bkp2Bit_within ..) rfl h3
    · exact h3
  clear_value s4
  have h5 : ToSafe s s5 := by
    simp only [s5]; split
    · exact h4.trans (selfDemote_toSafe ..)
    · exact h4
  exact .step (placePowerFail_within ..) rfl h5

theorem execNodeTelegramReceived_toSafe (n a d s) (t : State) (h : execNodeTelegramReceived n a d s = .next t) : ToSafe s t := by
  unfold execNodeTelegramReceived at h
  cases h
  extract_lets k c s1 s2 s3 s4
  refine if h : netRuns s = false ∨ netUp n.val s = false then ?_ else ?_
  · rw [if_pos h]; exact .refl s
  rw [if_neg h]
  split
  · split
    · exact .of_within (nodeMod_within ..) rfl
    · exact .of_within (ps := [.net]) (.set_net rfl (.refl _ _)) rfl
  · have h1 : ToSafe s s1 := .of_within (nodeMod_within ..) rfl
    clear_value s1
    have h2 : ToSafe s s2 := by
      simp only [s2]; split
      · exact .step (record_within ..) rfl h1
      · exact h1
    clear_value s2
    have h3 : ToSafe s s3 := h2.trans (ownerEcho_toSafe ..)
    clear_value s3
    have h4 : ToSafe s s4 := by
      simp only [s4]; split
      · exact .step (sendNode_within ..) rfl h3
      · exact h3
    clear_value s4
    split
    · exact h4
    · exact .step (dispatchIn_within ..) rfl h4


/-! ## Starts -/

theorem enterBoot_mode (p : StartPlan) (s : State) : (enterBoot p s).modes.mode = .boot := by
  unfold enterBoot
  rw [(stepOne_within _).mode_eq rfl]
  rfl

theorem failStart_mode (s : State) : (failStart s).modes.mode = .safe := by
  unfold failStart
  rw [(openHost_within _).mode_eq rfl, enterSafe_mode]

theorem enterTarget_mode (m : Mode) (ps : PairState) (r : Bool) (s : State) : (enterTarget m ps r s).modes.mode = m := by
  unfold enterTarget
  extract_lets p a b c d s1 s2
  have h1 : s1.modes.mode = m := by
    have key : ∀ x : State, x.modes.mode = m → (startComplete x).modes.mode = m := fun x hx => by
      rw [(startComplete_within x).mode_eq rfl, hx]
    exact key _ (by dsimp only)
  clear_value s1
  have h2 : s2.modes.mode = m := by
    simp only [s2]
    rw [(outputsIdle_within _).mode_eq rfl, h1]
  clear_value s2
  split
  iterate 2
    · rw [(lanesIdle_within _).mode_eq rfl, (canFollow_within _).mode_eq rfl, (tasksFollow_within ..).mode_eq rfl,
        (driveSafety_within _).mode_eq rfl, h2]
  · rw [(lanesIdle_within _).mode_eq rfl, (canFollow_within _).mode_eq rfl, (outputsOff_within _).mode_eq rfl, h1]

/-- A mode that a start ends in. -/
def endMode : Mode → Bool
  | .stop | .run | .maintenance | .standby => true
  | _ => false

theorem startTarget_end (s : State) : endMode (startTarget s) = true := by
  unfold startTarget
  dsimp only
  repeat' split
  all_goals rfl

theorem becomeActive_end (s : State) : endMode (becomeActive s).modes.mode = true := by
  unfold becomeActive
  dsimp only
  split
  · rw [(ownerTakeover_within _).mode_eq rfl, enterTarget_mode]
    exact startTarget_end s
  · rw [enterTarget_mode]
    exact startTarget_end s

theorem becomeStandby_end (s : State) : endMode (becomeStandby s).modes.mode = true := by
  unfold becomeStandby
  rw [(beginCatchup_within _).mode_eq rfl, enterTarget_mode]
  rfl

/-- The mode stays, or is one that a start ends in. -/
def ToEnd (s t : State) : Prop := t.modes.mode = s.modes.mode ∨ endMode t.modes.mode = true

theorem decideRole_toEnd (s : State) : ToEnd s (decideRole s) := by
  unfold decideRole
  repeat' split
  · exact .inr (by rw [enterTarget_mode]; rfl)
  · exact .inr (by rw [enterTarget_mode]; rfl)
  · exact .inr (becomeActive_end s)
  · exact .inr (becomeStandby_end s)
  · exact .inr (becomeActive_end s)
  · exact .inl ((emit_within ..).mode_eq rfl)

theorem startRest_toEnd (cold lost : Bool) (s : State) : ToEnd s (startRest cold lost s) := by
  unfold startRest
  extract_lets s1 s2 s3
  have h1 : s1.modes.mode = s.modes.mode := by
    simp only [s1]
    rw [(startPrograms_within ..).mode_eq rfl, (startTime_within ..).mode_eq rfl, (loadConfig_within _).mode_eq rfl]
  clear_value s1
  have h2 : s2.modes.mode = s.modes.mode := by
    simp only [s2]
    rw [(startForces_within ..).mode_eq rfl, (startImage_within ..).mode_eq rfl, h1]
  clear_value s2
  have h3 : s3.modes.mode = s.modes.mode := by
    simp only [s3]
    rw [(startFuncs_within ..).mode_eq rfl, (panelsStart_within _).mode_eq rfl, (startLoops_within ..).mode_eq rfl,
      (startField_within _).mode_eq rfl, h2]
  clear_value s3
  have h4 : (openHost (startNetwork (startLanes s3))).modes.mode = s.modes.mode := by
    rw [(openHost_within _).mode_eq rfl, (startNetwork_within _).mode_eq rfl, (startLanes_within _).mode_eq rfl, h3]
  generalize openHost (startNetwork (startLanes s3)) = u at h4
  exact (decideRole_toEnd u).imp_left (·.trans h4)

theorem runStart_mode (failed : List Nat) (lines : BitVec 10) (s : State) :
    (runStart failed lines s).modes.mode = .safe ∨ ToEnd s (runStart failed lines s) := by
  unfold runStart
  extract_lets p m s0 a b c s2 r
  have h0 : s0.modes.mode = s.modes.mode := by
    simp only [s0]
    split
    · rfl
    · exact (stepOne_within _).mode_eq rfl
  have hm : s2.modes.mode = s.modes.mode := by
    simp only [s2]
    rw [(loadBank_within _).mode_eq rfl]
    exact h0
  clear_value s2
  have h3 : r.1.modes.mode = s.modes.mode := by
    simp only [r]
    rw [(bistOutcome_within ..).mode_eq rfl, (runBist_within ..).mode_eq rfl, (copyFirmware_within ..).mode_eq rfl, (recorderScan_within _).mode_eq rfl, hm]
  clear_value r
  repeat' split
  · left
    rw [(openHost_within _).mode_eq rfl, enterSafe_mode]
  · exact .inl (failStart_mode _)
  · exact .inr ((startRest_toEnd _ _ _).imp_left (·.trans h3))


/-! ## The pair -/

theorem takenMode_program (s : State) : programMode (takenMode s) = true := by
  unfold takenMode
  split <;> rfl

theorem takeoverUnits_mode (k : Nat) (s : State) : (takeoverUnits k s).modes.mode = s.modes.mode := (takeoverUnits_within ..).mode_eq rfl

theorem takeover_mode (k : Nat) (s : State) : (takeover k s).modes.mode = takenMode s := by
  unfold takeover
  extract_lets s0 m s1 s2 s3
  have h2 : s2.modes.mode = takenMode s := (pairUnit_within ..).mode_eq rfl
  clear_value s2
  have h3 : s3.modes.mode = takenMode s := by
    refine Eq.trans ?_ h2
    refine Within.mode_eq (ps := [.recorder, .cpl, .task, .image, .uc, .dig, .safety]) (.foldl (fun t n => ?_) _ (.refl _ _)) rfl
    split
    · exact .refl _ _
    · exact .ite (fun _ => (discardCycle_within ..).mono rfl) (fun _ => .refl _ _)
  clear_value s3
  rw [takeoverUnits_mode, (loopsTakeover_within ..).mode_eq rfl, (driveHeld_within ..).mode_eq rfl, (followTasks_within ..).mode_eq rfl, h3]

/-- The mode stays, or STANDBY becomes STOP, RUN or HOLD. -/
def ToActive (s t : State) : Prop :=
  t.modes.mode = s.modes.mode ∨ s.modes.mode = .standby ∧ programMode t.modes.mode = true

theorem lossCheck_toActive (b : Bool) (s : State) : ToActive s (lossCheck b s) := by
  unfold lossCheck
  split
  · exact .inl rfl
  · rename_i h
    split
    · exact .inr ⟨by simp_all, by rw [takeover_mode]; exact takenMode_program s⟩
    · exact .inl ((takeoverRefused_within _).mode_eq rfl)

theorem execDemoteReceived_toActive (l s) (t : State) (h : execDemoteReceived l s = .next t) : ToActive s t := by
  unfold execDemoteReceived at h
  cases h
  split
  · exact .inl rfl
  · rename_i h
    extract_lets s1
    split
    · exact .inr ⟨by simp_all, by rw [takeover_mode]; exact takenMode_program _⟩
    · exact .inl (((takeoverRefused_within _).mode_eq rfl).trans (((drawbarArrives_within _).mode_eq rfl).trans ((pairUnit_within ..).mode_eq rfl)))

theorem execHeartbeatLoss_toActive (s) (t : State) (h : execHeartbeatLoss s = .next t) : ToActive s t := by
  unfold execHeartbeatLoss at h
  cases h
  split
  · exact .inl rfl
  · extract_lets b s1
    have h1 : s1.modes.mode = s.modes.mode := (pairUnit_within ..).mode_eq rfl
    clear_value s1
    split
    · exact .inl (((goAlone_within _).mode_eq rfl).trans h1)
    · simpa [ToActive, h1] using lossCheck_toActive b s1

theorem execPairLiveStale_toActive (s) (t : State) (h : execPairLiveStale s = .next t) : ToActive s t := by
  unfold execPairLiveStale at h
  cases h
  extract_lets s1
  have h1 : s1.modes.mode = s.modes.mode := (pairUnit_within ..).mode_eq rfl
  clear_value s1
  split
  · simpa [ToActive, h1] using lossCheck_toActive (lossShown s) s1
  · exact .inl h1

theorem execPairActIChange_toActive (b s) (t : State) (h : execPairActIChange b s = .next t) : ToActive s t := by
  unfold execPairActIChange at h
  cases h
  extract_lets s1
  have h1 : s1.modes.mode = s.modes.mode := (pairUnit_within ..).mode_eq rfl
  clear_value s1
  repeat' split
  · exact .inl h1
  · exact .inl (((beginRelease_within _).mode_eq rfl).trans h1)
  · exact .inl h1
  · simpa [ToActive, h1] using lossCheck_toActive (lossShown s) s1

theorem execHandoverTime_toActive (s) (t : State) (h : execHandoverTime s = .next t) : ToActive s t := by
  unfold execHandoverTime at h
  cases h
  split
  · exact .inl rfl
  · split
    · exact .inl rfl
    · split
      · left
        rw [(hostSwitchover_within ..).mode_eq rfl]
        dsimp only
        rw [(pairUnit_within ..).mode_eq rfl, (abandonExchange_within _).mode_eq rfl]
      · split
        · exact .inl rfl
        · rename_i hm
          extract_lets s1 m s2 s3
          have h3 : s3.modes.mode = takenMode s1 := by
            simp only [s3]
            rw [takeoverUnits_mode, (loopsTakeover_within ..).mode_eq rfl]
            simp only [s2]
            rw [(driveHeld_within ..).mode_eq rfl]
          clear_value s3
          refine .inr ⟨by simp_all, ?_⟩
          rw [(toStandby_within ..).mode_eq rfl, h3]
          exact takenMode_program s1

theorem endRelease_mode (s : State) : (endRelease s).modes.mode = .safe ∨ (endRelease s).modes.mode = .standby := by
  unfold endRelease
  extract_lets d s1 m s2
  split
  · left
    rw [(admitWaiting_within _).mode_eq rfl, enterSafe_mode]
  · right
    have h2 : s2.modes.mode = .standby := by
      simp only [s2]
      rw [(outputsOff_within _).mode_eq rfl]
    clear_value s2
    split
    · rw [(admitWaiting_within _).mode_eq rfl, (canFollow_within _).mode_eq rfl, (record_within ..).mode_eq rfl, h2]
    · rw [(canFollow_within _).mode_eq rfl, h2]

theorem execHandoverEnd_moves (s) (t : State) (h : execHandoverEnd s = .next t) : t.modes.mode = s.modes.mode ∨
    programMode s.modes.mode = true ∧ (t.modes.mode = .standby ∨ t.modes.mode = .safe) := by
  unfold execHandoverEnd at h
  cases h
  have ho : ¬operating s = false → programMode s.modes.mode = true := by
    unfold operating programMode
    cases s.modes.mode <;> simp
  split
  · exact .inl rfl
  · split
    · exact .inl rfl
    · rename_i hn
      have hp := ho fun h => hn (.inr h)
      split
      · exact .inr ⟨hp, (endRelease_mode s).symm⟩
      · split
        · exact .inl rfl
        · extract_lets s1
          have h1 : s1.modes.mode = s.modes.mode := (pairUnit_within ..).mode_eq rfl
          clear_value s1
          split
          · rw [(audit_within ..).mode_eq rfl]
            exact .inr ⟨hp, (endRelease_mode s1).symm⟩
          · rw [(audit_within ..).mode_eq rfl, (pairUnit_within ..).mode_eq rfl]
            exact .inl h1

theorem execDemotionTakeoverTimeout_moves (s) (t : State) (h : execDemotionTakeoverTimeout s = .next t) :
    t.modes.mode = s.modes.mode ∨ programMode s.modes.mode = true ∧ t.modes.mode = .safe := by
  unfold execDemotionTakeoverTimeout at h
  cases h
  split
  · rename_i h
    refine .inr ⟨?_, by rw [(admitWaiting_within _).mode_eq rfl, enterSafe_mode]⟩
    have := h.1
    unfold operating at this
    unfold programMode
    revert this
    cases s.modes.mode <;> simp
  · exact .inl rfl

theorem execActivityConflict_moves (s) (t : State) (h : execActivityConflict s = .next t) :
    t.modes.mode = s.modes.mode ∨ programMode s.modes.mode = true ∧ t.modes.mode = .standby := by
  unfold execActivityConflict at h
  cases h
  extract_lets q s1 s2
  split
  · exact .inl rfl
  · rename_i hn
    split
    · right
      constructor
      · have : ¬operating s = false := fun h => hn (.inl h)
        unfold operating at this
        unfold programMode
        revert this
        cases s.modes.mode <;> simp
      · rw [(canFollow_within _).mode_eq rfl, (outputsOff_within _).mode_eq rfl]
    · left
      simp only [s1]
      rw [(record_within ..).mode_eq rfl, (pairUnit_within ..).mode_eq rfl]

end Sys2Proof.Machine
end

