-- ==== Sys2Proof/Laws/State.lean ====
section
/-! SUPPORT. What each plain update of the state leaves in each unit: one lemma per unit per update, true by definition. -/

namespace Sys2Proof.Machine

/-! ## emit -/

@[simp] theorem emit_recorder (o s) : (emit o s).recorder = s.recorder := rfl
@[simp] theorem emit_host (o s) : (emit o s).host = s.host := rfl
@[simp] theorem emit_time (o s) : (emit o s).time = s.time := rfl
@[simp] theorem emit_plinth (o s) : (emit o s).plinth = s.plinth := rfl
@[simp] theorem emit_power (o s) : (emit o s).power = s.power := rfl
@[simp] theorem emit_cpl (o s) : (emit o s).cpl = s.cpl := rfl
@[simp] theorem emit_task (o s) : (emit o s).task = s.task := rfl
@[simp] theorem emit_retained (o s) : (emit o s).retained = s.retained := rfl
@[simp] theorem emit_image (o s) : (emit o s).image = s.image := rfl
@[simp] theorem emit_pub (o s) : (emit o s).pub = s.pub := rfl
@[simp] theorem emit_prog (o s) : (emit o s).prog = s.prog := rfl
@[simp] theorem emit_loop (o s) : (emit o s).loop = s.loop := rfl
@[simp] theorem emit_uc (o s) : (emit o s).uc = s.uc := rfl
@[simp] theorem emit_cj (o s) : (emit o s).cj = s.cj := rfl
@[simp] theorem emit_dig (o s) : (emit o s).dig = s.dig := rfl
@[simp] theorem emit_counter (o s) : (emit o s).counter = s.counter := rfl
@[simp] theorem emit_group (o s) : (emit o s).group = s.group := rfl
@[simp] theorem emit_safety (o s) : (emit o s).safety = s.safety := rfl
@[simp] theorem emit_net (o s) : (emit o s).net = s.net := rfl
@[simp] theorem emit_can (o s) : (emit o s).can = s.can := rfl
@[simp] theorem emit_panel (o s) : (emit o s).panel = s.panel := rfl
@[simp] theorem emit_updates (o s) : (emit o s).updates = s.updates := rfl
@[simp] theorem emit_pair (o s) : (emit o s).pair = s.pair := rfl
@[simp] theorem emit_modes (o s) : (emit o s).modes = s.modes := rfl
@[simp] theorem emit_cfg (o s) : (emit o s).cfg = s.cfg := rfl
@[simp] theorem emit_fw (o s) : (emit o s).fw = s.fw := rfl
@[simp] theorem emit_out (o s) : (emit o s).out = o :: s.out := rfl
@[simp] theorem emit_fresh (o s) : (emit o s).fresh = s.fresh := rfl
@[simp] theorem emit_pending (o s) : (emit o s).pending = s.pending := rfl

/-! ## nextFree -/

@[simp] theorem nextFree_recorder (s) : (nextFree s).recorder = s.recorder := rfl
@[simp] theorem nextFree_host (s) : (nextFree s).host = s.host := rfl
@[simp] theorem nextFree_time (s) : (nextFree s).time = s.time := rfl
@[simp] theorem nextFree_plinth (s) : (nextFree s).plinth = s.plinth := rfl
@[simp] theorem nextFree_power (s) : (nextFree s).power = s.power := rfl
@[simp] theorem nextFree_cpl (s) : (nextFree s).cpl = s.cpl := rfl
@[simp] theorem nextFree_task (s) : (nextFree s).task = s.task := rfl
@[simp] theorem nextFree_retained (s) : (nextFree s).retained = s.retained := rfl
@[simp] theorem nextFree_image (s) : (nextFree s).image = s.image := rfl
@[simp] theorem nextFree_pub (s) : (nextFree s).pub = s.pub := rfl
@[simp] theorem nextFree_prog (s) : (nextFree s).prog = s.prog := rfl
@[simp] theorem nextFree_loop (s) : (nextFree s).loop = s.loop := rfl
@[simp] theorem nextFree_uc (s) : (nextFree s).uc = s.uc := rfl
@[simp] theorem nextFree_cj (s) : (nextFree s).cj = s.cj := rfl
@[simp] theorem nextFree_dig (s) : (nextFree s).dig = s.dig := rfl
@[simp] theorem nextFree_counter (s) : (nextFree s).counter = s.counter := rfl
@[simp] theorem nextFree_group (s) : (nextFree s).group = s.group := rfl
@[simp] theorem nextFree_safety (s) : (nextFree s).safety = s.safety := rfl
@[simp] theorem nextFree_net (s) : (nextFree s).net = s.net := rfl
@[simp] theorem nextFree_can (s) : (nextFree s).can = s.can := rfl
@[simp] theorem nextFree_panel (s) : (nextFree s).panel = s.panel := rfl
@[simp] theorem nextFree_updates (s) : (nextFree s).updates = s.updates := rfl
@[simp] theorem nextFree_pair (s) : (nextFree s).pair = s.pair := rfl
@[simp] theorem nextFree_modes (s) : (nextFree s).modes = s.modes := rfl
@[simp] theorem nextFree_cfg (s) : (nextFree s).cfg = s.cfg := rfl
@[simp] theorem nextFree_fw (s) : (nextFree s).fw = s.fw := rfl
@[simp] theorem nextFree_out (s) : (nextFree s).out = s.out := rfl
@[simp] theorem nextFree_fresh (s) : (nextFree s).fresh = s.fresh + 1 := rfl
@[simp] theorem nextFree_pending (s) : (nextFree s).pending = s.pending := rfl

/-! ## recMod -/

@[simp] theorem recMod_recorder (f s) : (recMod f s).recorder = f s.recorder := rfl
@[simp] theorem recMod_host (f s) : (recMod f s).host = s.host := rfl
@[simp] theorem recMod_time (f s) : (recMod f s).time = s.time := rfl
@[simp] theorem recMod_plinth (f s) : (recMod f s).plinth = s.plinth := rfl
@[simp] theorem recMod_power (f s) : (recMod f s).power = s.power := rfl
@[simp] theorem recMod_cpl (f s) : (recMod f s).cpl = s.cpl := rfl
@[simp] theorem recMod_task (f s) : (recMod f s).task = s.task := rfl
@[simp] theorem recMod_retained (f s) : (recMod f s).retained = s.retained := rfl
@[simp] theorem recMod_image (f s) : (recMod f s).image = s.image := rfl
@[simp] theorem recMod_pub (f s) : (recMod f s).pub = s.pub := rfl
@[simp] theorem recMod_prog (f s) : (recMod f s).prog = s.prog := rfl
@[simp] theorem recMod_loop (f s) : (recMod f s).loop = s.loop := rfl
@[simp] theorem recMod_uc (f s) : (recMod f s).uc = s.uc := rfl
@[simp] theorem recMod_cj (f s) : (recMod f s).cj = s.cj := rfl
@[simp] theorem recMod_dig (f s) : (recMod f s).dig = s.dig := rfl
@[simp] theorem recMod_counter (f s) : (recMod f s).counter = s.counter := rfl
@[simp] theorem recMod_group (f s) : (recMod f s).group = s.group := rfl
@[simp] theorem recMod_safety (f s) : (recMod f s).safety = s.safety := rfl
@[simp] theorem recMod_net (f s) : (recMod f s).net = s.net := rfl
@[simp] theorem recMod_can (f s) : (recMod f s).can = s.can := rfl
@[simp] theorem recMod_panel (f s) : (recMod f s).panel = s.panel := rfl
@[simp] theorem recMod_updates (f s) : (recMod f s).updates = s.updates := rfl
@[simp] theorem recMod_pair (f s) : (recMod f s).pair = s.pair := rfl
@[simp] theorem recMod_modes (f s) : (recMod f s).modes = s.modes := rfl
@[simp] theorem recMod_cfg (f s) : (recMod f s).cfg = s.cfg := rfl
@[simp] theorem recMod_fw (f s) : (recMod f s).fw = s.fw := rfl
@[simp] theorem recMod_out (f s) : (recMod f s).out = s.out := rfl
@[simp] theorem recMod_fresh (f s) : (recMod f s).fresh = s.fresh := rfl
@[simp] theorem recMod_pending (f s) : (recMod f s).pending = s.pending := rfl

/-! ## hostMod -/

@[simp] theorem hostMod_recorder (f s) : (hostMod f s).recorder = s.recorder := rfl
@[simp] theorem hostMod_host (f s) : (hostMod f s).host = f s.host := rfl
@[simp] theorem hostMod_time (f s) : (hostMod f s).time = s.time := rfl
@[simp] theorem hostMod_plinth (f s) : (hostMod f s).plinth = s.plinth := rfl
@[simp] theorem hostMod_power (f s) : (hostMod f s).power = s.power := rfl
@[simp] theorem hostMod_cpl (f s) : (hostMod f s).cpl = s.cpl := rfl
@[simp] theorem hostMod_task (f s) : (hostMod f s).task = s.task := rfl
@[simp] theorem hostMod_retained (f s) : (hostMod f s).retained = s.retained := rfl
@[simp] theorem hostMod_image (f s) : (hostMod f s).image = s.image := rfl
@[simp] theorem hostMod_pub (f s) : (hostMod f s).pub = s.pub := rfl
@[simp] theorem hostMod_prog (f s) : (hostMod f s).prog = s.prog := rfl
@[simp] theorem hostMod_loop (f s) : (hostMod f s).loop = s.loop := rfl
@[simp] theorem hostMod_uc (f s) : (hostMod f s).uc = s.uc := rfl
@[simp] theorem hostMod_cj (f s) : (hostMod f s).cj = s.cj := rfl
@[simp] theorem hostMod_dig (f s) : (hostMod f s).dig = s.dig := rfl
@[simp] theorem hostMod_counter (f s) : (hostMod f s).counter = s.counter := rfl
@[simp] theorem hostMod_group (f s) : (hostMod f s).group = s.group := rfl
@[simp] theorem hostMod_safety (f s) : (hostMod f s).safety = s.safety := rfl
@[simp] theorem hostMod_net (f s) : (hostMod f s).net = s.net := rfl
@[simp] theorem hostMod_can (f s) : (hostMod f s).can = s.can := rfl
@[simp] theorem hostMod_panel (f s) : (hostMod f s).panel = s.panel := rfl
@[simp] theorem hostMod_updates (f s) : (hostMod f s).updates = s.updates := rfl
@[simp] theorem hostMod_pair (f s) : (hostMod f s).pair = s.pair := rfl
@[simp] theorem hostMod_modes (f s) : (hostMod f s).modes = s.modes := rfl
@[simp] theorem hostMod_cfg (f s) : (hostMod f s).cfg = s.cfg := rfl
@[simp] theorem hostMod_fw (f s) : (hostMod f s).fw = s.fw := rfl
@[simp] theorem hostMod_out (f s) : (hostMod f s).out = s.out := rfl
@[simp] theorem hostMod_fresh (f s) : (hostMod f s).fresh = s.fresh := rfl
@[simp] theorem hostMod_pending (f s) : (hostMod f s).pending = s.pending := rfl

/-! ## timeMod -/

@[simp] theorem timeMod_recorder (f s) : (timeMod f s).recorder = s.recorder := rfl
@[simp] theorem timeMod_host (f s) : (timeMod f s).host = s.host := rfl
@[simp] theorem timeMod_time (f s) : (timeMod f s).time = f s.time := rfl
@[simp] theorem timeMod_plinth (f s) : (timeMod f s).plinth = s.plinth := rfl
@[simp] theorem timeMod_power (f s) : (timeMod f s).power = s.power := rfl
@[simp] theorem timeMod_cpl (f s) : (timeMod f s).cpl = s.cpl := rfl
@[simp] theorem timeMod_task (f s) : (timeMod f s).task = s.task := rfl
@[simp] theorem timeMod_retained (f s) : (timeMod f s).retained = s.retained := rfl
@[simp] theorem timeMod_image (f s) : (timeMod f s).image = s.image := rfl
@[simp] theorem timeMod_pub (f s) : (timeMod f s).pub = s.pub := rfl
@[simp] theorem timeMod_prog (f s) : (timeMod f s).prog = s.prog := rfl
@[simp] theorem timeMod_loop (f s) : (timeMod f s).loop = s.loop := rfl
@[simp] theorem timeMod_uc (f s) : (timeMod f s).uc = s.uc := rfl
@[simp] theorem timeMod_cj (f s) : (timeMod f s).cj = s.cj := rfl
@[simp] theorem timeMod_dig (f s) : (timeMod f s).dig = s.dig := rfl
@[simp] theorem timeMod_counter (f s) : (timeMod f s).counter = s.counter := rfl
@[simp] theorem timeMod_group (f s) : (timeMod f s).group = s.group := rfl
@[simp] theorem timeMod_safety (f s) : (timeMod f s).safety = s.safety := rfl
@[simp] theorem timeMod_net (f s) : (timeMod f s).net = s.net := rfl
@[simp] theorem timeMod_can (f s) : (timeMod f s).can = s.can := rfl
@[simp] theorem timeMod_panel (f s) : (timeMod f s).panel = s.panel := rfl
@[simp] theorem timeMod_updates (f s) : (timeMod f s).updates = s.updates := rfl
@[simp] theorem timeMod_pair (f s) : (timeMod f s).pair = s.pair := rfl
@[simp] theorem timeMod_modes (f s) : (timeMod f s).modes = s.modes := rfl
@[simp] theorem timeMod_cfg (f s) : (timeMod f s).cfg = s.cfg := rfl
@[simp] theorem timeMod_fw (f s) : (timeMod f s).fw = s.fw := rfl
@[simp] theorem timeMod_out (f s) : (timeMod f s).out = s.out := rfl
@[simp] theorem timeMod_fresh (f s) : (timeMod f s).fresh = s.fresh := rfl
@[simp] theorem timeMod_pending (f s) : (timeMod f s).pending = s.pending := rfl

/-! ## plinthMod -/

@[simp] theorem plinthMod_recorder (f s) : (plinthMod f s).recorder = s.recorder := rfl
@[simp] theorem plinthMod_host (f s) : (plinthMod f s).host = s.host := rfl
@[simp] theorem plinthMod_time (f s) : (plinthMod f s).time = s.time := rfl
@[simp] theorem plinthMod_plinth (f s) : (plinthMod f s).plinth = f s.plinth := rfl
@[simp] theorem plinthMod_power (f s) : (plinthMod f s).power = s.power := rfl
@[simp] theorem plinthMod_cpl (f s) : (plinthMod f s).cpl = s.cpl := rfl
@[simp] theorem plinthMod_task (f s) : (plinthMod f s).task = s.task := rfl
@[simp] theorem plinthMod_retained (f s) : (plinthMod f s).retained = s.retained := rfl
@[simp] theorem plinthMod_image (f s) : (plinthMod f s).image = s.image := rfl
@[simp] theorem plinthMod_pub (f s) : (plinthMod f s).pub = s.pub := rfl
@[simp] theorem plinthMod_prog (f s) : (plinthMod f s).prog = s.prog := rfl
@[simp] theorem plinthMod_loop (f s) : (plinthMod f s).loop = s.loop := rfl
@[simp] theorem plinthMod_uc (f s) : (plinthMod f s).uc = s.uc := rfl
@[simp] theorem plinthMod_cj (f s) : (plinthMod f s).cj = s.cj := rfl
@[simp] theorem plinthMod_dig (f s) : (plinthMod f s).dig = s.dig := rfl
@[simp] theorem plinthMod_counter (f s) : (plinthMod f s).counter = s.counter := rfl
@[simp] theorem plinthMod_group (f s) : (plinthMod f s).group = s.group := rfl
@[simp] theorem plinthMod_safety (f s) : (plinthMod f s).safety = s.safety := rfl
@[simp] theorem plinthMod_net (f s) : (plinthMod f s).net = s.net := rfl
@[simp] theorem plinthMod_can (f s) : (plinthMod f s).can = s.can := rfl
@[simp] theorem plinthMod_panel (f s) : (plinthMod f s).panel = s.panel := rfl
@[simp] theorem plinthMod_updates (f s) : (plinthMod f s).updates = s.updates := rfl
@[simp] theorem plinthMod_pair (f s) : (plinthMod f s).pair = s.pair := rfl
@[simp] theorem plinthMod_modes (f s) : (plinthMod f s).modes = s.modes := rfl
@[simp] theorem plinthMod_cfg (f s) : (plinthMod f s).cfg = s.cfg := rfl
@[simp] theorem plinthMod_fw (f s) : (plinthMod f s).fw = s.fw := rfl
@[simp] theorem plinthMod_out (f s) : (plinthMod f s).out = s.out := rfl
@[simp] theorem plinthMod_fresh (f s) : (plinthMod f s).fresh = s.fresh := rfl
@[simp] theorem plinthMod_pending (f s) : (plinthMod f s).pending = s.pending := rfl

/-! ## powerMod -/

@[simp] theorem powerMod_recorder (f s) : (powerMod f s).recorder = s.recorder := rfl
@[simp] theorem powerMod_host (f s) : (powerMod f s).host = s.host := rfl
@[simp] theorem powerMod_time (f s) : (powerMod f s).time = s.time := rfl
@[simp] theorem powerMod_plinth (f s) : (powerMod f s).plinth = s.plinth := rfl
@[simp] theorem powerMod_power (f s) : (powerMod f s).power = f s.power := rfl
@[simp] theorem powerMod_cpl (f s) : (powerMod f s).cpl = s.cpl := rfl
@[simp] theorem powerMod_task (f s) : (powerMod f s).task = s.task := rfl
@[simp] theorem powerMod_retained (f s) : (powerMod f s).retained = s.retained := rfl
@[simp] theorem powerMod_image (f s) : (powerMod f s).image = s.image := rfl
@[simp] theorem powerMod_pub (f s) : (powerMod f s).pub = s.pub := rfl
@[simp] theorem powerMod_prog (f s) : (powerMod f s).prog = s.prog := rfl
@[simp] theorem powerMod_loop (f s) : (powerMod f s).loop = s.loop := rfl
@[simp] theorem powerMod_uc (f s) : (powerMod f s).uc = s.uc := rfl
@[simp] theorem powerMod_cj (f s) : (powerMod f s).cj = s.cj := rfl
@[simp] theorem powerMod_dig (f s) : (powerMod f s).dig = s.dig := rfl
@[simp] theorem powerMod_counter (f s) : (powerMod f s).counter = s.counter := rfl
@[simp] theorem powerMod_group (f s) : (powerMod f s).group = s.group := rfl
@[simp] theorem powerMod_safety (f s) : (powerMod f s).safety = s.safety := rfl
@[simp] theorem powerMod_net (f s) : (powerMod f s).net = s.net := rfl
@[simp] theorem powerMod_can (f s) : (powerMod f s).can = s.can := rfl
@[simp] theorem powerMod_panel (f s) : (powerMod f s).panel = s.panel := rfl
@[simp] theorem powerMod_updates (f s) : (powerMod f s).updates = s.updates := rfl
@[simp] theorem powerMod_pair (f s) : (powerMod f s).pair = s.pair := rfl
@[simp] theorem powerMod_modes (f s) : (powerMod f s).modes = s.modes := rfl
@[simp] theorem powerMod_cfg (f s) : (powerMod f s).cfg = s.cfg := rfl
@[simp] theorem powerMod_fw (f s) : (powerMod f s).fw = s.fw := rfl
@[simp] theorem powerMod_out (f s) : (powerMod f s).out = s.out := rfl
@[simp] theorem powerMod_fresh (f s) : (powerMod f s).fresh = s.fresh := rfl
@[simp] theorem powerMod_pending (f s) : (powerMod f s).pending = s.pending := rfl

/-! ## leMod -/

@[simp] theorem leMod_recorder (f s) : (leMod f s).recorder = s.recorder := rfl
@[simp] theorem leMod_host (f s) : (leMod f s).host = s.host := rfl
@[simp] theorem leMod_time (f s) : (leMod f s).time = s.time := rfl
@[simp] theorem leMod_plinth (f s) : (leMod f s).plinth = s.plinth := rfl
@[simp] theorem leMod_power (f s) : (leMod f s).power = s.power := rfl
@[simp] theorem leMod_cpl (f s) : (leMod f s).cpl = s.cpl := rfl
@[simp] theorem leMod_task (f s) : (leMod f s).task = s.task := rfl
@[simp] theorem leMod_retained (f s) : (leMod f s).retained = s.retained := rfl
@[simp] theorem leMod_image (f s) : (leMod f s).image = s.image := rfl
@[simp] theorem leMod_pub (f s) : (leMod f s).pub = s.pub := rfl
@[simp] theorem leMod_prog (f s) : (leMod f s).prog = s.prog := rfl
@[simp] theorem leMod_loop (f s) : (leMod f s).loop = f s.loop := rfl
@[simp] theorem leMod_uc (f s) : (leMod f s).uc = s.uc := rfl
@[simp] theorem leMod_cj (f s) : (leMod f s).cj = s.cj := rfl
@[simp] theorem leMod_dig (f s) : (leMod f s).dig = s.dig := rfl
@[simp] theorem leMod_counter (f s) : (leMod f s).counter = s.counter := rfl
@[simp] theorem leMod_group (f s) : (leMod f s).group = s.group := rfl
@[simp] theorem leMod_safety (f s) : (leMod f s).safety = s.safety := rfl
@[simp] theorem leMod_net (f s) : (leMod f s).net = s.net := rfl
@[simp] theorem leMod_can (f s) : (leMod f s).can = s.can := rfl
@[simp] theorem leMod_panel (f s) : (leMod f s).panel = s.panel := rfl
@[simp] theorem leMod_updates (f s) : (leMod f s).updates = s.updates := rfl
@[simp] theorem leMod_pair (f s) : (leMod f s).pair = s.pair := rfl
@[simp] theorem leMod_modes (f s) : (leMod f s).modes = s.modes := rfl
@[simp] theorem leMod_cfg (f s) : (leMod f s).cfg = s.cfg := rfl
@[simp] theorem leMod_fw (f s) : (leMod f s).fw = s.fw := rfl
@[simp] theorem leMod_out (f s) : (leMod f s).out = s.out := rfl
@[simp] theorem leMod_fresh (f s) : (leMod f s).fresh = s.fresh := rfl
@[simp] theorem leMod_pending (f s) : (leMod f s).pending = s.pending := rfl

/-! ## fwMod -/

@[simp] theorem fwMod_recorder (f s) : (fwMod f s).recorder = s.recorder := rfl
@[simp] theorem fwMod_host (f s) : (fwMod f s).host = s.host := rfl
@[simp] theorem fwMod_time (f s) : (fwMod f s).time = s.time := rfl
@[simp] theorem fwMod_plinth (f s) : (fwMod f s).plinth = s.plinth := rfl
@[simp] theorem fwMod_power (f s) : (fwMod f s).power = s.power := rfl
@[simp] theorem fwMod_cpl (f s) : (fwMod f s).cpl = s.cpl := rfl
@[simp] theorem fwMod_task (f s) : (fwMod f s).task = s.task := rfl
@[simp] theorem fwMod_retained (f s) : (fwMod f s).retained = s.retained := rfl
@[simp] theorem fwMod_image (f s) : (fwMod f s).image = s.image := rfl
@[simp] theorem fwMod_pub (f s) : (fwMod f s).pub = s.pub := rfl
@[simp] theorem fwMod_prog (f s) : (fwMod f s).prog = s.prog := rfl
@[simp] theorem fwMod_loop (f s) : (fwMod f s).loop = s.loop := rfl
@[simp] theorem fwMod_uc (f s) : (fwMod f s).uc = s.uc := rfl
@[simp] theorem fwMod_cj (f s) : (fwMod f s).cj = s.cj := rfl
@[simp] theorem fwMod_dig (f s) : (fwMod f s).dig = s.dig := rfl
@[simp] theorem fwMod_counter (f s) : (fwMod f s).counter = s.counter := rfl
@[simp] theorem fwMod_group (f s) : (fwMod f s).group = s.group := rfl
@[simp] theorem fwMod_safety (f s) : (fwMod f s).safety = s.safety := rfl
@[simp] theorem fwMod_net (f s) : (fwMod f s).net = s.net := rfl
@[simp] theorem fwMod_can (f s) : (fwMod f s).can = s.can := rfl
@[simp] theorem fwMod_panel (f s) : (fwMod f s).panel = s.panel := rfl
@[simp] theorem fwMod_updates (f s) : (fwMod f s).updates = s.updates := rfl
@[simp] theorem fwMod_pair (f s) : (fwMod f s).pair = s.pair := rfl
@[simp] theorem fwMod_modes (f s) : (fwMod f s).modes = s.modes := rfl
@[simp] theorem fwMod_cfg (f s) : (fwMod f s).cfg = s.cfg := rfl
@[simp] theorem fwMod_fw (f s) : (fwMod f s).fw = f s.fw := rfl
@[simp] theorem fwMod_out (f s) : (fwMod f s).out = s.out := rfl
@[simp] theorem fwMod_fresh (f s) : (fwMod f s).fresh = s.fresh := rfl
@[simp] theorem fwMod_pending (f s) : (fwMod f s).pending = s.pending := rfl

/-! ## pairUnit -/

@[simp] theorem pairUnit_recorder (f s) : (pairUnit f s).recorder = s.recorder := rfl
@[simp] theorem pairUnit_host (f s) : (pairUnit f s).host = s.host := rfl
@[simp] theorem pairUnit_time (f s) : (pairUnit f s).time = s.time := rfl
@[simp] theorem pairUnit_plinth (f s) : (pairUnit f s).plinth = s.plinth := rfl
@[simp] theorem pairUnit_power (f s) : (pairUnit f s).power = s.power := rfl
@[simp] theorem pairUnit_cpl (f s) : (pairUnit f s).cpl = s.cpl := rfl
@[simp] theorem pairUnit_task (f s) : (pairUnit f s).task = s.task := rfl
@[simp] theorem pairUnit_retained (f s) : (pairUnit f s).retained = s.retained := rfl
@[simp] theorem pairUnit_image (f s) : (pairUnit f s).image = s.image := rfl
@[simp] theorem pairUnit_pub (f s) : (pairUnit f s).pub = s.pub := rfl
@[simp] theorem pairUnit_prog (f s) : (pairUnit f s).prog = s.prog := rfl
@[simp] theorem pairUnit_loop (f s) : (pairUnit f s).loop = s.loop := rfl
@[simp] theorem pairUnit_uc (f s) : (pairUnit f s).uc = s.uc := rfl
@[simp] theorem pairUnit_cj (f s) : (pairUnit f s).cj = s.cj := rfl
@[simp] theorem pairUnit_dig (f s) : (pairUnit f s).dig = s.dig := rfl
@[simp] theorem pairUnit_counter (f s) : (pairUnit f s).counter = s.counter := rfl
@[simp] theorem pairUnit_group (f s) : (pairUnit f s).group = s.group := rfl
@[simp] theorem pairUnit_safety (f s) : (pairUnit f s).safety = s.safety := rfl
@[simp] theorem pairUnit_net (f s) : (pairUnit f s).net = s.net := rfl
@[simp] theorem pairUnit_can (f s) : (pairUnit f s).can = s.can := rfl
@[simp] theorem pairUnit_panel (f s) : (pairUnit f s).panel = s.panel := rfl
@[simp] theorem pairUnit_updates (f s) : (pairUnit f s).updates = s.updates := rfl
@[simp] theorem pairUnit_pair (f s) : (pairUnit f s).pair = f s.pair := rfl
@[simp] theorem pairUnit_modes (f s) : (pairUnit f s).modes = s.modes := rfl
@[simp] theorem pairUnit_cfg (f s) : (pairUnit f s).cfg = s.cfg := rfl
@[simp] theorem pairUnit_fw (f s) : (pairUnit f s).fw = s.fw := rfl
@[simp] theorem pairUnit_out (f s) : (pairUnit f s).out = s.out := rfl
@[simp] theorem pairUnit_fresh (f s) : (pairUnit f s).fresh = s.fresh := rfl
@[simp] theorem pairUnit_pending (f s) : (pairUnit f s).pending = s.pending := rfl

/-! ## laneMod -/

@[simp] theorem laneMod_recorder (l f s) : (laneMod l f s).recorder = s.recorder := rfl
@[simp] theorem laneMod_host (l f s) : (laneMod l f s).host = s.host := rfl
@[simp] theorem laneMod_time (l f s) : (laneMod l f s).time = s.time := rfl
@[simp] theorem laneMod_plinth (l f s) : (laneMod l f s).plinth = s.plinth := rfl
@[simp] theorem laneMod_power (l f s) : (laneMod l f s).power = s.power := rfl
@[simp] theorem laneMod_cpl (l f s) : (laneMod l f s).cpl = { s.cpl with lane := vmod s.cpl.lane (laneNo l) f } := rfl
@[simp] theorem laneMod_task (l f s) : (laneMod l f s).task = s.task := rfl
@[simp] theorem laneMod_retained (l f s) : (laneMod l f s).retained = s.retained := rfl
@[simp] theorem laneMod_image (l f s) : (laneMod l f s).image = s.image := rfl
@[simp] theorem laneMod_pub (l f s) : (laneMod l f s).pub = s.pub := rfl
@[simp] theorem laneMod_prog (l f s) : (laneMod l f s).prog = s.prog := rfl
@[simp] theorem laneMod_loop (l f s) : (laneMod l f s).loop = s.loop := rfl
@[simp] theorem laneMod_uc (l f s) : (laneMod l f s).uc = s.uc := rfl
@[simp] theorem laneMod_cj (l f s) : (laneMod l f s).cj = s.cj := rfl
@[simp] theorem laneMod_dig (l f s) : (laneMod l f s).dig = s.dig := rfl
@[simp] theorem laneMod_counter (l f s) : (laneMod l f s).counter = s.counter := rfl
@[simp] theorem laneMod_group (l f s) : (laneMod l f s).group = s.group := rfl
@[simp] theorem laneMod_safety (l f s) : (laneMod l f s).safety = s.safety := rfl
@[simp] theorem laneMod_net (l f s) : (laneMod l f s).net = s.net := rfl
@[simp] theorem laneMod_can (l f s) : (laneMod l f s).can = s.can := rfl
@[simp] theorem laneMod_panel (l f s) : (laneMod l f s).panel = s.panel := rfl
@[simp] theorem laneMod_updates (l f s) : (laneMod l f s).updates = s.updates := rfl
@[simp] theorem laneMod_pair (l f s) : (laneMod l f s).pair = s.pair := rfl
@[simp] theorem laneMod_modes (l f s) : (laneMod l f s).modes = s.modes := rfl
@[simp] theorem laneMod_cfg (l f s) : (laneMod l f s).cfg = s.cfg := rfl
@[simp] theorem laneMod_fw (l f s) : (laneMod l f s).fw = s.fw := rfl
@[simp] theorem laneMod_out (l f s) : (laneMod l f s).out = s.out := rfl
@[simp] theorem laneMod_fresh (l f s) : (laneMod l f s).fresh = s.fresh := rfl
@[simp] theorem laneMod_pending (l f s) : (laneMod l f s).pending = s.pending := rfl

/-! ## taskMod -/

@[simp] theorem taskMod_recorder (t f s) : (taskMod t f s).recorder = s.recorder := rfl
@[simp] theorem taskMod_host (t f s) : (taskMod t f s).host = s.host := rfl
@[simp] theorem taskMod_time (t f s) : (taskMod t f s).time = s.time := rfl
@[simp] theorem taskMod_plinth (t f s) : (taskMod t f s).plinth = s.plinth := rfl
@[simp] theorem taskMod_power (t f s) : (taskMod t f s).power = s.power := rfl
@[simp] theorem taskMod_cpl (t f s) : (taskMod t f s).cpl = s.cpl := rfl
@[simp] theorem taskMod_task (t f s) : (taskMod t f s).task = vmod s.task t f := rfl
@[simp] theorem taskMod_retained (t f s) : (taskMod t f s).retained = s.retained := rfl
@[simp] theorem taskMod_image (t f s) : (taskMod t f s).image = s.image := rfl
@[simp] theorem taskMod_pub (t f s) : (taskMod t f s).pub = s.pub := rfl
@[simp] theorem taskMod_prog (t f s) : (taskMod t f s).prog = s.prog := rfl
@[simp] theorem taskMod_loop (t f s) : (taskMod t f s).loop = s.loop := rfl
@[simp] theorem taskMod_uc (t f s) : (taskMod t f s).uc = s.uc := rfl
@[simp] theorem taskMod_cj (t f s) : (taskMod t f s).cj = s.cj := rfl
@[simp] theorem taskMod_dig (t f s) : (taskMod t f s).dig = s.dig := rfl
@[simp] theorem taskMod_counter (t f s) : (taskMod t f s).counter = s.counter := rfl
@[simp] theorem taskMod_group (t f s) : (taskMod t f s).group = s.group := rfl
@[simp] theorem taskMod_safety (t f s) : (taskMod t f s).safety = s.safety := rfl
@[simp] theorem taskMod_net (t f s) : (taskMod t f s).net = s.net := rfl
@[simp] theorem taskMod_can (t f s) : (taskMod t f s).can = s.can := rfl
@[simp] theorem taskMod_panel (t f s) : (taskMod t f s).panel = s.panel := rfl
@[simp] theorem taskMod_updates (t f s) : (taskMod t f s).updates = s.updates := rfl
@[simp] theorem taskMod_pair (t f s) : (taskMod t f s).pair = s.pair := rfl
@[simp] theorem taskMod_modes (t f s) : (taskMod t f s).modes = s.modes := rfl
@[simp] theorem taskMod_cfg (t f s) : (taskMod t f s).cfg = s.cfg := rfl
@[simp] theorem taskMod_fw (t f s) : (taskMod t f s).fw = s.fw := rfl
@[simp] theorem taskMod_out (t f s) : (taskMod t f s).out = s.out := rfl
@[simp] theorem taskMod_fresh (t f s) : (taskMod t f s).fresh = s.fresh := rfl
@[simp] theorem taskMod_pending (t f s) : (taskMod t f s).pending = s.pending := rfl

/-! ## ucMod -/

@[simp] theorem ucMod_recorder (n f s) : (ucMod n f s).recorder = s.recorder := rfl
@[simp] theorem ucMod_host (n f s) : (ucMod n f s).host = s.host := rfl
@[simp] theorem ucMod_time (n f s) : (ucMod n f s).time = s.time := rfl
@[simp] theorem ucMod_plinth (n f s) : (ucMod n f s).plinth = s.plinth := rfl
@[simp] theorem ucMod_power (n f s) : (ucMod n f s).power = s.power := rfl
@[simp] theorem ucMod_cpl (n f s) : (ucMod n f s).cpl = s.cpl := rfl
@[simp] theorem ucMod_task (n f s) : (ucMod n f s).task = s.task := rfl
@[simp] theorem ucMod_retained (n f s) : (ucMod n f s).retained = s.retained := rfl
@[simp] theorem ucMod_image (n f s) : (ucMod n f s).image = s.image := rfl
@[simp] theorem ucMod_pub (n f s) : (ucMod n f s).pub = s.pub := rfl
@[simp] theorem ucMod_prog (n f s) : (ucMod n f s).prog = s.prog := rfl
@[simp] theorem ucMod_loop (n f s) : (ucMod n f s).loop = s.loop := rfl
@[simp] theorem ucMod_uc (n f s) : (ucMod n f s).uc = vmod s.uc n f := rfl
@[simp] theorem ucMod_cj (n f s) : (ucMod n f s).cj = s.cj := rfl
@[simp] theorem ucMod_dig (n f s) : (ucMod n f s).dig = s.dig := rfl
@[simp] theorem ucMod_counter (n f s) : (ucMod n f s).counter = s.counter := rfl
@[simp] theorem ucMod_group (n f s) : (ucMod n f s).group = s.group := rfl
@[simp] theorem ucMod_safety (n f s) : (ucMod n f s).safety = s.safety := rfl
@[simp] theorem ucMod_net (n f s) : (ucMod n f s).net = s.net := rfl
@[simp] theorem ucMod_can (n f s) : (ucMod n f s).can = s.can := rfl
@[simp] theorem ucMod_panel (n f s) : (ucMod n f s).panel = s.panel := rfl
@[simp] theorem ucMod_updates (n f s) : (ucMod n f s).updates = s.updates := rfl
@[simp] theorem ucMod_pair (n f s) : (ucMod n f s).pair = s.pair := rfl
@[simp] theorem ucMod_modes (n f s) : (ucMod n f s).modes = s.modes := rfl
@[simp] theorem ucMod_cfg (n f s) : (ucMod n f s).cfg = s.cfg := rfl
@[simp] theorem ucMod_fw (n f s) : (ucMod n f s).fw = s.fw := rfl
@[simp] theorem ucMod_out (n f s) : (ucMod n f s).out = s.out := rfl
@[simp] theorem ucMod_fresh (n f s) : (ucMod n f s).fresh = s.fresh := rfl
@[simp] theorem ucMod_pending (n f s) : (ucMod n f s).pending = s.pending := rfl

/-! ## digMod -/

@[simp] theorem digMod_recorder (n f s) : (digMod n f s).recorder = s.recorder := rfl
@[simp] theorem digMod_host (n f s) : (digMod n f s).host = s.host := rfl
@[simp] theorem digMod_time (n f s) : (digMod n f s).time = s.time := rfl
@[simp] theorem digMod_plinth (n f s) : (digMod n f s).plinth = s.plinth := rfl
@[simp] theorem digMod_power (n f s) : (digMod n f s).power = s.power := rfl
@[simp] theorem digMod_cpl (n f s) : (digMod n f s).cpl = s.cpl := rfl
@[simp] theorem digMod_task (n f s) : (digMod n f s).task = s.task := rfl
@[simp] theorem digMod_retained (n f s) : (digMod n f s).retained = s.retained := rfl
@[simp] theorem digMod_image (n f s) : (digMod n f s).image = s.image := rfl
@[simp] theorem digMod_pub (n f s) : (digMod n f s).pub = s.pub := rfl
@[simp] theorem digMod_prog (n f s) : (digMod n f s).prog = s.prog := rfl
@[simp] theorem digMod_loop (n f s) : (digMod n f s).loop = s.loop := rfl
@[simp] theorem digMod_uc (n f s) : (digMod n f s).uc = s.uc := rfl
@[simp] theorem digMod_cj (n f s) : (digMod n f s).cj = s.cj := rfl
@[simp] theorem digMod_dig (n f s) : (digMod n f s).dig = vmod s.dig n f := rfl
@[simp] theorem digMod_counter (n f s) : (digMod n f s).counter = s.counter := rfl
@[simp] theorem digMod_group (n f s) : (digMod n f s).group = s.group := rfl
@[simp] theorem digMod_safety (n f s) : (digMod n f s).safety = s.safety := rfl
@[simp] theorem digMod_net (n f s) : (digMod n f s).net = s.net := rfl
@[simp] theorem digMod_can (n f s) : (digMod n f s).can = s.can := rfl
@[simp] theorem digMod_panel (n f s) : (digMod n f s).panel = s.panel := rfl
@[simp] theorem digMod_updates (n f s) : (digMod n f s).updates = s.updates := rfl
@[simp] theorem digMod_pair (n f s) : (digMod n f s).pair = s.pair := rfl
@[simp] theorem digMod_modes (n f s) : (digMod n f s).modes = s.modes := rfl
@[simp] theorem digMod_cfg (n f s) : (digMod n f s).cfg = s.cfg := rfl
@[simp] theorem digMod_fw (n f s) : (digMod n f s).fw = s.fw := rfl
@[simp] theorem digMod_out (n f s) : (digMod n f s).out = s.out := rfl
@[simp] theorem digMod_fresh (n f s) : (digMod n f s).fresh = s.fresh := rfl
@[simp] theorem digMod_pending (n f s) : (digMod n f s).pending = s.pending := rfl

/-! ## counterMod -/

@[simp] theorem counterMod_recorder (n f s) : (counterMod n f s).recorder = s.recorder := rfl
@[simp] theorem counterMod_host (n f s) : (counterMod n f s).host = s.host := rfl
@[simp] theorem counterMod_time (n f s) : (counterMod n f s).time = s.time := rfl
@[simp] theorem counterMod_plinth (n f s) : (counterMod n f s).plinth = s.plinth := rfl
@[simp] theorem counterMod_power (n f s) : (counterMod n f s).power = s.power := rfl
@[simp] theorem counterMod_cpl (n f s) : (counterMod n f s).cpl = s.cpl := rfl
@[simp] theorem counterMod_task (n f s) : (counterMod n f s).task = s.task := rfl
@[simp] theorem counterMod_retained (n f s) : (counterMod n f s).retained = s.retained := rfl
@[simp] theorem counterMod_image (n f s) : (counterMod n f s).image = s.image := rfl
@[simp] theorem counterMod_pub (n f s) : (counterMod n f s).pub = s.pub := rfl
@[simp] theorem counterMod_prog (n f s) : (counterMod n f s).prog = s.prog := rfl
@[simp] theorem counterMod_loop (n f s) : (counterMod n f s).loop = s.loop := rfl
@[simp] theorem counterMod_uc (n f s) : (counterMod n f s).uc = s.uc := rfl
@[simp] theorem counterMod_cj (n f s) : (counterMod n f s).cj = s.cj := rfl
@[simp] theorem counterMod_dig (n f s) : (counterMod n f s).dig = s.dig := rfl
@[simp] theorem counterMod_counter (n f s) : (counterMod n f s).counter = vmod s.counter n f := rfl
@[simp] theorem counterMod_group (n f s) : (counterMod n f s).group = s.group := rfl
@[simp] theorem counterMod_safety (n f s) : (counterMod n f s).safety = s.safety := rfl
@[simp] theorem counterMod_net (n f s) : (counterMod n f s).net = s.net := rfl
@[simp] theorem counterMod_can (n f s) : (counterMod n f s).can = s.can := rfl
@[simp] theorem counterMod_panel (n f s) : (counterMod n f s).panel = s.panel := rfl
@[simp] theorem counterMod_updates (n f s) : (counterMod n f s).updates = s.updates := rfl
@[simp] theorem counterMod_pair (n f s) : (counterMod n f s).pair = s.pair := rfl
@[simp] theorem counterMod_modes (n f s) : (counterMod n f s).modes = s.modes := rfl
@[simp] theorem counterMod_cfg (n f s) : (counterMod n f s).cfg = s.cfg := rfl
@[simp] theorem counterMod_fw (n f s) : (counterMod n f s).fw = s.fw := rfl
@[simp] theorem counterMod_out (n f s) : (counterMod n f s).out = s.out := rfl
@[simp] theorem counterMod_fresh (n f s) : (counterMod n f s).fresh = s.fresh := rfl
@[simp] theorem counterMod_pending (n f s) : (counterMod n f s).pending = s.pending := rfl

/-! ## groupMod -/

@[simp] theorem groupMod_recorder (n f s) : (groupMod n f s).recorder = s.recorder := rfl
@[simp] theorem groupMod_host (n f s) : (groupMod n f s).host = s.host := rfl
@[simp] theorem groupMod_time (n f s) : (groupMod n f s).time = s.time := rfl
@[simp] theorem groupMod_plinth (n f s) : (groupMod n f s).plinth = s.plinth := rfl
@[simp] theorem groupMod_power (n f s) : (groupMod n f s).power = s.power := rfl
@[simp] theorem groupMod_cpl (n f s) : (groupMod n f s).cpl = s.cpl := rfl
@[simp] theorem groupMod_task (n f s) : (groupMod n f s).task = s.task := rfl
@[simp] theorem groupMod_retained (n f s) : (groupMod n f s).retained = s.retained := rfl
@[simp] theorem groupMod_image (n f s) : (groupMod n f s).image = s.image := rfl
@[simp] theorem groupMod_pub (n f s) : (groupMod n f s).pub = s.pub := rfl
@[simp] theorem groupMod_prog (n f s) : (groupMod n f s).prog = s.prog := rfl
@[simp] theorem groupMod_loop (n f s) : (groupMod n f s).loop = s.loop := rfl
@[simp] theorem groupMod_uc (n f s) : (groupMod n f s).uc = s.uc := rfl
@[simp] theorem groupMod_cj (n f s) : (groupMod n f s).cj = s.cj := rfl
@[simp] theorem groupMod_dig (n f s) : (groupMod n f s).dig = s.dig := rfl
@[simp] theorem groupMod_counter (n f s) : (groupMod n f s).counter = s.counter := rfl
@[simp] theorem groupMod_group (n f s) : (groupMod n f s).group = vmod s.group n f := rfl
@[simp] theorem groupMod_safety (n f s) : (groupMod n f s).safety = s.safety := rfl
@[simp] theorem groupMod_net (n f s) : (groupMod n f s).net = s.net := rfl
@[simp] theorem groupMod_can (n f s) : (groupMod n f s).can = s.can := rfl
@[simp] theorem groupMod_panel (n f s) : (groupMod n f s).panel = s.panel := rfl
@[simp] theorem groupMod_updates (n f s) : (groupMod n f s).updates = s.updates := rfl
@[simp] theorem groupMod_pair (n f s) : (groupMod n f s).pair = s.pair := rfl
@[simp] theorem groupMod_modes (n f s) : (groupMod n f s).modes = s.modes := rfl
@[simp] theorem groupMod_cfg (n f s) : (groupMod n f s).cfg = s.cfg := rfl
@[simp] theorem groupMod_fw (n f s) : (groupMod n f s).fw = s.fw := rfl
@[simp] theorem groupMod_out (n f s) : (groupMod n f s).out = s.out := rfl
@[simp] theorem groupMod_fresh (n f s) : (groupMod n f s).fresh = s.fresh := rfl
@[simp] theorem groupMod_pending (n f s) : (groupMod n f s).pending = s.pending := rfl

/-! ## canMod -/

@[simp] theorem canMod_recorder (n f s) : (canMod n f s).recorder = s.recorder := rfl
@[simp] theorem canMod_host (n f s) : (canMod n f s).host = s.host := rfl
@[simp] theorem canMod_time (n f s) : (canMod n f s).time = s.time := rfl
@[simp] theorem canMod_plinth (n f s) : (canMod n f s).plinth = s.plinth := rfl
@[simp] theorem canMod_power (n f s) : (canMod n f s).power = s.power := rfl
@[simp] theorem canMod_cpl (n f s) : (canMod n f s).cpl = s.cpl := rfl
@[simp] theorem canMod_task (n f s) : (canMod n f s).task = s.task := rfl
@[simp] theorem canMod_retained (n f s) : (canMod n f s).retained = s.retained := rfl
@[simp] theorem canMod_image (n f s) : (canMod n f s).image = s.image := rfl
@[simp] theorem canMod_pub (n f s) : (canMod n f s).pub = s.pub := rfl
@[simp] theorem canMod_prog (n f s) : (canMod n f s).prog = s.prog := rfl
@[simp] theorem canMod_loop (n f s) : (canMod n f s).loop = s.loop := rfl
@[simp] theorem canMod_uc (n f s) : (canMod n f s).uc = s.uc := rfl
@[simp] theorem canMod_cj (n f s) : (canMod n f s).cj = s.cj := rfl
@[simp] theorem canMod_dig (n f s) : (canMod n f s).dig = s.dig := rfl
@[simp] theorem canMod_counter (n f s) : (canMod n f s).counter = s.counter := rfl
@[simp] theorem canMod_group (n f s) : (canMod n f s).group = s.group := rfl
@[simp] theorem canMod_safety (n f s) : (canMod n f s).safety = s.safety := rfl
@[simp] theorem canMod_net (n f s) : (canMod n f s).net = s.net := rfl
@[simp] theorem canMod_can (n f s) : (canMod n f s).can = vmod s.can n f := rfl
@[simp] theorem canMod_panel (n f s) : (canMod n f s).panel = s.panel := rfl
@[simp] theorem canMod_updates (n f s) : (canMod n f s).updates = s.updates := rfl
@[simp] theorem canMod_pair (n f s) : (canMod n f s).pair = s.pair := rfl
@[simp] theorem canMod_modes (n f s) : (canMod n f s).modes = s.modes := rfl
@[simp] theorem canMod_cfg (n f s) : (canMod n f s).cfg = s.cfg := rfl
@[simp] theorem canMod_fw (n f s) : (canMod n f s).fw = s.fw := rfl
@[simp] theorem canMod_out (n f s) : (canMod n f s).out = s.out := rfl
@[simp] theorem canMod_fresh (n f s) : (canMod n f s).fresh = s.fresh := rfl
@[simp] theorem canMod_pending (n f s) : (canMod n f s).pending = s.pending := rfl

/-! ## panelMod -/

@[simp] theorem panelMod_recorder (n f s) : (panelMod n f s).recorder = s.recorder := rfl
@[simp] theorem panelMod_host (n f s) : (panelMod n f s).host = s.host := rfl
@[simp] theorem panelMod_time (n f s) : (panelMod n f s).time = s.time := rfl
@[simp] theorem panelMod_plinth (n f s) : (panelMod n f s).plinth = s.plinth := rfl
@[simp] theorem panelMod_power (n f s) : (panelMod n f s).power = s.power := rfl
@[simp] theorem panelMod_cpl (n f s) : (panelMod n f s).cpl = s.cpl := rfl
@[simp] theorem panelMod_task (n f s) : (panelMod n f s).task = s.task := rfl
@[simp] theorem panelMod_retained (n f s) : (panelMod n f s).retained = s.retained := rfl
@[simp] theorem panelMod_image (n f s) : (panelMod n f s).image = s.image := rfl
@[simp] theorem panelMod_pub (n f s) : (panelMod n f s).pub = s.pub := rfl
@[simp] theorem panelMod_prog (n f s) : (panelMod n f s).prog = s.prog := rfl
@[simp] theorem panelMod_loop (n f s) : (panelMod n f s).loop = s.loop := rfl
@[simp] theorem panelMod_uc (n f s) : (panelMod n f s).uc = s.uc := rfl
@[simp] theorem panelMod_cj (n f s) : (panelMod n f s).cj = s.cj := rfl
@[simp] theorem panelMod_dig (n f s) : (panelMod n f s).dig = s.dig := rfl
@[simp] theorem panelMod_counter (n f s) : (panelMod n f s).counter = s.counter := rfl
@[simp] theorem panelMod_group (n f s) : (panelMod n f s).group = s.group := rfl
@[simp] theorem panelMod_safety (n f s) : (panelMod n f s).safety = s.safety := rfl
@[simp] theorem panelMod_net (n f s) : (panelMod n f s).net = s.net := rfl
@[simp] theorem panelMod_can (n f s) : (panelMod n f s).can = s.can := rfl
@[simp] theorem panelMod_panel (n f s) : (panelMod n f s).panel = vmod s.panel n f := rfl
@[simp] theorem panelMod_updates (n f s) : (panelMod n f s).updates = s.updates := rfl
@[simp] theorem panelMod_pair (n f s) : (panelMod n f s).pair = s.pair := rfl
@[simp] theorem panelMod_modes (n f s) : (panelMod n f s).modes = s.modes := rfl
@[simp] theorem panelMod_cfg (n f s) : (panelMod n f s).cfg = s.cfg := rfl
@[simp] theorem panelMod_fw (n f s) : (panelMod n f s).fw = s.fw := rfl
@[simp] theorem panelMod_out (n f s) : (panelMod n f s).out = s.out := rfl
@[simp] theorem panelMod_fresh (n f s) : (panelMod n f s).fresh = s.fresh := rfl
@[simp] theorem panelMod_pending (n f s) : (panelMod n f s).pending = s.pending := rfl

/-! ## funcMod -/

@[simp] theorem funcMod_recorder (n f s) : (funcMod n f s).recorder = s.recorder := rfl
@[simp] theorem funcMod_host (n f s) : (funcMod n f s).host = s.host := rfl
@[simp] theorem funcMod_time (n f s) : (funcMod n f s).time = s.time := rfl
@[simp] theorem funcMod_plinth (n f s) : (funcMod n f s).plinth = s.plinth := rfl
@[simp] theorem funcMod_power (n f s) : (funcMod n f s).power = s.power := rfl
@[simp] theorem funcMod_cpl (n f s) : (funcMod n f s).cpl = s.cpl := rfl
@[simp] theorem funcMod_task (n f s) : (funcMod n f s).task = s.task := rfl
@[simp] theorem funcMod_retained (n f s) : (funcMod n f s).retained = s.retained := rfl
@[simp] theorem funcMod_image (n f s) : (funcMod n f s).image = s.image := rfl
@[simp] theorem funcMod_pub (n f s) : (funcMod n f s).pub = s.pub := rfl
@[simp] theorem funcMod_prog (n f s) : (funcMod n f s).prog = s.prog := rfl
@[simp] theorem funcMod_loop (n f s) : (funcMod n f s).loop = s.loop := rfl
@[simp] theorem funcMod_uc (n f s) : (funcMod n f s).uc = s.uc := rfl
@[simp] theorem funcMod_cj (n f s) : (funcMod n f s).cj = s.cj := rfl
@[simp] theorem funcMod_dig (n f s) : (funcMod n f s).dig = s.dig := rfl
@[simp] theorem funcMod_counter (n f s) : (funcMod n f s).counter = s.counter := rfl
@[simp] theorem funcMod_group (n f s) : (funcMod n f s).group = s.group := rfl
@[simp] theorem funcMod_safety (n f s) : (funcMod n f s).safety = { s.safety with func := tabMod funcReset s.safety.func n f } := rfl
@[simp] theorem funcMod_net (n f s) : (funcMod n f s).net = s.net := rfl
@[simp] theorem funcMod_can (n f s) : (funcMod n f s).can = s.can := rfl
@[simp] theorem funcMod_panel (n f s) : (funcMod n f s).panel = s.panel := rfl
@[simp] theorem funcMod_updates (n f s) : (funcMod n f s).updates = s.updates := rfl
@[simp] theorem funcMod_pair (n f s) : (funcMod n f s).pair = s.pair := rfl
@[simp] theorem funcMod_modes (n f s) : (funcMod n f s).modes = s.modes := rfl
@[simp] theorem funcMod_cfg (n f s) : (funcMod n f s).cfg = s.cfg := rfl
@[simp] theorem funcMod_fw (n f s) : (funcMod n f s).fw = s.fw := rfl
@[simp] theorem funcMod_out (n f s) : (funcMod n f s).out = s.out := rfl
@[simp] theorem funcMod_fresh (n f s) : (funcMod n f s).fresh = s.fresh := rfl
@[simp] theorem funcMod_pending (n f s) : (funcMod n f s).pending = s.pending := rfl

/-! ## pairMod -/

@[simp] theorem pairMod_recorder (n f s) : (pairMod n f s).recorder = s.recorder := rfl
@[simp] theorem pairMod_host (n f s) : (pairMod n f s).host = s.host := rfl
@[simp] theorem pairMod_time (n f s) : (pairMod n f s).time = s.time := rfl
@[simp] theorem pairMod_plinth (n f s) : (pairMod n f s).plinth = s.plinth := rfl
@[simp] theorem pairMod_power (n f s) : (pairMod n f s).power = s.power := rfl
@[simp] theorem pairMod_cpl (n f s) : (pairMod n f s).cpl = s.cpl := rfl
@[simp] theorem pairMod_task (n f s) : (pairMod n f s).task = s.task := rfl
@[simp] theorem pairMod_retained (n f s) : (pairMod n f s).retained = s.retained := rfl
@[simp] theorem pairMod_image (n f s) : (pairMod n f s).image = s.image := rfl
@[simp] theorem pairMod_pub (n f s) : (pairMod n f s).pub = s.pub := rfl
@[simp] theorem pairMod_prog (n f s) : (pairMod n f s).prog = s.prog := rfl
@[simp] theorem pairMod_loop (n f s) : (pairMod n f s).loop = s.loop := rfl
@[simp] theorem pairMod_uc (n f s) : (pairMod n f s).uc = s.uc := rfl
@[simp] theorem pairMod_cj (n f s) : (pairMod n f s).cj = s.cj := rfl
@[simp] theorem pairMod_dig (n f s) : (pairMod n f s).dig = s.dig := rfl
@[simp] theorem pairMod_counter (n f s) : (pairMod n f s).counter = s.counter := rfl
@[simp] theorem pairMod_group (n f s) : (pairMod n f s).group = s.group := rfl
@[simp] theorem pairMod_safety (n f s) : (pairMod n f s).safety = { s.safety with pairs := tabMod pairInputReset s.safety.pairs n f } := rfl
@[simp] theorem pairMod_net (n f s) : (pairMod n f s).net = s.net := rfl
@[simp] theorem pairMod_can (n f s) : (pairMod n f s).can = s.can := rfl
@[simp] theorem pairMod_panel (n f s) : (pairMod n f s).panel = s.panel := rfl
@[simp] theorem pairMod_updates (n f s) : (pairMod n f s).updates = s.updates := rfl
@[simp] theorem pairMod_pair (n f s) : (pairMod n f s).pair = s.pair := rfl
@[simp] theorem pairMod_modes (n f s) : (pairMod n f s).modes = s.modes := rfl
@[simp] theorem pairMod_cfg (n f s) : (pairMod n f s).cfg = s.cfg := rfl
@[simp] theorem pairMod_fw (n f s) : (pairMod n f s).fw = s.fw := rfl
@[simp] theorem pairMod_out (n f s) : (pairMod n f s).out = s.out := rfl
@[simp] theorem pairMod_fresh (n f s) : (pairMod n f s).fresh = s.fresh := rfl
@[simp] theorem pairMod_pending (n f s) : (pairMod n f s).pending = s.pending := rfl

/-! ## loopMod -/

@[simp] theorem loopMod_recorder (n f s) : (loopMod n f s).recorder = s.recorder := rfl
@[simp] theorem loopMod_host (n f s) : (loopMod n f s).host = s.host := rfl
@[simp] theorem loopMod_time (n f s) : (loopMod n f s).time = s.time := rfl
@[simp] theorem loopMod_plinth (n f s) : (loopMod n f s).plinth = s.plinth := rfl
@[simp] theorem loopMod_power (n f s) : (loopMod n f s).power = s.power := rfl
@[simp] theorem loopMod_cpl (n f s) : (loopMod n f s).cpl = s.cpl := rfl
@[simp] theorem loopMod_task (n f s) : (loopMod n f s).task = s.task := rfl
@[simp] theorem loopMod_retained (n f s) : (loopMod n f s).retained = s.retained := rfl
@[simp] theorem loopMod_image (n f s) : (loopMod n f s).image = s.image := rfl
@[simp] theorem loopMod_pub (n f s) : (loopMod n f s).pub = s.pub := rfl
@[simp] theorem loopMod_prog (n f s) : (loopMod n f s).prog = s.prog := rfl
@[simp] theorem loopMod_loop (n f s) : (loopMod n f s).loop = { s.loop with loops := tabMod loopReset s.loop.loops n f } := rfl
@[simp] theorem loopMod_uc (n f s) : (loopMod n f s).uc = s.uc := rfl
@[simp] theorem loopMod_cj (n f s) : (loopMod n f s).cj = s.cj := rfl
@[simp] theorem loopMod_dig (n f s) : (loopMod n f s).dig = s.dig := rfl
@[simp] theorem loopMod_counter (n f s) : (loopMod n f s).counter = s.counter := rfl
@[simp] theorem loopMod_group (n f s) : (loopMod n f s).group = s.group := rfl
@[simp] theorem loopMod_safety (n f s) : (loopMod n f s).safety = s.safety := rfl
@[simp] theorem loopMod_net (n f s) : (loopMod n f s).net = s.net := rfl
@[simp] theorem loopMod_can (n f s) : (loopMod n f s).can = s.can := rfl
@[simp] theorem loopMod_panel (n f s) : (loopMod n f s).panel = s.panel := rfl
@[simp] theorem loopMod_updates (n f s) : (loopMod n f s).updates = s.updates := rfl
@[simp] theorem loopMod_pair (n f s) : (loopMod n f s).pair = s.pair := rfl
@[simp] theorem loopMod_modes (n f s) : (loopMod n f s).modes = s.modes := rfl
@[simp] theorem loopMod_cfg (n f s) : (loopMod n f s).cfg = s.cfg := rfl
@[simp] theorem loopMod_fw (n f s) : (loopMod n f s).fw = s.fw := rfl
@[simp] theorem loopMod_out (n f s) : (loopMod n f s).out = s.out := rfl
@[simp] theorem loopMod_fresh (n f s) : (loopMod n f s).fresh = s.fresh := rfl
@[simp] theorem loopMod_pending (n f s) : (loopMod n f s).pending = s.pending := rfl

/-! ## portMod -/

@[simp] theorem portMod_recorder (n f s) : (portMod n f s).recorder = s.recorder := rfl
@[simp] theorem portMod_host (n f s) : (portMod n f s).host = s.host := rfl
@[simp] theorem portMod_time (n f s) : (portMod n f s).time = s.time := rfl
@[simp] theorem portMod_plinth (n f s) : (portMod n f s).plinth = s.plinth := rfl
@[simp] theorem portMod_power (n f s) : (portMod n f s).power = s.power := rfl
@[simp] theorem portMod_cpl (n f s) : (portMod n f s).cpl = s.cpl := rfl
@[simp] theorem portMod_task (n f s) : (portMod n f s).task = s.task := rfl
@[simp] theorem portMod_retained (n f s) : (portMod n f s).retained = s.retained := rfl
@[simp] theorem portMod_image (n f s) : (portMod n f s).image = s.image := rfl
@[simp] theorem portMod_pub (n f s) : (portMod n f s).pub = s.pub := rfl
@[simp] theorem portMod_prog (n f s) : (portMod n f s).prog = s.prog := rfl
@[simp] theorem portMod_loop (n f s) : (portMod n f s).loop = s.loop := rfl
@[simp] theorem portMod_uc (n f s) : (portMod n f s).uc = s.uc := rfl
@[simp] theorem portMod_cj (n f s) : (portMod n f s).cj = s.cj := rfl
@[simp] theorem portMod_dig (n f s) : (portMod n f s).dig = s.dig := rfl
@[simp] theorem portMod_counter (n f s) : (portMod n f s).counter = s.counter := rfl
@[simp] theorem portMod_group (n f s) : (portMod n f s).group = s.group := rfl
@[simp] theorem portMod_safety (n f s) : (portMod n f s).safety = s.safety := rfl
@[simp] theorem portMod_net (n f s) : (portMod n f s).net = { s.net with port := vmod s.net.port n f } := rfl
@[simp] theorem portMod_can (n f s) : (portMod n f s).can = s.can := rfl
@[simp] theorem portMod_panel (n f s) : (portMod n f s).panel = s.panel := rfl
@[simp] theorem portMod_updates (n f s) : (portMod n f s).updates = s.updates := rfl
@[simp] theorem portMod_pair (n f s) : (portMod n f s).pair = s.pair := rfl
@[simp] theorem portMod_modes (n f s) : (portMod n f s).modes = s.modes := rfl
@[simp] theorem portMod_cfg (n f s) : (portMod n f s).cfg = s.cfg := rfl
@[simp] theorem portMod_fw (n f s) : (portMod n f s).fw = s.fw := rfl
@[simp] theorem portMod_out (n f s) : (portMod n f s).out = s.out := rfl
@[simp] theorem portMod_fresh (n f s) : (portMod n f s).fresh = s.fresh := rfl
@[simp] theorem portMod_pending (n f s) : (portMod n f s).pending = s.pending := rfl

/-! ## nodeMod -/

@[simp] theorem nodeMod_recorder (n f s) : (nodeMod n f s).recorder = s.recorder := rfl
@[simp] theorem nodeMod_host (n f s) : (nodeMod n f s).host = s.host := rfl
@[simp] theorem nodeMod_time (n f s) : (nodeMod n f s).time = s.time := rfl
@[simp] theorem nodeMod_plinth (n f s) : (nodeMod n f s).plinth = s.plinth := rfl
@[simp] theorem nodeMod_power (n f s) : (nodeMod n f s).power = s.power := rfl
@[simp] theorem nodeMod_cpl (n f s) : (nodeMod n f s).cpl = s.cpl := rfl
@[simp] theorem nodeMod_task (n f s) : (nodeMod n f s).task = s.task := rfl
@[simp] theorem nodeMod_retained (n f s) : (nodeMod n f s).retained = s.retained := rfl
@[simp] theorem nodeMod_image (n f s) : (nodeMod n f s).image = s.image := rfl
@[simp] theorem nodeMod_pub (n f s) : (nodeMod n f s).pub = s.pub := rfl
@[simp] theorem nodeMod_prog (n f s) : (nodeMod n f s).prog = s.prog := rfl
@[simp] theorem nodeMod_loop (n f s) : (nodeMod n f s).loop = s.loop := rfl
@[simp] theorem nodeMod_uc (n f s) : (nodeMod n f s).uc = s.uc := rfl
@[simp] theorem nodeMod_cj (n f s) : (nodeMod n f s).cj = s.cj := rfl
@[simp] theorem nodeMod_dig (n f s) : (nodeMod n f s).dig = s.dig := rfl
@[simp] theorem nodeMod_counter (n f s) : (nodeMod n f s).counter = s.counter := rfl
@[simp] theorem nodeMod_group (n f s) : (nodeMod n f s).group = s.group := rfl
@[simp] theorem nodeMod_safety (n f s) : (nodeMod n f s).safety = s.safety := rfl
@[simp] theorem nodeMod_net (n f s) : (nodeMod n f s).net = { s.net with nodes := tabMod nodeReset s.net.nodes n f } := rfl
@[simp] theorem nodeMod_can (n f s) : (nodeMod n f s).can = s.can := rfl
@[simp] theorem nodeMod_panel (n f s) : (nodeMod n f s).panel = s.panel := rfl
@[simp] theorem nodeMod_updates (n f s) : (nodeMod n f s).updates = s.updates := rfl
@[simp] theorem nodeMod_pair (n f s) : (nodeMod n f s).pair = s.pair := rfl
@[simp] theorem nodeMod_modes (n f s) : (nodeMod n f s).modes = s.modes := rfl
@[simp] theorem nodeMod_cfg (n f s) : (nodeMod n f s).cfg = s.cfg := rfl
@[simp] theorem nodeMod_fw (n f s) : (nodeMod n f s).fw = s.fw := rfl
@[simp] theorem nodeMod_out (n f s) : (nodeMod n f s).out = s.out := rfl
@[simp] theorem nodeMod_fresh (n f s) : (nodeMod n f s).fresh = s.fresh := rfl
@[simp] theorem nodeMod_pending (n f s) : (nodeMod n f s).pending = s.pending := rfl

/-! ## outMod -/

@[simp] theorem outMod_recorder (n f s) : (outMod n f s).recorder = s.recorder := rfl
@[simp] theorem outMod_host (n f s) : (outMod n f s).host = s.host := rfl
@[simp] theorem outMod_time (n f s) : (outMod n f s).time = s.time := rfl
@[simp] theorem outMod_plinth (n f s) : (outMod n f s).plinth = s.plinth := rfl
@[simp] theorem outMod_power (n f s) : (outMod n f s).power = s.power := rfl
@[simp] theorem outMod_cpl (n f s) : (outMod n f s).cpl = s.cpl := rfl
@[simp] theorem outMod_task (n f s) : (outMod n f s).task = s.task := rfl
@[simp] theorem outMod_retained (n f s) : (outMod n f s).retained = s.retained := rfl
@[simp] theorem outMod_image (n f s) : (outMod n f s).image = s.image := rfl
@[simp] theorem outMod_pub (n f s) : (outMod n f s).pub = s.pub := rfl
@[simp] theorem outMod_prog (n f s) : (outMod n f s).prog = s.prog := rfl
@[simp] theorem outMod_loop (n f s) : (outMod n f s).loop = s.loop := rfl
@[simp] theorem outMod_uc (n f s) : (outMod n f s).uc = s.uc := rfl
@[simp] theorem outMod_cj (n f s) : (outMod n f s).cj = s.cj := rfl
@[simp] theorem outMod_dig (n f s) : (outMod n f s).dig = s.dig := rfl
@[simp] theorem outMod_counter (n f s) : (outMod n f s).counter = s.counter := rfl
@[simp] theorem outMod_group (n f s) : (outMod n f s).group = s.group := rfl
@[simp] theorem outMod_safety (n f s) : (outMod n f s).safety = s.safety := rfl
@[simp] theorem outMod_net (n f s) : (outMod n f s).net = { s.net with outs := tabMod outTelegramReset s.net.outs n f } := rfl
@[simp] theorem outMod_can (n f s) : (outMod n f s).can = s.can := rfl
@[simp] theorem outMod_panel (n f s) : (outMod n f s).panel = s.panel := rfl
@[simp] theorem outMod_updates (n f s) : (outMod n f s).updates = s.updates := rfl
@[simp] theorem outMod_pair (n f s) : (outMod n f s).pair = s.pair := rfl
@[simp] theorem outMod_modes (n f s) : (outMod n f s).modes = s.modes := rfl
@[simp] theorem outMod_cfg (n f s) : (outMod n f s).cfg = s.cfg := rfl
@[simp] theorem outMod_fw (n f s) : (outMod n f s).fw = s.fw := rfl
@[simp] theorem outMod_out (n f s) : (outMod n f s).out = s.out := rfl
@[simp] theorem outMod_fresh (n f s) : (outMod n f s).fresh = s.fresh := rfl
@[simp] theorem outMod_pending (n f s) : (outMod n f s).pending = s.pending := rfl

/-! ## slotMod -/

@[simp] theorem slotMod_recorder (n f s) : (slotMod n f s).recorder = s.recorder := rfl
@[simp] theorem slotMod_host (n f s) : (slotMod n f s).host = s.host := rfl
@[simp] theorem slotMod_time (n f s) : (slotMod n f s).time = s.time := rfl
@[simp] theorem slotMod_plinth (n f s) : (slotMod n f s).plinth = s.plinth := rfl
@[simp] theorem slotMod_power (n f s) : (slotMod n f s).power = s.power := rfl
@[simp] theorem slotMod_cpl (n f s) : (slotMod n f s).cpl = s.cpl := rfl
@[simp] theorem slotMod_task (n f s) : (slotMod n f s).task = s.task := rfl
@[simp] theorem slotMod_retained (n f s) : (slotMod n f s).retained = s.retained := rfl
@[simp] theorem slotMod_image (n f s) : (slotMod n f s).image = s.image := rfl
@[simp] theorem slotMod_pub (n f s) : (slotMod n f s).pub = s.pub := rfl
@[simp] theorem slotMod_prog (n f s) : (slotMod n f s).prog = { s.prog with slot := vmod s.prog.slot n f } := rfl
@[simp] theorem slotMod_loop (n f s) : (slotMod n f s).loop = s.loop := rfl
@[simp] theorem slotMod_uc (n f s) : (slotMod n f s).uc = s.uc := rfl
@[simp] theorem slotMod_cj (n f s) : (slotMod n f s).cj = s.cj := rfl
@[simp] theorem slotMod_dig (n f s) : (slotMod n f s).dig = s.dig := rfl
@[simp] theorem slotMod_counter (n f s) : (slotMod n f s).counter = s.counter := rfl
@[simp] theorem slotMod_group (n f s) : (slotMod n f s).group = s.group := rfl
@[simp] theorem slotMod_safety (n f s) : (slotMod n f s).safety = s.safety := rfl
@[simp] theorem slotMod_net (n f s) : (slotMod n f s).net = s.net := rfl
@[simp] theorem slotMod_can (n f s) : (slotMod n f s).can = s.can := rfl
@[simp] theorem slotMod_panel (n f s) : (slotMod n f s).panel = s.panel := rfl
@[simp] theorem slotMod_updates (n f s) : (slotMod n f s).updates = s.updates := rfl
@[simp] theorem slotMod_pair (n f s) : (slotMod n f s).pair = s.pair := rfl
@[simp] theorem slotMod_modes (n f s) : (slotMod n f s).modes = s.modes := rfl
@[simp] theorem slotMod_cfg (n f s) : (slotMod n f s).cfg = s.cfg := rfl
@[simp] theorem slotMod_fw (n f s) : (slotMod n f s).fw = s.fw := rfl
@[simp] theorem slotMod_out (n f s) : (slotMod n f s).out = s.out := rfl
@[simp] theorem slotMod_fresh (n f s) : (slotMod n f s).fresh = s.fresh := rfl
@[simp] theorem slotMod_pending (n f s) : (slotMod n f s).pending = s.pending := rfl

/-! ## stationMod -/

@[simp] theorem stationMod_recorder (n f s) : (stationMod n f s).recorder = s.recorder := rfl
@[simp] theorem stationMod_host (n f s) : (stationMod n f s).host = s.host := rfl
@[simp] theorem stationMod_time (n f s) : (stationMod n f s).time = s.time := rfl
@[simp] theorem stationMod_plinth (n f s) : (stationMod n f s).plinth = s.plinth := rfl
@[simp] theorem stationMod_power (n f s) : (stationMod n f s).power = s.power := rfl
@[simp] theorem stationMod_cpl (n f s) : (stationMod n f s).cpl = s.cpl := rfl
@[simp] theorem stationMod_task (n f s) : (stationMod n f s).task = s.task := rfl
@[simp] theorem stationMod_retained (n f s) : (stationMod n f s).retained = s.retained := rfl
@[simp] theorem stationMod_image (n f s) : (stationMod n f s).image = { s.image with stations := vmod s.image.stations n f } := rfl
@[simp] theorem stationMod_pub (n f s) : (stationMod n f s).pub = s.pub := rfl
@[simp] theorem stationMod_prog (n f s) : (stationMod n f s).prog = s.prog := rfl
@[simp] theorem stationMod_loop (n f s) : (stationMod n f s).loop = s.loop := rfl
@[simp] theorem stationMod_uc (n f s) : (stationMod n f s).uc = s.uc := rfl
@[simp] theorem stationMod_cj (n f s) : (stationMod n f s).cj = s.cj := rfl
@[simp] theorem stationMod_dig (n f s) : (stationMod n f s).dig = s.dig := rfl
@[simp] theorem stationMod_counter (n f s) : (stationMod n f s).counter = s.counter := rfl
@[simp] theorem stationMod_group (n f s) : (stationMod n f s).group = s.group := rfl
@[simp] theorem stationMod_safety (n f s) : (stationMod n f s).safety = s.safety := rfl
@[simp] theorem stationMod_net (n f s) : (stationMod n f s).net = s.net := rfl
@[simp] theorem stationMod_can (n f s) : (stationMod n f s).can = s.can := rfl
@[simp] theorem stationMod_panel (n f s) : (stationMod n f s).panel = s.panel := rfl
@[simp] theorem stationMod_updates (n f s) : (stationMod n f s).updates = s.updates := rfl
@[simp] theorem stationMod_pair (n f s) : (stationMod n f s).pair = s.pair := rfl
@[simp] theorem stationMod_modes (n f s) : (stationMod n f s).modes = s.modes := rfl
@[simp] theorem stationMod_cfg (n f s) : (stationMod n f s).cfg = s.cfg := rfl
@[simp] theorem stationMod_fw (n f s) : (stationMod n f s).fw = s.fw := rfl
@[simp] theorem stationMod_out (n f s) : (stationMod n f s).out = s.out := rfl
@[simp] theorem stationMod_fresh (n f s) : (stationMod n f s).fresh = s.fresh := rfl
@[simp] theorem stationMod_pending (n f s) : (stationMod n f s).pending = s.pending := rfl

/-! ## tlsMod -/

@[simp] theorem tlsMod_recorder (n f s) : (tlsMod n f s).recorder = s.recorder := rfl
@[simp] theorem tlsMod_host (n f s) : (tlsMod n f s).host = { s.host with tls := vmod s.host.tls n.val (fun o => o.map f) } := rfl
@[simp] theorem tlsMod_time (n f s) : (tlsMod n f s).time = s.time := rfl
@[simp] theorem tlsMod_plinth (n f s) : (tlsMod n f s).plinth = s.plinth := rfl
@[simp] theorem tlsMod_power (n f s) : (tlsMod n f s).power = s.power := rfl
@[simp] theorem tlsMod_cpl (n f s) : (tlsMod n f s).cpl = s.cpl := rfl
@[simp] theorem tlsMod_task (n f s) : (tlsMod n f s).task = s.task := rfl
@[simp] theorem tlsMod_retained (n f s) : (tlsMod n f s).retained = s.retained := rfl
@[simp] theorem tlsMod_image (n f s) : (tlsMod n f s).image = s.image := rfl
@[simp] theorem tlsMod_pub (n f s) : (tlsMod n f s).pub = s.pub := rfl
@[simp] theorem tlsMod_prog (n f s) : (tlsMod n f s).prog = s.prog := rfl
@[simp] theorem tlsMod_loop (n f s) : (tlsMod n f s).loop = s.loop := rfl
@[simp] theorem tlsMod_uc (n f s) : (tlsMod n f s).uc = s.uc := rfl
@[simp] theorem tlsMod_cj (n f s) : (tlsMod n f s).cj = s.cj := rfl
@[simp] theorem tlsMod_dig (n f s) : (tlsMod n f s).dig = s.dig := rfl
@[simp] theorem tlsMod_counter (n f s) : (tlsMod n f s).counter = s.counter := rfl
@[simp] theorem tlsMod_group (n f s) : (tlsMod n f s).group = s.group := rfl
@[simp] theorem tlsMod_safety (n f s) : (tlsMod n f s).safety = s.safety := rfl
@[simp] theorem tlsMod_net (n f s) : (tlsMod n f s).net = s.net := rfl
@[simp] theorem tlsMod_can (n f s) : (tlsMod n f s).can = s.can := rfl
@[simp] theorem tlsMod_panel (n f s) : (tlsMod n f s).panel = s.panel := rfl
@[simp] theorem tlsMod_updates (n f s) : (tlsMod n f s).updates = s.updates := rfl
@[simp] theorem tlsMod_pair (n f s) : (tlsMod n f s).pair = s.pair := rfl
@[simp] theorem tlsMod_modes (n f s) : (tlsMod n f s).modes = s.modes := rfl
@[simp] theorem tlsMod_cfg (n f s) : (tlsMod n f s).cfg = s.cfg := rfl
@[simp] theorem tlsMod_fw (n f s) : (tlsMod n f s).fw = s.fw := rfl
@[simp] theorem tlsMod_out (n f s) : (tlsMod n f s).out = s.out := rfl
@[simp] theorem tlsMod_fresh (n f s) : (tlsMod n f s).fresh = s.fresh := rfl
@[simp] theorem tlsMod_pending (n f s) : (tlsMod n f s).pending = s.pending := rfl

/-! ## updateMod -/

@[simp] theorem updateMod_recorder (n f s) : (updateMod n f s).recorder = s.recorder := rfl
@[simp] theorem updateMod_host (n f s) : (updateMod n f s).host = s.host := rfl
@[simp] theorem updateMod_time (n f s) : (updateMod n f s).time = s.time := rfl
@[simp] theorem updateMod_plinth (n f s) : (updateMod n f s).plinth = s.plinth := rfl
@[simp] theorem updateMod_power (n f s) : (updateMod n f s).power = s.power := rfl
@[simp] theorem updateMod_cpl (n f s) : (updateMod n f s).cpl = s.cpl := rfl
@[simp] theorem updateMod_task (n f s) : (updateMod n f s).task = s.task := rfl
@[simp] theorem updateMod_retained (n f s) : (updateMod n f s).retained = s.retained := rfl
@[simp] theorem updateMod_image (n f s) : (updateMod n f s).image = s.image := rfl
@[simp] theorem updateMod_pub (n f s) : (updateMod n f s).pub = s.pub := rfl
@[simp] theorem updateMod_prog (n f s) : (updateMod n f s).prog = s.prog := rfl
@[simp] theorem updateMod_loop (n f s) : (updateMod n f s).loop = s.loop := rfl
@[simp] theorem updateMod_uc (n f s) : (updateMod n f s).uc = s.uc := rfl
@[simp] theorem updateMod_cj (n f s) : (updateMod n f s).cj = s.cj := rfl
@[simp] theorem updateMod_dig (n f s) : (updateMod n f s).dig = s.dig := rfl
@[simp] theorem updateMod_counter (n f s) : (updateMod n f s).counter = s.counter := rfl
@[simp] theorem updateMod_group (n f s) : (updateMod n f s).group = s.group := rfl
@[simp] theorem updateMod_safety (n f s) : (updateMod n f s).safety = s.safety := rfl
@[simp] theorem updateMod_net (n f s) : (updateMod n f s).net = s.net := rfl
@[simp] theorem updateMod_can (n f s) : (updateMod n f s).can = s.can := rfl
@[simp] theorem updateMod_panel (n f s) : (updateMod n f s).panel = s.panel := rfl
@[simp] theorem updateMod_updates (n f s) : (updateMod n f s).updates = s.updates.map fun u => if u.order = n then f u else u := rfl
@[simp] theorem updateMod_pair (n f s) : (updateMod n f s).pair = s.pair := rfl
@[simp] theorem updateMod_modes (n f s) : (updateMod n f s).modes = s.modes := rfl
@[simp] theorem updateMod_cfg (n f s) : (updateMod n f s).cfg = s.cfg := rfl
@[simp] theorem updateMod_fw (n f s) : (updateMod n f s).fw = s.fw := rfl
@[simp] theorem updateMod_out (n f s) : (updateMod n f s).out = s.out := rfl
@[simp] theorem updateMod_fresh (n f s) : (updateMod n f s).fresh = s.fresh := rfl
@[simp] theorem updateMod_pending (n f s) : (updateMod n f s).pending = s.pending := rfl

/-! ## Vectors -/

theorem vmod_eq {α : Type} {n : Nat} (v : Vector α n) (i : Nat) (f : α → α) (h : i < n) : vmod v i f = v.set i (f v[i]) := by
  simp only [vmod, Vector.getElem?_eq_getElem h]
  ext j hj
  by_cases e : i = j
  · subst e; simp
  · simp [e]

/-- The element changed. -/
@[simp] theorem vmod_same {α : Type} {n : Nat} (v : Vector α n) (i : Nat) (f : α → α) (h : i < n) : (vmod v i f)[i] = f v[i] := by
  simp [vmod_eq v i f h]

/-- Every other element stays. -/
theorem vmod_other {α : Type} {n : Nat} (v : Vector α n) (i : Nat) (f : α → α) {j : Nat} (hj : j < n) (h : j ≠ i) :
    (vmod v i f)[j] = v[j] := by
  unfold vmod
  split
  · simp [Ne.symm h]
  · rfl

@[simp] theorem vget_vmod_same {α : Type} {n : Nat} (d : α) (v : Vector α n) (i : Nat) (f : α → α) (h : i < n) :
    vget d (vmod v i f) i = f (vget d v i) := by
  simp [vget, h, vmod_same]

theorem vget_vmod_other {α : Type} {n : Nat} (d : α) (v : Vector α n) (i : Nat) (f : α → α) {j : Nat} (h : j ≠ i) :
    vget d (vmod v i f) j = vget d v j := by
  by_cases hj : j < n
  · simp [vget, hj, vmod_other v i f hj h]
  · simp [vget, hj]

@[simp] theorem vget_vset_same {α : Type} {n : Nat} (d : α) (v : Vector α n) (i : Nat) (x : α) (h : i < n) :
    vget d (vset v i x) i = x := by
  simp [vget, vset, h]

theorem vget_vset_other {α : Type} {n : Nat} (d : α) (v : Vector α n) (i : Nat) (x : α) {j : Nat} (h : j ≠ i) :
    vget d (vset v i x) j = vget d v j := by
  by_cases hj : j < n
  · simp [vget, vset, hj, Ne.symm h]
  · simp [vget, hj]

end Sys2Proof.Machine
end

