-- ==== Sys2Proof/Laws/Sessions.lean ====
section
/-! SUPPORT. A state from its frame: what changes one part is the state with another value of that part; sessions after a change. -/

namespace Sys2Proof.Machine

/-- A state is its parts. -/
theorem State.ext_parts {s t : State} (h : ∀ p, Part.same p s t) : t = s := by
  obtain ⟨h0, h1, h2, h3, h4, h5, h6, h7, h8, h9, h10, h11, h12, h13, h14, h15, h16, h17, h18, h19, h20, h21, h22, h23, h24, h25, h26, h27, h28⟩ :
      t.recorder = s.recorder ∧
      t.host = s.host ∧
      t.time = s.time ∧
      t.plinth = s.plinth ∧
      t.power = s.power ∧
      t.cpl = s.cpl ∧
      t.task = s.task ∧
      t.retained = s.retained ∧
      t.image = s.image ∧
      t.pub = s.pub ∧
      t.prog = s.prog ∧
      t.loop = s.loop ∧
      t.uc = s.uc ∧
      t.cj = s.cj ∧
      t.dig = s.dig ∧
      t.counter = s.counter ∧
      t.group = s.group ∧
      t.safety = s.safety ∧
      t.net = s.net ∧
      t.can = s.can ∧
      t.panel = s.panel ∧
      t.updates = s.updates ∧
      t.pair = s.pair ∧
      t.modes = s.modes ∧
      t.cfg = s.cfg ∧
      t.fw = s.fw ∧
      t.out = s.out ∧
      t.fresh = s.fresh ∧
      t.pending = s.pending :=
    ⟨h .recorder, h .host, h .time, h .plinth, h .power, h .cpl, h .task, h .retained, h .image, h .pub, h .prog, h .loop, h .uc, h .cj, h .dig, h .counter, h .group, h .safety, h .net, h .can, h .panel, h .updates, h .pair, h .modes, h .cfg, h .fw, h .out, h .fresh, h .pending⟩
  cases s
  cases t
  dsimp only at h0 h1 h2 h3 h4 h5 h6 h7 h8 h9 h10 h11 h12 h13 h14 h15 h16 h17 h18 h19 h20 h21 h22 h23 h24 h25 h26 h27 h28
  subst h0 h1 h2 h3 h4 h5 h6 h7 h8 h9 h10 h11 h12 h13 h14 h15 h16 h17 h18 h19 h20 h21 h22 h23 h24 h25 h26 h27 h28
  rfl

theorem Within.eq_recorder {s t : State} (h : Within [.recorder] s t) :
    t = { s with recorder := t.recorder } := by
  refine State.ext_parts fun p => ?_
  have := h.same p
  cases p <;> first | rfl | exact this rfl

theorem Within.eq_out {s t : State} (h : Within [.out] s t) :
    t = { s with out := t.out } := by
  refine State.ext_parts fun p => ?_
  have := h.same p
  cases p <;> first | rfl | exact this rfl

theorem Within.eq_recorder_out {s t : State} (h : Within [.recorder, .out] s t) :
    t = { s with recorder := t.recorder, out := t.out } := by
  refine State.ext_parts fun p => ?_
  have := h.same p
  cases p <;> first | rfl | exact this rfl

theorem Within.eq_recorder_safety_out {s t : State} (h : Within [.recorder, .safety, .out] s t) :
    t = { s with recorder := t.recorder, safety := t.safety, out := t.out } := by
  refine State.ext_parts fun p => ?_
  have := h.same p
  cases p <;> first | rfl | exact this rfl

theorem Within.eq_host_out {s t : State} (h : Within [.host, .out] s t) :
    t = { s with host := t.host, out := t.out } := by
  refine State.ext_parts fun p => ?_
  have := h.same p
  cases p <;> first | rfl | exact this rfl

theorem record_eq (sev code src data) (s : State) :
    record sev code src data s = { s with recorder := (record sev code src data s).recorder } := (record_within ..).eq_recorder

theorem audit_eq (code src session data) (s : State) :
    audit code src session data s = { s with recorder := (audit code src session data s).recorder } := (audit_within ..).eq_recorder

/-- A session after a change of its mailbox's session: the mailbox exists. -/
theorem sessionOf_sessionMod {m : MbxId} {b : Mailbox} {s : State} (h : mailboxOf m s = some b) (f : Session → Session) :
    sessionOf (mbxSession m) (sessionMod (mbxSession m) f s) = f (sessionOf (mbxSession m) s) := by
  cases m with
  | loc n => simp [mbxSession, sessionOf, sessionMod]
  | tls t n =>
    simp only [mailboxOf, Option.map_eq_some_iff] at h
    obtain ⟨c, hc, -⟩ := h
    simp [mbxSession, sessionOf, sessionMod, tlsMod]
    simp at hc
    simp [hc]

/-- A change of one session leaves every other as it is. -/
theorem sessionOf_sessionMod_other {x y : SessId} (h : y ≠ x) (f : Session → Session) (s : State) :
    sessionOf y (sessionMod x f s) = sessionOf y s := by
  cases x with
  | loc n =>
    cases y with
    | loc k =>
      have : k.val ≠ n.val := fun e => h (by rw [Fin.ext e])
      simp [sessionOf, sessionMod, vmod_other _ _ _ k.isLt this]
    | tls t => rfl
  | tls n =>
    cases y with
    | loc k => rfl
    | tls k =>
      have : k.val ≠ n.val := fun e => h (by rw [Fin.ext e])
      simp [sessionOf, sessionMod, tlsMod, vmod_other _ _ _ k.isLt this]

end Sys2Proof.Machine
end

