-- ==== Sys2Proof/Laws/Facts.lean ====
section
/-! SUPPORT. What single operations do to the one field they are for; the frames say the rest. -/

namespace Sys2Proof.Machine

/-! ## Vectors -/

@[simp] theorem vmod_get_same {α : Type} {n : Nat} (v : Vector α n) (i : Nat) (f : α → α) : (vmod v i f)[i]? = v[i]?.map f := by
  unfold vmod
  by_cases h : i < n
  · simp [h]
  · simp [h]

theorem vmod_get_other {α : Type} {n : Nat} (v : Vector α n) {i j : Nat} (h : i ≠ j) (f : α → α) : (vmod v i f)[j]? = v[j]? := by
  unfold vmod
  split
  · rw [Vector.getElem?_setIfInBounds_ne (by omega)]
  · rfl

/-! ## The change log -/

theorem changeLogBy_password (q a b c d e s) : (changeLogBy q a b c d e s).safety.password = s.safety.password := by
  unfold changeLogBy changeLog
  dsimp only
  split <;> split <;> first | rfl | (show (record _ _ _ _ _).safety.password = _; rw [(record_within ..).same .safety rfl])

/-! ## A commit -/

theorem commitSet_cfg (c p g i x s) : (commitSet c p g i x s).cfg = { s.cfg with cur := c, valid := true, configId := now s, session := none } := by
  unfold commitSet
  dsimp only
  rw [show ∀ a b, (retainedCaution a b).cfg = b.cfg from fun a b => (retainedCaution_within ..).same .cfg rfl]
  rw [show ∀ a b c d e, (audit a b c d e).cfg = e.cfg from fun a b c d e => (audit_within ..).same .cfg rfl]
  have h1 : ∀ (f : State → Nat → State) (ps : List Part) (hp : ps.contains .cfg = false) (h : ∀ t n, Within ps t (f t n)) (xs : List Nat) t, (xs.foldl f t).cfg = t.cfg :=
    fun f ps hp h xs t => (Within.foldl h xs (Within.refl ps t)).same .cfg hp
  unfold takeSet
  extract_lets o1 src1 s0 s1 d nt src2 s2 s3 objs s4 s5 s6 loops s7 s8 src3 s9
  rw [show ∀ a b, (funcsFollow a b).cfg = b.cfg from fun a b => (funcsFollow_within ..).same .cfg rfl]
  show s8.cfg = _
  rw [show s8.cfg = s7.cfg from h1 _ _ (by rfl) (fun t n => panelConfigure_within n _ t) _ _]
  rw [show s7.cfg = s6.cfg from h1 _ _ (by rfl) (fun t n => loopConfigure_within n _ t) _ _]
  rw [show s6.cfg = s5.cfg from h1 _ _ (by rfl) (fun t n => digConfigure_within n _ t) _ _]
  rw [show s5.cfg = s4.cfg from h1 _ _ (by rfl) (fun t n => ucConfigure_within n _ t) _ _]
  rw [show s4.cfg = s3.cfg from h1 _ _ (by rfl) (fun t n => objConfigure_within (n / 128) (n % 128) _ t) _ _]
  rw [show s3.cfg = s2.cfg from h1 _ _ (by rfl) (fun t n => canConfigure_within n _ t) _ _]
  have e2 : s2.cfg = s1.cfg := by show State.cfg (if _ then _ else _) = _; split <;> rfl
  have e1 : s1.cfg = s0.cfg := by
    show State.cfg (if _ then _ else _) = _
    split
    · rfl
    · rw [show ∀ a b c, (rebuildImage a b c).cfg = c.cfg from fun a b c => (rebuildImage_within ..).same .cfg rfl,
        show ∀ a, (stationsFollow a).cfg = a.cfg from fun a => (stationsFollow_within ..).same .cfg rfl,
        show ∀ a b c d, (dropForces a b c d).cfg = d.cfg from fun a b c d => (dropForces_within ..).same .cfg rfl]
  have e0 : s0.cfg = { (sendSet s.cfg.cur c (now s) s).cfg with configId := now s, session := none, cur := c, valid := true } := by
    simp only [s0]
    rw [show ∀ a b, (realignMerge a b).cfg = b.cfg from fun a b => (realignMerge_within ..).same .cfg rfl]
  rw [e2, e1, e0]
  rw [show ∀ a b c d, (sendSet a b c d).cfg = d.cfg from fun a b c d => (sendSet_within ..).same .cfg rfl]

/-! ## Tasks -/

/-- A task after a change that leaves the tasks alone. -/
theorem Within.taskAt_eq {ps : List Part} {u v : State} (w : Within ps u v) (c : ps.contains .task = false) (t : Nat) :
    taskAt t v = taskAt t u := by
  unfold taskAt
  rw [show v.task = u.task from w.same .task c]

/-- A task after a change of it. -/
@[simp] theorem taskAt_taskMod (t : Nat) (f : Task → Task) (s : State) : taskAt t (taskMod t f s) = (taskAt t s).map f := by
  unfold taskAt
  rw [taskMod_task, vmod_get_same]

/-- A task that enters a state is in it, and asks for nothing else. -/
theorem takeState_at {t : Nat} {s : State} {k : Task} (h : taskAt t s = some k) (x : TaskState) :
    ∃ y, taskAt t (takeState t x s) = some y ∧ y.st = x ∧ y.leaving = none ∧ y.stepAsked = false := by
  have key : ∃ f : Task → Task, (f k).st = x ∧ (f k).leaving = none ∧ (f k).stepAsked = false ∧
      taskAt t (takeState t x s) = taskAt t (taskMod t f s) := by
    unfold takeState
    rw [h]
    extract_lets s1
    refine ⟨_, rfl, rfl, rfl, (?_ : _ = taskAt t s1)⟩
    cases x <;> dsimp only
    · rw [(taskStale_within ..).taskAt_eq rfl, (forceTaskSafe_within ..).taskAt_eq rfl]
      split
      · rw [(idleOutputsOf_within ..).taskAt_eq rfl]
      · rfl
    · split
      · rfl
      · rw [(taskStale_within ..).taskAt_eq rfl]
    · split
      · rfl
      · rw [(taskStale_within ..).taskAt_eq rfl]
    · rw [(taskStale_within ..).taskAt_eq rfl, (forceTaskSafe_within ..).taskAt_eq rfl]
      split
      · rw [(idleOutputsOf_within ..).taskAt_eq rfl]
      · rfl
  obtain ⟨f, h1, h2, h3, h4⟩ := key
  exact ⟨f k, by rw [h4, taskAt_taskMod, h]; rfl, h1, h2, h3⟩

/-- What a task is about: its definition, its state and where it goes. -/
def aims (t : Nat) (s : State) : Option (Option TaskDef × TaskState × Option TaskState) :=
  (taskAt t s).map fun k => (k.defn, k.st, k.leaving)

theorem Within.aims_eq {ps : List Part} {u v : State} (w : Within ps u v) (c : ps.contains .task = false) (t : Nat) :
    aims t v = aims t u := by
  unfold aims
  rw [w.taskAt_eq c]

/-- A change of a task that leaves what it is about. -/
theorem aims_taskMod (n : Nat) (f : Task → Task) (h : ∀ k, ((f k).defn, (f k).st, (f k).leaving) = (k.defn, k.st, k.leaving)) (t : Nat) (s : State) :
    aims t (taskMod n f s) = aims t s := by
  unfold aims
  by_cases e : t = n
  · subst e
    rw [taskAt_taskMod, Option.map_map]
    congr 1
    exact funext h
  · congr 1
    unfold taskAt
    rw [taskMod_task]
    exact vmod_get_other _ (Ne.symm e) _

theorem gather_aims (n t : Nat) (s : State) : aims t (gather n s) = aims t s := by
  unfold gather
  rw [(checkPending_within _).aims_eq rfl, (rejoinCheck_within _).aims_eq rfl, (handoverCheck_within _).aims_eq rfl,
    (safetyGather_within ..).aims_eq rfl]
  have h : ∀ u : State, aims t (shiftTimers n u) = aims t u := by
    intro u
    unfold shiftTimers
    split
    · rfl
    · split
      · rfl
      · exact aims_taskMod _ _ (by exact fun _ => rfl) _ _
  exact (h _).trans (aims_taskMod _ _ (by exact fun _ => rfl) _ _)

/-- While no exchange switches, what follows the end of a cycle changes no task's definition, state or aim (R74, R96, R103). -/
theorem followTasks_aims {s : State} (h : s.prog.st ≠ .switching) (old : State) (t : Nat) : aims t (followTasks old s) = aims t s := by
  have e : switchSweep s = s := by
    unfold switchSweep
    rw [if_neg]
    simp [switchesNow]
    intro n _
    cases taskAt n s <;> simp [h]
  have p : ∀ (ns : List Nat) (u : State), aims t (ns.foldl (fun u n =>
      if background n u && (taskAt n old).elim false (fun k => k.phase != .sleep) && releaseDue n u then gather n u else u) u) = aims t u := by
    intro ns
    induction ns with
    | nil => exact fun _ => rfl
    | cons n ns ih =>
      intro u
      rw [List.foldl_cons, ih]
      split
      · exact gather_aims ..
      · rfl
  unfold followTasks
  rw [e, (lanesIdle_within _).aims_eq rfl, (checkPending_within _).aims_eq rfl]
  exact p _ _

end Sys2Proof.Machine
end

