-- ==== Sys2Proof/Laws/Kept.lean ====
section
/-! SUPPORT. What the operations of a start, of a firmware update and of the life cycle call keeps the queue of waiting commands, the
firmware unit and the life-cycle state. -/

namespace Sys2Proof.Machine

/-- What the commands keep that are not about it: the queue, the firmware unit and the life-cycle state. -/
def kept (s : State) : List Instr × Firmware × Lifecycle := (s.pending, s.fw, s.modes.life)

@[simp] theorem kept_mk (a1 a2 a3 a4 a5 a6 a7 a8 a9 a10 a11 a12 a13 a14 a15 a16 a17 a18 a19 a20 a21 a22 a23 a24 a25 a26 a27 a28 a29) :
    kept ⟨a1, a2, a3, a4, a5, a6, a7, a8, a9, a10, a11, a12, a13, a14, a15, a16, a17, a18, a19, a20, a21, a22, a23, a24, a25, a26, a27, a28, a29⟩ =
      (a29, a26, a24.life) := congrArg id rfl

@[simp] theorem kept_eta (s : State) : (s.pending, s.fw, s.modes.life) = kept s := congrArg id rfl

@[simp] theorem ite_kept (c : Prop) [Decidable c] (a b : State) : kept (if c then a else b) = if c then kept a else kept b := by
  split <;> rfl

@[simp] theorem foldl_kept {α : Type} (f : State → α → State) (h : ∀ t x, kept (f t x) = kept t) (l : List α) (s : State) :
    kept (l.foldl f s) = kept s := by
  induction l generalizing s with
  | nil => rfl
  | cons a l ih => simp [ih, h]

theorem foldl_snd_kept {α β : Type} (f : β × State → α → β × State) (h : ∀ t x, kept (f t x).2 = kept t.2) (l : List α)
    (s : β × State) : kept (l.foldl f s).2 = kept s.2 := by
  induction l generalizing s with
  | nil => rfl
  | cons a l ih => simp [ih, h]

theorem foldl_fst_kept {α β : Type} (f : State × β → α → State × β) (h : ∀ t x, kept (f t x).1 = kept t.1) (l : List α)
    (s : State × β) : kept (l.foldl f s).1 = kept s.1 := by
  induction l generalizing s with
  | nil => rfl
  | cons a l ih => simp [ih, h]

/-- A frame without the queue, the firmware unit and the life-cycle state. -/
theorem Within.kept {ps : List Part} {s t : State} (h : Within ps s t)
    (c : (ps.contains .pending || ps.contains .fw || ps.contains .life) = false) : kept t = kept s := by
  simp only [Bool.or_eq_false_iff] at c
  obtain ⟨⟨c1, c2⟩, c3⟩ := c
  have h1 : t.pending = s.pending := h.same _ c1
  have h2 : t.fw = s.fw := h.same _ c2
  have h3 : t.modes.life = s.modes.life := h.same _ c3
  rw [Machine.kept, h1, h2, h3]
  rfl

@[simp] theorem emit_kept (i s) : kept (emit i s) = kept s := (emit_within ..).kept rfl

@[simp] theorem powerMod_kept (i s) : kept (powerMod i s) = kept s := (powerMod_within ..).kept rfl

@[simp] theorem demandClock_kept (i s) : kept (demandClock i s) = kept s := (demandClock_within ..).kept rfl

@[simp] theorem record_kept (i j k l s) : kept (record i j k l s) = kept s := (record_within ..).kept rfl

@[simp] theorem audit_kept (i j k l s) : kept (audit i j k l s) = kept s := (audit_within ..).kept rfl

@[simp] theorem respond_kept (i j s) : kept (respond i j s) = kept s := (respond_within ..).kept rfl

@[simp] theorem driveSafety_kept (s) : kept (driveSafety s) = kept s := (driveSafety_within ..).kept rfl

@[simp] theorem outputsOff_kept (s) : kept (outputsOff s) = kept s := (outputsOff_within ..).kept rfl

@[simp] theorem tasksFollow_kept (i s) : kept (tasksFollow i s) = kept s := (tasksFollow_within ..).kept rfl

@[simp] theorem loopsStop_kept (s) : kept (loopsStop s) = kept s := (loopsStop_within ..).kept rfl

@[simp] theorem loseRole_kept (i s) : kept (loseRole i s) = kept s := (loseRole_within ..).kept rfl

@[simp] theorem canFollow_kept (s) : kept (canFollow s) = kept s := (canFollow_within ..).kept rfl

@[simp] theorem lanesIdle_kept (s) : kept (lanesIdle s) = kept s := (lanesIdle_within ..).kept rfl

@[simp] theorem enterSafe_kept (s) : kept (enterSafe s) = kept s := (enterSafe_within ..).kept rfl

@[simp] theorem ownerTakeover_kept (s) : kept (ownerTakeover s) = kept s := (ownerTakeover_within ..).kept rfl

@[simp] theorem drawbarArrives_kept (s) : kept (drawbarArrives s) = kept s := (drawbarArrives_within ..).kept rfl

@[simp] theorem bkpWrite_kept (i j s) : kept (bkpWrite i j s) = kept s := (bkpWrite_within ..).kept rfl

@[simp] theorem tryResync_kept (s) : kept (tryResync s) = kept s := (tryResync_within ..).kept rfl

@[simp] theorem followTasks_kept (i s) : kept (followTasks i s) = kept s := (followTasks_within ..).kept rfl

@[simp] theorem settleWriting_kept (s) : kept (settleWriting s) = kept s := (settleWriting_within ..).kept rfl

@[simp] theorem panelsStart_kept (s) : kept (panelsStart s) = kept s := (panelsStart_within ..).kept rfl

@[simp] theorem panelUpdateHere_kept (i j k l m n p s) : kept (panelUpdateHere i j k l m n p s) = kept s := (panelUpdateHere_within ..).kept rfl

@[simp] theorem panelCleanHere_kept (i j k l m n s) : kept (panelCleanHere i j k l m n s) = kept s := (panelCleanHere_within ..).kept rfl

@[simp] theorem panelWaveformHere_kept (i j s) : kept (panelWaveformHere i j s) = kept s := (panelWaveformHere_within ..).kept rfl

@[simp] theorem standbyReady_kept (s) : kept (standbyReady s) = kept s := (standbyReady_within ..).kept rfl

@[simp] theorem toStandby_kept (i s) : kept (toStandby i s) = kept s := (toStandby_within ..).kept rfl

@[simp] theorem pairUnit_kept (i s) : kept (pairUnit i s) = kept s := (pairUnit_within ..).kept rfl

@[simp] theorem followPublished_kept (i j s) : kept (followPublished i j s) = kept s := (followPublished_within ..).kept rfl

@[simp] theorem beginCatchup_kept (s) : kept (beginCatchup s) = kept s := (beginCatchup_within ..).kept rfl

@[simp] theorem helloStandby_kept (i s) : kept (helloStandby i s) = kept s := (helloStandby_within ..).kept rfl

@[simp] theorem incomingRecord_kept (i j k s) : kept (incomingRecord i j k s) = kept s := (incomingRecord_within ..).kept rfl

@[simp] theorem incomingCommit_kept (i s) : kept (incomingCommit i s) = kept s := (incomingCommit_within ..).kept rfl

@[simp] theorem incomingForce_kept (i j k l s) : kept (incomingForce i j k l s) = kept s := (incomingForce_within ..).kept rfl

@[simp] theorem incomingMaquette_kept (i s) : kept (incomingMaquette i s) = kept s := (incomingMaquette_within ..).kept rfl

@[simp] theorem incomingCast_kept (i j s) : kept (incomingCast i j s) = kept s := (incomingCast_within ..).kept rfl

@[simp] theorem incomingHandover_kept (i s) : kept (incomingHandover i s) = kept s := (incomingHandover_within ..).kept rfl

@[simp] theorem bkp2Bit_kept (i j s) : kept (bkp2Bit i j s) = kept s := (bkp2Bit_within ..).kept rfl

@[simp] theorem recordFailure_kept (s) : kept (recordFailure s) = kept s := (recordFailure_within ..).kept rfl

@[simp] theorem openHost_kept (s) : kept (openHost s) = kept s := (openHost_within ..).kept rfl

@[simp] theorem plinthCheck_kept (s) : kept (plinthCheck s) = kept s := (plinthCheck_within ..).kept rfl

@[simp] theorem startAlarms_kept (s) : kept (startAlarms s) = kept s := (startAlarms_within ..).kept rfl

@[simp] theorem firstSample_kept (s) : kept (firstSample s) = kept s := (firstSample_within ..).kept rfl

@[simp] theorem laneUnusable_kept (i s) : kept (laneUnusable i s) = kept s := (laneUnusable_within ..).kept rfl

@[simp] theorem bistMark_kept (i s j) : kept (bistMark i s j) = kept s := (bistMark_within ..).kept rfl

@[simp] theorem bistOutcome_kept (i s) : kept (bistOutcome i s).1 = kept s := (bistOutcome_within ..).kept rfl

@[simp] theorem startTime_kept (i j s) : kept (startTime i j s) = kept s := (startTime_within ..).kept rfl

@[simp] theorem startPrograms_kept (i s) : kept (startPrograms i s) = kept s := (startPrograms_within ..).kept rfl

@[simp] theorem startImage_kept (i s) : kept (startImage i s) = kept s := (startImage_within ..).kept rfl

@[simp] theorem startForces_kept (i s) : kept (startForces i s) = kept s := (startForces_within ..).kept rfl

@[simp] theorem startLoops_kept (i s) : kept (startLoops i s) = kept s := (startLoops_within ..).kept rfl

@[simp] theorem startFuncs_kept (i s) : kept (startFuncs i s) = kept s := (startFuncs_within ..).kept rfl

@[simp] theorem startField_kept (s) : kept (startField s) = kept s := (startField_within ..).kept rfl

@[simp] theorem startLanes_kept (s) : kept (startLanes s) = kept s := (startLanes_within ..).kept rfl

@[simp] theorem recorderScan_kept (s) : kept (recorderScan s) = kept s := (recorderScan_within ..).kept rfl

@[simp] theorem loadConfig_kept (s) : kept (loadConfig s) = kept s := (loadConfig_within ..).kept rfl

@[simp] theorem startNetwork_kept (s) : kept (startNetwork s) = kept s := (startNetwork_within ..).kept rfl

@[simp] theorem bistGroup_kept (i s j) : kept (bistGroup i s j) = kept s := (bistGroup_within ..).kept rfl

@[simp] theorem runBist_kept (i s) : kept (runBist i s) = kept s := (runBist_within ..).kept rfl

@[simp] theorem dropSimulations_kept (i s) : kept (dropSimulations i s) = kept s := (dropSimulations_within ..).kept rfl

@[simp] theorem eraseItems_kept (s) : kept (eraseItems s) = kept s := (eraseItems_within ..).kept rfl

@[simp] theorem emptySlots_kept (s) : kept (emptySlots s) = kept s := (emptySlots_within ..).kept rfl

@[simp] theorem outputsIdle_kept (s) : kept (outputsIdle s) = kept s := (outputsIdle_within ..).kept rfl

@[simp] theorem enableCompat_kept (s) : kept (enableCompat s) = kept s := (enableCompat_within ..).kept rfl

@[simp] theorem bootState_kept (a s) : kept (bootState a s) = kept s := by
  simp [bootState, modesBoot]

@[simp] theorem plinthState_kept (s) : kept (plinthState s) = kept s := by
  simp [plinthState]

@[simp] theorem runCommand_kept (a b) (f : Req → State → State × Resp) (h : ∀ q t, kept (f q t).1 = kept t) (s) :
    kept (runCommand a b f s) = kept s := by
  unfold runCommand; repeat' first | (simp [h]; done) | split | (dsimp only)

@[simp] theorem takeTune_kept (i j k s) : kept (takeTune i j k s) = kept s := (takeTune_within ..).kept rfl

@[simp] theorem takeApply_kept (i j k l s) : kept (takeApply i j k l s) = kept s := (takeApply_within ..).kept rfl

@[simp] theorem takeReset_kept (i j s) : kept (takeReset i j s) = kept s := (takeReset_within ..).kept rfl

end Sys2Proof.Machine
end

