-- ==== Sys2Proof/Laws/Firmware.lean ====
section
/-! SUPPORT. What a start and the update commands do to the firmware store (R545 to R556): the queue and the life-cycle state stay, and
the store goes on as `FirmwareNext` says. -/

namespace Sys2Proof.Machine

theorem FirmwareNext.refl (x : Firmware) : FirmwareNext x x := ⟨le_refl _, rfl, rfl, rfl, id⟩

theorem FirmwareNext.trans {x y z : Firmware} (h : FirmwareNext x y) (k : FirmwareNext y z) : FirmwareNext x z :=
  ⟨h.1.trans k.1, k.2.1.trans h.2.1, k.2.2.1.trans h.2.2.1, k.2.2.2.1.trans h.2.2.2.1, fun i => k.2.2.2.2 (h.2.2.2.2 i)⟩

/-- The queue and the life-cycle state stay, and the firmware store goes on. -/
def Goes (p q : List Instr × Firmware × Lifecycle) : Prop := q.1 = p.1 ∧ q.2.2 = p.2.2 ∧ FirmwareNext p.2.1 q.2.1

@[simp] theorem Goes.refl (p) : Goes p p := ⟨rfl, rfl, .refl _⟩

theorem Goes.trans {p q r} (h : Goes p q) (k : Goes q r) : Goes p r := ⟨k.1.trans h.1, k.2.1.trans h.2.1, h.2.2.trans k.2.2⟩

theorem fwMod_goes (f : Firmware → Firmware) (s) (h : FirmwareNext s.fw (f s.fw)) : Goes (kept s) (kept (fwMod f s)) := ⟨rfl, rfl, h⟩

theorem runCommand_goes (m k) (f : Req → State → State × Resp) (s) (h : ∀ q t, Goes (kept t) (kept (f q t).1)) :
    Goes (kept s) (kept (runCommand k m f s)) := by
  unfold runCommand
  split
  · exact .refl _
  · split
    · simpa using h _ _
    · exact .refl _

theorem trialFailed_goes (s) : Goes (kept s) (kept (trialFailed s)) := by
  unfold trialFailed
  split
  · simp only [record_kept, audit_kept]
    exact fwMod_goes _ _ ⟨le_refl _, rfl, rfl, rfl, fun _ => by simp [FirmwareInv]⟩
  · exact .refl _

theorem accountStart_goes (c s) : Goes (kept s) (kept (accountStart c s)) := by
  unfold accountStart
  dsimp only
  rw [bkpWrite_kept]
  split
  · simpa using trialFailed_goes (recordFailure s)
  · exact .refl _

theorem stepOne_goes (s) : Goes (kept s) (kept (stepOne s)) := by
  unfold stepOne
  extract_lets r lost s1 cold s2
  have h := accountStart_goes cold s1
  rw [show kept s1 = kept s by simp only [s1, r, startAlarms_kept, plinthCheck_kept, demandClock_kept, firstSample_kept]] at h
  exact h

theorem enterBoot_goes (p s) : Goes (kept s) (kept (enterBoot p s)) := by
  unfold enterBoot
  simpa using stepOne_goes (bootState _ s)

theorem failStart_goes (s) : Goes (kept s) (kept (failStart s)) := by
  unfold failStart
  simpa using trialFailed_goes s

theorem loadBank_goes (s) : Goes (kept s) (kept (loadBank s)) := fwMod_goes _ _ ⟨le_refl _, rfl, rfl, rfl, id⟩

theorem copyFirmware_goes (p s) : Goes (kept s) (kept (copyFirmware p s)) := by
  unfold copyFirmware
  split
  · exact .refl _
  · split
    · simp
    · have h : Goes (kept s) (kept (fwMod (fun f => { f with bank := f.bank.set (otherBank f) s.fw.staged }) s)) :=
        fwMod_goes _ _ ⟨le_refl _, rfl, rfl, rfl, id⟩
      dsimp only
      split
      · rw [audit_kept]
        exact h.trans (fwMod_goes _ _ ⟨le_refl _, rfl, rfl, rfl, fun _ => by simp [FirmwareInv]⟩)
      · rw [record_kept]
        refine h.trans (fwMod_goes _ _ ⟨le_refl _, rfl, rfl, rfl, fun i => ?_⟩)
        simp only [FirmwareInv, fwMod] at i ⊢
        rcases (by omega : s.fw.st = 4 ∨ s.fw.st = 5) with e | e <;> simp_all

theorem startComplete_goes (s) : Goes (kept s) (kept (startComplete s)) := by
  unfold startComplete
  generalize h : bkp2Bit 31 false _ = s1
  have h1 : kept s1 = kept s := by simp [← h]
  have h2 : Goes (kept s) (kept (fwMod (fun f => { f with lastFormat := fwImageFormat (runImage s1) }) s1)) := by
    rw [← h1]
    exact fwMod_goes _ _ ⟨le_refl _, rfl, rfl, rfl, id⟩
  dsimp only
  split
  · rw [audit_kept]
    exact h2.trans (fwMod_goes _ _ ⟨le_max_left _ _, rfl, rfl, rfl, fun _ => by simp [FirmwareInv, fwRelease]⟩)
  · exact h2

theorem enterTarget_goes (m ps r s) : Goes (kept s) (kept (enterTarget m ps r s)) := by
  unfold enterTarget
  generalize hu : ({ s with
    modes := { s.modes with mode := m }
    pair := { s.pair with st := ps, actOut := r, share := 32 }
    pub := { s.pub with block := 0, passStart := now s, lastSent := now s }
    image := { s.image with nextMerge := (now s / mergePeriod s + 1) * mergePeriod s } } : State) = u
  have h : Goes (kept s) (kept (startComplete u)) := by
    have h1 : kept u = kept s := by simp [← hu]
    exact h1 ▸ startComplete_goes u
  dsimp only
  rw [hu]
  split <;> simpa using h

theorem becomeActive_goes (s) : Goes (kept s) (kept (becomeActive s)) := by
  have h := enterTarget_goes (startTarget s) (if pairConfigured s then .activeAlone else .unpaired) (pairConfigured s) s
  unfold becomeActive
  dsimp only
  split
  · rw [ownerTakeover_kept]; exact h
  · exact h

theorem becomeStandby_goes (s) : Goes (kept s) (kept (becomeStandby s)) := by
  unfold becomeStandby
  rw [beginCatchup_kept]
  exact enterTarget_goes _ _ _ s

theorem decideRole_goes (s) : Goes (kept s) (kept (decideRole s)) := by
  unfold decideRole
  split
  · exact enterTarget_goes _ _ _ s
  split
  · exact becomeActive_goes s
  split
  · exact becomeStandby_goes s
  split
  · exact becomeActive_goes s
  · simp

theorem decideByHello_goes (h s) : Goes (kept s) (kept (decideByHello h s)) := by
  unfold decideByHello
  generalize (if s.net.owner = h.owner then !s.pair.position else newer16 s.net.owner h.owner) = mine
  dsimp only
  split
  · exact becomeActive_goes s
  · exact becomeStandby_goes s

theorem startRest_goes (c l s) : Goes (kept s) (kept (startRest c l s)) := by
  unfold startRest
  dsimp only
  refine Goes.trans ?_ (decideRole_goes _)
  simp

theorem runStart_goes (f l s) : Goes (kept s) (kept (runStart f l s)) := by
  unfold runStart
  dsimp only
  generalize hs : (if s.modes.begun.isSome = true then s
    else stepOne { s with modes := { s.modes with start := some (startPlan s) } }) = s0
  have h0 : Goes (kept s) (kept s0) := by
    rw [← hs]
    split
    · exact .refl _
    · have h := stepOne_goes { s with modes := { s.modes with start := some (startPlan s) } }
      rwa [show kept { s with modes := { s.modes with start := some (startPlan s) } } = kept s by simp] at h
  generalize hu : loadBank _ = u
  have h1 : Goes (kept s) (kept u) := by
    refine h0.trans ?_
    rw [← hu]
    refine Goes.trans ?_ (loadBank_goes _)
    simp
  split
  · simpa using h1
  · have h2 : Goes (kept s) (kept (bistOutcome f (runBist f (copyFirmware (startPlan s) (recorderScan u)))).1) := by
      rw [bistOutcome_kept, runBist_kept]
      refine h1.trans ?_
      rw [← recorderScan_kept u]
      exact copyFirmware_goes _ _
    split
    · exact h2.trans (failStart_goes _)
    · exact h2.trans (startRest_goes _ _ _)

/-! ## The commands and events -/

theorem execStart_goes (f l s) (t : State) (h : execStart f l s = .next t) : Goes (kept s) (kept t) := by
  unfold execStart at h; cases h
  split
  · exact runStart_goes _ _ _
  · exact .refl _

theorem execStartTimeout_goes (s) (t : State) (h : execStartTimeout s = .next t) : Goes (kept s) (kept t) := by
  unfold execStartTimeout at h; cases h
  split
  · exact failStart_goes _
  · exact .refl _

theorem execStartDelayExpiry_goes (s) (t : State) (h : execStartDelayExpiry s = .next t) : Goes (kept s) (kept t) := by
  unfold execStartDelayExpiry at h; cases h
  split
  · split
    · exact enterBoot_goes _ _
    · exact .refl _
  · exact .refl _

theorem execPairStartWaitExpiry_goes (s) (t : State) (h : execPairStartWaitExpiry s = .next t) : Goes (kept s) (kept t) := by
  unfold execPairStartWaitExpiry at h; cases h
  split
  · split
    · exact .refl _
    split
    · exact becomeStandby_goes _
    · exact becomeActive_goes _
  · exact .refl _

theorem execDrawbarHello_goes (k w s) (t : State) (h : execDrawbarHello k w s = .next t) : Goes (kept s) (kept t) := by
  unfold execDrawbarHello at h; cases h
  generalize hu : drawbarArrives _ = u
  have h1 : kept u = kept s := by simp [← hu]
  dsimp only
  split
  · exact .refl _
  · split
    · have h2 := decideByHello_goes w (emit .hello u)
      rwa [emit_kept, h1] at h2
    · simp [h1]
  · simp [h1]
  · split <;> simp [h1]
  · split <;> simp [h1]
  · split <;> simp [h1]
  · simp [h1]

theorem execResetN_goes (s) (t : State) (h : execResetN s = .next t) : Goes (kept s) (kept t) := by
  unfold execResetN at h; cases h
  split
  · exact enterBoot_goes _ _
  · exact .refl _

theorem execMgmtWatchdogReset_goes (s) (t : State) (h : execMgmtWatchdogReset s = .next t) : Goes (kept s) (kept t) := by
  unfold execMgmtWatchdogReset at h; cases h
  split
  · exact enterBoot_goes _ _
  · exact .refl _

theorem restored_goes (c : Prop) [Decidable c] (p s u) (h : kept u = kept s) : Goes (kept s) (kept (if c then enterBoot p u else u)) := by
  have h2 := enterBoot_goes p u
  rw [h] at h2
  split
  · exact h2
  · simp [h]

theorem execFeedRestored_goes (f s) (t : State) (h : execFeedRestored f s = .next t) : Goes (kept s) (kept t) := by
  unfold execFeedRestored at h; cases h
  cases f <;> exact restored_goes _ _ _ _ (by simp)

theorem execHoldUpEnd_goes (s) (t : State) (h : execHoldUpEnd s = .next t) : Goes (kept s) (kept t) := by
  unfold execHoldUpEnd at h
  have hv : kept (plinthState (settleWriting s)) = kept s := by rw [plinthState_kept, settleWriting_kept]
  generalize plinthState (settleWriting s) = v at h hv
  cases h
  split
  · exact .refl _
  · have h := enterBoot_goes (plainStart .power) v
    rw [hv] at h
    dsimp only
    split
    · exact h
    · simp [hv]

theorem execUpdBegin_goes (m s) (t : State) (h : execUpdBegin m s = .next t) : Goes (kept s) (kept t) := by
  unfold execUpdBegin at h; cases h
  refine runCommand_goes _ _ _ _ fun q u => ?_
  dsimp only
  repeat' split
  all_goals first | exact .refl _ | skip
  refine fwMod_goes _ _ ⟨le_refl _, rfl, rfl, rfl, fun i => ?_⟩
  simp_all [FirmwareInv]

theorem execUpdBlock_goes (m s) (t : State) (h : execUpdBlock m s = .next t) : Goes (kept s) (kept t) := by
  unfold execUpdBlock at h; cases h
  refine runCommand_goes _ _ _ _ fun q u => ?_
  dsimp only
  split; · exact .refl _
  split; · exact .refl _
  split; · exact .refl _
  split; · exact .refl _
  split; · exact .refl _
  rename_i h _ _ _ _
  refine fwMod_goes _ _ ⟨le_refl _, rfl, rfl, rfl, fun i => ?_⟩
  simp only [FirmwareInv] at i ⊢
  have hs : u.fw.st = 1 ∨ u.fw.st = 2 := by by_contra hc; exact h (.inr (by omega))
  rcases hs with e | e <;> split <;> simp_all

theorem execUpdVerify_goes (m s) (t : State) (h : execUpdVerify m s = .next t) : Goes (kept s) (kept t) := by
  unfold execUpdVerify at h; cases h
  refine runCommand_goes _ _ _ _ fun q u => ?_
  dsimp only
  split; · exact .refl _
  split
  · rename_i h
    have hs : u.fw.st = 2 ∨ u.fw.st = 3 := by
      by_contra hc
      rw [fwResult, if_pos (by omega)] at h
      exact absurd h (by decide)
    refine fwMod_goes _ _ ⟨le_refl _, rfl, rfl, rfl, fun i => ?_⟩
    simp only [FirmwareInv] at i ⊢
    rcases hs with e | e <;> simp_all
  · refine fwMod_goes _ _ ⟨le_refl _, rfl, rfl, rfl, fun i => ?_⟩
    simp only [FirmwareInv] at i ⊢
    split <;> simp_all

theorem execUpdActivate_goes (m s) (t : State) (h : execUpdActivate m s = .next t) : Goes (kept s) (kept t) := by
  unfold execUpdActivate at h; cases h
  refine runCommand_goes _ _ _ _ fun q u => ?_
  have key (h3 : u.fw.st = 3) : Goes (kept u) (kept (fwMod (fun f => { f with st := 4 }) u)) := by
    refine fwMod_goes _ _ ⟨le_refl _, rfl, rfl, rfl, fun i => ?_⟩
    simp_all [FirmwareInv]
  dsimp only
  split; · exact .refl _
  split; · exact .refl _
  split; · exact .refl _
  rename_i h3
  split
  · exact .refl _
  split; · exact .refl _
  split <;> simpa using key (by simpa using h3)

theorem execUpdCancel_goes (m s) (t : State) (h : execUpdCancel m s = .next t) : Goes (kept s) (kept t) := by
  unfold execUpdCancel at h; cases h
  refine runCommand_goes _ _ _ _ fun q u => ?_
  split; · exact .refl _
  split
  · refine fwMod_goes _ _ ⟨le_refl _, rfl, rfl, rfl, fun i => ?_⟩
    simp_all [FirmwareInv]
  split
  · refine fwMod_goes _ _ ⟨le_refl _, rfl, rfl, rfl, fun i => ?_⟩
    rename_i _ h
    simp only [FirmwareInv, fwRelease] at i ⊢
    rcases h with e | e | e | e <;> simp_all
  · exact .refl _

end Sys2Proof.Machine
end

