-- ==== Sys2Proof/Laws/Lifecycle.lean ====
section
/-! SUPPORT. The two commands that can change the life-cycle state (R429, R462). -/

namespace Sys2Proof.Machine

/-- A change taken leaves the life-cycle state it names (R462). -/
theorem takeLife_kept (q x y s) : kept (takeLife q x y s) = (s.pending, s.fw, y) := by
  unfold takeLife
  generalize hu : ({ s with modes := { s.modes with life := y, compat := s.modes.compat && y == .serviceOpen } } : State) = u
  have h : kept u = (s.pending, s.fw, y) := by simp [← hu]
  dsimp only
  rw [toStandby_kept, ← h]
  split <;> simp

/-- Only a life-cycle message changes the life-cycle state (R429). -/
theorem applyControl_kept (c s) (h : ∀ n, c ≠ .lifecycle n) : kept (applyControl c s) = kept s := by
  cases c
  case lifecycle n => exact absurd rfl (h n)
  case modeChange m =>
    unfold applyControl
    dsimp only
    split
    · split <;> simp
    · rfl
  all_goals (unfold applyControl; simp)

theorem lifeTransition_some {x y : Lifecycle} {n : LifeNeed} (h : lifeTransition x y = some n) : LifeMove x y = true := by
  revert h; cases x <;> cases y <;> simp [lifeTransition, LifeMove]

/-- The queue and the firmware store stay, and the life-cycle state stays or moves as R462 allows. -/
def LifeGoes (p q : List Instr × Firmware × Lifecycle) : Prop :=
  q.1 = p.1 ∧ q.2.1 = p.2.1 ∧ (q.2.2 = p.2.2 ∨ LifeMove p.2.2 q.2.2 = true)

@[simp] theorem LifeGoes.refl (p) : LifeGoes p p := ⟨rfl, rfl, .inl rfl⟩

theorem runCommand_lifeGoes (m k) (f : Req → State → State × Resp) (s) (h : ∀ q t, LifeGoes (kept t) (kept (f q t).1)) :
    LifeGoes (kept s) (kept (runCommand k m f s)) := by
  unfold runCommand
  split
  · exact .refl _
  · split
    · simpa using h _ _
    · exact .refl _

theorem execLifecycleSet_goes (m s) (t : State) (h : execLifecycleSet m s = .next t) : LifeGoes (kept s) (kept t) := by
  unfold execLifecycleSet at h; cases h
  refine runCommand_lifeGoes _ _ _ _ fun q u => ?_
  dsimp only
  split; · exact .refl _
  split; · exact .refl _
  split
  · split; · exact .refl _
    split; · exact .refl _
    split; · exact .refl _
    · simp
  split; · exact .refl _
  rename_i hn
  split; · exact .refl _
  split; · exact .refl _
  split; · exact .refl _
  dsimp only
  rw [takeLife_kept]
  generalize hv : audit _ _ _ _ u = v
  have hk : kept v = kept u := by simp [← hv]
  simp only [kept, Prod.mk.injEq] at hk
  exact ⟨hk.1, hk.2.1, .inr (lifeTransition_some hn)⟩

/-- A message of the control stream changes the life-cycle state only where it is a life-cycle message to a standby (R429). -/
theorem execPairControlMessage_kept (c s) (t : State) (h : execPairControlMessage c s = .next t) (hc : ∀ n, c ≠ .lifecycle n) :
    kept t = kept s := by
  unfold execPairControlMessage at h; cases h
  dsimp only
  split
  · rw [applyControl_kept _ _ hc]; simp
  · split
    · split <;> simp
    · simp

/-- A life-cycle message keeps the queue and the firmware store (R429). -/
theorem execPairControlMessage_queue (c s) (t : State) (h : execPairControlMessage c s = .next t) :
    t.pending = s.pending ∧ t.fw = s.fw := by
  by_cases hc : ∃ n, c = .lifecycle n
  · obtain ⟨n, rfl⟩ := hc
    unfold execPairControlMessage at h; cases h
    have hu : kept (drawbarArrives (pairUnit (fun p => { p with ctrlSeq := p.ctrlSeq + 1 }) s)) = kept s := by simp
    simp only [kept, Prod.mk.injEq] at hu
    dsimp only
    split
    · unfold applyControl
      dsimp only
      split <;> exact ⟨hu.1, hu.2.1⟩
    · exact ⟨hu.1, hu.2.1⟩
  · have hk := execPairControlMessage_kept c s t h (fun n hn => hc ⟨n, hn⟩)
    simp only [kept, Prod.mk.injEq] at hk
    exact ⟨hk.1, hk.2.1⟩

end Sys2Proof.Machine
end

