-- ==== Sys2Proof/WellFormed.lean ====
section
/-! DEFINITION. Which commands are well formed: the operands lie within what the manual's fields and messages can carry. -/

namespace Sys2Proof

/-- A message of the control stream within its fields (R429). -/
def controlWf (c : PairControl) : Bool :=
  match c with
  | .modeChange n | .lifecycle n => decide (n < 256)
  | .configRecord kind index data => decide (kind < 65536) && decide (index < 2 ^ 32) && decide (data.length ≤ 0x40000000)
  | .changeLogEntry e => decide (e.length = 128)
  | .panelUpdate _ mode x y w h _ => decide (mode < 256) && decide (x < 65536) && decide (y < 65536) && decide (w < 65536) && decide (h < 65536)
  | .panelClean _ x y w h _ => decide (x < 65536) && decide (y < 65536) && decide (w < 65536) && decide (h < 65536)
  | .pubSequence seq gen => decide (seq < 2 ^ 64) && decide (gen < 2 ^ 64)
  | .configCommitted n | .plannedHandover n => decide (n < 2 ^ 64)
  | .castPoint n flags => decide (n < 2 ^ 64) && decide (flags < 256)
  | .timeStep _ n => decide (n < 2 ^ 64)
  | .maquette image => decide (image.length ≤ 0x10000000)
  | .loopTune n t fs =>
    decide (n < 256) && decide (t < 2 ^ 64) && fs.all fun f => decide (f.1 < 160) && decide (1 ≤ f.2.length) && decide (f.2.length ≤ 8)
  | .loopApply n k _ snap => decide (n < 256) && decide (k < 2 ^ 64) && decide (snap.length = 160)
  | .loopReset n t => decide (n < 256) && decide (t < 2 ^ 64)
  | .force .. | .unforce .. | .panelWaveform .. | .ownerCount .. | .resync | .timeSession .. => true

/-- A copy of a catch-up phase within its fields (R442). -/
def copyWf (c : CatchupCopy) : Bool :=
  match c with
  | .configuration recs _ log forces =>
    recs.all (fun r => decide (r.1 < 65536) && decide (r.2.1 < 2 ^ 32)) && log.all (fun e => decide (e.length = 128)) &&
      decide (forces.length ≤ 4096)
  | .program active maquette => decide (active.length ≤ 0x10000000) && maquette.elim true fun m => decide (m.length ≤ 0x10000000)
  | .laneState generation _ sigs tasks => decide (generation < 2 ^ 64) && sigs.all (fun x => decide (x.sig < 2 ^ 26)) && tasks.all fun x => decide (x.state ≤ 4)
  | .retained pages _ => pages.all fun p => decide (p.1 < 61440)
  | .hello | .join => true

/-- A command is well formed. -/
def Instr.wf (i : Instr) : Bool :=
  match i with
  | .identGet _ => true
  | .statusGet _ => true
  | .healthMapGet _ => true
  | .modeSet _ => true
  | .modeGet _ => true
  | .startRequest _ => true
  | .cfgSessionOpen _ => true
  | .cfgWrite _ => true
  | .cfgRead _ => true
  | .cfgCommit _ => true
  | .cfgAbandon _ => true
  | .tuneWrite _ => true
  | .groupApply _ => true
  | .progLoad _ => true
  | .progVerify _ => true
  | .progExchange _ => true
  | .progStart _ => true
  | .progStop _ => true
  | .progHold _ => true
  | .progStep _ => true
  | .progResume _ => true
  | .sigRead _ => true
  | .sigWrite _ => true
  | .sigForce _ => true
  | .sigUnforce _ => true
  | .sigSubscribe _ => true
  | .sigBulkRead _ => true
  | .loopStateGet _ => true
  | .loopModeSet _ => true
  | .loopRepReset _ => true
  | .chanStatusGet _ => true
  | .chanTest _ _ _ => true
  | .timeGet _ => true
  | .timeStep _ => true
  | .timeRate _ => true
  | .rtcSet _ => true
  | .rtcAlarmSet _ => true
  | .backupRead _ => true
  | .backupWrite _ => true
  | .evtRead _ => true
  | .evtClear _ => true
  | .evtStats _ => true
  | .updBegin _ => true
  | .updBlock _ => true
  | .updVerify _ => true
  | .updActivate _ => true
  | .updCancel _ => true
  | .panelUpdate _ => true
  | .panelStatus _ => true
  | .panelWaveformLoad _ => true
  | .panelClean _ => true
  | .pairStatus _ => true
  | .pairSwitchover _ => true
  | .pairResync _ => true
  | .authLogin _ => true
  | .authLogout _ => true
  | .safetyPasswordSet _ => true
  | .changelogRead _ => true
  | .changelogAck _ => true
  | .lifecycleSet _ => true
  | .ownerLock _ => true
  | .diagRegRead _ => true
  | .diagRegWrite _ => true
  | .bistRun _ failed durationMs => failed.all (· < 64) && decide (durationMs < 2 ^ 32)
  | .laneConfigSet _ => true
  | .debugAttach _ => true
  | .mbxSubmit _ => true
  | .mbxAck _ => true
  | .hostReset => true
  | .flagWrite _ _ => true
  | .carriageDataWrite addr data => decide (addr + data.length ≤ 2 ^ 28)
  | .mailboxBufferWrite off data => decide (off + data.length ≤ 0x20000)
  | .irqEnableWrite _ => true
  | .hiErrorsRead => true
  | .tsnapLoRead => true
  | .registerWrite space off _ => decide (off % 4 = 0) && decide (off < if space = .bar0 then 0x40000 else 0x10000)
  | .pcieLinkLoss => true
  | .sessionTimeout _ => true
  | .tlsConnect _ => true
  | .tlsCommand _ _ body => decide (body.length ≤ 65552)
  | .tlsTransfer _ body => decide (body.length ≤ 0x100000)
  | .tlsKeepalive _ body => decide (body.length ≤ 65552)
  | .tlsKeepaliveSend _ => true
  | .tlsReceiveTimeout _ => true
  | .tlsConnectionClosed _ => true
  | .subscriptionIntervalExpiry _ => true
  | .feedUndervoltage _ => true
  | .feedRestored _ => true
  | .powerFail => true
  | .holdUpEnd => true
  | .refFault _ => true
  | .laneRailFault _ => true
  | .laneFault _ => true
  | .mgmtClockDemand _ => true
  | .mgmtClockFall => true
  | .laneWake _ => true
  | .mergeWake => true
  | .dieTemperature _ _ => true
  | .dieTempRepeat => true
  | .resetN => true
  | .mgmtWatchdogReset => true
  | .manoeuvringInput _ => true
  | .ownerLockInput _ => true
  | .tckWhileClosed => true
  | .start failed _ => failed.all (· < 64)
  | .startDelayExpiry => true
  | .bistGroupComplete _ failed => failed.all (· < 64)
  | .startTimeout => true
  | .pairStartWaitExpiry => true
  | .taskRelease _ => true
  | .cp1Agree _ items present _ => decide present.Nodup && items.all fun x => decide (x.props.map (·.1)).Nodup
  | .cp2Compare _ rs _ => decide (rs.map (·.lane)).Nodup && rs.all fun r => r.lines.all fun x => decide (x.addr.toNat % 64 = 0) && decide (x.bytes.length = 64)
  | .cp3Commit _ ws present => decide present.Nodup && ws.sigs.all (fun w => decide (w.index < 2 ^ 20)) && ws.retained.all (fun p => decide (p.page < 61440))
  | .lateLaneCheck _ l k => match k with
    | .proposals _ | .release => true
    | .result r => decide (r.lane = l)
  | .lagLimitExpiry _ _ _ => true
  | .wcetExceeded _ => true
  | .deadlineOverrun _ => true
  | .passLimitExpiry _ => true
  | .exclusionCountAgeing _ => true
  | .resyncHoldExpiry _ => true
  | .firmwareReloadComplete _ => true
  | .dramClearComplete _ => true
  | .resyncCopyComplete => true
  | .resyncSuspend => true
  | .resyncResume => true
  | .mergeTick present _ => decide present.Nodup
  | .pubBlockReceived _ data => decide (data.length ≤ 1472)
  | .pubGapHoldExpiry _ => true
  | .pubChangeBlockClose => true
  | .pubKeepalive => true
  | .refreshBlock => true
  | .pubSequenceStore => true
  | .pubLagWarning => true
  | .peerTimeout _ => true
  | .peerLossTime _ => true
  | .nodeTelegramReceived _ _ data => decide (data.length ≤ 1472)
  | .signalStaleTimeout index _ => decide (index < 2 ^ 26)
  | .outputRepeatExpiry _ => true
  | .outputHoldoffExpiry _ _ => true
  | .takeoverFlagExpiry _ => true
  | .nodeSilent _ => true
  | .arpRefresh => true
  | .arpFrame _ _ _ _ _ => true
  | .igmpQuery _ => true
  | .icmpEchoRequest _ _ body => decide (body.length ≤ 1472)
  | .hsrRingFrame _ frame _ _ => decide (frame.length ≤ 1522)
  | .linkChange _ _ _ => true
  | .supervisionFrame _ _ _ _ => true
  | .supervisionSend => true
  | .supervisionLoss _ => true
  | .dupTableForget _ _ => true
  | .canFrameReceived _ f => decide (f.data.length ≤ if f.fd then 64 else 8)
  | .canLockRelease _ _ => true
  | .canTxComplete _ _ => true
  | .canReferenceTime _ => true
  | .canWindowStart _ _ => true
  | .canMasterResume _ => true
  | .canBusOff _ => true
  | .canBusoffRecovery _ => true
  | .conversionComplete _ _ _ _ _ => true
  | .cjSample _ _ => true
  | .ucOpenCircuitDetect _ _ => true
  | .testPulse _ => true
  | .testPulseEnd _ _ => true
  | .ucComplianceLowDetect _ _ => true
  | .ucShortCircuitDetect _ _ => true
  | .ucLoopSupplyLimit _ => true
  | .converterRegulationFault _ => true
  | .channelReconfigStep _ => true
  | .digitalTransitionAccepted _ => true
  | .stateWordSend _ => true
  | .digitalAlignment _ => true
  | .chatterClear _ => true
  | .outputMismatchDetect _ _ => true
  | .switchShortCircuit _ _ => true
  | .switchRetry _ => true
  | .groupOverloadShed _ _ currentMa => decide (currentMa < 65536)
  | .openLoadDetect _ _ => true
  | .fsLowDetect _ _ _ => true
  | .groupConverterFault _ => true
  | .encoderIndex _ => true
  | .encoderRefEdge _ => true
  | .periodEdge _ => true
  | .countTimeout _ => true
  | .digitalReconfigStep _ => true
  | .loopSampleTick _ => true
  | .loopCopyDelivery _ _ _ _ => true
  | .loopSampleDeadline _ => true
  | .loopCheckpointWrite => true
  | .loopStateEntryReceived e => decide (e.length ≤ 65536)
  | .degradedTimeExpiry _ => true
  | .passwordLockoutEnd => true
  | .loginLockoutEnd user => decide (1 ≤ user.length) && decide (user.length ≤ 32)
  | .retainedCommitClosed _ => true
  | .retentionLagWarning => true
  | .preparationCaughtUp => true
  | .standbyReadyAck => true
  | .castAbandonDeadline => true
  | .castPoint => true
  | .timeWrap => true
  | .timeNsRead => true
  | .timeIncWrite _ => true
  | .timeCtrlStep _ => true
  | .timeCtrlNewSession _ _ => true
  | .tempRateExpiry => true
  | .ptpAnnounce _ d => decide (d.domain < 256)
  | .ptpSync _ _ _ _ correction _ => decide (-(2 ^ 63) ≤ correction) && decide (correction < 2 ^ 63)
  | .ptpFollowUp _ _ _ correction => decide (-(2 ^ 63) ≤ correction) && decide (correction < 2 ^ 63)
  | .ptpDelayResp _ _ _ correction => decide (-(2 ^ 63) ≤ correction) && decide (correction < 2 ^ 63)
  | .syncTimeout => true
  | .offsetQuiet => true
  | .ppsEdge _ => true
  | .ppsMissing => true
  | .ref10Measure _ => true
  | .ppsOutSecond => true
  | .plinthReload => true
  | .timeNotValidWarning => true
  | .drawbarTime _ => true
  | .timeStreamStop => true
  | .rtcTicksLoRead => true
  | .rtcCtrlLoadTicks => true
  | .rtcCtrlLoadWday => true
  | .rtcCtrlMarkLost => true
  | .rtcLoadApply => true
  | .rtcWrap => true
  | .dayPhaseRollover => true
  | .rtcAlarmMatch _ => true
  | .cellMeasurement millivolts => decide (millivolts < 65536)
  | .retentionMonitorTrip => true
  | .plinthPowerOnReset => true
  | .panelFrameStart _ => true
  | .panelTempRead _ _ => true
  | .panelBandHold _ => true
  | .pwrGoodLow _ => true
  | .pwrGoodTimeout _ => true
  | .panelPowerOff _ => true
  | .panelCleanIdle _ => true
  | .panelCheckpointWritten _ id => decide (id < 2 ^ 32)
  | .heartbeatSend => true
  | .heartbeatReceived _ h => decide (h.state < 256) && decide (h.mode < 256) && decide (h.protocol < 65536)
  | .heartbeatLoss => true
  | .pairLiveToggle => true
  | .pairLiveStale => true
  | .pairActIChange _ => true
  | .activityConflict => true
  | .fieldRefreshTimeout => true
  | .demoteReceived _ => true
  | .demotionTakeoverTimeout => true
  | .drawbarLinkChange _ _ => true
  | .drawbarHello _ h => decide (h.lifecycle < 256) && decide (h.protocol < 65536)
  | .agreedInputsReceived i => match i with
    | .cycle _ n _ => decide (n < 2 ^ 64)
    | .merge g es => decide (g < 2 ^ 64) && es.all fun e => decide (e.sig < 2 ^ 26)
  | .agreedInputsTimeout _ => true
  | .commitDigestReceived _ cycleNo _ generation => decide (cycleNo < 2 ^ 64) && decide (generation < 2 ^ 64)
  | .pairControlMessage c => controlWf c
  | .crossfadeStart => true
  | .crossfadeStep => true
  | .handoverTime => true
  | .handoverEnd => true
  | .verificationResume => true
  | .catchupPhaseComplete c => copyWf c
  | .catchupSuspend _ => true
  | .outOfStepRetry => true
  | .reachDemote => true
  | .recorderWrite => true
  | .floodSummary => true
  | .countEdge _ _ _ _ => true
  | .digitalInputChange _ _ => true
  | .breakpointHalt retired checker => decide (retired < 2 ^ 64) && checker.elim true fun n => decide (n < 2 ^ 64)
  | .pairTimeStep => true
  | .tlsKeyUpdate _ _ => true
  | .canBusError _ _ _ => true
  | .portFrameDiscard _ _ => true
  | .pwrGoodRise _ _ => true
  | .perSecondCoalescing => true

end Sys2Proof
end

