-- ==== Sys2Proof/Laws/PerInstr.lean ====
section
/-! SUPPORT. Per command: a row of the catalogue has its code in the table that admission goes by, and answers through its mailbox. -/

namespace Sys2Proof.Laws.Catalogued

open Sys2Proof.Machine

/-- A row that the catalogue lists under a code is listed by admission under the same code, and may change the mailboxes and what the
module sends (R473, R475, R493). -/
def Statement (i : Instr) : Prop :=
  ∀ m k, codeOf i = some (m, k) → (catalogue k).isSome = true ∧ (touches i).contains .host = true ∧ (touches i).contains .out = true

theorem of_none {i : Instr} (h : codeOf i = none) : Statement i := fun m k e => by rw [h] at e; cases e

theorem of_some {i : Instr} {m : MbxId} {k : Nat} (h : codeOf i = some (m, k)) (a : (catalogue k).isSome = true)
    (b : (touches i).contains .host = true) (c : (touches i).contains .out = true) : Statement i := fun m' k' e => by
  rw [h] at e; cases e; exact ⟨a, b, c⟩

theorem identGet (x0 : MbxId) : Statement (.identGet x0) := of_some rfl rfl rfl rfl
theorem statusGet (x0 : MbxId) : Statement (.statusGet x0) := of_some rfl rfl rfl rfl
theorem healthMapGet (x0 : MbxId) : Statement (.healthMapGet x0) := of_some rfl rfl rfl rfl
theorem modeSet (x0 : MbxId) : Statement (.modeSet x0) := of_some rfl rfl rfl rfl
theorem modeGet (x0 : MbxId) : Statement (.modeGet x0) := of_some rfl rfl rfl rfl
theorem startRequest (x0 : MbxId) : Statement (.startRequest x0) := of_some rfl rfl rfl rfl
theorem cfgSessionOpen (x0 : MbxId) : Statement (.cfgSessionOpen x0) := of_some rfl rfl rfl rfl
theorem cfgWrite (x0 : MbxId) : Statement (.cfgWrite x0) := of_some rfl rfl rfl rfl
theorem cfgRead (x0 : MbxId) : Statement (.cfgRead x0) := of_some rfl rfl rfl rfl
theorem cfgCommit (x0 : MbxId) : Statement (.cfgCommit x0) := of_some rfl rfl rfl rfl
theorem cfgAbandon (x0 : MbxId) : Statement (.cfgAbandon x0) := of_some rfl rfl rfl rfl
theorem tuneWrite (x0 : MbxId) : Statement (.tuneWrite x0) := of_some rfl rfl rfl rfl
theorem groupApply (x0 : MbxId) : Statement (.groupApply x0) := of_some rfl rfl rfl rfl
theorem progLoad (x0 : MbxId) : Statement (.progLoad x0) := of_some rfl rfl rfl rfl
theorem progVerify (x0 : MbxId) : Statement (.progVerify x0) := of_some rfl rfl rfl rfl
theorem progExchange (x0 : MbxId) : Statement (.progExchange x0) := of_some rfl rfl rfl rfl
theorem progStart (x0 : MbxId) : Statement (.progStart x0) := of_some rfl rfl rfl rfl
theorem progStop (x0 : MbxId) : Statement (.progStop x0) := of_some rfl rfl rfl rfl
theorem progHold (x0 : MbxId) : Statement (.progHold x0) := of_some rfl rfl rfl rfl
theorem progStep (x0 : MbxId) : Statement (.progStep x0) := of_some rfl rfl rfl rfl
theorem progResume (x0 : MbxId) : Statement (.progResume x0) := of_some rfl rfl rfl rfl
theorem sigRead (x0 : MbxId) : Statement (.sigRead x0) := of_some rfl rfl rfl rfl
theorem sigWrite (x0 : MbxId) : Statement (.sigWrite x0) := of_some rfl rfl rfl rfl
theorem sigForce (x0 : MbxId) : Statement (.sigForce x0) := of_some rfl rfl rfl rfl
theorem sigUnforce (x0 : MbxId) : Statement (.sigUnforce x0) := of_some rfl rfl rfl rfl
theorem sigSubscribe (x0 : MbxId) : Statement (.sigSubscribe x0) := of_some rfl rfl rfl rfl
theorem sigBulkRead (x0 : MbxId) : Statement (.sigBulkRead x0) := of_some rfl rfl rfl rfl
theorem loopStateGet (x0 : MbxId) : Statement (.loopStateGet x0) := of_some rfl rfl rfl rfl
theorem loopModeSet (x0 : MbxId) : Statement (.loopModeSet x0) := of_some rfl rfl rfl rfl
theorem loopRepReset (x0 : MbxId) : Statement (.loopRepReset x0) := of_some rfl rfl rfl rfl
theorem chanStatusGet (x0 : MbxId) : Statement (.chanStatusGet x0) := of_some rfl rfl rfl rfl
theorem chanTest (x0 : MbxId) (x1 : Bool) (x2 : F32) : Statement (.chanTest x0 x1 x2) := of_some rfl rfl rfl rfl
theorem timeGet (x0 : MbxId) : Statement (.timeGet x0) := of_some rfl rfl rfl rfl
theorem timeStep (x0 : MbxId) : Statement (.timeStep x0) := of_some rfl rfl rfl rfl
theorem timeRate (x0 : MbxId) : Statement (.timeRate x0) := of_some rfl rfl rfl rfl
theorem rtcSet (x0 : MbxId) : Statement (.rtcSet x0) := of_some rfl rfl rfl rfl
theorem rtcAlarmSet (x0 : MbxId) : Statement (.rtcAlarmSet x0) := of_some rfl rfl rfl rfl
theorem backupRead (x0 : MbxId) : Statement (.backupRead x0) := of_some rfl rfl rfl rfl
theorem backupWrite (x0 : MbxId) : Statement (.backupWrite x0) := of_some rfl rfl rfl rfl
theorem evtRead (x0 : MbxId) : Statement (.evtRead x0) := of_some rfl rfl rfl rfl
theorem evtClear (x0 : MbxId) : Statement (.evtClear x0) := of_some rfl rfl rfl rfl
theorem evtStats (x0 : MbxId) : Statement (.evtStats x0) := of_some rfl rfl rfl rfl
theorem updBegin (x0 : MbxId) : Statement (.updBegin x0) := of_some rfl rfl rfl rfl
theorem updBlock (x0 : MbxId) : Statement (.updBlock x0) := of_some rfl rfl rfl rfl
theorem updVerify (x0 : MbxId) : Statement (.updVerify x0) := of_some rfl rfl rfl rfl
theorem updActivate (x0 : MbxId) : Statement (.updActivate x0) := of_some rfl rfl rfl rfl
theorem updCancel (x0 : MbxId) : Statement (.updCancel x0) := of_some rfl rfl rfl rfl
theorem panelUpdate (x0 : MbxId) : Statement (.panelUpdate x0) := of_some rfl rfl rfl rfl
theorem panelStatus (x0 : MbxId) : Statement (.panelStatus x0) := of_some rfl rfl rfl rfl
theorem panelWaveformLoad (x0 : MbxId) : Statement (.panelWaveformLoad x0) := of_some rfl rfl rfl rfl
theorem panelClean (x0 : MbxId) : Statement (.panelClean x0) := of_some rfl rfl rfl rfl
theorem pairStatus (x0 : MbxId) : Statement (.pairStatus x0) := of_some rfl rfl rfl rfl
theorem pairSwitchover (x0 : MbxId) : Statement (.pairSwitchover x0) := of_some rfl rfl rfl rfl
theorem pairResync (x0 : MbxId) : Statement (.pairResync x0) := of_some rfl rfl rfl rfl
theorem authLogin (x0 : MbxId) : Statement (.authLogin x0) := of_some rfl rfl rfl rfl
theorem authLogout (x0 : MbxId) : Statement (.authLogout x0) := of_some rfl rfl rfl rfl
theorem safetyPasswordSet (x0 : MbxId) : Statement (.safetyPasswordSet x0) := of_some rfl rfl rfl rfl
theorem changelogRead (x0 : MbxId) : Statement (.changelogRead x0) := of_some rfl rfl rfl rfl
theorem changelogAck (x0 : MbxId) : Statement (.changelogAck x0) := of_some rfl rfl rfl rfl
theorem lifecycleSet (x0 : MbxId) : Statement (.lifecycleSet x0) := of_some rfl rfl rfl rfl
theorem ownerLock (x0 : MbxId) : Statement (.ownerLock x0) := of_some rfl rfl rfl rfl
theorem diagRegRead (x0 : MbxId) : Statement (.diagRegRead x0) := of_some rfl rfl rfl rfl
theorem diagRegWrite (x0 : MbxId) : Statement (.diagRegWrite x0) := of_some rfl rfl rfl rfl
theorem bistRun (x0 : MbxId) (x1 : List Nat) (x2 : Nat) : Statement (.bistRun x0 x1 x2) := of_some rfl rfl rfl rfl
theorem laneConfigSet (x0 : MbxId) : Statement (.laneConfigSet x0) := of_some rfl rfl rfl rfl
theorem debugAttach (x0 : MbxId) : Statement (.debugAttach x0) := of_some rfl rfl rfl rfl
theorem mbxSubmit (x0 : Fin 16) : Statement (.mbxSubmit x0) := of_none rfl
theorem mbxAck (x0 : Fin 16) : Statement (.mbxAck x0) := of_none rfl
theorem hostReset : Statement .hostReset := of_none rfl
theorem flagWrite (x0 : Fin 4096) (x1 : Byte) : Statement (.flagWrite x0 x1) := of_none rfl
theorem carriageDataWrite (x0 : Nat) (x1 : List Byte) : Statement (.carriageDataWrite x0 x1) := of_none rfl
theorem mailboxBufferWrite (x0 : Nat) (x1 : List Byte) : Statement (.mailboxBufferWrite x0 x1) := of_none rfl
theorem irqEnableWrite (x0 : Word) : Statement (.irqEnableWrite x0) := of_none rfl
theorem hiErrorsRead : Statement .hiErrorsRead := of_none rfl
theorem tsnapLoRead : Statement .tsnapLoRead := of_none rfl
theorem registerWrite (x0 : RegSpace) (x1 : Nat) (x2 : Word) : Statement (.registerWrite x0 x1 x2) := of_none rfl
theorem pcieLinkLoss : Statement .pcieLinkLoss := of_none rfl
theorem sessionTimeout (x0 : SessId) : Statement (.sessionTimeout x0) := of_none rfl
theorem tlsConnect (x0 : Bool) : Statement (.tlsConnect x0) := of_none rfl
theorem tlsCommand (x0 : Fin 8) (x1 : Byte) (x2 : List Byte) : Statement (.tlsCommand x0 x1 x2) := of_none rfl
theorem tlsTransfer (x0 : Fin 8) (x1 : List Byte) : Statement (.tlsTransfer x0 x1) := of_none rfl
theorem tlsKeepalive (x0 : Fin 8) (x1 : List Byte) : Statement (.tlsKeepalive x0 x1) := of_none rfl
theorem tlsKeepaliveSend (x0 : Fin 8) : Statement (.tlsKeepaliveSend x0) := of_none rfl
theorem tlsReceiveTimeout (x0 : Fin 8) : Statement (.tlsReceiveTimeout x0) := of_none rfl
theorem tlsConnectionClosed (x0 : Fin 8) : Statement (.tlsConnectionClosed x0) := of_none rfl
theorem subscriptionIntervalExpiry (x0 : Fin 8) : Statement (.subscriptionIntervalExpiry x0) := of_none rfl
theorem feedUndervoltage (x0 : Feed) : Statement (.feedUndervoltage x0) := of_none rfl
theorem feedRestored (x0 : Feed) : Statement (.feedRestored x0) := of_none rfl
theorem powerFail : Statement .powerFail := of_none rfl
theorem holdUpEnd : Statement .holdUpEnd := of_none rfl
theorem refFault (x0 : Bool) : Statement (.refFault x0) := of_none rfl
theorem laneRailFault (x0 : Lane) : Statement (.laneRailFault x0) := of_none rfl
theorem laneFault (x0 : Lane) : Statement (.laneFault x0) := of_none rfl
theorem mgmtClockDemand (x0 : ClkDemand) : Statement (.mgmtClockDemand x0) := of_none rfl
theorem mgmtClockFall : Statement .mgmtClockFall := of_none rfl
theorem laneWake (x0 : Lane) : Statement (.laneWake x0) := of_none rfl
theorem mergeWake : Statement .mergeWake := of_none rfl
theorem dieTemperature (x0 : BitVec 16) (x1 : Bool) : Statement (.dieTemperature x0 x1) := of_none rfl
theorem dieTempRepeat : Statement .dieTempRepeat := of_none rfl
theorem resetN : Statement .resetN := of_none rfl
theorem mgmtWatchdogReset : Statement .mgmtWatchdogReset := of_none rfl
theorem manoeuvringInput (x0 : Bool) : Statement (.manoeuvringInput x0) := of_none rfl
theorem ownerLockInput (x0 : Bool) : Statement (.ownerLockInput x0) := of_none rfl
theorem tckWhileClosed : Statement .tckWhileClosed := of_none rfl
theorem start (x0 : List Nat) (x1 : BitVec 10) : Statement (.start x0 x1) := of_none rfl
theorem startDelayExpiry : Statement .startDelayExpiry := of_none rfl
theorem bistGroupComplete (x0 : Fin 5) (x1 : List Nat) : Statement (.bistGroupComplete x0 x1) := of_none rfl
theorem startTimeout : Statement .startTimeout := of_none rfl
theorem pairStartWaitExpiry : Statement .pairStartWaitExpiry := of_none rfl
theorem taskRelease (x0 : Fin 32) : Statement (.taskRelease x0) := of_none rfl
theorem cp1Agree (x0 : Fin 32) (x1 : List CpItem) (x2 : List Lane) (x3 : BitVec 3) : Statement (.cp1Agree x0 x1 x2 x3) := of_none rfl
theorem cp2Compare (x0 : Fin 32) (x1 : List LaneResult) (x2 : BitVec 3) : Statement (.cp2Compare x0 x1 x2) := of_none rfl
theorem cp3Commit (x0 : Fin 32) (x1 : WriteSet) (x2 : List Lane) : Statement (.cp3Commit x0 x1 x2) := of_none rfl
theorem lateLaneCheck (x0 : Fin 32) (x1 : Lane) (x2 : LateContribution) : Statement (.lateLaneCheck x0 x1 x2) := of_none rfl
theorem lagLimitExpiry (x0 : Fin 32) (x1 : Lane) (x2 : Nat) : Statement (.lagLimitExpiry x0 x1 x2) := of_none rfl
theorem wcetExceeded (x0 : Fin 32) : Statement (.wcetExceeded x0) := of_none rfl
theorem deadlineOverrun (x0 : Fin 32) : Statement (.deadlineOverrun x0) := of_none rfl
theorem passLimitExpiry (x0 : Fin 32) : Statement (.passLimitExpiry x0) := of_none rfl
theorem exclusionCountAgeing (x0 : Lane) : Statement (.exclusionCountAgeing x0) := of_none rfl
theorem resyncHoldExpiry (x0 : Lane) : Statement (.resyncHoldExpiry x0) := of_none rfl
theorem firmwareReloadComplete (x0 : Lane) : Statement (.firmwareReloadComplete x0) := of_none rfl
theorem dramClearComplete (x0 : Lane) : Statement (.dramClearComplete x0) := of_none rfl
theorem resyncCopyComplete : Statement .resyncCopyComplete := of_none rfl
theorem resyncSuspend : Statement .resyncSuspend := of_none rfl
theorem resyncResume : Statement .resyncResume := of_none rfl
theorem mergeTick (x0 : List Lane) (x1 : List (Lane × Nat)) : Statement (.mergeTick x0 x1) := of_none rfl
theorem pubBlockReceived (x0 : PubSource) (x1 : List Byte) : Statement (.pubBlockReceived x0 x1) := of_none rfl
theorem pubGapHoldExpiry (x0 : Fin 64) : Statement (.pubGapHoldExpiry x0) := of_none rfl
theorem pubChangeBlockClose : Statement .pubChangeBlockClose := of_none rfl
theorem pubKeepalive : Statement .pubKeepalive := of_none rfl
theorem refreshBlock : Statement .refreshBlock := of_none rfl
theorem pubSequenceStore : Statement .pubSequenceStore := of_none rfl
theorem pubLagWarning : Statement .pubLagWarning := of_none rfl
theorem peerTimeout (x0 : Fin 64) : Statement (.peerTimeout x0) := of_none rfl
theorem peerLossTime (x0 : Fin 64) : Statement (.peerLossTime x0) := of_none rfl
theorem nodeTelegramReceived (x0 : Fin 2) (x1 : Word) (x2 : List Byte) : Statement (.nodeTelegramReceived x0 x1 x2) := of_none rfl
theorem signalStaleTimeout (x0 : Nat) (x1 : Bool) : Statement (.signalStaleTimeout x0 x1) := of_none rfl
theorem outputRepeatExpiry (x0 : OutKey) : Statement (.outputRepeatExpiry x0) := of_none rfl
theorem outputHoldoffExpiry (x0 : Fin 4096) (x1 : Fin 256) : Statement (.outputHoldoffExpiry x0 x1) := of_none rfl
theorem takeoverFlagExpiry (x0 : Fin 4096) : Statement (.takeoverFlagExpiry x0) := of_none rfl
theorem nodeSilent (x0 : Fin 4096) : Statement (.nodeSilent x0) := of_none rfl
theorem arpRefresh : Statement .arpRefresh := of_none rfl
theorem arpFrame (x0 : Fin 3) (x1 : Bool) (x2 : Word) (x3 : BitVec 48) (x4 : Word) : Statement (.arpFrame x0 x1 x2 x3 x4) := of_none rfl
theorem igmpQuery (x0 : Fin 2) : Statement (.igmpQuery x0) := of_none rfl
theorem icmpEchoRequest (x0 : Fin 3) (x1 : Word) (x2 : List Byte) : Statement (.icmpEchoRequest x0 x1 x2) := of_none rfl
theorem hsrRingFrame (x0 : Fin 2) (x1 : List Byte) (x2 : Bool) (x3 : Nat) : Statement (.hsrRingFrame x0 x1 x2 x3) := of_none rfl
theorem linkChange (x0 : Fin 4) (x1 : Bool) (x2 : Bool) : Statement (.linkChange x0 x1 x2) := of_none rfl
theorem supervisionFrame (x0 : Fin 4) (x1 : BitVec 48) (x2 : BitVec 16) (x3 : Bool) : Statement (.supervisionFrame x0 x1 x2 x3) := of_none rfl
theorem supervisionSend : Statement .supervisionSend := of_none rfl
theorem supervisionLoss (x0 : Fin 4) : Statement (.supervisionLoss x0) := of_none rfl
theorem dupTableForget (x0 : BitVec 48) (x1 : Bool) : Statement (.dupTableForget x0 x1) := of_none rfl
theorem canFrameReceived (x0 : Fin 8) (x1 : CanFrame) : Statement (.canFrameReceived x0 x1) := of_none rfl
theorem canLockRelease (x0 : Fin 8) (x1 : Fin 128) : Statement (.canLockRelease x0 x1) := of_none rfl
theorem canTxComplete (x0 : Fin 8) (x1 : TxOutcome) : Statement (.canTxComplete x0 x1) := of_none rfl
theorem canReferenceTime (x0 : Fin 8) : Statement (.canReferenceTime x0) := of_none rfl
theorem canWindowStart (x0 : Fin 8) (x1 : Fin 128) : Statement (.canWindowStart x0 x1) := of_none rfl
theorem canMasterResume (x0 : Fin 8) : Statement (.canMasterResume x0) := of_none rfl
theorem canBusOff (x0 : Fin 8) : Statement (.canBusOff x0) := of_none rfl
theorem canBusoffRecovery (x0 : Fin 8) : Statement (.canBusoffRecovery x0) := of_none rfl
theorem conversionComplete (x0 : Fin 16) (x1 : F64) (x2 : F64) (x3 : F64) (x4 : Bool) : Statement (.conversionComplete x0 x1 x2 x3 x4) := of_none rfl
theorem cjSample (x0 : Fin 2) (x1 : F64) : Statement (.cjSample x0 x1) := of_none rfl
theorem ucOpenCircuitDetect (x0 : Fin 16) (x1 : Bool) : Statement (.ucOpenCircuitDetect x0 x1) := of_none rfl
theorem testPulse (x0 : Fin 16) : Statement (.testPulse x0) := of_none rfl
theorem testPulseEnd (x0 : Fin 16) (x1 : F64) : Statement (.testPulseEnd x0 x1) := of_none rfl
theorem ucComplianceLowDetect (x0 : Fin 16) (x1 : Bool) : Statement (.ucComplianceLowDetect x0 x1) := of_none rfl
theorem ucShortCircuitDetect (x0 : Fin 16) (x1 : Bool) : Statement (.ucShortCircuitDetect x0 x1) := of_none rfl
theorem ucLoopSupplyLimit (x0 : Fin 16) : Statement (.ucLoopSupplyLimit x0) := of_none rfl
theorem converterRegulationFault (x0 : Fin 16) : Statement (.converterRegulationFault x0) := of_none rfl
theorem channelReconfigStep (x0 : Fin 16) : Statement (.channelReconfigStep x0) := of_none rfl
theorem digitalTransitionAccepted (x0 : Fin 48) : Statement (.digitalTransitionAccepted x0) := of_none rfl
theorem stateWordSend (x0 : Fin 4) : Statement (.stateWordSend x0) := of_none rfl
theorem digitalAlignment (x0 : Fin 4) : Statement (.digitalAlignment x0) := of_none rfl
theorem chatterClear (x0 : Fin 48) : Statement (.chatterClear x0) := of_none rfl
theorem outputMismatchDetect (x0 : Fin 48) (x1 : Bool) : Statement (.outputMismatchDetect x0 x1) := of_none rfl
theorem switchShortCircuit (x0 : Fin 48) (x1 : Bool) : Statement (.switchShortCircuit x0 x1) := of_none rfl
theorem switchRetry (x0 : Fin 48) : Statement (.switchRetry x0) := of_none rfl
theorem groupOverloadShed (x0 : Fin 4) (x1 : Fin 12) (x2 : Nat) : Statement (.groupOverloadShed x0 x1 x2) := of_none rfl
theorem openLoadDetect (x0 : Fin 48) (x1 : Bool) : Statement (.openLoadDetect x0 x1) := of_none rfl
theorem fsLowDetect (x0 : Fin 4) (x1 : Bool) (x2 : BitVec 16) : Statement (.fsLowDetect x0 x1 x2) := of_none rfl
theorem groupConverterFault (x0 : Fin 4) : Statement (.groupConverterFault x0) := of_none rfl
theorem encoderIndex (x0 : Fin 4) : Statement (.encoderIndex x0) := of_none rfl
theorem encoderRefEdge (x0 : Fin 4) : Statement (.encoderRefEdge x0) := of_none rfl
theorem periodEdge (x0 : Fin 4) : Statement (.periodEdge x0) := of_none rfl
theorem countTimeout (x0 : Fin 4) : Statement (.countTimeout x0) := of_none rfl
theorem digitalReconfigStep (x0 : Fin 48) : Statement (.digitalReconfigStep x0) := of_none rfl
theorem loopSampleTick (x0 : Fin 256) : Statement (.loopSampleTick x0) := of_none rfl
theorem loopCopyDelivery (x0 : Fin 256) (x1 : Lane) (x2 : F64) (x3 : List Byte) : Statement (.loopCopyDelivery x0 x1 x2 x3) := of_none rfl
theorem loopSampleDeadline (x0 : Fin 256) : Statement (.loopSampleDeadline x0) := of_none rfl
theorem loopCheckpointWrite : Statement .loopCheckpointWrite := of_none rfl
theorem loopStateEntryReceived (x0 : List Byte) : Statement (.loopStateEntryReceived x0) := of_none rfl
theorem degradedTimeExpiry (x0 : Fin 256) : Statement (.degradedTimeExpiry x0) := of_none rfl
theorem passwordLockoutEnd : Statement .passwordLockoutEnd := of_none rfl
theorem loginLockoutEnd (x0 : List Byte) : Statement (.loginLockoutEnd x0) := of_none rfl
theorem retainedCommitClosed (x0 : Fin 32) : Statement (.retainedCommitClosed x0) := of_none rfl
theorem retentionLagWarning : Statement .retentionLagWarning := of_none rfl
theorem preparationCaughtUp : Statement .preparationCaughtUp := of_none rfl
theorem standbyReadyAck : Statement .standbyReadyAck := of_none rfl
theorem castAbandonDeadline : Statement .castAbandonDeadline := of_none rfl
theorem castPoint : Statement .castPoint := of_none rfl
theorem timeWrap : Statement .timeWrap := of_none rfl
theorem timeNsRead : Statement .timeNsRead := of_none rfl
theorem timeIncWrite (x0 : Word) : Statement (.timeIncWrite x0) := of_none rfl
theorem timeCtrlStep (x0 : Bool) : Statement (.timeCtrlStep x0) := of_none rfl
theorem timeCtrlNewSession (x0 : Bool) (x1 : Bool) : Statement (.timeCtrlNewSession x0 x1) := of_none rfl
theorem tempRateExpiry : Statement .tempRateExpiry := of_none rfl
theorem ptpAnnounce (x0 : Fin 4) (x1 : PtpDataset) : Statement (.ptpAnnounce x0 x1) := of_none rfl
theorem ptpSync (x0 : Fin 4) (x1 : BitVec 16) (x2 : Bool) (x3 : Nat) (x4 : Int) (x5 : Word) : Statement (.ptpSync x0 x1 x2 x3 x4 x5) := of_none rfl
theorem ptpFollowUp (x0 : Fin 4) (x1 : BitVec 16) (x2 : Nat) (x3 : Int) : Statement (.ptpFollowUp x0 x1 x2 x3) := of_none rfl
theorem ptpDelayResp (x0 : Fin 4) (x1 : Word) (x2 : Nat) (x3 : Int) : Statement (.ptpDelayResp x0 x1 x2 x3) := of_none rfl
theorem syncTimeout : Statement .syncTimeout := of_none rfl
theorem offsetQuiet : Statement .offsetQuiet := of_none rfl
theorem ppsEdge (x0 : Word) : Statement (.ppsEdge x0) := of_none rfl
theorem ppsMissing : Statement .ppsMissing := of_none rfl
theorem ref10Measure (x0 : Int) : Statement (.ref10Measure x0) := of_none rfl
theorem ppsOutSecond : Statement .ppsOutSecond := of_none rfl
theorem plinthReload : Statement .plinthReload := of_none rfl
theorem timeNotValidWarning : Statement .timeNotValidWarning := of_none rfl
theorem drawbarTime (x0 : Int) : Statement (.drawbarTime x0) := of_none rfl
theorem timeStreamStop : Statement .timeStreamStop := of_none rfl
theorem rtcTicksLoRead : Statement .rtcTicksLoRead := of_none rfl
theorem rtcCtrlLoadTicks : Statement .rtcCtrlLoadTicks := of_none rfl
theorem rtcCtrlLoadWday : Statement .rtcCtrlLoadWday := of_none rfl
theorem rtcCtrlMarkLost : Statement .rtcCtrlMarkLost := of_none rfl
theorem rtcLoadApply : Statement .rtcLoadApply := of_none rfl
theorem rtcWrap : Statement .rtcWrap := of_none rfl
theorem dayPhaseRollover : Statement .dayPhaseRollover := of_none rfl
theorem rtcAlarmMatch (x0 : Fin 2) : Statement (.rtcAlarmMatch x0) := of_none rfl
theorem cellMeasurement (x0 : Nat) : Statement (.cellMeasurement x0) := of_none rfl
theorem retentionMonitorTrip : Statement .retentionMonitorTrip := of_none rfl
theorem plinthPowerOnReset : Statement .plinthPowerOnReset := of_none rfl
theorem panelFrameStart (x0 : Fin 2) : Statement (.panelFrameStart x0) := of_none rfl
theorem panelTempRead (x0 : Fin 2) (x1 : Option (BitVec 16)) : Statement (.panelTempRead x0 x1) := of_none rfl
theorem panelBandHold (x0 : Fin 2) : Statement (.panelBandHold x0) := of_none rfl
theorem pwrGoodLow (x0 : Fin 2) : Statement (.pwrGoodLow x0) := of_none rfl
theorem pwrGoodTimeout (x0 : Fin 2) : Statement (.pwrGoodTimeout x0) := of_none rfl
theorem panelPowerOff (x0 : Fin 2) : Statement (.panelPowerOff x0) := of_none rfl
theorem panelCleanIdle (x0 : Fin 2) : Statement (.panelCleanIdle x0) := of_none rfl
theorem panelCheckpointWritten (x0 : Fin 2) (x1 : Nat) : Statement (.panelCheckpointWritten x0 x1) := of_none rfl
theorem heartbeatSend : Statement .heartbeatSend := of_none rfl
theorem heartbeatReceived (x0 : Fin 2) (x1 : Heartbeat) : Statement (.heartbeatReceived x0 x1) := of_none rfl
theorem heartbeatLoss : Statement .heartbeatLoss := of_none rfl
theorem pairLiveToggle : Statement .pairLiveToggle := of_none rfl
theorem pairLiveStale : Statement .pairLiveStale := of_none rfl
theorem pairActIChange (x0 : Bool) : Statement (.pairActIChange x0) := of_none rfl
theorem activityConflict : Statement .activityConflict := of_none rfl
theorem fieldRefreshTimeout : Statement .fieldRefreshTimeout := of_none rfl
theorem demoteReceived (x0 : Fin 2) : Statement (.demoteReceived x0) := of_none rfl
theorem demotionTakeoverTimeout : Statement .demotionTakeoverTimeout := of_none rfl
theorem drawbarLinkChange (x0 : Fin 2) (x1 : Bool) : Statement (.drawbarLinkChange x0 x1) := of_none rfl
theorem drawbarHello (x0 : Fin 2) (x1 : Hello) : Statement (.drawbarHello x0 x1) := of_none rfl
theorem agreedInputsReceived (x0 : AgreedInputs) : Statement (.agreedInputsReceived x0) := of_none rfl
theorem agreedInputsTimeout (x0 : Fin 32) : Statement (.agreedInputsTimeout x0) := of_none rfl
theorem commitDigestReceived (x0 : Fin 32) (x1 : Nat) (x2 : List (Nat × BitVec 128)) (x3 : Nat) : Statement (.commitDigestReceived x0 x1 x2 x3) := of_none rfl
theorem pairControlMessage (x0 : PairControl) : Statement (.pairControlMessage x0) := of_none rfl
theorem crossfadeStart : Statement .crossfadeStart := of_none rfl
theorem crossfadeStep : Statement .crossfadeStep := of_none rfl
theorem handoverTime : Statement .handoverTime := of_none rfl
theorem handoverEnd : Statement .handoverEnd := of_none rfl
theorem verificationResume : Statement .verificationResume := of_none rfl
theorem catchupPhaseComplete (x0 : CatchupCopy) : Statement (.catchupPhaseComplete x0) := of_none rfl
theorem catchupSuspend (x0 : Bool) : Statement (.catchupSuspend x0) := of_none rfl
theorem outOfStepRetry : Statement .outOfStepRetry := of_none rfl
theorem reachDemote : Statement .reachDemote := of_none rfl
theorem recorderWrite : Statement .recorderWrite := of_none rfl
theorem floodSummary : Statement .floodSummary := of_none rfl
theorem countEdge (x0 : Fin 4) (x1 : Bool) (x2 : Bool) (x3 : Bool) : Statement (.countEdge x0 x1 x2 x3) := of_none rfl
theorem digitalInputChange (x0 : Fin 48) (x1 : Bool) : Statement (.digitalInputChange x0 x1) := of_none rfl
theorem breakpointHalt (x0 : Nat) (x1 : Option Nat) : Statement (.breakpointHalt x0 x1) := of_none rfl
theorem pairTimeStep : Statement .pairTimeStep := of_none rfl
theorem tlsKeyUpdate (x0 : Fin 8) (x1 : Bool) : Statement (.tlsKeyUpdate x0 x1) := of_none rfl
theorem canBusError (x0 : Fin 8) (x1 : Fin 8) (x2 : Bool) : Statement (.canBusError x0 x1 x2) := of_none rfl
theorem portFrameDiscard (x0 : Fin 4) (x1 : DiscardWhy) : Statement (.portFrameDiscard x0 x1) := of_none rfl
theorem pwrGoodRise (x0 : Fin 2) (x1 : Bool) : Statement (.pwrGoodRise x0 x1) := of_none rfl
theorem perSecondCoalescing : Statement .perSecondCoalescing := of_none rfl

end Sys2Proof.Laws.Catalogued
end

