-- ==== Sys2Proof/Tests/Slice0.lean ====
section
/-! SUPPORT. Tests: ill-formed terms that each check refuses, the words of the table, worked examples of the manual, and for every statement
a concrete state and operands that meet the hypotheses of each of its clauses. -/

namespace Sys2Proof.Tests

open Sys2Proof Sys2Proof.Machine

set_option maxRecDepth 4000
set_option Elab.async false

/-! ## Small states -/

/-- The state after reset. -/
def R : State := State.reset
/-- A mailbox whose command is in execution. -/
def box (code : Nat) (pay : List Byte) : Mailbox :=
  { mailboxReset with state := 2, copy := le 2 code ++ zeros 10 ++ le 4 pay.length ++ zeros 16 ++ pay }
/-- The same with `n` carriages claimed. -/
def boxData (code : Nat) (pay : List Byte) (n : Nat) : Mailbox := { box code pay with first := 0, count := n }
/-- The mailbox in place of local mailbox 0. -/
def inBox (b : Mailbox) (s : State) : State := { s with host := { s.host with mbx := s.host.mbx.set 0 b } }
theorem inBox_met (b : Mailbox) (s : State) (k : Nat) (h : b.state = 2 ∧ fld16 b.copy 0 = k) :
    InFlight (.loc 0) k (requestOf (.loc 0) b) (inBox b s) := ⟨b, by simp [mailboxOf, inBox], h.1, h.2, rfl⟩
/-- The session of local mailbox 0 holds a role. -/
def asRole (r : Nat) (s : State) : State :=
  { s with host := { s.host with sess := s.host.sess.set 0 { sessionReset with role := BitVec.ofNat 3 r } } }
/-- Task 0. -/
def aTask (k : Task) (s : State) : State := { s with task := s.task.set 0 k }
/-- A Standard task of 1 ms. -/
def taskDefFor (safety : Bool) : TaskDef where
  cls := .standard
  safety := safety
  skip := false
  limit := 3
  cycle := ms
  offset := 0
  wcet := 0
  inputs := 0
  outBytes := 0
  scopes := 1
  timeTol := 0
  passLimit := 0
  firstInst := 0
  span := 0
/-- Loop 0. -/
def aLoop (x : Loop) (s : State) : State := { s with loop := { s.loop with loops := [(0, x)] } }
/-- A configuration session of local mailbox 0. -/
def aSession : CfgSession := { number := 1, holder := .loc 0, set := State.reset.cfg.cur, bound := false }
/-- Every lane in a state. -/
def lanesAs (x : LaneState) (s : State) : State := { s with cpl := { s.cpl with lane := s.cpl.lane.map fun l => { l with st := x } } }
/-- One host batch of one entry. -/
def aBatch : Batch := { kind := .host, seq := 0, arrival := 0, entries := [{ sig := 0, kind := .ack }] }
/-- A host batch of `n` entries. -/
def fullBatch (n : Nat) : Batch := { kind := .host, seq := 0, arrival := 0, entries := List.replicate n { sig := 0, kind := .ack } }
theorem intake_full (n : Nat) (s : State) (h : s.image.intake = [fullBatch n]) (hn : 1048576 ≤ n) : intakeRoom 1 s = false := by
  simp [intakeRoom, intakeCount, intakeLimit, h, fullBatch]; omega
/-- A heartbeat of an active partner in RUN. -/
def aBeat : Heartbeat where
  seq := 1
  state := 3
  owner := 0
  reach := 0
  imageId := 0
  activeImageId := 0
  fw := 0
  protocol := 1
  mode := 4
  pubLinksUp := true
  mgmtAlive := true
/-- An open TLS connection. -/
def aTls : Tls where
  number := 1
  session := sessionReset
  mbx := .replicate 16 mailboxReset
  flags := []
  data := []
  lastSent := 0
  lastReceived := 0
  sentRecords := 0
  sendKeys := 0
  recvKeys := 0
/-- TLS connection 0. -/
def withTls (c : Tls) (s : State) : State := { s with host := { s.host with tls := s.host.tls.set 0 (some c) } }
/-- Station 1. -/
def aStation (x : Station) (s : State) : State := { s with image := { s.image with stations := s.image.stations.set 1 x } }
/-- A change block without entries. -/
def aBlock (seq : Nat) : Block := { seq := seq, kind := 0, takeover := false, pass := 0, arrival := 0, entries := [] }
/-- Its bytes on the network. -/
def blockBytes (station seq : Nat) : List Byte := le 4 0x42505359 ++ [2, 0] ++ le 1 station ++ [0] ++ le 8 seq ++ zeros 16
/-- Station 0 defines one signal. -/
def aSignal (s : State) : State :=
  { s with cfg := { s.cfg with cur := { s.cfg.cur with table := [(16, 1), (272, 6)], tableLen := 273 } } }
/-- A subscription of local mailbox 0. -/
def aSub : Subscription where
  owner := .loc 0
  id := 0
  ring := []
  at_ := 0
  handles := []
  interval := 0
  entries := []
  firstGen := 0
  superseded := 0
  since := 0
/-- The next state of an outcome. -/
def nextOf : Host.Outcome State Fault Refusal → State
  | .next t => t
  | _ => State.reset
/-- A start in its role wait, with a trial image of security version 1 and an active partner. -/
def trialState : State :=
  { R with fw := { R.fw with trial := true, bank := .replicate 2 [(0x10, 1)] }, modes := { R.modes with roleWait := some 0 }, pair := { R.pair with actIn := true } }
/-- A hello of a partner. -/
def aHello : Hello where
  owner := 0
  position := false
  protocol := 0
  signingKey := true
  credential := true
  lifecycle := 0
  split := false
  active := false
/-- A change log of 1,024 entries, and the request that acknowledges it: its digest is a free value, so the request carries it. -/
def fullLog : State := { R with safety := { R.safety with log := List.replicate 1024 { seq := 0, bytes := [] } } }
/-- See `fullLog`. -/
def ackBox : Mailbox := box 0x0D05 (le 8 0 ++ le 48 (Config.sha384 []).toNat)
theorem ack_pay : (requestOf (.loc 0) ackBox).pay = le 8 0 ++ le 48 (Config.sha384 []).toNat := by
  have h : ackBox.copy = le 2 0x0D05 ++ zeros 10 ++ le 4 (le 8 0 ++ le 48 (Config.sha384 []).toNat).length ++ zeros 16 ++
      (le 8 0 ++ le 48 (Config.sha384 []).toNat) := rfl
  simp only [requestOf, h]
  simp only [le_length, List.length_append]
  rfl
theorem fullLog_bytes : (List.take 1024 fullLog.safety.log).flatMap (·.bytes) = [] := by
  simp [fullLog]

/-! ## Well-formedness: a term that each check refuses -/

theorem test_wf_host : (Instr.carriageDataWrite (2 ^ 28) [0]).wf = false ∧ (Instr.mailboxBufferWrite 0x1FFFF [0, 0]).wf = false ∧
    (Instr.registerWrite .bar0 0x40000 0).wf = false ∧ (Instr.registerWrite .plinth 0x21 0).wf = false ∧
    (Instr.registerWrite .plinth 0x20 0).wf = true ∧ (Instr.bistRun (.loc 0) [64] 0).wf = false ∧
    (Instr.bistRun (.loc 0) [] (2 ^ 32)).wf = false := by decide

theorem test_wf_lanes : (Instr.start [64] 0).wf = false ∧ (Instr.bistGroupComplete 0 [64]).wf = false ∧
    (Instr.cp1Agree 0 [] [.a, .a] 0).wf = false ∧ (Instr.cp1Agree 0 [{ src := .time, props := [(.a, .int 0), (.a, .int 0)] }] [] 0).wf = false ∧
    (Instr.cp2Compare 0 [{ lane := .a, lines := [{ scope := 0, addr := 1, bytes := [] }], outs := [], area := none }] 0).wf = false ∧
    (Instr.lateLaneCheck 0 .b (.result { lane := .a, lines := [], outs := [], area := none })).wf = false ∧
    (Instr.breakpointHalt (2 ^ 64) none).wf = false ∧ (Instr.breakpointHalt 0 (some (2 ^ 64))).wf = false := by decide

theorem test_wf_commit : (Instr.cp3Commit 0 ⟨[{ scope := 0, index := 2 ^ 20, value := 0, status := 0, raw := none, stamp := none }], [], [], [], []⟩ []).wf = false ∧
    (Instr.cp3Commit 0 { sigs := [], alarms := [], loops := [], retained := [{ scope := 0, page := 61440, bytes := [] }], instPages := [] } []).wf = false ∧
    (Instr.mergeTick [.a, .a] []).wf = false ∧ (Instr.signalStaleTimeout (2 ^ 26) false).wf = false := by decide

theorem test_wf_field : (Instr.canFrameReceived 0 { ident := 0, extended := false, fd := false, remote := false, data := zeros 9 }).wf = false ∧
    (Instr.canFrameReceived 0 { ident := 0, extended := false, fd := true, remote := false, data := zeros 64 }).wf = true ∧
    (Instr.groupOverloadShed 0 0 65536).wf = false ∧ (Instr.loginLockoutEnd []).wf = false ∧ (Instr.loginLockoutEnd (zeros 33)).wf = false ∧
    (Instr.ptpSync 0 0 false 0 (2 ^ 63) 0).wf = false ∧ (Instr.ptpFollowUp 0 0 0 (2 ^ 63)).wf = false ∧
    (Instr.ptpDelayResp 0 0 0 (-(2 ^ 63) - 1)).wf = false ∧ (Instr.cellMeasurement 65536).wf = false ∧
    (Instr.panelCheckpointWritten 0 (2 ^ 32)).wf = false := by decide

theorem test_wf_pair : (Instr.heartbeatReceived 0 { aBeat with state := 256 }).wf = false ∧ (Instr.drawbarHello 0 { aHello with protocol := 65536 }).wf = false ∧
    (Instr.agreedInputsReceived (.cycle 0 (2 ^ 64) [])).wf = false ∧ (Instr.agreedInputsReceived (.merge 0 [{ sig := 2 ^ 26, kind := .ack }])).wf = false ∧
    (Instr.commitDigestReceived 0 (2 ^ 64) [] 0).wf = false ∧ (Instr.pairControlMessage (.modeChange 256)).wf = false ∧
    (Instr.pairControlMessage (.changeLogEntry [])).wf = false ∧ (Instr.pairControlMessage (.castPoint 0 256)).wf = false ∧
    (Instr.catchupPhaseComplete (.retained [(61440, [])] [])).wf = false ∧ (Instr.catchupPhaseComplete (.configuration [(65536, 0, [])] 0 [] [])).wf = false := by
  decide

theorem test_wf_long : (Instr.pubBlockReceived .other (zeros 1473)).wf = false ∧ (Instr.icmpEchoRequest 0 0 (zeros 1473)).wf = false ∧
    (Instr.nodeTelegramReceived 0 0 (zeros 1473)).wf = false ∧ (Instr.hsrRingFrame 0 (zeros 1523) false 0).wf = false := by
  decide +kernel

/-! ## The table's words, the queue, and worked examples of the manual -/

/-- No row of the table gives bits (opcode_table.json). -/
theorem test_no_word : decodeTableWord 16 0 = none ∧ decodeTableWord 32 0xFFFFFFFF = none := by decide

/-- An empty queue idles: the crystal and the time unit go on (log 9). -/
theorem test_idle : step R = .next (idleTick R) := rfl

/-- 04: the handle 0x0800_1C80 has STATION 2, INDEX 114 and ATTRIBUTE 0. -/
theorem test_handle : sigStation (handleSig 0x08001C80) = 2 ∧ sigIndex (handleSig 0x08001C80) = 114 ∧ handleAttr 0x08001C80 = 0 := by decide

/-- 11: against 0x18B4_1A2C_FFFF_F000 the stamp 0x0000_0800 extends to 0x18B4_1A2D_0000_0800. -/
theorem test_extend : extend 0x800 0x18B41A2CFFFFF000 = 0x18B41A2D00000800 := by decide

/-- 12: at 0x1873_FFFF_FFFF the read of RTC_TICKS_LO latches 0x1873, and the edge makes the count 0x1874_0000_0000. -/
theorem test_rtc_pair : exec .rtcTicksLoRead { R with plinth := { R.plinth with ticks := 0x1873FFFFFFFF } } =
      .next { R with plinth := { R.plinth with ticks := 0x1873FFFFFFFF, hiSnap := 0x1873, wdaySnap := R.plinth.wday, daySnap := R.plinth.phase }, host := { R.host with readValue := 0xFFFFFFFF } } ∧
    (edgeCounts { R.plinth with ticks := 0x1873FFFFFFFF }).1 = 0x187400000000 := by
  constructor
  · rfl
  · decide +kernel

/-- 12: ALM1 with the mask 0x03FF_FFFF and the weekday set 0x3E matches on weekday 1 and not on weekday 0 or one tick later. -/
theorem test_alarm : alarmMatches { alarmReset with mask := 0x3FFFFFF, wdays := 0x3E, enable := true } 0x4000000 1 = true ∧
    alarmMatches { alarmReset with mask := 0x3FFFFFF, wdays := 0x3E, enable := true } 0x4000000 0 = false ∧
    alarmMatches { alarmReset with mask := 0x3FFFFFF, wdays := 0x3E, enable := true } 0x4000001 1 = false := by decide

/-- 13: 2,400 pixels at SDCLK_DIV 4, LE_WIDTH_NS 100 and GATE_SETUP_NS 500 give t_L = 6,600 ns. -/
theorem test_line_time : lineTime (zeros 2 ++ le 2 2400 ++ zeros 3 ++ le 1 4 ++ le 2 100 ++ le 2 500) = 6600 := by decide

/-- 10: NOM_BRP 1, NOM_TSEG1 63 and NOM_TSEG2 16 are 80 quanta with the sample point at 80 %. -/
theorem test_can_bit : nomTicks ([0, 0, 1, 63, 16, 1] ++ zeros 26) = 80 ∧ sampleOk 63 16 = true := by decide

/-- 00: a 1 clears its W1C bit and no other: CAN_STATUS.MASTER_CONFLICT at bit 12, BUSOFF_SEEN at bit 7. -/
theorem test_w1c : (regRead .network 0x1000 (nextOf (exec (.registerWrite .network 0x1000 0x80)
    { R with can := R.can.map fun c => { c with conflict := true, busoffSeen := true } }))).1.getLsbD 7 = false ∧
    (regRead .network 0x1000 (nextOf (exec (.registerWrite .network 0x1000 0x80)
    { R with can := R.can.map fun c => { c with conflict := true, busoffSeen := true } }))).1.getLsbD 12 = true := by decide +kernel

/-- A login passes where the free table of credentials allows it (a conditional witness: log 61). -/
theorem witness_login (h : Config.credentialAllows 2 [0] [0] 5 = true) : ∃ (m : MbxId) (q : Req) (s : State) (r : Nat), InFlight m 0x0D01 q s ∧
    1 ≤ fld8 q.pay 2 ∧ fld8 q.pay 2 ≤ 32 ∧ 1 ≤ fld8 q.pay 3 ∧ fld8 q.pay 3 ≤ 64 ∧ auditRoom s = true ∧ userLocked (slice q.pay 4 (fld8 q.pay 2)) s = false ∧
    fld8 q.pay 0 = 2 ∧ r = 5 ∧ s.modes.life = .manufacture ∧ Config.credentialAllows 2 (slice q.pay 4 (fld8 q.pay 2)) (slice q.pay 36 (fld8 q.pay 3)) 5 = true :=
  ⟨.loc 0, requestOf (.loc 0) (box 0x0D01 ([2, 0, 1, 1] ++ zeros 64)), inBox (box 0x0D01 ([2, 0, 1, 1] ++ zeros 64)) { R with modes.life := .manufacture }, 5,
    inBox_met _ _ _ (by decide +kernel), by decide +kernel, by decide +kernel, by decide +kernel, by decide +kernel, by decide +kernel, by decide +kernel,
    by decide +kernel, rfl, rfl, by
      have a : slice (requestOf (.loc 0) (box 0x0D01 ([2, 0, 1, 1] ++ zeros 64))).pay 4 (fld8 (requestOf (.loc 0) (box 0x0D01 ([2, 0, 1, 1] ++ zeros 64))).pay 2) = [0] := by
        decide +kernel
      have b : slice (requestOf (.loc 0) (box 0x0D01 ([2, 0, 1, 1] ++ zeros 64))).pay 36 (fld8 (requestOf (.loc 0) (box 0x0D01 ([2, 0, 1, 1] ++ zeros 64))).pay 3) = [0] := by
        decide +kernel
      rw [a, b]; exact h⟩

/-! ## A state and operands for each clause of each statement that has hypotheses -/

theorem witness_StepRunsTheFrontCommand :
    (∃ (c : Instr) (rest : List Instr) (s : State), s.pending = c :: rest) ∧
    (∃ (s : State), s.pending = []) :=
  ⟨⟨.timeNsRead, [.hostReset], { R with pending := [.timeNsRead, .hostReset] }, rfl⟩,
   ⟨{ R with pending := [] }, by decide +kernel⟩⟩

theorem witness_CommandsTakenFirstInFirstOut :
    (∃ (c : Instr) (s : State) (t : State), exec c s = .next t) ∧
    (∃ (s : State) (t : State), step s = .next t) :=
  ⟨⟨.timeNsRead, R, nextOf (exec (.timeNsRead) (R)), rfl⟩,
   ⟨{ R with pending := [.timeNsRead] }, nextOf (step ({ R with pending := [.timeNsRead] })), rfl⟩⟩

theorem witness_FirmwareInvariantKeptByEveryStep : ∃ (s : State) (t : State), FirmwareInv s.fw ∧ step s = .next t :=
  ⟨{ R with pending := [.timeNsRead] }, nextOf (step { R with pending := [.timeNsRead] }), ⟨by decide, by decide, by decide⟩, rfl⟩

theorem witness_SecurityVersionNeverFalls :
    (∃ (s : State) (t : State), step s = .next t) ∧
    (∃ (c : Instr) (s t : State), exec c s = .next t ∧ t.fw.minSecurity ≠ s.fw.minSecurity) :=
  ⟨⟨{ R with pending := [.timeNsRead] }, nextOf (step ({ R with pending := [.timeNsRead] })), rfl⟩,
   ⟨.drawbarHello 0 { owner := 0, position := false, protocol := 0, signingKey := true, credential := true, lifecycle := 0, split := false, active := true }, trialState, nextOf (exec (.drawbarHello 0 { owner := 0, position := false, protocol := 0, signingKey := true, credential := true, lifecycle := 0, split := false, active := true }) trialState),
     rfl, by decide +kernel⟩⟩

theorem witness_IdentityNeverChanges : ∃ (s : State) (t : State), step s = .next t :=
  ⟨{ R with pending := [.timeNsRead] }, nextOf (step ({ R with pending := [.timeNsRead] })), rfl⟩

theorem witness_LifecycleMovesOnlyAsListed : ∃ (c : Instr) (s : State) (t : State), exec c s = .next t ∧ t.modes.life ≠ s.modes.life :=
  ⟨.lifecycleSet (.loc 0), inBox (box 0x0D06 (le 1 2)) (asRole 5 { R with modes.life := .commissioning }), nextOf (exec (.lifecycleSet (.loc 0)) (inBox (box 0x0D06 (le 1 2)) (asRole 5 { R with modes.life := .commissioning }))),
    rfl, by decide +kernel⟩

theorem witness_CataloguedCommandIsAnswered :
    (∃ (c : Instr) (m : MbxId) (k : Nat) (s : State) (q : Req), codeOf c = some (m, k) ∧ InFlight m k q s) ∧
    (∃ (c : Instr) (m : MbxId) (k : Nat) (s : State), codeOf c = some (m, k) ∧ ¬∃ q, InFlight m k q s) :=
  ⟨⟨.identGet (.loc 0), .loc 0, 0x0101, inBox (box 0x0101 []) R, requestOf (.loc 0) (box 0x0101 []), rfl, inBox_met _ _ _ (by decide +kernel)⟩,
   ⟨.identGet (.tls 0 0), .tls 0 0, 0x0101, R, rfl, fun h => by
    obtain ⟨q, b, h, -⟩ := h
    exact absurd (show mailboxOf (.tls 0 0) R = none by decide +kernel) (by simp [h])⟩⟩

theorem witness_EveryCommandKeepsToItsFrame : ∃ (c : Instr) (s : State) (t : State), exec c s = .next t :=
  ⟨.timeNsRead, R, nextOf (exec (.timeNsRead) (R)), rfl⟩

theorem witness_ModesMoveOnlyAsListed : ∃ (c : Instr) (s : State) (t : State), exec c s = .next t ∧ t.modes.mode ≠ s.modes.mode :=
  ⟨.demotionTakeoverTimeout, { R with modes.mode := .run, pair.st := .demoting, time.wraps := 1 }, nextOf (exec .demotionTakeoverTimeout { R with modes.mode := .run, pair.st := .demoting, time.wraps := 1 }),
    rfl, by decide +kernel⟩

theorem witness_IdentityAndStatusAreReported :
    (∃ (m : MbxId) (q : Req) (s : State), InFlight m 0x0101 q s) ∧
    (∃ (m : MbxId) (q : Req) (s : State), InFlight m 0x0102 q s) ∧
    (∃ (m : MbxId) (q : Req) (s : State), InFlight m 0x0103 q s) ∧
    (∃ (m : MbxId) (q : Req) (s : State), InFlight m 0x0202 q s) :=
  ⟨⟨.loc 0, requestOf (.loc 0) (box 0x0101 (zeros 64)), inBox (box 0x0101 (zeros 64)) (R), inBox_met _ _ _ (by decide +kernel)⟩,
   ⟨.loc 0, requestOf (.loc 0) (box 0x0102 (zeros 64)), inBox (box 0x0102 (zeros 64)) (R), inBox_met _ _ _ (by decide +kernel)⟩,
   ⟨.loc 0, requestOf (.loc 0) (box 0x0103 (zeros 64)), inBox (box 0x0103 (zeros 64)) (R), inBox_met _ _ _ (by decide +kernel)⟩,
   ⟨.loc 0, requestOf (.loc 0) (box 0x0202 (zeros 64)), inBox (box 0x0202 (zeros 64)) (R), inBox_met _ _ _ (by decide +kernel)⟩⟩

theorem witness_ModeSetAndStartRequestAct :
    (∃ (m : MbxId) (q : Req) (s : State), InFlight m 0x0201 q s ∧ modeOf (fld8 q.pay 0) = some s.modes.mode) ∧
    (∃ (m : MbxId) (q : Req) (s : State) (y : Mode), InFlight m 0x0201 q s ∧ modeOf (fld8 q.pay 0) = some y ∧ y ≠ s.modes.mode ∧ modeSetListed s.modes.mode y = true ∧ roleIncludes (roleOf q s) (modeSetRole s.modes.mode y s) = true ∧
      ¬(s.modes.mode = .stop ∧ y = .run ∧ fld8 q.pay 1 = 1 ∧ anySafetyTask s = true) ∧ ((s.modes.manoeuvring = true → y = .run)) ∧ ((y = .maintenance → ownerLocked s = false)) ∧
      ((y = .run → (slotIn .active s).isSome = true)) ∧ s.modes.pending = none ∧ switchoverPlanned s = false ∧ ((y = .maintenance ∨ (y = .run ∧ s.modes.mode = .stop) → s.prog.st ≠ .switching ∧
      s.prog.st ≠ .settling)) ∧ auditRoom s = true) ∧
    (∃ (m : MbxId) (q : Req) (s : State) (target : Option Mode), InFlight m 0x0203 q s ∧ fld8 q.pay 0 ≤ 1 ∧ startTargetOf (fld8 q.pay 1) = some target ∧ ((s.modes.manoeuvring = true → s.modes.mode = .safe ∨ s.modes.mode = .maintenance)) ∧
      ¬(fld8 q.pay 0 = 1 ∧ anySafetyTask s = true) ∧ startLockout s = false) ∧
    (∃ (m : MbxId) (q : Req) (s : State) (target : Option Mode), InFlight m 0x0203 q s ∧ fld8 q.pay 0 ≤ 1 ∧ startTargetOf (fld8 q.pay 1) = some target ∧ ((s.modes.manoeuvring = true → s.modes.mode = .safe ∨ s.modes.mode = .maintenance)) ∧
      ¬(fld8 q.pay 0 = 1 ∧ anySafetyTask s = true) ∧ startLockout s = true ∧ roleIncludes (roleOf q s) 6 = true ∧ auditRoom s = true) :=
  ⟨⟨.loc 0, requestOf (.loc 0) (box 0x0201 (le 1 1)), inBox (box 0x0201 (le 1 1)) (R), inBox_met _ _ _ (by decide +kernel), by decide +kernel⟩,
   ⟨.loc 0, requestOf (.loc 0) (box 0x0201 (le 1 5)), inBox (box 0x0201 (le 1 5)) ({ (asRole 3 R) with modes.pending := none, modes.mode := .run }), .hold, inBox_met _ _ _ (by decide +kernel),
     by decide +kernel⟩,
   ⟨.loc 0, requestOf (.loc 0) (box 0x0203 (le 1 0 ++ le 1 3)), inBox (box 0x0203 (le 1 0 ++ le 1 3)) ({ R with plinth.bkp := .replicate 16 0 }), some .stop, inBox_met _ _ _ (by decide +kernel),
     by decide +kernel⟩,
   ⟨.loc 0, requestOf (.loc 0) (box 0x0203 (le 1 0 ++ le 1 3)), inBox (box 0x0203 (le 1 0 ++ le 1 3)) ({ (asRole 6 R) with plinth.bkp := (.replicate 16 0 : Vector Word 16).set 2 0x40000000 }),
     some .stop, inBox_met _ _ _ (by decide +kernel), by decide +kernel⟩⟩

theorem witness_SessionsTakeAndLoseRoles :
    (∃ (m : MbxId) (q : Req) (s : State), InFlight m 0x0D01 q s ∧ fld8 q.pay 0 ≤ 2 ∧ ((fld8 q.pay 0 = 2 ∨ 1 ≤ fld8 q.pay 1 ∧ fld8 q.pay 1 ≤ 6)) ∧ 1 ≤ fld8 q.pay 2 ∧ fld8 q.pay 2 ≤ 32 ∧
      1 ≤ fld8 q.pay 3 ∧ fld8 q.pay 3 ≤ 64 ∧ auditRoom s = true ∧ loginRole q (fld8 q.pay 0) (fld8 q.pay 1) (slice q.pay 4 (fld8 q.pay 2)) (slice q.pay 36 (fld8 q.pay 3)) s = none ∧
      userLocked (slice q.pay 4 (fld8 q.pay 2)) s = false) ∧
    (∃ (m : MbxId) (q : Req) (s : State), InFlight m 0x0D02 q s) :=
  ⟨⟨.loc 0, requestOf (.loc 0) (box 0x0D01 ([0, 1, 1, 1] ++ zeros 64)), inBox (box 0x0D01 ([0, 1, 1, 1] ++ zeros 64)) ({ R with modes.roleCreds := false }), inBox_met _ _ _ (by decide +kernel),
     by decide +kernel⟩,
   ⟨.loc 0, requestOf (.loc 0) (box 0x0D02 (zeros 64)), inBox (box 0x0D02 (zeros 64)) (R), inBox_met _ _ _ (by decide +kernel)⟩⟩

theorem witness_PasswordLifecycleAndLockChange :
    (∃ (m : MbxId) (q : Req) (s : State), InFlight m 0x0D03 q s ∧ ownerLocked s = false ∧ bit (fld8 q.pay 0) 0 = false ∧ (s.modes.life = .commissioning ∨ s.modes.life = .serviceOpen) ∧
      s.safety.password = none ∧ logFull s = false ∧ roleIncludes (roleOf q s) 4 = true ∧ 12 ≤ fld8 (slice q.pay 72 68) 0 ∧ fld8 (slice q.pay 72 68) 0 ≤ 64) ∧
    (∃ (m : MbxId) (q : Req) (s : State), InFlight m 0x0D03 q s ∧ ownerLocked s = false ∧ bit (fld8 q.pay 0) 0 = true ∧ s.modes.life = .serviceOpen ∧ logFull s = false ∧ roleOf q s = 6) ∧
    (∃ (m : MbxId) (q : Req) (s : State) (y : Lifecycle) (need : LifeNeed), InFlight m 0x0D06 q s ∧ ownerLocked s = false ∧ lifeOf (fld8 q.pay 0) = some y ∧ bit (fld8 q.pay 1) 0 = false ∧
      lifeTransition s.modes.life y = some need ∧ lifeConditions s.modes.life y s = true ∧ lifeAllowed need q s = true ∧ auditRoom s = true) ∧
    (∃ (m : MbxId) (q : Req) (s : State), InFlight m 0x0D06 q s ∧ ownerLocked s = true) ∧
    (∃ (m : MbxId) (q : Req) (s : State), InFlight m 0x0D07 q s ∧ fld8 q.pay 0 ≤ 1 ∧ ((fld8 q.pay 0 = 0 → s.modes.lockInput = false)) ∧ auditRoom s = true) ∧
    (∃ (m : MbxId) (q : Req) (s : State), InFlight m 0x0D07 q s ∧ fld8 q.pay 0 = 0 ∧ s.modes.lockInput = true) :=
  ⟨⟨.loc 0, requestOf (.loc 0) (box 0x0D03 (zeros 72 ++ le 1 12 ++ zeros 67)), inBox (box 0x0D03 (zeros 72 ++ le 1 12 ++ zeros 67)) ({ (asRole 4 R) with modes.life := .commissioning, safety.password := none }),
     inBox_met _ _ _ (by decide +kernel), by decide +kernel⟩,
   ⟨.loc 0, requestOf (.loc 0) (box 0x0D03 (le 1 1 ++ zeros 139)), inBox (box 0x0D03 (le 1 1 ++ zeros 139)) ({ (asRole 6 R) with modes.life := .serviceOpen }), inBox_met _ _ _ (by decide +kernel),
     by decide +kernel⟩,
   ⟨.loc 0, requestOf (.loc 0) (box 0x0D06 (le 1 2 ++ zeros 7)), inBox (box 0x0D06 (le 1 2 ++ zeros 7)) ({ (asRole 5 R) with modes.life := .commissioning }), .inService, .role [5],
     inBox_met _ _ _ (by decide +kernel), by decide +kernel⟩,
   ⟨.loc 0, requestOf (.loc 0) (box 0x0D06 (zeros 64)), inBox (box 0x0D06 (zeros 64)) ({ R with modes.lockCmd := true }), inBox_met _ _ _ (by decide +kernel), by decide +kernel⟩,
   ⟨.loc 0, requestOf (.loc 0) (box 0x0D07 (zeros 64)), inBox (box 0x0D07 (zeros 64)) (R), inBox_met _ _ _ (by decide +kernel), by decide +kernel⟩,
   ⟨.loc 0, requestOf (.loc 0) (box 0x0D07 (zeros 64)), inBox (box 0x0D07 (zeros 64)) ({ R with modes.lockInput := true }), inBox_met _ _ _ (by decide +kernel), by decide +kernel⟩⟩

theorem witness_ConfigurationSessionsWorkOnACopy :
    (∃ (m : MbxId) (q : Req) (s : State), InFlight m 0x0301 q s ∧ s.cfg.session = none) ∧
    (∃ (m : MbxId) (q : Req) (s : State) (c : CfgSession), InFlight m 0x0301 q s ∧ s.cfg.session = some c) ∧
    (∃ (m : MbxId) (q : Req) (s : State) (c : CfgSession) (size : Nat), InFlight m 0x0302 q s ∧ heldSession q (fld32 q.pay 4) s = some c ∧ kindSize (fld16 q.pay 0) = some size ∧
      (fld16 q.pay 0) ≠ 0x00F0 ∧ c.bound = false ∧ (fld32 q.pay 12) ≠ 0 ∧ q.count = 0 ∧ bit (fld16 q.pay 2) 0 = false ∧ rangeOk (fld16 q.pay 0) (fld32 q.pay 8) (fld32 q.pay 12) true c.set = true ∧
      q.pay.length = 16 + (fld32 q.pay 12) * size ∧ (fld16 q.pay 0) ≠ 0x0010) ∧
    (∃ (m : MbxId) (q : Req) (s : State) (c : CfgSession) (size : Nat), InFlight m 0x0302 q s ∧ heldSession q (fld32 q.pay 4) s = some c ∧ kindSize (fld16 q.pay 0) = some size ∧
      (fld16 q.pay 0) ≠ 0x00F0 ∧ c.bound = false ∧ (fld32 q.pay 12) ≠ 0 ∧ q.count = 0 ∧ bit (fld16 q.pay 2) 0 = false ∧ rangeOk (fld16 q.pay 0) (fld32 q.pay 8) (fld32 q.pay 12) true c.set = true ∧
      q.pay.length = 16 + (fld32 q.pay 12) * size ∧ (fld16 q.pay 0) = 0x0010) ∧
    (∃ (m : MbxId) (q : Req) (s : State) (c : CfgSession) (size : Nat), InFlight m 0x0302 q s ∧ heldSession q (fld32 q.pay 4) s = some c ∧ kindSize (fld16 q.pay 0) = some size ∧
      (fld16 q.pay 0) ≠ 0x00F0 ∧ c.bound = false ∧ (fld32 q.pay 12) ≠ 0 ∧ q.count = 0 ∧ bit (fld16 q.pay 2) 0 = true ∧ rangeOk (fld16 q.pay 0) (fld32 q.pay 8) (fld32 q.pay 12) false c.set = true) ∧
    (∃ (m : MbxId) (q : Req) (s : State) (size : Nat), InFlight m 0x0303 q s ∧ kindSize (fld16 q.pay 0) = some size ∧ fld8 q.pay 2 = 0 ∧ rangeOk (fld16 q.pay 0) (fld32 q.pay 8) (fld32 q.pay 12) false s.cfg.cur = true ∧
      q.count = 0 ∧ (fld16 q.pay 0) ≠ 0x0010 ∧ (fld16 q.pay 0) ≠ 0x00F0 ∧ ((List.range (fld32 q.pay 12)).flatMap fun k => slice (cfgRec (fld16 q.pay 0) ((fld32 q.pay 8) + k) s) 0 size).length ≤ 4056) ∧
    (∃ (m : MbxId) (q : Req) (s : State) (c : CfgSession), InFlight m 0x0304 q s ∧ heldSession q (fld32 q.pay 0) s = some c ∧ c.bound = false ∧ s.prog.st ≠ .switching ∧ s.prog.st ≠ .settling ∧
      commitFail (activeImage s) (withSet c.set s) = none ∧ bit (fld32 q.pay 4) 0 = true) ∧
    (∃ (m : MbxId) (q : Req) (s : State) (c : CfgSession), InFlight m 0x0304 q s ∧ heldSession q (fld32 q.pay 0) s = some c ∧ c.bound = false ∧ s.prog.st ≠ .switching ∧ s.prog.st ≠ .settling ∧
      commitFail (activeImage s) (withSet c.set s) = none ∧ bit (fld32 q.pay 4) 0 = false ∧ safetyChange s.cfg.cur c.set = false ∧ auditRoom s = true) ∧
    (∃ (m : MbxId) (q : Req) (s : State) (c : CfgSession), InFlight m 0x0305 q s ∧ s.cfg.session = some c ∧ c.number = fld32 q.pay 0 ∧ c.bound = false ∧ (c.holder = mbxSession m ∨ roleOf q s = 5 ∨ roleOf q s = 6)) :=
  ⟨⟨.loc 0, requestOf (.loc 0) (box 0x0301 (zeros 64)), inBox (box 0x0301 (zeros 64)) ({ R with cfg.session := none }), inBox_met _ _ _ (by decide +kernel), by decide +kernel⟩,
   ⟨.loc 0, requestOf (.loc 0) (box 0x0301 (zeros 64)), inBox (box 0x0301 (zeros 64)) ({ R with cfg.session := some aSession }), aSession, inBox_met _ _ _ (by decide +kernel),
     by decide +kernel⟩,
   ⟨.loc 0, requestOf (.loc 0) (box 0x0302 (le 2 1 ++ le 2 0 ++ le 4 1 ++ le 4 0 ++ le 4 1 ++ zeros 64)), inBox (box 0x0302 (le 2 1 ++ le 2 0 ++ le 4 1 ++ le 4 0 ++ le 4 1 ++ zeros 64)) ({ R with cfg.session := some aSession }),
     aSession, 64, inBox_met _ _ _ (by decide +kernel), by decide +kernel⟩,
   ⟨.loc 0, requestOf (.loc 0) (box 0x0302 (le 2 0x10 ++ le 2 0 ++ le 4 1 ++ le 4 0 ++ le 4 1 ++ zeros 1)), inBox (box 0x0302 (le 2 0x10 ++ le 2 0 ++ le 4 1 ++ le 4 0 ++ le 4 1 ++ zeros 1)) ({ R with cfg.session := some aSession }),
     aSession, 1, inBox_met _ _ _ (by decide +kernel), by decide +kernel⟩,
   ⟨.loc 0, requestOf (.loc 0) (box 0x0302 (le 2 1 ++ le 2 1 ++ le 4 1 ++ le 4 0 ++ le 4 1)), inBox (box 0x0302 (le 2 1 ++ le 2 1 ++ le 4 1 ++ le 4 0 ++ le 4 1)) ({ R with cfg.session := some aSession }),
     aSession, 64, inBox_met _ _ _ (by decide +kernel), by decide +kernel⟩,
   ⟨.loc 0, requestOf (.loc 0) (box 0x0303 (le 2 1 ++ zeros 6 ++ le 4 0 ++ le 4 1)), inBox (box 0x0303 (le 2 1 ++ zeros 6 ++ le 4 0 ++ le 4 1)) (R), 64, inBox_met _ _ _ (by decide +kernel),
     by decide +kernel⟩,
   ⟨.loc 0, requestOf (.loc 0) (box 0x0304 (le 4 1 ++ le 4 1)), inBox (box 0x0304 (le 4 1 ++ le 4 1)) ({ R with cfg.session := some aSession }), aSession, inBox_met _ _ _ (by decide +kernel),
     by decide +kernel⟩,
   ⟨.loc 0, requestOf (.loc 0) (box 0x0304 (le 4 1 ++ le 4 0)), inBox (box 0x0304 (le 4 1 ++ le 4 0)) ({ R with cfg.session := some aSession }), aSession, inBox_met _ _ _ (by decide +kernel),
     by decide +kernel⟩,
   ⟨.loc 0, requestOf (.loc 0) (box 0x0305 (le 4 1)), inBox (box 0x0305 (le 4 1)) ({ R with cfg.session := some aSession }), aSession, inBox_met _ _ _ (by decide +kernel), by decide +kernel⟩⟩

theorem witness_LoopCommandsScheduleTheirChange :
    (∃ (m : MbxId) (q : Req) (s : State) (f : Nat × Nat × Nat), InFlight m 0x0306 q s ∧ (fld16 q.pay 0) < 256 ∧ (loopAt (fld16 q.pay 0) s).rcd ≠ [] ∧ fld16 q.pay 2 = 1 ∧ f ∈ tuneFields ∧
      tuneFields.find? (fun g => g.1 == fld16 (slice q.pay 4 16) 0 && g.2.1 == fld16 (slice q.pay 4 16) 2) = some f ∧ loopFieldOk (putAt (loopAt (fld16 q.pay 0) s).rcd f.1 (slice (slice q.pay 4 16) 8 f.2.1)) f.1 = true ∧
      f.2.2 = 3 ∧ s.modes.mode ≠ .maintenance) ∧
    (∃ (m : MbxId) (q : Req) (s : State) (f : Nat × Nat × Nat), InFlight m 0x0306 q s ∧ (fld16 q.pay 0) < 256 ∧ (loopAt (fld16 q.pay 0) s).rcd ≠ [] ∧ fld16 q.pay 2 = 1 ∧ f ∈ tuneFields ∧
      tuneFields.find? (fun g => g.1 == fld16 (slice q.pay 4 16) 0 && g.2.1 == fld16 (slice q.pay 4 16) 2) = some f ∧ loopFieldOk (putAt (loopAt (fld16 q.pay 0) s).rcd f.1 (slice (slice q.pay 4 16) 8 f.2.1)) f.1 = true ∧
      f.2.2 < 3) ∧
    (∃ (m : MbxId) (q : Req) (s : State), InFlight m 0x0307 q s ∧ (fld16 q.pay 0) < 256 ∧ (loopAt (fld16 q.pay 0) s).rcd ≠ [] ∧ fld8 q.pay 2 ≤ 7 ∧ (loopAt (fld16 q.pay 0) s).sched ≠ none) ∧
    (∃ (m : MbxId) (q : Req) (s : State), InFlight m 0x0307 q s ∧ (fld16 q.pay 0) < 256 ∧ (loopAt (fld16 q.pay 0) s).rcd ≠ [] ∧ fld8 q.pay 2 ≤ 7 ∧ (loopAt (fld16 q.pay 0) s).sched = none ∧
      (((if BitVec.ofNat 3 (fld8 q.pay 2) = 0 then (loopAt (fld16 q.pay 0) s).pend else BitVec.ofNat 3 (fld8 q.pay 2)) &&& (loopAt (fld16 q.pay 0) s).pend) = 0)) ∧
    (∃ (m : MbxId) (q : Req) (s : State), InFlight m 0x0307 q s ∧ (fld16 q.pay 0) < 256 ∧ (loopAt (fld16 q.pay 0) s).rcd ≠ [] ∧ fld8 q.pay 2 ≤ 7 ∧ (loopAt (fld16 q.pay 0) s).sched = none ∧
      (((if BitVec.ofNat 3 (fld8 q.pay 2) = 0 then (loopAt (fld16 q.pay 0) s).pend else BitVec.ofNat 3 (fld8 q.pay 2)) &&& (loopAt (fld16 q.pay 0) s).pend) ≠ 0) ∧ (groupOk (copyGroups ((if BitVec.ofNat 3 (fld8 q.pay 2) = 0 then (loopAt (fld16 q.pay 0) s).pend else BitVec.ofNat 3 (fld8 q.pay 2)) &&& (loopAt (fld16 q.pay 0) s).pend) ((if (loopAt (fld16 q.pay 0) s).shadow = [] then (loopAt (fld16 q.pay 0) s).rcd else (loopAt (fld16 q.pay 0) s).shadow)) (loopAt (fld16 q.pay 0) s).rcd) (otherLoops (fld16 q.pay 0) s) (fun c => (digAt c s).rcd) = true) ∧
      s.modes.mode ≠ .maintenance) ∧
    (∃ (m : MbxId) (q : Req) (s : State) (md : LoopMode), InFlight m 0x0602 q s ∧ (fld16 q.pay 0) < 256 ∧ (loopAt (fld16 q.pay 0) s).rcd ≠ [] ∧ loopModeOf (fld8 q.pay 2) = some md ∧
      loopFlag (loopAt (fld16 q.pay 0) s).rcd 1 = false) ∧
    (∃ (m : MbxId) (q : Req) (s : State) (md : LoopMode), InFlight m 0x0602 q s ∧ (fld16 q.pay 0) < 256 ∧ (loopAt (fld16 q.pay 0) s).rcd ≠ [] ∧ loopModeOf (fld8 q.pay 2) = some md ∧
      loopFlag (loopAt (fld16 q.pay 0) s).rcd 1 = true ∧ ¬((loopAt (fld16 q.pay 0) s).mode = .manual ∧ md = .manual) ∧ loopGrants (loopAt (fld16 q.pay 0) s) md (now s) s = true) ∧
    (∃ (m : MbxId) (q : Req) (s : State), InFlight m 0x0603 q s ∧ (fld16 q.pay 0) < 256 ∧ (loopAt (fld16 q.pay 0) s).rcd ≠ []) ∧
    (∃ (m : MbxId) (q : Req) (s : State), InFlight m 0x0601 q s ∧ fld16 q.pay 0 + fld16 q.pay 2 ≤ 256 ∧ fld16 q.pay 2 ≤ 63 ∧ bit (fld32 q.pay 4) 0 = false) :=
  ⟨⟨.loc 0, requestOf (.loc 0) (box 0x0306 (le 2 0 ++ le 2 1 ++ le 2 40 ++ le 2 4 ++ zeros 12)), inBox (box 0x0306 (le 2 0 ++ le 2 1 ++ le 2 40 ++ le 2 4 ++ zeros 12)) ((aLoop ({ loopReset with rcd := zeros 160 }) R)),
     (40, 4, 3), inBox_met _ _ _ (by decide +kernel), by decide +kernel⟩,
   ⟨.loc 0, requestOf (.loc 0) (box 0x0306 (le 2 0 ++ le 2 1 ++ le 2 76 ++ le 2 4 ++ zeros 12)), inBox (box 0x0306 (le 2 0 ++ le 2 1 ++ le 2 76 ++ le 2 4 ++ zeros 12)) ((aLoop ({ loopReset with rcd := zeros 160 }) R)),
     (76, 4, 0), inBox_met _ _ _ (by decide +kernel), by decide +kernel⟩,
   ⟨.loc 0, requestOf (.loc 0) (box 0x0307 (zeros 64)), inBox (box 0x0307 (zeros 64)) ((aLoop ({ loopReset with rcd := zeros 160, sched := some (0, 1, []) }) R)), inBox_met _ _ _ (by decide +kernel),
     by decide +kernel⟩,
   ⟨.loc 0, requestOf (.loc 0) (box 0x0307 (zeros 64)), inBox (box 0x0307 (zeros 64)) ((aLoop ({ loopReset with rcd := zeros 160 }) R)), inBox_met _ _ _ (by decide +kernel),
     by decide +kernel⟩,
   ⟨.loc 0, requestOf (.loc 0) (box 0x0307 (zeros 64)), inBox (box 0x0307 (zeros 64)) ((aLoop ({ loopReset with rcd := zeros 80 ++ le 4 0x3F800000 ++ zeros 76, pend := 1 }) R)),
     inBox_met _ _ _ (by decide +kernel), by decide +kernel⟩,
   ⟨.loc 0, requestOf (.loc 0) (box 0x0602 (zeros 64)), inBox (box 0x0602 (zeros 64)) ((aLoop ({ loopReset with rcd := zeros 160 }) R)), .off, inBox_met _ _ _ (by decide +kernel),
     by decide +kernel⟩,
   ⟨.loc 0, requestOf (.loc 0) (box 0x0602 (le 2 0 ++ le 1 1)), inBox (box 0x0602 (le 2 0 ++ le 1 1)) ((aLoop ({ loopReset with rcd := zeros 2 ++ le 2 2 ++ zeros 156, mode := .auto }) R)),
     .manual, inBox_met _ _ _ (by decide +kernel), by decide +kernel⟩,
   ⟨.loc 0, requestOf (.loc 0) (box 0x0603 (zeros 64)), inBox (box 0x0603 (zeros 64)) ((aLoop ({ loopReset with rcd := zeros 160 }) R)), inBox_met _ _ _ (by decide +kernel),
     by decide +kernel⟩,
   ⟨.loc 0, requestOf (.loc 0) (box 0x0601 (zeros 64)), inBox (box 0x0601 (zeros 64)) (R), inBox_met _ _ _ (by decide +kernel), by decide +kernel⟩⟩

theorem witness_ProgramsAreLoadedVerifiedAndExchanged :
    (∃ (m : MbxId) (q : Req) (s : State), InFlight m 0x0401 q s ∧ 1 ≤ (fld32 q.pay 4) ∧ (fld32 q.pay 4) ≤ 65536 ∧ (fld32 q.pay 0) + (fld32 q.pay 4) ≤ 0x10000000 ∧ q.count = 0 ∧
      s.prog.st = .idle ∧ ((vget slotReset s.prog.slot (loadSlot s)).st = .loading ∨ (fld32 q.pay 0) = 0)) ∧
    (∃ (m : MbxId) (q : Req) (s : State), InFlight m 0x0401 q s ∧ fld32 q.pay 4 = 0) ∧
    (∃ (m : MbxId) (q : Req) (s : State) (k : Nat) (f : Nat × Nat), InFlight m 0x0402 q s ∧ slotIn .loaded s = some k ∧ s.prog.st = .idle ∧ (verifyCheck (slotImage k s) (imageSigned (slotImage k s) s) (s.cfg.cur :: s.cfg.session.toList.map (·.set)) ((if (slotIn .active s).isSome then some (activeImage s) else none)) = some f)) ∧
    (∃ (m : MbxId) (q : Req) (s : State), InFlight m 0x0402 q s ∧ slotIn .loaded s = none) ∧
    (∃ (m : MbxId) (q : Req) (s : State), InFlight m 0x0403 q s ∧ bit (fld32 q.pay 8) 1 = true ∧ (s.prog.st = .preparing ∨ s.prog.st = .ready) ∧ (s.prog.cast = 0 ∨ now s + 2 * ms < s.prog.cast)) ∧
    (∃ (m : MbxId) (q : Req) (s : State) (k : Nat), InFlight m 0x0403 q s ∧ bit (fld32 q.pay 8) 1 = false ∧ slotIn .verified s = some k ∧ fld32 q.pay 12 = 0xFFFFFFFF ∧ safetyExchange (activeImage s) (slotImage k s) = false ∧
      bit (fld32 q.pay 8) 0 = false ∧ s.modes.mode ≠ .stop ∧ ownerLocked s = false ∧ s.prog.st = .idle ∧ s.cpl.handover = false ∧ s.cpl.attach = none ∧ ((pairInStep s = true → s.pair.partner.elim 0 (fun h => h.imageId.toNat) = imageId (slotImage k s))) ∧
      forceDrops (slotImage k s) s.cfg.cur s = [] ∧ (fld64 q.pay 0 = 0 ∨ now s + 20 * ms ≤ fld64 q.pay 0) ∧ ((∀ g ∈ programSigs (slotImage k s), definedIn s.cfg.cur g = true)) ∧
      ((s.cpl.config = .split → taskNos.any (imSafety (slotImage k s)) = false)) ∧ express46 (slotImage k s) = true ∧ expressOk (expressTasks (slotImage k s)) (fun _ => 0) = true ∧
      (slotIn .active s = none ∨ switchOk (activeImage s) = true)) :=
  ⟨⟨.loc 0, requestOf (.loc 0) (box 0x0401 (le 4 0 ++ le 4 65536)), inBox (box 0x0401 (le 4 0 ++ le 4 65536)) ({ R with prog.st := .idle }), inBox_met _ _ _ (by decide +kernel),
     by decide +kernel⟩,
   ⟨.loc 0, requestOf (.loc 0) (box 0x0401 (zeros 64)), inBox (box 0x0401 (zeros 64)) (R), inBox_met _ _ _ (by decide +kernel), by decide +kernel⟩,
   ⟨.loc 0, requestOf (.loc 0) (box 0x0402 (zeros 64)), inBox (box 0x0402 (zeros 64)) ({ R with prog.st := .idle, prog.slot := R.prog.slot.set 0 { slotReset with st := .loaded } }),
     0, (1, stInconsistent), inBox_met _ _ _ (by decide +kernel), by decide +kernel⟩,
   ⟨.loc 0, requestOf (.loc 0) (box 0x0402 (zeros 64)), inBox (box 0x0402 (zeros 64)) (R), inBox_met _ _ _ (by decide +kernel), by decide +kernel⟩,
   ⟨.loc 0, requestOf (.loc 0) (box 0x0403 (zeros 8 ++ le 4 2)), inBox (box 0x0403 (zeros 8 ++ le 4 2)) ({ R with prog.st := .ready, prog.cast := 0 }), inBox_met _ _ _ (by decide +kernel),
     by decide +kernel⟩,
   ⟨.loc 0, requestOf (.loc 0) (box 0x0403 (zeros 12 ++ le 4 0xFFFFFFFF)), inBox (box 0x0403 (zeros 12 ++ le 4 0xFFFFFFFF)) ({ R with prog.st := .idle, cpl.handover := false, cpl.attach := none, prog.slot := R.prog.slot.set 0 { slotReset with st := .verified } }),
     0, inBox_met _ _ _ (by decide +kernel), by decide +kernel⟩⟩

theorem witness_TaskCommandsMoveTheTask :
    (∃ (m : MbxId) (q : Req) (s : State) (k : Task), InFlight m 0x0404 q s ∧ taskAt (fld8 q.pay 0) s = some k ∧ taskDefined (fld8 q.pay 0) s = true ∧ s.modes.mode = .run ∧ fld8 q.pay 1 ≤ 1 ∧
      (k.st = .stopped ∨ k.st = .faulted) ∧ s.prog.st ≠ .switching ∧ s.prog.st ≠ .settling ∧ ((fld8 q.pay 1 = 1 → taskSafety (fld8 q.pay 0) s = false))) ∧
    (∃ (m : MbxId) (q : Req) (s : State) (k : Task), InFlight m 0x0405 q s ∧ taskAt (fld8 q.pay 0) s = some k ∧ taskDefined (fld8 q.pay 0) s = true ∧ s.modes.manoeuvring = false ∧
      k.st = .running ∧ s.prog.st ≠ .switching) ∧
    (∃ (m : MbxId) (q : Req) (s : State) (k : Task), InFlight m 0x0406 q s ∧ taskAt (fld8 q.pay 0) s = some k ∧ taskDefined (fld8 q.pay 0) s = true ∧ s.modes.manoeuvring = false ∧
      taskSafety (fld8 q.pay 0) s = false ∧ ((s.modes.life = .inService → roleOf q s = 6)) ∧ k.st = .running ∧ s.prog.st ≠ .switching) ∧
    (∃ (m : MbxId) (q : Req) (s : State) (k : Task), InFlight m 0x0407 q s ∧ taskAt (fld8 q.pay 0) s = some k ∧ taskDefined (fld8 q.pay 0) s = true ∧ k.st = .held ∧ s.prog.st ≠ .switching) ∧
    (∃ (m : MbxId) (q : Req) (s : State) (k : Task), InFlight m 0x0408 q s ∧ taskAt (fld8 q.pay 0) s = some k ∧ taskDefined (fld8 q.pay 0) s = true ∧ (k.st = .held ∨ k.st = .stepping) ∧
      s.prog.st ≠ .switching) ∧
    (∃ (m : MbxId) (q : Req) (s : State) (c : Instr) (code : Nat), (c, code) ∈ [(Instr.progStop m, 0x0405), (.progStep m, 0x0407), (.progResume m, 0x0408)] ∧ InFlight m code q s ∧
      taskDefined (fld8 q.pay 0) s = false) :=
  ⟨⟨.loc 0, requestOf (.loc 0) (box 0x0404 (zeros 64)), inBox (box 0x0404 (zeros 64)) ({ (aTask { taskReset with defn := some (taskDefFor false), st := .stopped } R) with modes.mode := .run }),
     { taskReset with defn := some (taskDefFor false), st := .stopped }, inBox_met _ _ _ (by decide +kernel), by decide +kernel⟩,
   ⟨.loc 0, requestOf (.loc 0) (box 0x0405 (zeros 64)), inBox (box 0x0405 (zeros 64)) ({ (aTask { taskReset with defn := some (taskDefFor false), st := .running } R) with modes.manoeuvring := false }),
     { taskReset with defn := some (taskDefFor false), st := .running }, inBox_met _ _ _ (by decide +kernel), by decide +kernel⟩,
   ⟨.loc 0, requestOf (.loc 0) (box 0x0406 (zeros 64)), inBox (box 0x0406 (zeros 64)) ({ (aTask { taskReset with defn := some (taskDefFor false), st := .running } R) with modes.manoeuvring := false }),
     { taskReset with defn := some (taskDefFor false), st := .running }, inBox_met _ _ _ (by decide +kernel), by decide +kernel⟩,
   ⟨.loc 0, requestOf (.loc 0) (box 0x0407 (zeros 64)), inBox (box 0x0407 (zeros 64)) ((aTask { taskReset with defn := some (taskDefFor false), st := .held } R)), { taskReset with defn := some (taskDefFor false), st := .held },
     inBox_met _ _ _ (by decide +kernel), by decide +kernel⟩,
   ⟨.loc 0, requestOf (.loc 0) (box 0x0408 (zeros 64)), inBox (box 0x0408 (zeros 64)) ((aTask { taskReset with defn := some (taskDefFor false), st := .held } R)), { taskReset with defn := some (taskDefFor false), st := .held },
     inBox_met _ _ _ (by decide +kernel), by decide +kernel⟩,
   ⟨.loc 0, requestOf (.loc 0) (box 0x0407 (zeros 8)), inBox (box 0x0407 (zeros 8)) R, .progStep (.loc 0), 0x0407, by simp, inBox_met _ _ _ (by decide +kernel), by decide +kernel⟩⟩

theorem witness_SignalCommandsReadAndWriteTheImage :
    (∃ (m : MbxId) (q : Req) (s : State), InFlight m 0x0501 q s ∧ fld16 q.pay 0 ≤ 63 ∧ (handleList (fld16 q.pay 0) (q.pay.drop 4)).any (fun h => (attrBytes h s).isNone) = false) ∧
    (∃ (m : MbxId) (q : Req) (s : State), InFlight m 0x0506 q s ∧ ((fld8 q.pay 4) = 8 ∨ (fld8 q.pay 4) = 64) ∧ 1 ≤ (fld32 q.pay 0) ∧ (fld32 q.pay 0) ≤ 262144 ∧ (handleCarriages (fld32 q.pay 0)) * 65536 + (fld8 q.pay 4) * (fld32 q.pay 0) ≤ claimRoom q ∧
      (handleList (fld32 q.pay 0) (claimBytes q 0 (4 * (fld32 q.pay 0)) s)).any (fun h => (attrBytes h s).isNone || ((fld8 q.pay 4) == 8 && handleAttr h == 7)) = false) ∧
    (∃ (m : MbxId) (q : Req) (s : State) (ys : List Entry), InFlight m 0x0502 q s ∧ 1 ≤ (fld16 q.pay 0) ∧ (fld16 q.pay 0) ≤ 160 ∧ (((List.range (fld16 q.pay 0)).map (fun i => slice q.pay (4 + 24 * i) 24)).all (fun e => handleAttr (fldW e 0) == 4) = true ∨ roleIncludes (roleOf q s) 3 = true) ∧
      hostEntries 0 s ((List.range (fld16 q.pay 0)).map (fun i => slice q.pay (4 + 24 * i) 24)) = .inr ys ∧ intakeRoom ys.length s = true) ∧
    (∃ (m : MbxId) (q : Req) (s : State) (ys : List Entry), InFlight m 0x0502 q s ∧ 1 ≤ (fld16 q.pay 0) ∧ (fld16 q.pay 0) ≤ 160 ∧ (((List.range (fld16 q.pay 0)).map (fun i => slice q.pay (4 + 24 * i) 24)).all (fun e => handleAttr (fldW e 0) == 4) = true ∨ roleIncludes (roleOf q s) 3 = true) ∧
      hostEntries 0 s ((List.range (fld16 q.pay 0)).map (fun i => slice q.pay (4 + 24 * i) 24)) = .inr ys ∧ intakeRoom ys.length s = false) ∧
    (∃ (m : MbxId) (q : Req) (s : State), InFlight m 0x0503 q s ∧ forceRefused (fldW q.pay 0) (bit (fld32 q.pay 4) 0) s = none ∧ safetySignal (handleSig (fldW q.pay 0)) s = false ∧
      typeHolds (typeOf s.cfg.cur (sigStation (handleSig (fldW q.pay 0))) (sigIndex (handleSig (fldW q.pay 0)))) (fldL q.pay 8) = true ∧ ((bit (fld32 q.pay 4) 1 = true → quality (fldW q.pay 16) ≠ 2)) ∧
      (((bit (fld32 q.pay 4) 0) = true → s.modes.life = .commissioning ∨ s.modes.life = .serviceOpen)) ∧ (((forceSlot (handleSig (fldW q.pay 0)) (bit (fld32 q.pay 4) 0) s).map (·.1)).getD (freeForceSlot 0 s.image.forces)) < 4096 ∧
      intakeRoom 1 s = true ∧ auditRoom s = true) ∧
    (∃ (m : MbxId) (q : Req) (s : State), InFlight m 0x0504 q s ∧ (fldW q.pay 0) ≠ noHandle ∧ forceRefused (fldW q.pay 0) false s = none ∧ safetySignal (handleSig (fldW q.pay 0)) s = false ∧
      intakeRoom (s.image.forces.filter (fun p => p.2.simulate == bit (fld32 q.pay 4) 0 && !p.2.going && p.2.sig == handleSig (fldW q.pay 0))).length s = true ∧ auditRoom s = true) ∧
    (∃ (m : MbxId) (q : Req) (s : State) (i : Nat), InFlight m 0x0505 q s ∧ fld8 q.pay 0 = 0 ∧ 1 ≤ (fld32 q.pay 12) ∧ (fld32 q.pay 12) ≤ 65536 ∧ 100 ≤ fld32 q.pay 8 ∧ fld32 q.pay 8 ≤ 1000000 ∧
      (handleCarriages (fld32 q.pay 12)) < q.count ∧ (handleList (fld32 q.pay 12) (claimBytes q 0 (4 * (fld32 q.pay 12)) s)).any (fun h => handleAttr h != 0) = false ∧ s.host.subs.toList.findIdx? (·.isNone) = some i ∧
      (s.host.subs.toList.map fun o => o.elim 0 (·.handles.length)).sum + (fld32 q.pay 12) ≤ 262144) ∧
    (∃ (m : MbxId) (q : Req) (s : State) (i : Nat) (u : Subscription), InFlight m 0x0505 q s ∧ fld8 q.pay 0 = 1 ∧ s.host.subs.toList.findIdx? (fun o => o.any fun u => u.id == fld32 q.pay 4 && u.owner == mbxSession m) = some i ∧
      vget none s.host.subs i = some u) :=
  ⟨⟨.loc 0, requestOf (.loc 0) (box 0x0501 (zeros 64)), inBox (box 0x0501 (zeros 64)) (R), inBox_met _ _ _ (by decide +kernel), by decide +kernel⟩,
   ⟨.loc 0, requestOf (.loc 0) (boxData 0x0506 (le 4 1 ++ le 1 8) 2), inBox (boxData 0x0506 (le 4 1 ++ le 1 8) 2) (R), inBox_met _ _ _ (by decide +kernel), by decide +kernel⟩,
   ⟨.loc 0, requestOf (.loc 0) (box 0x0502 (le 2 1 ++ zeros 2 ++ le 4 4 ++ zeros 20)), inBox (box 0x0502 (le 2 1 ++ zeros 2 ++ le 4 4 ++ zeros 20)) ((aSignal R)), [{ sig := 0, kind := .ack }],
     inBox_met _ _ _ (by decide +kernel), by decide +kernel⟩,
   ⟨.loc 0, requestOf (.loc 0) (box 0x0502 (le 2 1 ++ zeros 2 ++ le 4 4 ++ zeros 20)), inBox (box 0x0502 (le 2 1 ++ zeros 2 ++ le 4 4 ++ zeros 20)) ({ (aSignal R) with image.intake := [fullBatch 1048576] }),
     [{ sig := 0, kind := .ack }], inBox_met _ _ _ (by decide +kernel), by decide +kernel, by decide +kernel, .inl (by decide +kernel), by decide +kernel, intake_full 1048576 _ rfl (Nat.le_refl _)⟩,
   ⟨.loc 0, requestOf (.loc 0) (box 0x0503 (zeros 64)), inBox (box 0x0503 (zeros 64)) ({ (aSignal R) with modes.life := .commissioning }), inBox_met _ _ _ (by decide +kernel),
     by decide +kernel⟩,
   ⟨.loc 0, requestOf (.loc 0) (box 0x0504 (zeros 64)), inBox (box 0x0504 (zeros 64)) ((aSignal R)), inBox_met _ _ _ (by decide +kernel), by decide +kernel⟩,
   ⟨.loc 0, requestOf (.loc 0) (boxData 0x0505 (le 1 0 ++ zeros 7 ++ le 4 1000 ++ le 4 1) 2), inBox (boxData 0x0505 (le 1 0 ++ zeros 7 ++ le 4 1000 ++ le 4 1) 2) (R), 0, inBox_met _ _ _ (by decide +kernel),
     by decide +kernel⟩,
   ⟨.loc 0, requestOf (.loc 0) (boxData 0x0505 (le 1 1 ++ zeros 7) 1), inBox (boxData 0x0505 (le 1 1 ++ zeros 7) 1) ({ R with host.subs := R.host.subs.set 0 (some aSub) }), 0,
     aSub, inBox_met _ _ _ (by decide +kernel), by decide +kernel⟩⟩

theorem witness_DiagnosticCommandsReportAndConfigure :
    (∃ (m : MbxId) (q : Req) (s : State), InFlight m 0x0701 q s ∧ (fld8 q.pay 0) = 0 ∧ (fld8 q.pay 1) + (fld8 q.pay 2) ≤ 16) ∧
    (∃ (m : MbxId) (q : Req) (s : State), InFlight m 0x0701 q s ∧ (fld8 q.pay 0) = 1 ∧ (fld8 q.pay 1) + (fld8 q.pay 2) ≤ 48) ∧
    (∃ (m : MbxId) (q : Req) (s : State), InFlight m 0x0701 q s ∧ (fld8 q.pay 0) = 2 ∧ (fld8 q.pay 1) + (fld8 q.pay 2) ≤ 2) ∧
    (∃ (m : MbxId) (q : Req) (s : State), InFlight m 0x0702 q s ∧ funcNos s = [] ∧ fld8 q.pay 0 = 0 ∧ fld8 q.pay 1 < 16 ∧ (ucAt (fld8 q.pay 1) s).st ≠ .running) ∧
    (∃ (m : MbxId) (q : Req) (s : State), InFlight m 0x0702 q s ∧ funcNos s = [] ∧ fld8 q.pay 0 = 1 ∧ fld8 q.pay 1 < 48 ∧ (digAt (fld8 q.pay 1) s).st = .running) ∧
    (∃ (m : MbxId) (q : Req) (s : State) (x : RegSpace) (off : Nat) (n : Nat), InFlight m 0x0E01 q s ∧ regRange q.pay = some (x, off, n)) ∧
    (∃ (m : MbxId) (q : Req) (s : State) (x : RegSpace) (off : Nat) (n : Nat), InFlight m 0x0E02 q s ∧ regRange q.pay = some (x, off, n)) ∧
    (∃ (m : MbxId) (q : Req) (s : State) (us : List Nat), InFlight m 0x0E03 q s ∧ bistTarget (fld8 q.pay 0) = some us) ∧
    (∃ (m : MbxId) (q : Req) (s : State) (c : LaneConfig), InFlight m 0x0E04 q s ∧ laneConfigField q.pay s = none ∧ fld8 q.pay 0 ≠ 1 ∧ configOf (fld8 q.pay 1) = some c ∧ ((c = .split → s.modes.life = .commissioning ∧
      anySafetyTask s = false)) ∧ ((c = .triplex → lanesOf .unusable s = [])) ∧ s.cpl.handover = false ∧ lanesOf .withdrawn s = [] ∧ exchangeCasting s = false ∧ auditRoom s = true ∧
      s.modes.mode = .maintenance) ∧
    (∃ (m : MbxId) (q : Req) (s : State) (l : Lane), InFlight m 0x0E04 q s ∧ laneConfigField q.pay s = none ∧ fld8 q.pay 0 = 1 ∧ laneOf (fld8 q.pay 3) = some l ∧ s.modes.mode = .maintenance ∧
      roleOf q s = 6 ∧ (laneAt l s).st = .unusable ∧ (laneAt l s).bistPassed = true) ∧
    (∃ (m : MbxId) (q : Req) (s : State), InFlight m 0x0E05 q s ∧ fld8 q.pay 0 = 0 ∧ ownerLocked s = false ∧ (attachRefused (fld8 q.pay 1) ((if s.cpl.config = .triplex then laneOf (fld8 q.pay 2) else none)) s = false) ∧
      s.cpl.attach = none ∧ auditRoom s = true) ∧
    (∃ (m : MbxId) (q : Req) (s : State) (d : Debug), InFlight m 0x0E05 q s ∧ 1 ≤ fld8 q.pay 0 ∧ fld8 q.pay 0 ≤ 6 ∧ ownerLocked s = false ∧ s.cpl.attach = some d ∧ fld8 q.pay 0 = 1) ∧
    (∃ (m : MbxId) (q : Req) (s : State) (d : Debug), InFlight m 0x0E05 q s ∧ 1 ≤ fld8 q.pay 0 ∧ fld8 q.pay 0 ≤ 6 ∧ ownerLocked s = false ∧ s.cpl.attach = some d ∧ fld8 q.pay 0 = 6 ∧
      1 ≤ fld32 q.pay 8 ∧ fld32 q.pay 8 ≤ 4000) ∧
    (∃ (m : MbxId) (q : Req) (s : State) (d : Debug), InFlight m 0x0E05 q s ∧ 1 ≤ fld8 q.pay 0 ∧ fld8 q.pay 0 ≤ 6 ∧ ownerLocked s = false ∧ s.cpl.attach = some d ∧ 2 ≤ fld8 q.pay 0 ∧
      fld8 q.pay 0 ≤ 5 ∧ journalFull d = false ∧ ((fld8 q.pay 0 = 5 → 1 ≤ fld32 q.pay 8 ∧ fld32 q.pay 8 ≤ 4000))) :=
  ⟨⟨.loc 0, requestOf (.loc 0) (box 0x0701 (zeros 64)), inBox (box 0x0701 (zeros 64)) (R), inBox_met _ _ _ (by decide +kernel), by decide +kernel⟩,
   ⟨.loc 0, requestOf (.loc 0) (box 0x0701 ([1, 0, 48])), inBox (box 0x0701 ([1, 0, 48])) (R), inBox_met _ _ _ (by decide +kernel), by decide +kernel⟩,
   ⟨.loc 0, requestOf (.loc 0) (box 0x0701 ([2, 0, 2])), inBox (box 0x0701 ([2, 0, 2])) (R), inBox_met _ _ _ (by decide +kernel), by decide +kernel⟩,
   ⟨.loc 0, requestOf (.loc 0) (box 0x0702 (zeros 64)), inBox (box 0x0702 (zeros 64)) (R), inBox_met _ _ _ (by decide +kernel), by decide +kernel⟩,
   ⟨.loc 0, requestOf (.loc 0) (box 0x0702 ([1, 0])), inBox (box 0x0702 ([1, 0])) ({ R with dig := R.dig.map fun d => { d with st := .running } }), inBox_met _ _ _ (by decide +kernel),
     by decide +kernel⟩,
   ⟨.loc 0, requestOf (.loc 0) (box 0x0E01 (le 1 0 ++ le 1 0 ++ le 2 1 ++ le 4 0xFFFC)), inBox (box 0x0E01 (le 1 0 ++ le 1 0 ++ le 2 1 ++ le 4 0xFFFC)) (R), .pseq, 0xFFFC, 1,
     inBox_met _ _ _ (by decide +kernel), by decide +kernel⟩,
   ⟨.loc 0, requestOf (.loc 0) (box 0x0E02 (le 1 0 ++ le 1 0 ++ le 2 1 ++ le 4 0xFFFC)), inBox (box 0x0E02 (le 1 0 ++ le 1 0 ++ le 2 1 ++ le 4 0xFFFC)) (R), .pseq, 0xFFFC, 1,
     inBox_met _ _ _ (by decide +kernel), by decide +kernel⟩,
   ⟨.loc 0, requestOf (.loc 0) (box 0x0E03 ([0x81])), inBox (box 0x0E03 ([0x81])) (R), bistUnits 0, inBox_met _ _ _ (by decide +kernel), by decide +kernel⟩,
   ⟨.loc 0, requestOf (.loc 0) (box 0x0E04 ([0, 1, 0xFF, 0])), inBox (box 0x0E04 ([0, 1, 0xFF, 0])) ({ R with cpl.handover := false, modes.mode := .maintenance }), .duplex, inBox_met _ _ _ (by decide +kernel),
     by decide +kernel⟩,
   ⟨.loc 0, requestOf (.loc 0) (box 0x0E04 ([1, 0, 0xFF, 0])), inBox (box 0x0E04 ([1, 0, 0xFF, 0])) ({ (asRole 6 R) with modes.mode := .maintenance, cpl.lane := R.cpl.lane.map fun l => { l with st := .unusable, bistPassed := true } }),
     .a, inBox_met _ _ _ (by decide +kernel), by decide +kernel⟩,
   ⟨.loc 0, requestOf (.loc 0) (box 0x0E05 ([0, 0, 0, 0])), inBox (box 0x0E05 ([0, 0, 0, 0])) ({ (aTask { taskReset with defn := some (taskDefFor false) } (lanesAs .inVote R)) with cpl.attach := none }),
     inBox_met _ _ _ (by decide +kernel), by decide +kernel⟩,
   ⟨.loc 0, requestOf (.loc 0) (box 0x0E05 ([1])), inBox (box 0x0E05 ([1])) ({ R with cpl.attach := some { session := .loc 0, task := 0, lane := some .a, journal := [], halted := false, stepping := none, breakpoints := [], mem := [] } }),
     { session := .loc 0, task := 0, lane := some .a, journal := [], halted := false, stepping := none, breakpoints := [], mem := [] }, inBox_met _ _ _ (by decide +kernel),
     by decide +kernel⟩,
   ⟨.loc 0, requestOf (.loc 0) (box 0x0E05 ([6] ++ zeros 7 ++ le 4 4000)), inBox (box 0x0E05 ([6] ++ zeros 7 ++ le 4 4000)) ({ R with cpl.attach := some { session := .loc 0, task := 0, lane := some .a, journal := [], halted := false, stepping := none, breakpoints := [], mem := [] } }),
     { session := .loc 0, task := 0, lane := some .a, journal := [], halted := false, stepping := none, breakpoints := [], mem := [] }, inBox_met _ _ _ (by decide +kernel),
     by decide +kernel⟩,
   ⟨.loc 0, requestOf (.loc 0) (box 0x0E05 ([5] ++ zeros 7 ++ le 4 4000)), inBox (box 0x0E05 ([5] ++ zeros 7 ++ le 4 4000)) ({ R with cpl.attach := some { session := .loc 0, task := 0, lane := some .a, journal := [], halted := false, stepping := none, breakpoints := [], mem := [] } }),
     { session := .loc 0, task := 0, lane := some .a, journal := [], halted := false, stepping := none, breakpoints := [], mem := [] }, inBox_met _ _ _ (by decide +kernel),
     by decide +kernel⟩⟩

theorem witness_TimeAndPlinthCommandsAct :
    (∃ (m : MbxId) (q : Req) (s : State), InFlight m 0x0801 q s) ∧
    (∃ (m : MbxId) (q : Req) (s : State), InFlight m 0x0802 q s ∧ bit (fld32 q.pay 8) 0 = false ∧ (signed 64 (fld64 q.pay 0)) ≠ 0 ∧ stepRefusal (signed 64 (fld64 q.pay 0)) false s = none ∧
      auditRoom s = true ∧ sendsToStandby s = false) ∧
    (∃ (m : MbxId) (q : Req) (s : State), InFlight m 0x0802 q s ∧ bit (fld32 q.pay 8) 0 = false ∧ (signed 64 (fld64 q.pay 0)) ≠ 0 ∧ stepRefusal (signed 64 (fld64 q.pay 0)) false s = none ∧
      auditRoom s = true ∧ sendsToStandby s = true) ∧
    (∃ (m : MbxId) (q : Req) (s : State), InFlight m 0x0803 q s ∧ (signed 32 (fld32 q.pay 0)).natAbs ≤ 100000 ∧ fld32 q.pay 4 ≤ 600000 ∧ s.time.source = 2 ∧ (signed 32 (fld32 q.pay 0)) = 0) ∧
    (∃ (m : MbxId) (q : Req) (s : State), InFlight m 0x0803 q s ∧ (signed 32 (fld32 q.pay 0)).natAbs ≤ 100000 ∧ fld32 q.pay 4 ≤ 600000 ∧ s.time.source = 2 ∧ (signed 32 (fld32 q.pay 0)) ≠ 0) ∧
    (∃ (m : MbxId) (q : Req) (s : State), InFlight m 0x0804 q s ∧ ((s.time.valid = true → (fld64 q.pay 0) = 0)) ∧ (((fld64 q.pay 0) ≠ 0 → tai2000 ≤ (fld64 q.pay 0) ∧ ticksOf ((fld64 q.pay 0) + ((ticksToLoad s.plinth * s.time.inc.toNat) / 2 ^ 24)) < 2 ^ 48)) ∧
      (fld8 q.pay 8 ≤ 6 ∨ fld8 q.pay 8 = 0xFF) ∧ (fld32 q.pay 12 < dayTicks ∨ fld32 q.pay 12 = 0xFFFFFFFF)) ∧
    (∃ (m : MbxId) (q : Req) (s : State), InFlight m 0x0805 q s ∧ fld8 q.pay 0 ≤ 1 ∧ (((bit (fld8 q.pay 1) 0) = true → (BitVec.ofNat 48 (fld64 q.pay 12)) ≠ 0 ∧ (BitVec.ofNat 7 (fld8 q.pay 2)) ≠ 0))) ∧
    (∃ (m : MbxId) (q : Req) (s : State), InFlight m 0x0806 q s ∧ 1 ≤ fld8 q.pay 1 ∧ fld8 q.pay 0 + fld8 q.pay 1 ≤ 16) ∧
    (∃ (m : MbxId) (q : Req) (s : State) (b : _), InFlight m 0x0807 q s ∧ 1 ≤ fld8 q.pay 1 ∧ fld8 q.pay 1 ≤ 8 ∧ fld8 q.pay 0 + fld8 q.pay 1 ≤ 16 ∧ 8 ≤ fld8 q.pay 0 ∧ b = (((List.range (fld8 q.pay 1)).map fun i => fldW q.pay (4 + 4 * i)).zipIdx).foldl (fun b w => vset b (fld8 q.pay 0 + w.2) w.1) s.plinth.bkp) ∧
    (∃ (m : MbxId) (q : Req) (s : State), InFlight m 0x0807 q s ∧ 1 ≤ fld8 q.pay 1 ∧ fld8 q.pay 1 ≤ 8 ∧ fld8 q.pay 0 + fld8 q.pay 1 ≤ 16 ∧ fld8 q.pay 0 < 8) :=
  ⟨⟨.loc 0, requestOf (.loc 0) (box 0x0801 (zeros 64)), inBox (box 0x0801 (zeros 64)) (R), inBox_met _ _ _ (by decide +kernel)⟩,
   ⟨.loc 0, requestOf (.loc 0) (box 0x0802 (le 8 1 ++ zeros 4)), inBox (box 0x0802 (le 8 1 ++ zeros 4)) ({ R with time.source := 2 }), inBox_met _ _ _ (by decide +kernel), by decide +kernel⟩,
   ⟨.loc 0, requestOf (.loc 0) (box 0x0802 (le 8 1 ++ zeros 4)), inBox (box 0x0802 (le 8 1 ++ zeros 4)) ({ R with time.source := 2, modes.mode := .run, pair.st := .activePaired }),
     inBox_met _ _ _ (by decide +kernel), by decide +kernel⟩,
   ⟨.loc 0, requestOf (.loc 0) (box 0x0803 (zeros 64)), inBox (box 0x0803 (zeros 64)) ({ R with time.source := 2 }), inBox_met _ _ _ (by decide +kernel), by decide +kernel⟩,
   ⟨.loc 0, requestOf (.loc 0) (box 0x0803 (le 4 100000 ++ le 4 600000)), inBox (box 0x0803 (le 4 100000 ++ le 4 600000)) ({ R with time.source := 2 }), inBox_met _ _ _ (by decide +kernel),
     by decide +kernel⟩,
   ⟨.loc 0, requestOf (.loc 0) (box 0x0804 (zeros 12 ++ le 4 0xFFFFFFFF)), inBox (box 0x0804 (zeros 12 ++ le 4 0xFFFFFFFF)) (R), inBox_met _ _ _ (by decide +kernel), by decide +kernel⟩,
   ⟨.loc 0, requestOf (.loc 0) (box 0x0805 (zeros 64)), inBox (box 0x0805 (zeros 64)) (R), inBox_met _ _ _ (by decide +kernel), by decide +kernel⟩,
   ⟨.loc 0, requestOf (.loc 0) (box 0x0806 ([15, 1])), inBox (box 0x0806 ([15, 1])) (R), inBox_met _ _ _ (by decide +kernel), by decide +kernel⟩,
   ⟨.loc 0, requestOf (.loc 0) (box 0x0807 ([8, 8] ++ zeros 38)), inBox (box 0x0807 ([8, 8] ++ zeros 38)) (R), _, inBox_met _ _ _ (by decide +kernel), (by decide +kernel), (by decide +kernel),
     (by decide +kernel), (by decide +kernel), rfl⟩,
   ⟨.loc 0, requestOf (.loc 0) (box 0x0807 ([7, 1])), inBox (box 0x0807 ([7, 1])) (R), inBox_met _ _ _ (by decide +kernel), by decide +kernel⟩⟩

theorem witness_RecorderAndChangeLogCommandsAct :
    (∃ (m : MbxId) (q : Req) (s : State), InFlight m 0x0901 q s ∧ s.recorder.next < fld64 q.pay 0) ∧
    (∃ (m : MbxId) (q : Req) (s : State), InFlight m 0x0901 q s ∧ fld64 q.pay 0 ≤ s.recorder.next ∧ fld64 q.pay 0 < oldestHeld s) ∧
    (∃ (m : MbxId) (q : Req) (s : State), InFlight m 0x0901 q s ∧ oldestHeld s ≤ fld64 q.pay 0 ∧ fld64 q.pay 0 ≤ s.recorder.next ∧ fld32 q.pay 8 = 0) ∧
    (∃ (m : MbxId) (q : Req) (s : State), InFlight m 0x0901 q s ∧ oldestHeld s ≤ fld64 q.pay 0 ∧ fld64 q.pay 0 ≤ s.recorder.next ∧ fld32 q.pay 8 ≠ 0) ∧
    (∃ (m : MbxId) (q : Req) (s : State), InFlight m 0x0902 q s) ∧
    (∃ (m : MbxId) (q : Req) (s : State), InFlight m 0x0903 q s) ∧
    (∃ (m : MbxId) (q : Req) (s : State), InFlight m 0x0D04 q s ∧ 1 ≤ fld32 q.pay 8 ∧ fld32 q.pay 8 ≤ 4096 ∧ logOldest s ≤ fld64 q.pay 0 ∧ fld64 q.pay 0 ≤ s.safety.nextSeq ∧ q.count = 0) ∧
    (∃ (m : MbxId) (q : Req) (s : State), InFlight m 0x0D05 q s ∧ s.safety.log.length < 1024) ∧
    (∃ (m : MbxId) (q : Req) (s : State), InFlight m 0x0D05 q s ∧ 1024 ≤ s.safety.log.length ∧ fld64 q.pay 0 = logOldest s ∧ BitVec.ofNat 384 (unle ((q.pay.drop 8).take 48)) = Config.sha384 ((s.safety.log.take 1024).flatMap (·.bytes))) :=
  ⟨⟨.loc 0, requestOf (.loc 0) (box 0x0901 (le 8 0xFFFFFFFFFFFFFFFF ++ zeros 8)), inBox (box 0x0901 (le 8 0xFFFFFFFFFFFFFFFF ++ zeros 8)) (R), inBox_met _ _ _ (by decide +kernel),
     by decide +kernel⟩,
   ⟨.loc 0, requestOf (.loc 0) (box 0x0901 (zeros 64)), inBox (box 0x0901 (zeros 64)) ({ R with recorder.next := 1 }), inBox_met _ _ _ (by decide +kernel), by decide +kernel⟩,
   ⟨.loc 0, requestOf (.loc 0) (box 0x0901 (zeros 64)), inBox (box 0x0901 (zeros 64)) (R), inBox_met _ _ _ (by decide +kernel), by decide +kernel⟩,
   ⟨.loc 0, requestOf (.loc 0) (box 0x0901 (le 8 0 ++ le 4 1)), inBox (box 0x0901 (le 8 0 ++ le 4 1)) (R), inBox_met _ _ _ (by decide +kernel), by decide +kernel⟩,
   ⟨.loc 0, requestOf (.loc 0) (box 0x0902 (zeros 64)), inBox (box 0x0902 (zeros 64)) (R), inBox_met _ _ _ (by decide +kernel)⟩,
   ⟨.loc 0, requestOf (.loc 0) (box 0x0903 (zeros 64)), inBox (box 0x0903 (zeros 64)) (R), inBox_met _ _ _ (by decide +kernel)⟩,
   ⟨.loc 0, requestOf (.loc 0) (box 0x0D04 (le 8 0 ++ le 4 1)), inBox (box 0x0D04 (le 8 0 ++ le 4 1)) (R), inBox_met _ _ _ (by decide +kernel), by decide +kernel⟩,
   ⟨.loc 0, requestOf (.loc 0) (box 0x0D05 (zeros 64)), inBox (box 0x0D05 (zeros 64)) (R), inBox_met _ _ _ (by decide +kernel), by decide +kernel⟩,
   ⟨.loc 0, requestOf (.loc 0) ackBox, inBox ackBox fullLog, inBox_met _ _ _ ⟨rfl, rfl⟩, by simp [inBox, fullLog], by rw [ack_pay]; rfl, by
      rw [show (inBox ackBox fullLog).safety.log = fullLog.safety.log from rfl, fullLog_bytes, ack_pay,
        show (List.drop 8 (le 8 0 ++ le 48 (Config.sha384 []).toNat)).take 48 = le 48 (Config.sha384 []).toNat from rfl, unle_le,
        Nat.mod_eq_of_lt (show (Config.sha384 []).toNat < 256 ^ 48 by have := (Config.sha384 []).isLt; omega)]
      exact BitVec.ofNat_toNat _ _⟩⟩

theorem witness_FirmwareUpdateRunsItsStates :
    (∃ (m : MbxId) (q : Req) (s : State), InFlight m 0x0A01 q s ∧ 1 ≤ (fld32 q.pay 0) ∧ (fld32 q.pay 0) ≤ 0x10000000 ∧ s.fw.st = 0 ∧ ownerLocked s = false) ∧
    (∃ (m : MbxId) (q : Req) (s : State), InFlight m 0x0A02 q s ∧ fld32 q.pay 0 = s.fw.id ∧ (s.fw.st = 1 ∨ s.fw.st = 2) ∧ 1 ≤ (fld32 q.pay 8) ∧ (fld32 q.pay 8) ≤ 65536 ∧ (fld32 q.pay 4) + (fld32 q.pay 8) ≤ s.fw.size ∧
      q.count = 0) ∧
    (∃ (m : MbxId) (q : Req) (s : State), InFlight m 0x0A03 q s ∧ fld32 q.pay 0 = s.fw.id ∧ fwResult s ≠ 0) ∧
    (∃ (m : MbxId) (q : Req) (s : State), InFlight m 0x0A04 q s ∧ fld32 q.pay 0 = s.fw.id ∧ bit (fld32 q.pay 4) 0 = false ∧ s.fw.st = 3 ∧ (activateRows (bit (fld32 q.pay 4) 1) s).filter (·.2) = [] ∧
      auditRoom s = true ∧ bit (fld32 q.pay 4) 1 = false) ∧
    (∃ (m : MbxId) (q : Req) (s : State), InFlight m 0x0A04 q s ∧ fld32 q.pay 0 = s.fw.id ∧ bit (fld32 q.pay 4) 0 = false ∧ s.fw.st = 3 ∧ (activateRows (bit (fld32 q.pay 4) 1) s).filter (·.2) = [] ∧
      auditRoom s = true ∧ bit (fld32 q.pay 4) 1 = true) ∧
    (∃ (m : MbxId) (q : Req) (s : State), InFlight m 0x0A05 q s ∧ fld32 q.pay 0 = s.fw.id ∧ s.fw.st = 4) ∧
    (∃ (m : MbxId) (q : Req) (s : State), InFlight m 0x0A05 q s ∧ fld32 q.pay 0 = s.fw.id ∧ (s.fw.st = 1 ∨ s.fw.st = 2 ∨ s.fw.st = 3 ∨ s.fw.st = 7)) ∧
    (∃ (m : MbxId) (q : Req) (s : State) (c : Instr) (k : Nat), (c, k) ∈ [(Instr.updBlock m, 0x0A02), (.updVerify m, 0x0A03), (.updActivate m, 0x0A04), (.updCancel m, 0x0A05)] ∧
      InFlight m k q s ∧ fld32 q.pay 0 ≠ s.fw.id) :=
  ⟨⟨.loc 0, requestOf (.loc 0) (box 0x0A01 (le 4 0x10000000)), inBox (box 0x0A01 (le 4 0x10000000)) ({ R with fw.st := 0 }), inBox_met _ _ _ (by decide +kernel), by decide +kernel⟩,
   ⟨.loc 0, requestOf (.loc 0) (box 0x0A02 (zeros 8 ++ le 4 65536)), inBox (box 0x0A02 (zeros 8 ++ le 4 65536)) ({ R with fw.st := 1, fw.size := 65536 }), inBox_met _ _ _ (by decide +kernel),
     by decide +kernel⟩,
   ⟨.loc 0, requestOf (.loc 0) (box 0x0A03 (zeros 64)), inBox (box 0x0A03 (zeros 64)) (R), inBox_met _ _ _ (by decide +kernel), by decide +kernel⟩,
   ⟨.loc 0, requestOf (.loc 0) (box 0x0A04 (zeros 64)), inBox (box 0x0A04 (zeros 64)) ({ R with fw.st := 3 }), inBox_met _ _ _ (by decide +kernel), by decide +kernel⟩,
   ⟨.loc 0, requestOf (.loc 0) (box 0x0A04 (zeros 4 ++ le 4 2)), inBox (box 0x0A04 (zeros 4 ++ le 4 2)) ({ R with fw.st := 3 }), inBox_met _ _ _ (by decide +kernel), by decide +kernel⟩,
   ⟨.loc 0, requestOf (.loc 0) (box 0x0A05 (zeros 64)), inBox (box 0x0A05 (zeros 64)) ({ R with fw.st := 4 }), inBox_met _ _ _ (by decide +kernel), by decide +kernel⟩,
   ⟨.loc 0, requestOf (.loc 0) (box 0x0A05 (zeros 64)), inBox (box 0x0A05 (zeros 64)) ({ R with fw.st := 1 }), inBox_met _ _ _ (by decide +kernel), by decide +kernel⟩,
   ⟨.loc 0, requestOf (.loc 0) (box 0x0A05 (le 4 77)), inBox (box 0x0A05 (le 4 77)) R, .updCancel (.loc 0), 0x0A05, by simp, inBox_met _ _ _ (by decide +kernel), by decide +kernel⟩⟩

theorem witness_PanelCommandsQueueUpdates :
    (∃ (m : MbxId) (q : Req) (s : State) (r : Resp), InFlight m 0x0B01 q s ∧ (fld8 q.pay 0) < 2 ∧ (fld8 q.pay 1) ≤ 3 ∧ rectRefused (fld8 q.pay 0) (fld16 q.pay 4) (fld16 q.pay 6) (fld16 q.pay 8) (fld16 q.pay 10) s = some r) ∧
    (∃ (m : MbxId) (q : Req) (s : State), InFlight m 0x0B01 q s ∧ (fld8 q.pay 0) < 2 ∧ (fld8 q.pay 1) ≤ 3 ∧ rectRefused (fld8 q.pay 0) (fld16 q.pay 4) (fld16 q.pay 6) (fld16 q.pay 8) (fld16 q.pay 10) s = none ∧
      1 ≤ (fld16 q.pay 8) ∧ 1 ≤ (fld16 q.pay 10) ∧ ((fld16 q.pay 8) + 1) / 2 * (fld16 q.pay 10) ≤ claimRoom q ∧ slotsFull s = false) ∧
    (∃ (m : MbxId) (q : Req) (s : State) (r : Resp), InFlight m 0x0B04 q s ∧ (fld8 q.pay 0) < 2 ∧ (rectRefused (fld8 q.pay 0) ((if bit (fld8 q.pay 1) 0 then 0 else fld16 q.pay 4)) ((if bit (fld8 q.pay 1) 0 then 0 else fld16 q.pay 6)) ((if bit (fld8 q.pay 1) 0 then panelWidth (panelAt (fld8 q.pay 0) s).rcd else fld16 q.pay 8)) ((if bit (fld8 q.pay 1) 0 then panelHeight (panelAt (fld8 q.pay 0) s).rcd else fld16 q.pay 10)) s = some r)) ∧
    (∃ (m : MbxId) (q : Req) (s : State), InFlight m 0x0B04 q s ∧ (fld8 q.pay 0) < 2 ∧ (rectRefused (fld8 q.pay 0) ((if bit (fld8 q.pay 1) 0 then 0 else fld16 q.pay 4)) ((if bit (fld8 q.pay 1) 0 then 0 else fld16 q.pay 6)) ((if bit (fld8 q.pay 1) 0 then panelWidth (panelAt (fld8 q.pay 0) s).rcd else fld16 q.pay 8)) ((if bit (fld8 q.pay 1) 0 then panelHeight (panelAt (fld8 q.pay 0) s).rcd else fld16 q.pay 10)) s = none) ∧
      (1 ≤ ((if bit (fld8 q.pay 1) 0 then panelWidth (panelAt (fld8 q.pay 0) s).rcd else fld16 q.pay 8))) ∧ (1 ≤ ((if bit (fld8 q.pay 1) 0 then panelHeight (panelAt (fld8 q.pay 0) s).rcd else fld16 q.pay 10))) ∧
      slotsFull s = false ∧ ((bit (fld8 q.pay 1) 1 = true → roleIncludes (roleOf q s) 3 = true))) ∧
    (∃ (m : MbxId) (q : Req) (s : State), InFlight m 0x0B03 q s ∧ (fld8 q.pay 0) < 2 ∧ updatesOf (fld8 q.pay 0) s ≠ []) ∧
    (∃ (m : MbxId) (q : Req) (s : State), InFlight m 0x0B02 q s ∧ (fld8 q.pay 0) < 2) :=
  ⟨⟨.loc 0, requestOf (.loc 0) (box 0x0B01 (zeros 64)), inBox (box 0x0B01 (zeros 64)) (R), st stRefusedState, inBox_met _ _ _ (by decide +kernel), by decide +kernel, by decide +kernel,
     rfl⟩,
   ⟨.loc 0, requestOf (.loc 0) (boxData 0x0B01 (zeros 8 ++ le 2 8 ++ le 2 8) 1), inBox (boxData 0x0B01 (zeros 8 ++ le 2 8 ++ le 2 8) 1) ({ R with panel := R.panel.map fun p => { p with rcd := [0, 1] ++ le 2 8 ++ le 2 8 ++ zeros 26 } }),
     inBox_met _ _ _ (by decide +kernel), by decide +kernel⟩,
   ⟨.loc 0, requestOf (.loc 0) (box 0x0B04 (zeros 64)), inBox (box 0x0B04 (zeros 64)) (R), st stRefusedState, inBox_met _ _ _ (by decide +kernel), by decide +kernel, rfl⟩,
   ⟨.loc 0, requestOf (.loc 0) (box 0x0B04 (zeros 8 ++ le 2 8 ++ le 2 8)), inBox (box 0x0B04 (zeros 8 ++ le 2 8 ++ le 2 8)) ({ R with panel := R.panel.map fun p => { p with rcd := [0, 1] ++ le 2 8 ++ le 2 8 ++ zeros 26 } }),
     inBox_met _ _ _ (by decide +kernel), by decide +kernel⟩,
   ⟨.loc 0, requestOf (.loc 0) (box 0x0B03 (zeros 64)), inBox (box 0x0B03 (zeros 64)) ({ R with updates := [{ panel := 0, id := 0, order := 0, st := .queued, mode := 0, x := 0, y := 0, w := 1, h := 1, image := [], superseded := 0, excursion := false, cleaning := false }] }),
     inBox_met _ _ _ (by decide +kernel), by decide +kernel⟩,
   ⟨.loc 0, requestOf (.loc 0) (box 0x0B02 (zeros 64)), inBox (box 0x0B02 (zeros 64)) (R), inBox_met _ _ _ (by decide +kernel), by decide +kernel⟩⟩

theorem witness_PairCommandsReportAndSwitch :
    (∃ (m : MbxId) (q : Req) (s : State), InFlight m 0x0C01 q s) ∧
    (∃ (m : MbxId) (q : Req) (s : State) (x : Nat), InFlight m 0x0C02 q s ∧ switchoverRefused (bit (fld32 q.pay 8) 0) (fld64 q.pay 0) (roleOf q s) s = some x) ∧
    (∃ (m : MbxId) (q : Req) (s : State), InFlight m 0x0C02 q s ∧ bit (fld32 q.pay 8) 0 = false ∧ switchoverRefused false (fld64 q.pay 0) (roleOf q s) s = none ∧ auditRoom s = true) ∧
    (∃ (m : MbxId) (q : Req) (s : State), InFlight m 0x0C02 q s ∧ bit (fld32 q.pay 8) 0 = true ∧ switchoverRefused true (fld64 q.pay 0) (roleOf q s) s = none ∧ auditRoom s = true) ∧
    (∃ (m : MbxId) (q : Req) (s : State), InFlight m 0x0C03 q s ∧ (((if s.pair.partnerLost then none else s.pair.partner)) = none)) ∧
    (∃ (m : MbxId) (q : Req) (s : State) (x : Heartbeat), InFlight m 0x0C03 q s ∧ (((if s.pair.partnerLost then none else s.pair.partner)) = some x) ∧ x.state = 3) ∧
    (∃ (m : MbxId) (q : Req) (s : State) (x : Heartbeat), InFlight m 0x0C03 q s ∧ (((if s.pair.partnerLost then none else s.pair.partner)) = some x) ∧ x.state = 5) ∧
    (∃ (m : MbxId) (q : Req) (s : State) (x : Heartbeat), InFlight m 0x0C03 q s ∧ (((if s.pair.partnerLost then none else s.pair.partner)) = some x) ∧ x.state ≠ 3 ∧ x.state ≠ 5) :=
  ⟨⟨.loc 0, requestOf (.loc 0) (box 0x0C01 (zeros 64)), inBox (box 0x0C01 (zeros 64)) (R), inBox_met _ _ _ (by decide +kernel)⟩,
   ⟨.loc 0, requestOf (.loc 0) (box 0x0C02 (zeros 64)), inBox (box 0x0C02 (zeros 64)) (R), stWrongMode, inBox_met _ _ _ (by decide +kernel), by decide +kernel⟩,
   ⟨.loc 0, requestOf (.loc 0) (box 0x0C02 (zeros 64)), inBox (box 0x0C02 (zeros 64)) ({ (asRole 3 R) with modes.mode := .run, pair.st := .activePaired }), inBox_met _ _ _ (by decide +kernel),
     by decide +kernel⟩,
   ⟨.loc 0, requestOf (.loc 0) (box 0x0C02 (zeros 8 ++ le 4 1)), inBox (box 0x0C02 (zeros 8 ++ le 4 1)) ({ (asRole 5 R) with modes.mode := .standby, pair.st := .outOfStep, pair.partnerLost := true }),
     inBox_met _ _ _ (by decide +kernel), by decide +kernel⟩,
   ⟨.loc 0, requestOf (.loc 0) (box 0x0C03 (zeros 64)), inBox (box 0x0C03 (zeros 64)) (R), inBox_met _ _ _ (by decide +kernel), by decide +kernel⟩,
   ⟨.loc 0, requestOf (.loc 0) (box 0x0C03 (zeros 64)), inBox (box 0x0C03 (zeros 64)) ({ R with pair.partner := some { aBeat with state := 3 }, pair.partnerLost := false }),
     { aBeat with state := 3 }, inBox_met _ _ _ (by decide +kernel), by decide +kernel⟩,
   ⟨.loc 0, requestOf (.loc 0) (box 0x0C03 (zeros 64)), inBox (box 0x0C03 (zeros 64)) ({ R with pair.partner := some { aBeat with state := 5 }, pair.partnerLost := false }),
     { aBeat with state := 5 }, inBox_met _ _ _ (by decide +kernel), by decide +kernel⟩,
   ⟨.loc 0, requestOf (.loc 0) (box 0x0C03 (zeros 64)), inBox (box 0x0C03 (zeros 64)) ({ R with pair.partner := some { aBeat with state := 4 }, pair.partnerLost := false }),
     { aBeat with state := 4 }, inBox_met _ _ _ (by decide +kernel), by decide +kernel⟩⟩

theorem witness_ResponsesAreDelivered :
    (∃ (n : Fin 16) (s : State) (b : Mailbox) (k : Fin 16), s.host.mbx[n] = b ∧ k ≠ n) ∧
    (∃ (n : Fin 16) (s : State) (b : Mailbox), s.host.mbx[n] = b ∧ bit (fld16 b.copy 2) 0 = false) ∧
    (∃ (n : Fin 16) (s : State) (b : Mailbox), s.host.mbx[n] = b ∧ bit (fld16 b.copy 2) 0 = true) :=
  ⟨⟨0, R, mailboxReset, 1, by decide +kernel⟩,
   ⟨0, R, mailboxReset, by decide +kernel⟩,
   ⟨0, { R with host.mbx := R.host.mbx.set 0 { mailboxReset with copy := [0, 0, 1] } }, { mailboxReset with copy := [0, 0, 1] }, by decide +kernel⟩⟩

theorem witness_LocalHostAccessesAct :
    (∃ (n : Fin 16) (s : State), endpointUp s = true ∧ s.host.mbx[n].state = 0) ∧
    (∃ (n : Fin 16) (s : State), endpointUp s = true ∧ s.host.mbx[n].state ≠ 0) ∧
    (∃ (n : Fin 16) (s : State), endpointUp s = true ∧ s.host.mbx[n].state = 3) ∧
    (∃ (n : Fin 16) (s : State), endpointUp s = true ∧ s.host.mbx[n].state ≠ 3) ∧
    (∃ (k : Fin 4096) (v : Byte) (s : State), endpointUp s = true ∧ carriageFlag (.loc 0) k.val s ≠ 2 ∧ v.toNat ≤ 2) ∧
    (∃ (k : Fin 4096) (v : Byte) (s : State), endpointUp s = true ∧ (carriageFlag (.loc 0) k.val s = 2 ∨ 2 < v.toNat)) ∧
    (∃ (a : Nat) (s : State), endpointUp s = true ∧ a < 0x10000000 ∧ carriageFlag (.loc 0) (a / 65536) s ≠ 2) ∧
    (∃ (a : Nat) (s : State), endpointUp s = true ∧ a < 0x10000000 ∧ carriageFlag (.loc 0) (a / 65536) s = 2) ∧
    (∃ (off : Nat) (s : State), endpointUp s = true ∧ off < 0x20000 ∧ off % 8192 < 4096 ∧ (vget mailboxReset s.host.mbx (off / 8192)).state = 0) ∧
    (∃ (off : Nat) (s : State), endpointUp s = true ∧ off < 0x20000 ∧ (4096 ≤ off % 8192 ∨ (vget mailboxReset s.host.mbx (off / 8192)).state ≠ 0)) ∧
    (∃ (c : Instr) (s : State), endpointUp s = false ∧ c ∈ [Instr.mbxSubmit 0, .mbxAck 0, .hostReset, .flagWrite 0 1, .carriageDataWrite 0 [1], .mailboxBufferWrite 0 [1], .irqEnableWrite 1,
      .hiErrorsRead, .tsnapLoRead, .pcieLinkLoss]) :=
  ⟨⟨0, R, by decide +kernel⟩,
   ⟨0, { R with host.mbx := .replicate 16 (box 0x0101 []) }, by decide +kernel⟩,
   ⟨0, { R with host.mbx := .replicate 16 { mailboxReset with state := 3 } }, by decide +kernel⟩,
   ⟨0, R, by decide +kernel⟩,
   ⟨0, 0, R, by decide +kernel⟩,
   ⟨0, 0, { R with host.flags := [(0, 2)] }, by decide +kernel⟩,
   ⟨0, R, by decide +kernel⟩,
   ⟨0, { R with host.flags := [(0, 2)] }, by decide +kernel⟩,
   ⟨0, R, by decide +kernel⟩,
   ⟨4096, R, by decide +kernel⟩,
   ⟨.hostReset, { R with modes.mode := .plinth }, by decide +kernel, by simp⟩⟩

theorem witness_SubmittedCommandIsAdmittedOrRefused :
    (∃ (n : Fin 16) (s : State), s.host.mbx[n].state = 0 ∧ s.pair.st = .demoting) ∧
    (∃ (n : Fin 16) (s : State) (copy : List Byte) (x : Nat) (d : Nat), s.host.mbx[n].state = 0 ∧ s.pair.st ≠ .demoting ∧ admission (.loc n) copy (sessionMod (.loc n) (fun x => { x with lastCommand := now s }) (mailboxMod (.loc n) (fun b => { b with state := 1, copy := copy }) s)) = some (x,
      d)) ∧
    (∃ (n : Fin 16) (s : State) (copy : List Byte), s.host.mbx[n].state = 0 ∧ s.pair.st ≠ .demoting ∧ admission (.loc n) copy (sessionMod (.loc n) (fun x => { x with lastCommand := now s }) (mailboxMod (.loc n) (fun b => { b with state := 1, copy := copy }) s)) = none) :=
  ⟨⟨0, { R with pair.st := .demoting }, by decide +kernel⟩,
   ⟨0, { R with host.epoch := 0 }, zeros 32, stInconsistent, 1, by decide +kernel⟩,
   ⟨0, { R with modes.mode := .stop, host.epoch := 0 }, le 2 0x0101 ++ zeros 30, by decide +kernel⟩⟩

theorem witness_HostResetAndSessionsEnd :
    (∃ (s : State), endpointUp s = true) ∧
    (∃ (n : Fin 16) (s : State), (sessionOf (.loc n) s).role ≠ 0 ∧ (sessionOf (.loc n) s).lastCommand + 1800 * sec ≤ now s) ∧
    (∃ (x : SessId) (s : State), ((sessionOf x s).role = 0 ∨ now s < (sessionOf x s).lastCommand + 1800 * sec)) ∧
    (∃ (k : Fin 8) (s : State), s.host.subs[k] = none) :=
  ⟨⟨R, by decide +kernel⟩,
   ⟨0, { (asRole 1 R) with time.wraps := 1000000 }, by decide +kernel⟩,
   ⟨.loc 0, R, by decide +kernel⟩,
   ⟨0, R, by decide +kernel⟩⟩

theorem witness_TlsConnectionsCarryTheHostInterface :
    (∃ (s : State) (i : Nat), s.host.tls.toList.findIdx? (·.isNone) = some i ∧ tlsListens s = true) ∧
    (∃ (s : State), (s.host.tls.toList.findIdx? (·.isNone) = none ∨ tlsListens s = false)) ∧
    (∃ (t : Fin 8) (s : State) (c : Tls) (b : Byte) (n : Fin 16) (body : List Byte), s.host.tls[t] = some c ∧ b.toNat = n.val ∧ 32 ≤ body.length ∧ body.length ≤ 4096 ∧ c.mbx[n].state = 0) ∧
    (∃ (t : Fin 8) (s : State) (c : Tls) (b : Byte) (body : List Byte), s.host.tls[t] = some c ∧ (body.length < 32 ∨ 4096 < body.length ∨ 15 < b.toNat)) ∧
    (∃ (t : Fin 8) (s : State) (c : Tls) (body : List Byte), s.host.tls[t] = some c ∧ 16 ≤ body.length ∧ body.length ≤ 65552 ∧ fld32 body 8 = body.length - 16 ∧ fld16 body 0 ≤ 255 ∧
      fld32 body 4 + fld32 body 8 ≤ 65536 ∧ carriageFlag (.tls t 0) (fld16 body 0) (tlsHeard t s) ≠ 2 ∧ fld8 body 2 ≤ 2) ∧
    (∃ (t : Fin 8) (s : State) (c : Tls) (body : List Byte), s.host.tls[t] = some c ∧ (body.length < 16 ∨ 65552 < body.length ∨ fld32 body 8 ≠ body.length - 16)) ∧
    (∃ (t : Fin 8) (s : State) (c : Tls), s.host.tls[t] = some c ∧ c.lastSent + 10 * sec ≤ now s) ∧
    (∃ (t : Fin 8) (s : State) (c : Tls), s.host.tls[t] = some c ∧ c.lastReceived + 30 * sec ≤ now s) ∧
    (∃ (t : Fin 8) (s : State) (c : Tls), s.host.tls[t] = some c ∧ now s < c.lastReceived + 30 * sec) ∧
    (∃ (t : Fin 8) (s : State) (c : Tls), s.host.tls[t] = some c ∧ 2 ^ 24 ≤ c.sentRecords) ∧
    (∃ (t : Fin 8) (s : State) (c : Instr), s.host.tls[t] = none ∧ c ∈ [Instr.tlsKeepalive t [], .tlsKeepaliveSend t, .tlsReceiveTimeout t, .tlsConnectionClosed t, .tlsKeyUpdate t true,
      .tlsCommand t 0 [], .tlsTransfer t []]) ∧
    (∃ (s : State), endpointUp s = false) :=
  ⟨⟨{ R with host.open_ := true, modes.identity := true }, 0, by decide +kernel⟩,
   ⟨R, by decide +kernel⟩,
   ⟨0, (withTls (aTls) R), aTls, 0, 0, zeros 4096, by decide +kernel⟩,
   ⟨0, (withTls aTls R), aTls, 16, zeros 31, by decide +kernel⟩,
   ⟨0, (withTls (aTls) R), aTls, zeros 16, by decide +kernel⟩,
   ⟨0, (withTls (aTls) R), aTls, zeros 15, by decide +kernel⟩,
   ⟨0, { (withTls (aTls) R) with time.wraps := 1000000 }, aTls, by decide +kernel⟩,
   ⟨0, { (withTls (aTls) R) with time.wraps := 1000000 }, aTls, by decide +kernel⟩,
   ⟨0, (withTls (aTls) R), aTls, by decide +kernel⟩,
   ⟨0, (withTls ({ aTls with sentRecords := 2 ^ 24 }) R), { aTls with sentRecords := 2 ^ 24 }, by decide +kernel⟩,
   ⟨0, R, .tlsReceiveTimeout 0, by decide +kernel, by simp⟩,
   ⟨{ R with modes.mode := .plinth }, by decide +kernel⟩⟩

theorem witness_PowerRowsMoveTheFeedsClocksAndLanes :
    (∃ (s : State), s.modes.mode ≠ .plinth) ∧
    (∃ (s : State), s.modes.mode = .plinth) ∧
    (∃ (s : State), mainPower s = true ∧ s.power.powerFail = false) ∧
    (∃ (s : State), s.power.powerFail = true ∧ s.power.feedAOk = false ∧ s.power.feedBOk = false) ∧
    (∃ (l : Lane) (s : State), mainPower s = true ∧ (laneAt l s).st ∉ [.off, .excluded, .unusable] ∧ (recentExclusions (laneAt l s) (now s)).length < 2) ∧
    (∃ (t : Fin 32) (l : Lane) (s : State), operating s = true ∧ s.task[t].defn.isSome = true ∧ s.task[t].st = .running ∧ s.task[t].next ≤ now s + 60 * us ∧ vget .off s.power.lane (laneNo l) = .deepIdle) ∧
    (∃ (t : Fin 32) (l : Lane) (s : State), operating s = true ∧ s.task[t].defn.isSome = true ∧ s.task[t].st = .running ∧ s.task[t].next ≤ now s + 60 * us ∧ vget .off s.power.lane (laneNo l) ≠ .deepIdle) ∧
    (∃ (s : State), mainPower s = true ∧ s.image.intake ≠ [] ∧ s.image.nextMerge ≤ now s + 60 * us) ∧
    (∃ (s : State), mainPower s = true ∧ s.power.warmOn = true ∧ due s.power.warmAt (60 * sec) (now s) = true) ∧
    (∃ (s : State), mainPower s = true ∧ s.power.hotOn = true ∧ due s.power.hotAt (60 * sec) (now s) = true) ∧
    (∃ (s : State), mainPower s = true ∧ s.power.warmOn = false ∧ s.power.hotOn = false) :=
  ⟨⟨R, by decide +kernel⟩,
   ⟨{ R with modes.mode := .plinth }, by decide +kernel⟩,
   ⟨{ R with power.powerFail := false }, by decide +kernel⟩,
   ⟨{ R with power.powerFail := true, power.feedAOk := false, power.feedBOk := false }, by decide +kernel⟩,
   ⟨.a, (lanesAs .inVote R), by decide +kernel⟩,
   ⟨0, .a, { (aTask { taskReset with defn := some (taskDefFor false), st := .running } R) with modes.mode := .run, power.lane := .replicate 3 .deepIdle }, by decide +kernel⟩,
   ⟨0, .a, { (aTask { taskReset with defn := some (taskDefFor false), st := .running } R) with modes.mode := .run, power.lane := .replicate 3 .active }, by decide +kernel⟩,
   ⟨{ R with image.intake := [aBatch] }, by decide +kernel⟩,
   ⟨{ R with power.warmOn := true }, by decide +kernel⟩,
   ⟨{ R with power.hotOn := true }, by decide +kernel⟩,
   ⟨{ R with power.warmOn := false, power.hotOn := false }, by decide +kernel⟩⟩

theorem witness_ResetsAndStrapInputsAct :
    (∃ (s : State), mainPower s = false) ∧
    (∃ (s : State), mainPower s = true ∧ portOpen s = false ∧ due s.modes.lastTck (60 * sec) (now s) = true) ∧
    (∃ (s : State), mainPower s = true ∧ portOpen s = false ∧ due s.modes.lastTck (60 * sec) (now s) = false) ∧
    (∃ (s : State), portOpen s = true) :=
  ⟨⟨{ R with modes.mode := .plinth }, by decide +kernel⟩,
   ⟨{ R with modes.life := .commissioning, modes.compat := false }, by decide +kernel⟩,
   ⟨{ R with modes.life := .commissioning, modes.compat := false, modes.lastTck := some 0 }, by decide +kernel⟩,
   ⟨R, by decide +kernel⟩⟩

theorem witness_StartsRunToTheirMode :
    (∃ (s : State), s.modes.mode = .boot ∧ s.modes.roleWait = none ∧ s.power.powerFail = false) ∧
    (∃ (s : State), s.modes.mode ≠ .boot) ∧
    (∃ (s : State) (p : StartPlan), s.modes.plan = some p ∧ s.modes.mode ≠ .plinth ∧ p.at_ ≤ now s) ∧
    (∃ (g : Fin 5) (x : _) (s : State), s.modes.mode = .boot ∧ s.modes.roleWait = none ∧ (bistUnits g.val).contains x = true ∧ lanesOf .unusable s = [] ∧ (tabGet healthReset s.modes.health x).health ≠ 2 ∧
      g.val = s.modes.bistDone) ∧
    (∃ (g : Fin 5) (x : Nat) (s : State), s.modes.mode = .boot ∧ s.modes.roleWait = none ∧ (bistUnits g.val).contains x = true ∧ lanesOf .unusable s = [] ∧ (tabGet healthReset s.modes.health x).health ≠ 2 ∧
      g.val ≠ s.modes.bistDone) ∧
    (∃ (s : State), s.modes.mode = .boot ∧ 180 * 32768 ≤ (s.plinth.ticks - s.modes.bootAt).toNat) ∧
    (∃ (s : State) (t : Nat), s.modes.roleWait = some t ∧ s.modes.mode = .boot ∧ t ≤ now s ∧ partnerActive s = true) ∧
    (∃ (s : State) (t : Nat), s.modes.roleWait = some t ∧ s.modes.mode = .boot ∧ t ≤ now s ∧ partnerActive s = false ∧ (startPlan s).origin ≠ .forced) :=
  ⟨⟨{ R with modes.mode := .boot, modes.roleWait := none, power.powerFail := false }, by decide +kernel⟩,
   ⟨{ R with modes.mode := .run }, by decide +kernel⟩,
   ⟨{ R with modes.plan := some (plainStart .power), time.wraps := 1000000 }, plainStart .power, by decide +kernel⟩,
   ⟨0, default, { R with modes.mode := .boot, modes.roleWait := none }, by decide +kernel⟩,
   ⟨0, (bistUnits 0).headD 0, { R with modes.mode := .boot, modes.roleWait := none, modes.bistDone := 1 }, by decide +kernel⟩,
   ⟨{ { R with modes.mode := .boot } with modes.mode := .boot, plinth.ticks := 10000000 }, by decide +kernel⟩,
   ⟨{ R with modes.roleWait := some 0, modes.mode := .boot, time.wraps := 1000000, pair.actIn := true }, 0, by decide +kernel⟩,
   ⟨{ R with modes.roleWait := some 0, modes.mode := .boot, time.wraps := 1000000 }, 0, by decide +kernel⟩⟩

theorem witness_TaskCyclesRunThroughTheirPhases :
    (∃ (t : Fin 32) (s : State), releaseDue t.val s = true) ∧
    (∃ (t : Fin 32) (s : State), releaseDue t.val s = false) ∧
    (∃ (t : Fin 32) (present : List Lane) (s : State) (vs : List (ItemSrc × ItemVal)), s.task[t].phase = .gathered ∧ quorum t.val s ≤ ((membersOf t.val s).filter (fun l => present.contains l)).length ∧
      agreedFor t.val s = some vs) ∧
    (∃ (t : Fin 32) (items : List CpItem) (present : List Lane) (shown : BitVec 3) (s : State) (vs : List (ItemSrc × ItemVal)) (tols : List F64), s.task[t].phase = .gathered ∧
      quorum t.val s ≤ ((membersOf t.val s).filter (fun l => present.contains l)).length ∧ agreedFor t.val s = none ∧ s.modes.mode ≠ .standby ∧ polarityWrong shown s.cpl.pol1 (usedComparators ((membersOf t.val s).filter (fun l => present.contains l))) = false ∧
      sendsToStandby s = false ∧ agreeAll t.val (quorum t.val s) ((membersOf t.val s).filter (fun l => present.contains l)) s (items.map (proposals s.task[t] ((membersOf t.val s).filter (fun l => present.contains l)))) = some (vs,
      tols, [])) ∧
    (∃ (t : Fin 32) (present : List Lane) (shown : BitVec 3) (s : State), s.task[t].phase = .gathered ∧ quorum t.val s ≤ ((membersOf t.val s).filter (fun l => present.contains l)).length ∧
      agreedFor t.val s = none ∧ s.modes.mode ≠ .standby ∧ polarityWrong shown s.cpl.pol1 (usedComparators ((membersOf t.val s).filter (fun l => present.contains l))) = true) ∧
    (∃ (t : Fin 32) (rs : List LaneResult) (shown : BitVec 3) (s : State) (r : LaneResult), s.task[t].phase = .executing ∧ quorum t.val s ≤ ((membersOf t.val s).filterMap (fun l => rs.find? fun r => r.lane == l)).length ∧
      ((membersOf t.val s).filterMap (fun l => rs.find? fun r => r.lane == l)).head? = some r ∧ haltedTask t.val s = false ∧ polarityWrong shown s.cpl.pol2 (usedComparators (((membersOf t.val s).filterMap (fun l => rs.find? fun r => r.lane == l)).map (·.lane))) = false ∧
      ((∀ x ∈ scopesOf t.val ((membersOf t.val s).filterMap (fun l => rs.find? fun r => r.lane == l)) s, compareScope (scopeMatch s.cpl.key s.task[t].cycleNo x) ((membersOf t.val s).filterMap (fun l => rs.find? fun r => r.lane == l)) = some [])) ∧
      s.pair.digests = []) ∧
    (∃ (t : Fin 32) (present : List Lane) (s : State), s.task[t].phase = .compared ∧ s.task[t].badScopes = [] ∧ s.prog.st = .idle ∧ background t.val s = false ∧ haltedTask t.val s = false ∧
      quorum t.val s ≤ ((membersOf t.val s).filter fun l => present.contains l).length) ∧
    (∃ (t : Fin 32) (l : Lane) (r : LaneResult) (s : State), s.task[t].absent2.contains l = true ∧ lateDiffers s.task[t] s.cpl.key (.result r) = false) ∧
    (∃ (t : Fin 32) (l : Lane) (s : State), s.task[t].absent3.contains l = true) ∧
    (∃ (t : Fin 32) (l : Lane) (s : State), s.task[t].absent1.contains l = false ∧ s.task[t].absent2.contains l = false ∧ s.task[t].absent3.contains l = false ∧ s.task[t].phase = .sleep) ∧
    (∃ (t : Fin 32) (l : Lane) (first : Nat) (s : State), s.task[t].absent2.contains l = true ∧ lagSuspended t.val s = false ∧ s.task[t].released ≤ first ∧ first + (taskDefn t.val s).elim 0 lagLimit < now s) ∧
    (∃ (t : Fin 32) (l : Lane) (first : Nat) (s : State), s.task[t].absent2.contains l = true ∧ lagSuspended t.val s = false ∧ s.task[t].released ≤ first ∧ now s ≤ first + (taskDefn t.val s).elim 0 lagLimit) ∧
    (∃ (t : Fin 32) (s : State), s.task[t].phase ≠ .sleep ∧ (taskDefn t.val s).isSome = true ∧ background t.val s = false ∧ s.task[t].late = false ∧ s.task[t].next ≤ now s) ∧
    (∃ (t : Fin 32) (s : State), s.task[t].phase ≠ .sleep ∧ (taskDefn t.val s).isSome = true ∧ background t.val s = true ∧ s.task[t].released + (taskDefn t.val s).elim 0 (·.passLimit) * sec ≤ now s) :=
  ⟨⟨0, { (aTask { taskReset with defn := some (taskDefFor false), st := .running } (lanesAs .inVote R)) with modes.mode := .run }, by decide +kernel⟩,
   ⟨0, R, by decide +kernel⟩,
   ⟨0, [.a, .b], { (aTask { taskReset with defn := some (taskDefFor false), st := .running, phase := .gathered, member := .replicate 3 true } (lanesAs .inVote R)) with pair.agreed := [(0, [{ cycle := 0, items := [] }])] },
     [], by decide +kernel⟩,
   ⟨0, [], [.a, .b], R.cpl.pol1, { (aTask { taskReset with defn := some (taskDefFor false), st := .running, phase := .gathered, member := .replicate 3 true } (lanesAs .inVote R)) with modes.mode := .run },
     [], [], by decide +kernel⟩,
   ⟨0, [.a, .b], ~~~R.cpl.pol1, { (aTask { taskReset with defn := some (taskDefFor false), st := .running, phase := .gathered, member := .replicate 3 true } (lanesAs .inVote R)) with modes.mode := .run },
     by decide +kernel⟩,
   ⟨0, [{ lane := .a, lines := [], outs := [], area := none }], R.cpl.pol2, { (aTask { taskReset with defn := some (taskDefFor false), st := .running, phase := .executing, member := (.replicate 3 false : Vector Bool 3).set 0 true } (lanesAs .inVote R)) with pair.digests := [], modes.mode := .run },
     { lane := .a, lines := [], outs := [], area := none }, by decide +kernel⟩,
   ⟨0, [.a, .b], { (aTask { taskReset with defn := some (taskDefFor false), st := .running, phase := .compared, member := .replicate 3 true } (lanesAs .inVote R)) with prog.st := .idle },
     by decide +kernel⟩,
   ⟨0, .a, { lane := .a, lines := [], outs := [], area := none }, (aTask { taskReset with defn := some (taskDefFor false), st := .running, phase := .compared, member := .replicate 3 true, absent2 := [.a] } (lanesAs .inVote R)),
     by decide +kernel⟩,
   ⟨0, .a, (aTask { taskReset with defn := some (taskDefFor false), st := .running, phase := .compared, member := .replicate 3 true, absent3 := [.a] } (lanesAs .inVote R)), by decide +kernel⟩,
   ⟨0, .a, { R with task := R.task.map fun x => { x with phase := .sleep } }, by decide +kernel⟩,
   ⟨0, .a, 0, { (aTask { taskReset with defn := some (taskDefFor false), st := .running, phase := .compared, member := .replicate 3 true, absent2 := [.a] } (lanesAs .inVote R)) with time.wraps := 1000000 },
     by decide +kernel⟩,
   ⟨0, .a, 0, (aTask { taskReset with defn := some (taskDefFor false), st := .running, phase := .compared, member := .replicate 3 true, absent2 := [.a] } (lanesAs .inVote R)),
     by decide +kernel⟩,
   ⟨0, { (aTask { taskReset with defn := some (taskDefFor false), st := .running, phase := .compared, member := .replicate 3 true } (lanesAs .inVote R)) with time.wraps := 1000000 },
     by decide +kernel⟩,
   ⟨0, { (aTask { taskReset with defn := some { taskDefFor false with cls := .background }, phase := .executing } R) with time.wraps := 1000000 }, by decide +kernel⟩⟩

theorem witness_LanesAreHeldReloadedAndResynchronised :
    (∃ (l : Lane) (s : State), (laneAt l s).st = .excluded ∧ (sourceLane s).isSome = true ∧ (laneAt l s).bring = .held ∧ (laneAt l s).since + 5 * ms ≤ now s) ∧
    (∃ (l : Lane) (s : State), (laneAt l s).st = .excluded ∧ (sourceLane s).isSome = true ∧ (laneAt l s).bring = .reload) ∧
    (∃ (l : Lane) (s : State), (laneAt l s).st = .excluded ∧ (sourceLane s).isSome = true ∧ (laneAt l s).bring = .clearing ∧ s.cpl.active = true) ∧
    (∃ (l : Lane) (s : State), (laneAt l s).st = .excluded ∧ (sourceLane s).isSome = true ∧ (laneAt l s).bring = .clearing ∧ s.cpl.active = false) ∧
    (∃ (l : Lane) (s : State), (laneAt l s).st ≠ .excluded) ∧
    (∃ (s : State), s.cpl.active = true ∧ s.cpl.config = .triplex ∧ loopsCopied s.cpl.target s = true) ∧
    (∃ (s : State), s.cpl.active = true ∧ s.cpl.suspended = false) ∧
    (∃ (s : State) (l : Lane), s.cpl.active = true ∧ s.cpl.suspended = true ∧ sourceLane s = some l) ∧
    (∃ (s : State) (d : Debug) (n : Nat) (c : Option Nat), s.cpl.attach = some d ∧ d.halted = false ∧ d.stepping = none ∧ d.breakpoints ≠ [] ∧ d.lane = none ∧ d.journal.length < 4096 ∧
      c ≠ some n) ∧
    (∃ (s : State) (d : Debug), s.cpl.attach = some d ∧ d.halted = false ∧ d.stepping = none ∧ d.breakpoints ≠ [] ∧ d.lane.isSome = true) ∧
    (∃ (s : State) (d : Debug), s.cpl.attach = some d ∧ d.halted = false ∧ d.stepping = none ∧ d.breakpoints ≠ [] ∧ d.lane = none ∧ 4096 ≤ d.journal.length) ∧
    (∃ (s : State), s.cpl.attach = none) :=
  ⟨⟨.a, { R with cpl := { R.cpl with lane := (R.cpl.lane.map fun l => { l with st := .inVote }).set 0 { R.cpl.lane[0] with st := .excluded, bring := .held }, active := false }, time.wraps := 1000000 },
     by decide +kernel⟩,
   ⟨.a, { R with cpl := { R.cpl with lane := (R.cpl.lane.map fun l => { l with st := .inVote }).set 0 { R.cpl.lane[0] with st := .excluded, bring := .reload }, active := false }, time.wraps := 1000000 },
     by decide +kernel⟩,
   ⟨.a, { R with cpl := { R.cpl with lane := (R.cpl.lane.map fun l => { l with st := .inVote }).set 0 { R.cpl.lane[0] with st := .excluded, bring := .clearing }, active := true }, time.wraps := 1000000 },
     by decide +kernel⟩,
   ⟨.a, { R with cpl := { R.cpl with lane := (R.cpl.lane.map fun l => { l with st := .inVote }).set 0 { R.cpl.lane[0] with st := .excluded, bring := .clearing }, active := false }, time.wraps := 1000000 },
     by decide +kernel⟩,
   ⟨.a, R, by decide +kernel⟩,
   ⟨{ R with cpl.active := true, cpl.config := .triplex }, by decide +kernel⟩,
   ⟨{ R with cpl.active := true, cpl.suspended := false }, by decide +kernel⟩,
   ⟨{ (lanesAs .inVote R) with cpl.active := true, cpl.suspended := true }, .a, by decide +kernel⟩,
   ⟨{ R with cpl.attach := some { session := .loc 0, task := 0, lane := none, journal := [], halted := false, stepping := none, breakpoints := [0], mem := [] } }, { session := .loc 0, task := 0, lane := none, journal := [], halted := false, stepping := none, breakpoints := [0], mem := [] },
     0, some 1, by decide +kernel⟩,
   ⟨{ R with cpl.attach := some { session := .loc 0, task := 0, lane := some .a, journal := [], halted := false, stepping := none, breakpoints := [0], mem := [] } }, { session := .loc 0, task := 0, lane := some .a, journal := [], halted := false, stepping := none, breakpoints := [0], mem := [] },
     by decide +kernel⟩,
   ⟨{ R with cpl.attach := some { session := .loc 0, task := 0, lane := none, journal := List.replicate 4096 (0, 0, 0, 0), halted := false, stepping := none, breakpoints := [0], mem := [] } },
     { session := .loc 0, task := 0, lane := none, journal := List.replicate 4096 (0, 0, 0, 0), halted := false, stepping := none, breakpoints := [0], mem := [] }, by decide +kernel⟩,
   ⟨{ R with cpl.attach := none }, by decide +kernel⟩⟩

theorem witness_MergesAndPublicationRun :
    (∃ (s : State) (present : List Lane), mergesRun s = true ∧ s.image.nextMerge ≤ now s ∧ mergeQuorum s ≤ ((mergeVoters s).filter fun l => present.contains l).length ∧ followsMerges s = false ∧
      s.net.newTables = none ∧ exchangeWaits s = false ∧ ((takeBatches (s.image.nextMerge + (now s - s.image.nextMerge) / (max 1 (mergePeriod s)) * (max 1 (mergePeriod s))) 4096 true s.image.intake).1) ≠ [] ∧
      sleptThrough (s.image.nextMerge + (now s - s.image.nextMerge) / (max 1 (mergePeriod s)) * (max 1 (mergePeriod s))) ((takeBatches (s.image.nextMerge + (now s - s.image.nextMerge) / (max 1 (mergePeriod s)) * (max 1 (mergePeriod s))) 4096 true s.image.intake).1) s = false) ∧
    (∃ (s : State) (present : List Lane), (mergesRun s = false ∨ now s < s.image.nextMerge ∨ ((mergeVoters s).filter fun l => present.contains l).length < mergeQuorum s)) ∧
    (∃ (data : List Byte) (s : State), netRuns s = true ∧ ownBlock data s = false ∧ parseBlock data s = none) ∧
    (∃ (data : List Byte) (s : State) (b : _), netRuns s = true ∧ ownBlock data s = false ∧ parseBlock data s = some b ∧ (fld8 data 6) < 64 ∧ (stationAt (fld8 data 6) s).st = .absent) ∧
    (∃ (data : List Byte) (s : State) (b : _), netRuns s = true ∧ ownBlock data s = false ∧ parseBlock data s = some b ∧ (fld8 data 6) < 64 ∧ (stationAt (fld8 data 6) s).st = .live ∧
      b.seq ≤ (stationAt (fld8 data 6) s).lastSeq) ∧
    (∃ (data : List Byte) (s : State) (b : _), netRuns s = true ∧ ownBlock data s = false ∧ parseBlock data s = some b ∧ (fld8 data 6) < 64 ∧ (stationAt (fld8 data 6) s).st = .live ∧
      (stationAt (fld8 data 6) s).lastSeq + 1 < b.seq ∧ b.takeover = false) ∧
    (∃ (data : List Byte) (s : State) (b : _), netRuns s = true ∧ ownBlock data s = false ∧ parseBlock data s = some b ∧ (fld8 data 6) < 64 ∧ (stationAt (fld8 data 6) s).st = .waiting ∧
      blockWaits (fld8 data 6) s = false) ∧
    (∃ (data : List Byte) (s : State), netRuns s = true ∧ ownBlock data s = true) ∧
    (∃ (s : State), netRuns s = false) ∧
    (∃ (n : Fin 64) (s : State), ((∀ b ∈ (stationAt n.val s).held, now s < b.arrival + ms))) ∧
    (∃ (n : Fin 64) (s : State) (b : Block), (stationAt n.val s).held = [b] ∧ b.arrival + ms ≤ now s ∧ (stationAt n.val s).lastSeq < b.seq) ∧
    (∃ (s : State) (q : Nat × Nat) (qs : List (Nat × Nat)), isActive s = true ∧ s.pub.queue = q :: qs ∧ q.2 + ms ≤ now s ∧ changeCount s ≠ 0) ∧
    (∃ (s : State), isActive s = true ∧ s.pub.lastSent + 10 * ms ≤ now s) ∧
    (∃ (s : State), isActive s = true ∧ (s.pub.block) < (passBlocks s) ∧ s.pub.passStart + (s.pub.block) * (16 * sec) / (passBlocks s) ≤ now s) ∧
    (∃ (s : State), isActive s = false) ∧
    (∃ (s : State), isActive s = true ∧ s.pub.first = false) ∧
    (∃ (s : State), s.pub.lagging = false ∧ isActive s = true ∧ 500 * ms < publicationLag s) ∧
    (∃ (s : State), s.pub.lagging = true ∧ publicationLag s < 50 * ms ∧ s.pub.lastHigh + 10 * sec ≤ now s) ∧
    (∃ (n : Fin 64) (s : State), (stationAt n.val s).st = .live ∧ (stationAt n.val s).lastTime + peerTimeoutNs s ≤ now s ∧ stationWaits n.val false s = false) ∧
    (∃ (n : Fin 64) (s : State), (stationAt n.val s).st = .silent ∧ (stationAt n.val s).lastTime + 20 * peerTimeoutNs s ≤ now s ∧ stationWaits n.val true s = false) ∧
    (∃ (n : Fin 64) (s : State), (stationAt n.val s).st = .absent) :=
  ⟨⟨{ (lanesAs .inVote R) with time.wraps := 1000000, net.newTables := none, modes.mode := .run, image.intake := [aBatch], power.lane := .replicate 3 .active }, [.a, .b], by decide +kernel⟩,
   ⟨R, [], by decide +kernel⟩,
   ⟨[], { R with modes.mode := .run }, by decide +kernel⟩,
   ⟨blockBytes 1 1, { aStation { stationReset with st := .absent, lastSeq := 0 } R with modes.mode := .run }, { aBlock 1 with arrival := now R }, by decide +kernel⟩,
   ⟨blockBytes 1 1, { aStation { stationReset with st := .live, lastSeq := 1 } R with modes.mode := .run }, { aBlock 1 with arrival := now R }, by decide +kernel⟩,
   ⟨blockBytes 1 3, { aStation { stationReset with st := .live, lastSeq := 1 } R with modes.mode := .run }, { aBlock 3 with arrival := now R }, by decide +kernel⟩,
   ⟨blockBytes 1 1, { aStation { stationReset with st := .waiting, lastSeq := 0 } R with modes.mode := .run }, { aBlock 1 with arrival := now R }, by decide +kernel⟩,
   ⟨blockBytes 0 0, { R with modes.mode := .run }, by decide +kernel⟩,
   ⟨R, by decide +kernel⟩,
   ⟨0, R, by decide +kernel⟩,
   ⟨1, { (aStation { stationReset with st := .gap, held := [aBlock 1] } R) with time.wraps := 1000000 }, aBlock 1, by decide +kernel⟩,
   ⟨{ R with modes.mode := .run, pub.queue := [(0, 0)], time.wraps := 1000000 }, (0, 0), [], by decide +kernel⟩,
   ⟨{ R with modes.mode := .run, time.wraps := 1000000 }, by decide +kernel⟩,
   ⟨{ (aSignal R) with modes.mode := .run, time.wraps := 1000000 }, by decide +kernel⟩,
   ⟨R, by decide +kernel⟩,
   ⟨{ R with modes.mode := .run, pub.first := false }, by decide +kernel⟩,
   ⟨{ R with pub.lagging := false, modes.mode := .run, pub.queue := [(0, 0)], time.wraps := 1000000 }, by decide +kernel⟩,
   ⟨{ R with pub.lagging := true, time.wraps := 1000000 }, by decide +kernel⟩,
   ⟨1, { (aStation { stationReset with st := .live } R) with time.wraps := 1000000 }, by decide +kernel⟩,
   ⟨1, { (aStation { stationReset with st := .silent } R) with time.wraps := 1000000 }, by decide +kernel⟩,
   ⟨0, { R with image.stations := .replicate 64 { stationReset with st := .absent } }, by decide +kernel⟩⟩

theorem witness_NodeTelegramsAndOutputsAct :
    (∃ (net : Fin 2) (a : Word) (data : List Byte) (s : State), netRuns s = true ∧ netUp net.val s = true ∧ telegramOk net.val a data s = false ∧ (nodeEntry (fld16 data 8) s).isSome = true) ∧
    (∃ (net : Fin 2) (a : Word) (data : List Byte) (s : State), netRuns s = true ∧ netUp net.val s = true ∧ telegramOk net.val a data s = false ∧ nodeEntry (fld16 data 8) s = none) ∧
    (∃ (net : Fin 2) (a : Word) (data : List Byte) (s : State), netUp net.val s = true ∧ telegramOk net.val a data s = true ∧ (nodeAt (fld16 data 8) s).silent = false ∧ bit (fld8 data 7) 1 = false ∧
      BitVec.ofNat 16 (fld16 data 30) = s.net.owner ∧ s.modes.mode = .standby) ∧
    (∃ (net : Fin 2) (a : Word) (data : List Byte) (s : State), netUp net.val s = true ∧ telegramOk net.val a data s = true ∧ (nodeAt (fld16 data 8) s).silent = false ∧ bit (fld8 data 7) 1 = false ∧
      BitVec.ofNat 16 (fld16 data 30) = s.net.owner ∧ netRuns s = true ∧ s.modes.mode ≠ .standby ∧ bit (fld8 data 7) 2 = true) ∧
    (∃ (net : Fin 2) (s : State), (netRuns s = false ∨ netUp net.val s = false)) ∧
    (∃ (i : Nat) (s : State) (limit : Nat) (last : Nat), staleTimes (sigNo (ownStation s) i) s = some (limit, last) ∧ operating s = true ∧ sigDefined (sigNo (ownStation s) i) s = true ∧
      tabGet 0 s.image.stale (sigNo (ownStation s) i) = 0 ∧ last + limit ≤ now s) ∧
    (∃ (i : Nat) (s : State) (limit : Nat) (last : Nat), staleTimes (sigNo (ownStation s) i) s = some (limit, last) ∧ operating s = true ∧ sigDefined (sigNo (ownStation s) i) s = true ∧
      tabGet 0 s.image.stale (sigNo (ownStation s) i) < 2 ∧ s.net.dispatch.any (fun e => dispatchFeeds e (sigNo (ownStation s) i)) = true ∧ last + 3 * limit ≤ now s) ∧
    (∃ (i : Nat) (s : State) (limit : Nat) (last : Nat), staleTimes (sigNo (ownStation s) i) s = some (limit, last) ∧ operating s = true ∧ sigDefined (sigNo (ownStation s) i) s = true ∧
      now s < last + limit) ∧
    (∃ (n : Fin 4096) (j : Fin 256) (s : State), isActive s = true ∧ nodeEnabled (keyNode (telegramKey n.val j.val)) s = true ∧ outEntries (telegramKey n.val j.val) s ≠ [] ∧ (nodeAt (keyNode (telegramKey n.val j.val)) s).mac.isSome = true ∧
      netUp (nodeNet s) s = true ∧ (outAt (telegramKey n.val j.val) s).sent = none ∧ telegramOut (telegramKey n.val j.val) = true) ∧
    (∃ (n : Fin 4096) (j : Fin 256) (s : State) (t : Nat), isActive s = true ∧ nodeEnabled (keyNode (telegramKey n.val j.val)) s = true ∧ outEntries (telegramKey n.val j.val) s ≠ [] ∧
      (nodeAt (keyNode (telegramKey n.val j.val)) s).mac.isSome = true ∧ netUp (nodeNet s) s = true ∧ (outAt (telegramKey n.val j.val) s).sent = some t ∧ t + 100 * us ≤ now s ∧
      (outAt (telegramKey n.val j.val) s).deferred = true) ∧
    (∃ (n : Fin 4096) (j : Fin 256) (s : State), (outAt (telegramKey n.val j.val) s).deferred = false) ∧
    (∃ (k : OutKey) (s : State) (t : Nat), (outAt (outKeyOf k) s).sent = some t ∧ now s < t + outRepeat (outKeyOf k) s) ∧
    (∃ (n : Fin 4096) (s : State) (t : Nat), (nodeAt n.val s).takeover = some t ∧ t + sec ≤ now s) ∧
    (∃ (n : Fin 4096) (s : State) (t : Nat), (nodeAt n.val s).takeover = some t ∧ now s < t + sec) ∧
    (∃ (n : Fin 4096) (s : State) (e : List Byte), nodeEntry n.val s = some e ∧ bit (fld8 e 2) 0 = true ∧ (nodeAt n.val s).silent = false ∧ (nodeAt n.val s).last + fld16 e 8 * ms ≤ now s) ∧
    (∃ (n : Fin 4096) (s : State) (e : List Byte), nodeEntry n.val s = some e ∧ bit (fld8 e 2) 0 = true ∧ (nodeAt n.val s).silent = false ∧ now s < (nodeAt n.val s).last + fld16 e 8 * ms) :=
  ⟨⟨0, 0, zeros 32, { R with net.port := R.net.port.map fun x => { x with link := true }, modes.mode := .run, net.nodeTable := [(le 2 0 ++ [1] ++ zeros 29)] }, by decide +kernel⟩,
   ⟨0, 0, zeros 32, { R with net.port := R.net.port.map fun x => { x with link := true }, modes.mode := .run, net.nodeTable := [] }, by decide +kernel⟩,
   ⟨0, 0, le 4 0x544E5359 ++ [2] ++ zeros 27, { R with modes.mode := .standby, net.port := R.net.port.map fun x => { x with link := true }, net.nodes := [(0, { nodeReset with silent := false, mac := some 0 })], net.nodeTable := [(le 2 0 ++ [1] ++ zeros 29)], net.owner := 0 },
     by decide +kernel⟩,
   ⟨0, 0, le 4 0x544E5359 ++ [2, 0, 0, 4] ++ zeros 24, { R with net.port := R.net.port.map fun x => { x with link := true }, modes.mode := .run, net.nodes := [(0, { nodeReset with silent := false, mac := some 0 })], net.nodeTable := [(le 2 0 ++ [1] ++ zeros 29)], net.owner := 0 },
     by decide +kernel⟩,
   ⟨0, R, by decide +kernel⟩,
   ⟨0, { (aSignal R) with modes.mode := .run, time.wraps := 1000000, net.port := R.net.port.map fun x => { x with link := true }, net.dispatch := [(zeros 8 ++ le 2 1 ++ zeros 8 ++ le 2 1 ++ zeros 12)] },
     ms, 0, by decide +kernel⟩,
   ⟨0, { (aSignal R) with modes.mode := .run, time.wraps := 1000000, net.port := R.net.port.map fun x => { x with link := true }, net.dispatch := [(zeros 8 ++ le 2 1 ++ zeros 8 ++ le 2 1 ++ zeros 12)] },
     ms, 0, by decide +kernel⟩,
   ⟨0, { (aSignal R) with modes.mode := .run, net.port := R.net.port.map fun x => { x with link := true }, net.dispatch := [(zeros 8 ++ le 2 1 ++ zeros 8 ++ le 2 1 ++ zeros 12)] },
     ms, 0, by decide +kernel⟩,
   ⟨0, 0, { R with modes.mode := .run, net.port := R.net.port.map fun x => { x with link := true }, net.dispatch := [(zeros 10 ++ le 2 1 ++ zeros 20)], net.nodes := [(0, { nodeReset with silent := false, mac := some 0 })], net.nodeTable := [(le 2 0 ++ [1] ++ zeros 29)], net.owner := 0 },
     by decide +kernel⟩,
   ⟨0, 0, { R with modes.mode := .run, time.wraps := 1000000, net.port := R.net.port.map fun x => { x with link := true }, net.dispatch := [(zeros 10 ++ le 2 1 ++ zeros 20)], net.outs := [(0, { outTelegramReset with sent := some 0, deferred := true })], net.nodes := [(0, { nodeReset with silent := false, mac := some 0 })], net.nodeTable := [(le 2 0 ++ [1] ++ zeros 29)], net.owner := 0 },
     0, by decide +kernel⟩,
   ⟨0, 0, R, by decide +kernel⟩,
   ⟨.telegram 0 0, { R with net.port := R.net.port.map fun x => { x with link := true }, modes.mode := .run, net.outs := [(0, { outTelegramReset with sent := some 0 })] }, 0,
     by decide +kernel⟩,
   ⟨0, { R with time.wraps := 1000000, net.nodes := [(0, { nodeReset with takeover := some 0 })], net.port := R.net.port.map fun x => { x with link := true }, modes.mode := .run },
     0, by decide +kernel⟩,
   ⟨0, { R with net.nodes := [(0, { nodeReset with takeover := some 1 })], net.port := R.net.port.map fun x => { x with link := true }, modes.mode := .run }, 1, by decide +kernel⟩,
   ⟨0, { R with time.wraps := 1000000, net.nodes := [(0, { nodeReset with silent := false, mac := some 0 })], net.port := R.net.port.map fun x => { x with link := true }, modes.mode := .run, net.nodeTable := [(le 2 0 ++ [1] ++ zeros 29)], net.owner := 0 },
     (le 2 0 ++ [1] ++ zeros 29), by decide +kernel⟩,
   ⟨0, { R with net.nodes := [(0, { nodeReset with silent := false, mac := some 0 })], net.port := R.net.port.map fun x => { x with link := true }, modes.mode := .run, net.nodeTable := [(le 2 0 ++ [1] ++ zeros 5 ++ le 2 1 ++ zeros 22)], net.owner := 0 },
     (le 2 0 ++ [1] ++ zeros 5 ++ le 2 1 ++ zeros 22), by decide +kernel⟩⟩

theorem witness_NetworkPortsAnswerAndSupervise :
    (∃ (n : Fin 3) (ip : Word) (t : Word) (s : State), ((∀ e ∈ s.net.nodeTable, ipAt e 4 ≠ ip.toNat)) ∧ n.val < 2 ∧ t.toNat = ownIp n.val s) ∧
    (∃ (n : Fin 3) (ip : Word) (t : Word) (s : State), ((∀ e ∈ s.net.nodeTable, ipAt e 4 ≠ ip.toNat)) ∧ n.val < 2 ∧ t.toNat ≠ ownIp n.val s) ∧
    (∃ (n : Fin 3) (ip : Word) (s : State) (e : List Byte), s.net.nodeTable.find? (fun e => n.val == nodeNet s && bit (fld8 e 2) 0 && ipAt e 4 == ip.toNat) = some e) ∧
    (∃ (n : Fin 2) (s : State), n.val = pubNet s ∧ n.val ≠ nodeNet s) ∧
    (∃ (n : Fin 2) (s : State), n.val ≠ pubNet s ∧ n.val = nodeNet s) ∧
    (∃ (n : Fin 2) (s : State), n.val = pubNet s ∧ n.val = nodeNet s) ∧
    (∃ (n : Fin 2) (s : State), n.val ≠ pubNet s ∧ n.val ≠ nodeNet s) ∧
    (∃ (p : Fin 2) (s : State), s.net.hsr = true ∧ s.modes.mode ≠ .plinth ∧ portUp (1 - p.val) s = true) ∧
    (∃ (s : State), s.net.hsr = false) ∧
    (∃ (p : Fin 4) (s : State), (portAt p.val s).phyReset = false ∧ (portAt p.val s).role ≠ 0 ∧ healthOf (0x24 + p.val) s ≠ 2) ∧
    (∃ (p : Fin 4) (src : BitVec 48) (s : State), portUp p.val s = true ∧ ((∀ x ∈ s.net.dup, x.mac ≠ src))) ∧
    (∃ (p : Fin 4) (src : BitVec 48) (seq : BitVec 16) (s : State) (x : DupEntry), portUp p.val s = true ∧ x ∈ s.net.dup ∧ x.mac = src ∧ x.seq = seq ∧ now s < x.last + 400 * ms) ∧
    (∃ (p : Fin 4) (s : State), portUp p.val s = true ∧ (portAt p.val s).supLost = false ∧ (portAt p.val s).lastSup + 6 * sec ≤ now s) ∧
    (∃ (p : Fin 4) (s : State), portUp p.val s = true ∧ (portAt p.val s).supLost = false ∧ now s < (portAt p.val s).lastSup + 6 * sec) :=
  ⟨⟨0, 0, 0, R, by decide +kernel⟩,
   ⟨0, 0, 1, R, by decide +kernel⟩,
   ⟨0, 0, { R with net.nodeTable := [(le 2 0 ++ [1] ++ zeros 29)] }, (le 2 0 ++ [1] ++ zeros 29), by decide +kernel⟩,
   ⟨0, { R with net.rcd := [0, 0, 1] ++ zeros 61, cfg.cur := { R.cfg.cur with recs := [(2 ^ 32, [0, 0, 1] ++ zeros 61)] } }, by decide +kernel⟩,
   ⟨1, { R with net.rcd := [0, 0, 1] ++ zeros 61, cfg.cur := { R.cfg.cur with recs := [(2 ^ 32, [0, 0, 1] ++ zeros 61)] } }, by decide +kernel⟩,
   ⟨0, R, by decide +kernel⟩,
   ⟨1, R, by decide +kernel⟩,
   ⟨0, { R with net.hsr := true, net.port := R.net.port.map fun x => { x with link := true }, modes.mode := .run }, by decide +kernel⟩,
   ⟨{ R with net.hsr := false }, by decide +kernel⟩,
   ⟨0, { R with net.port := R.net.port.map fun x => { x with phyReset := false, role := 1 } }, by decide +kernel⟩,
   ⟨0, 0, { R with net.port := R.net.port.map fun x => { x with link := true } }, by decide +kernel⟩,
   ⟨0, 0, 0, { R with net.port := R.net.port.map fun x => { x with link := true }, net.dup := [{ mac := 0, seq := 0, last := 1 }] }, { mac := 0, seq := 0, last := 1 }, by decide +kernel⟩,
   ⟨0, { R with time.wraps := 1000000, net.port := R.net.port.map fun x => { x with link := true, supLost := false } }, by decide +kernel⟩,
   ⟨0, { R with net.port := R.net.port.map fun x => { x with link := true, supLost := false } }, by decide +kernel⟩⟩

theorem witness_CanControllersReceiveAndSend :
    (∃ (c : Fin 8) (f : CanFrame) (s : State), (canAt c.val s).enabled = true ∧ (canAt c.val s).st.toNat < 2 ∧ f.remote = true) ∧
    (∃ (c : Fin 8) (f : CanFrame) (s : State), (canAt c.val s).enabled = true ∧ (canAt c.val s).st.toNat < 2 ∧ f.remote = false ∧ bit (fld8 (canAt c.val s).rcd 1) 2 = false ∧ (canAt c.val s).obj.find? (fun p => objMatches f p.2.rcd) = none) ∧
    (∃ (c : Fin 8) (f : CanFrame) (s : State) (p : Nat × CanObj), (canAt c.val s).enabled = true ∧ (canAt c.val s).st.toNat < 2 ∧ f.remote = false ∧ bit (fld8 (canAt c.val s).rcd 1) 2 = false ∧
      (canAt c.val s).obj.find? (fun p => objMatches f p.2.rcd) = some p) ∧
    (∃ (c : Fin 8) (s : State), (canAt c.val s).enabled = false) ∧
    (∃ (c : Fin 8) (m : Fin 128) (s : State), (objAt (canAt c.val s) m.val).locked = false) ∧
    (∃ (c : Fin 8) (m : Fin 128) (s : State), (objAt (canAt c.val s) m.val).locked = true ∧ (objAt (canAt c.val s) m.val).shadow = none) ∧
    (∃ (c : Fin 8) (m : Fin 128) (s : State) (b : CanBuf), (objAt (canAt c.val s) m.val).locked = true ∧ (objAt (canAt c.val s) m.val).shadow = some b) ∧
    (∃ (c : Fin 8) (s : State), (canAt c.val s).bus = .nothing) ∧
    (∃ (c : Fin 8) (s : State) (m : Nat), (canAt c.val s).bus = .object m) ∧
    (∃ (c : Fin 8) (s : State), (canAt c.val s).enabled = true ∧ (canAt c.val s).monitor = false ∧ bit (fld8 (canAt c.val s).rcd 1) 2 = true ∧ (canAt c.val s).nextRef ≤ now s) ∧
    (∃ (c : Fin 8) (s : State), now s < (canAt c.val s).nextRef) ∧
    (∃ (c : Fin 8) (m : Fin 128) (s : State), objSends (objAt (canAt c.val s) m.val).rcd = true ∧ objFlag (objAt (canAt c.val s) m.val).rcd 4 = true ∧ (canAt c.val s).refActive = true ∧
      (canAt c.val s).lastRef + fld32 (objAt (canAt c.val s) m.val).rcd 16 * us ≤ now s ∧ now s < windowEnd (canAt c.val s) (objAt (canAt c.val s) m.val).rcd ∧ (objAt (canAt c.val s) m.val).pending = true) ∧
    (∃ (c : Fin 8) (m : Fin 128) (s : State), objSends (objAt (canAt c.val s) m.val).rcd = true ∧ objFlag (objAt (canAt c.val s) m.val).rcd 4 = true ∧ (canAt c.val s).refActive = true ∧
      (canAt c.val s).lastRef + fld32 (objAt (canAt c.val s) m.val).rcd 16 * us ≤ now s ∧ (objAt (canAt c.val s) m.val).pending = false) ∧
    (∃ (c : Fin 8) (s : State) (t : Nat), (canAt c.val s).foreign = some t ∧ (canAt c.val s).monitor = false ∧ t + sec ≤ now s) ∧
    (∃ (c : Fin 8) (s : State) (t : Nat), (canAt c.val s).foreign = some t ∧ (canAt c.val s).monitor = false ∧ now s < t + sec) ∧
    (∃ (c : Fin 8) (s : State) (t : Nat), (canAt c.val s).recoverAt = some t ∧ t ≤ now s) ∧
    (∃ (c : Fin 8) (s : State) (t : Nat), (canAt c.val s).recoverAt = some t ∧ now s < t) :=
  ⟨⟨0, { ident := 0, extended := false, fd := false, remote := true, data := [] }, { R with can := R.can.map fun x => { x with enabled := true, st := 1, rcd := zeros 32 } },
     by decide +kernel⟩,
   ⟨0, { ident := 0, extended := false, fd := false, remote := false, data := [] }, { R with can := R.can.map fun x => { x with enabled := true, st := 1, rcd := zeros 32, obj := [] } },
     by decide +kernel⟩,
   ⟨0, { ident := 0, extended := false, fd := false, remote := false, data := [] }, { R with can := R.can.map fun x => { x with enabled := true, st := 1, rcd := zeros 32, obj := [(0, { canObjReset with rcd := zeros 24 })] } },
     (0, { canObjReset with rcd := zeros 24 }), by decide +kernel⟩,
   ⟨0, { R with can := R.can.map fun x => { x with enabled := false } }, by decide +kernel⟩,
   ⟨0, 0, R, by decide +kernel⟩,
   ⟨0, 0, { R with can := R.can.map fun x => { x with obj := [(0, { canObjReset with locked := true, shadow := none })] } }, by decide +kernel⟩,
   ⟨0, 0, { R with can := R.can.map fun x => { x with obj := [(0, { canObjReset with locked := true, shadow := some { data := [], fd := false, stamp := 0, ident := 0 } })] } },
     { data := [], fd := false, stamp := 0, ident := 0 }, by decide +kernel⟩,
   ⟨0, { R with can := R.can.map fun x => { x with bus := .nothing } }, by decide +kernel⟩,
   ⟨0, { R with can := R.can.map fun x => { x with bus := .object 0 } }, 0, by decide +kernel⟩,
   ⟨0, { R with time.wraps := 1000000, can := R.can.map fun x => { x with enabled := true, monitor := false, nextRef := 0, rcd := [0, 4] ++ zeros 30 } }, by decide +kernel⟩,
   ⟨0, { R with can := R.can.map fun x => { x with nextRef := 1 } }, by decide +kernel⟩,
   ⟨0, 0, { R with time.wraps := 0, can := R.can.map fun x => { x with refActive := true, lastRef := 0, obj := [(0, { canObjReset with rcd := zeros 2 ++ le 2 0x11 ++ zeros 16 ++ le 2 1 ++ zeros 2, pending := true })] } },
     by decide +kernel⟩,
   ⟨0, 0, { R with time.wraps := 1000000, can := R.can.map fun x => { x with refActive := true, lastRef := 0, obj := [(0, { canObjReset with rcd := zeros 2 ++ le 2 0x11 ++ zeros 16 ++ le 2 1 ++ zeros 2, pending := false })] } },
     by decide +kernel⟩,
   ⟨0, { R with time.wraps := 1000000, can := R.can.map fun x => { x with foreign := some 0, monitor := false } }, 0, by decide +kernel⟩,
   ⟨0, { R with can := R.can.map fun x => { x with foreign := some 1 } }, 1, by decide +kernel⟩,
   ⟨0, { R with time.wraps := 1000000, can := R.can.map fun x => { x with recoverAt := some 0 } }, 0, by decide +kernel⟩,
   ⟨0, { R with can := R.can.map fun x => { x with recoverAt := some 1 } }, 1, by decide +kernel⟩⟩

theorem witness_UniversalChannelsConvertAndDiagnose :
    (∃ (ch : Fin 16) (s : State), ucAligned s.uc[ch] (now s) = true ∧ s.uc[ch].st = .running ∧ ucOutputMode (ucMode s.uc[ch]) = false) ∧
    (∃ (ch : Fin 16) (s : State), ucAligned s.uc[ch] (now s) = true ∧ s.uc[ch].st = .running ∧ ucOutputMode (ucMode s.uc[ch]) = true) ∧
    (∃ (ch : Fin 16) (s : State), ucAligned s.uc[ch] (now s) = true ∧ s.uc[ch].st = .configuring ∧ 3 ≤ s.uc[ch].step ∧ s.uc[ch].settle < 2) ∧
    (∃ (ch : Fin 16) (s : State), ucAligned s.uc[ch] (now s) = false) ∧
    (∃ (ch : Fin 16) (s : State), s.uc[ch].st = .running ∧ ucCurrentMode (ucMode s.uc[ch]) = true ∧ verifying s = true ∧ flt s.uc[ch].output (fnum 1) = false) ∧
    (∃ (ch : Fin 16) (s : State), s.uc[ch].st = .running ∧ ucCurrentMode (ucMode s.uc[ch]) = true ∧ verifying s = true ∧ s.uc[ch].open_ = false ∧ flt s.uc[ch].raw (frac 5 10) = false) ∧
    (∃ (ch : Fin 16) (s : State), s.uc[ch].st = .running ∧ ucCurrentMode (ucMode s.uc[ch]) = true ∧ verifying s = true ∧ bit (fld8 s.uc[ch].rcd 3) 0 = true ∧ flt s.uc[ch].output (fnum 1) = true ∧
      s.uc[ch].pulse = false ∧ s.uc[ch].nextPulse ≤ now s) ∧
    (∃ (ch : Fin 16) (s : State), s.uc[ch].pulse = true) ∧
    (∃ (ch : Fin 16) (s : State), s.uc[ch].st = .running ∧ ucMode s.uc[ch] = 7 ∧ verifying s = true) ∧
    (∃ (ch : Fin 16) (s : State), s.uc[ch].st = .running ∧ ucMode s.uc[ch] = 4) ∧
    (∃ (ch : Fin 16) (s : State), ucMode s.uc[ch] ≠ 4) ∧
    (∃ (ch : Fin 16) (s : State), s.uc[ch].st ≠ .disabled ∧ s.uc[ch].st ≠ .failed) ∧
    (∃ (ch : Fin 16) (s : State), s.uc[ch].st = .configuring ∧ (s.uc[ch].step = 1 ∨ s.uc[ch].step = 2)) :=
  ⟨⟨0, { R with uc := R.uc.map fun x => { x with st := .running } }, by decide +kernel⟩,
   ⟨0, { R with uc := R.uc.map fun x => { x with st := .running, rcd := [0, 5, 0, 1] ++ zeros 28 } }, by decide +kernel⟩,
   ⟨0, { R with uc := R.uc.map fun x => { x with st := .configuring, step := 3, settle := 0 } }, by decide +kernel⟩,
   ⟨0, { R with uc := R.uc.map fun x => { x with convAt := 1000 } }, by decide +kernel⟩,
   ⟨0, { R with uc := R.uc.map fun x => { x with st := .running, rcd := [0, 5, 0, 1] ++ zeros 28, output := fnum 1 } }, by decide +kernel⟩,
   ⟨0, { R with uc := R.uc.map fun x => { x with st := .running, rcd := [0, 5, 0, 1] ++ zeros 28, open_ := false, raw := fnum 1 } }, by decide +kernel⟩,
   ⟨0, { R with time.wraps := 1000000, uc := R.uc.map fun x => { x with st := .running, rcd := [0, 5, 0, 1] ++ zeros 28, output := 0, pulse := false, nextPulse := 0 } }, by decide +kernel⟩,
   ⟨0, { R with uc := R.uc.map fun x => { x with pulse := true } }, by decide +kernel⟩,
   ⟨0, { R with uc := R.uc.map fun x => { x with st := .running, rcd := [0, 7] } }, by decide +kernel⟩,
   ⟨0, { R with uc := R.uc.map fun x => { x with st := .running, rcd := [0, 4] } }, by decide +kernel⟩,
   ⟨0, R, by decide +kernel⟩,
   ⟨0, { R with uc := R.uc.map fun x => { x with st := .running } }, by decide +kernel⟩,
   ⟨0, { R with uc := R.uc.map fun x => { x with st := .configuring, step := 1 } }, by decide +kernel⟩⟩

theorem witness_DigitalChannelsSampleDriveAndDiagnose :
    (∃ (ch : Fin 48) (s : State), s.dig[ch].st ≠ .running) ∧
    (∃ (ch : Fin 48) (s : State), s.dig[ch].st = .running ∧ 1 ≤ fld16 s.dig[ch].rcd 4) ∧
    (∃ (ch : Fin 48) (s : State), (s.dig[ch]).st = .running ∧ (s.dig[ch]).prev ≠ (s.dig[ch]).acc ∧ (s.dig[ch]).last + fld16 (s.dig[ch]).rcd 4 * us ≤ groupTime (groupOf ch.val) s) ∧
    (∃ (g : Fin 4) (s : State), s.group[g].sent + ms ≤ now s ∧ s.group[g].failed = false) ∧
    (∃ (g : Fin 4) (s : State), now s < s.group[g].sent + ms) ∧
    (∃ (g : Fin 4) (s : State), s.group[g].skew = 0) ∧
    (∃ (g : Fin 4) (s : State), s.group[g].skew ≠ 0) ∧
    (∃ (ch : Fin 48) (s : State), s.dig[ch].chatter = true ∧ s.dig[ch].busyAt + 10 * sec ≤ groupTime (groupOf ch.val) s) ∧
    (∃ (ch : Fin 48) (s : State), s.dig[ch].chatter = false) ∧
    (∃ (ch : Fin 48) (s : State), comparing ch.val s = true ∧ (s.dig[ch]).prev ≠ (s.dig[ch]).command ∧ (s.dig[ch]).shorted = false ∧ digFlag (s.dig[ch]) 2 = false) ∧
    (∃ (ch : Fin 48) (s : State), s.dig[ch].prev = s.dig[ch].command) ∧
    (∃ (ch : Fin 48) (s : State), digOutput (s.dig[ch]) = true ∧ (s.dig[ch]).st = .running ∧ (s.dig[ch]).switch = true) ∧
    (∃ (ch : Fin 48) (s : State) (t : Nat), s.dig[ch].retryAt = some t ∧ t ≤ now s ∧ s.dig[ch].locked = false) ∧
    (∃ (ch : Fin 48) (s : State), s.dig[ch].retryAt = none) ∧
    (∃ (g : Fin 4) (n : Nat) (s : State), (n ≤ 4000 ∨ n ≤ 4400 ∧ s.group[g].shedding = false)) ∧
    (∃ (g : Fin 4) (k : Fin 12) (n : Nat) (s : State), (4400 < n ∨ 4000 < n ∧ s.group[g].shedding = true) ∧ digOutput (digAt (12 * g.val + k.val) s) = true) ∧
    (∃ (ch : Fin 48) (s : State), digOutput s.dig[ch] = true ∧ digFlag s.dig[ch] 3 = true ∧ comparing ch.val s = true ∧ s.dig[ch].command = false) ∧
    (∃ (ch : Fin 48) (s : State), s.dig[ch].st ≠ .configuring) ∧
    (∃ (ch : Fin 48) (s : State), s.dig[ch].st = .configuring ∧ s.dig[ch].step = 1) ∧
    (∃ (ch : Fin 48) (s : State), s.dig[ch].st = .configuring ∧ s.dig[ch].step = 2 ∧ 1 ≤ fld16 s.dig[ch].rcd 4) :=
  ⟨⟨0, R, by decide +kernel⟩,
   ⟨0, { R with dig := R.dig.map fun x => { x with st := .running, rcd := zeros 4 ++ le 2 1 ++ zeros 26 } }, by decide +kernel⟩,
   ⟨0, { R with dig := R.dig.map fun x => { x with st := .running, prev := false, acc := true } }, by decide +kernel⟩,
   ⟨1, { R with time.wraps := 1000000, group := R.group.map fun x => { x with sent := 0, failed := false } }, by decide +kernel⟩,
   ⟨0, R, by decide +kernel⟩,
   ⟨0, { R with group := R.group.map fun x => { x with skew := 0 } }, by decide +kernel⟩,
   ⟨0, { R with group := R.group.map fun x => { x with skew := 1 } }, by decide +kernel⟩,
   ⟨0, { R with dig := R.dig.map fun x => { x with chatter := true, busyAt := 0 }, time.wraps := 1000000 }, by decide +kernel⟩,
   ⟨0, { R with dig := R.dig.map fun x => { x with chatter := false } }, by decide +kernel⟩,
   ⟨0, { R with dig := R.dig.map fun x => { x with st := .running, rcd := [0, 3, 0, 8] ++ zeros 28, prev := false, command := true, shorted := false }, time.wraps := 1000000, group := R.group.map fun x => { x with fsLow := false } },
     by decide +kernel⟩,
   ⟨0, R, by decide +kernel⟩,
   ⟨0, { R with dig := R.dig.map fun x => { x with st := .running, rcd := [0, 3, 0, 8] ++ zeros 28, switch := true } }, by decide +kernel⟩,
   ⟨0, { R with time.wraps := 1000000, dig := R.dig.map fun x => { x with retryAt := some 0, locked := false } }, 0, by decide +kernel⟩,
   ⟨0, { R with dig := R.dig.map fun x => { x with retryAt := none } }, by decide +kernel⟩,
   ⟨0, 4000, R, by decide +kernel⟩,
   ⟨0, 0, 4401, { R with dig := R.dig.map fun x => { x with st := .running, rcd := [0, 3, 0, 8] ++ zeros 28 } }, by decide +kernel⟩,
   ⟨0, { R with dig := R.dig.map fun x => { x with st := .running, rcd := [0, 3, 0, 8] ++ zeros 28, command := false }, time.wraps := 1000000, group := R.group.map fun x => { x with fsLow := false } },
     by decide +kernel⟩,
   ⟨0, R, by decide +kernel⟩,
   ⟨0, { R with dig := R.dig.map fun x => { x with st := .configuring, step := 1 } }, by decide +kernel⟩,
   ⟨0, { R with dig := R.dig.map fun x => { x with st := .configuring, step := 2, rcd := zeros 4 ++ le 2 1 ++ zeros 26 } }, by decide +kernel⟩⟩

theorem witness_CountersCount :
    (∃ (ch : Fin 4) (s : State), counting ch.val s = true ∧ digFunction (digAt ch.val s) = 1) ∧
    (∃ (ch : Fin 4) (s : State), counting ch.val s = true ∧ digFunction (digAt ch.val s) = 2) ∧
    (∃ (ch : Fin 4) (s : State), counting ch.val s = false) ∧
    (∃ (ch : Fin 4) (s : State), counting ch.val s = true ∧ digFunction (digAt ch.val s) = 3) ∧
    (∃ (ch : Fin 4) (s : State), counting ch.val s = true ∧ s.counter[ch].lastEdge + fld32 (digAt ch.val s).rcd 24 * ms ≤ now s) :=
  ⟨⟨0, { R with dig := R.dig.map fun x => { x with st := .running, rcd := [0, 0, 1] ++ zeros 29 } }, by decide +kernel⟩,
   ⟨0, { R with dig := R.dig.map fun x => { x with st := .running, rcd := [0, 0, 2] ++ zeros 29 } }, by decide +kernel⟩,
   ⟨0, R, by decide +kernel⟩,
   ⟨0, { R with dig := R.dig.map fun x => { x with st := .running, rcd := [0, 0, 3] ++ zeros 29 } }, by decide +kernel⟩,
   ⟨0, { R with time.wraps := 1000000, dig := R.dig.map fun x => { x with st := .running, rcd := [0, 0, 1] ++ zeros 29 } }, by decide +kernel⟩⟩

theorem witness_LoopSamplesRunThroughTheirCopies :
    (∃ (n : Fin 256) (s : State), tabWf loopReset s.loop.loops = true ∧ loopsRun s = true ∧ (loopAt n.val s).rcd ≠ [] ∧ (loopAt n.val s).next ≤ now s ∧ (loopAt n.val s).sample = none) ∧
    (∃ (n : Fin 256) (s : State), s.modes.mode = .standby ∧ (loopAt n.val s).rcd ≠ [] ∧ (loopAt n.val s).next ≤ now s ∧ (loopAt n.val s).sample = none) ∧
    (∃ (n : Fin 256) (s : State), ((loopsRun s = false ∧ s.modes.mode ≠ .standby) ∨ (loopAt n.val s).rcd = [] ∨ now s < (loopAt n.val s).next)) ∧
    (∃ (n : Fin 256) (l : Lane) (s : State) (p : LoopSample), (loopAt n.val s).sample = some p ∧ (loopVoters p.tick s).contains l = true ∧ ((∀ x ∈ p.got, x.1 ≠ l)) ∧ p.agreed = none ∧
      2 ≤ (loopVoters p.tick s).length ∧ p.got = []) ∧
    (∃ (n : Fin 256) (l : Lane) (v : _) (w : List Byte) (s : State) (p : _) (k : Lane), (loopAt n.val s).sample = some p ∧ (loopVoters p.tick s).contains l = true ∧ ((∀ x ∈ p.got,
      x.1 ≠ l)) ∧ p.agreed = none ∧ p.got = [(k, v, (loopSignature w s))]) ∧
    (∃ (n : Fin 256) (l : Lane) (v : _) (w : List Byte) (s : State) (p : _), (loopAt n.val s).sample = some p ∧ (loopVoters p.tick s).contains l = true ∧ ((∀ x ∈ p.got, x.1 ≠ l)) ∧
      p.agreed = some (v, (loopSignature w s))) ∧
    (∃ (n : Fin 256) (l : Lane) (s : State), ((∀ p, (loopAt n.val s).sample = some p → (loopVoters p.tick s).contains l = false))) ∧
    (∃ (n : Fin 256) (s : State) (p : LoopSample), (loopAt n.val s).sample = some p ∧ now s < p.tick + loopDelta (loopAt n.val s).rcd) ∧
    (∃ (n : Fin 256) (s : State) (p : LoopSample), (loopAt n.val s).sample = some p ∧ p.tick + loopDelta (loopAt n.val s).rcd ≤ now s ∧ p.agreed.isSome = true ∧ ((∀ l ∈ loopVoters p.tick s,
      p.got.any (fun g => g.1 == l) = true))) ∧
    (∃ (n : Fin 256) (s : State) (p : LoopSample), (loopAt n.val s).sample = some p ∧ p.tick + loopDelta (loopAt n.val s).rcd ≤ now s ∧ p.agreed = none ∧ p.got.length < 2 ∧ s.loop.missed ≠ 0xFFFFFFFF) ∧
    (∃ (s : State), s.retained.queue = [] ∧ (s.loop.dirty = true ∨ s.loop.lastCheck + 10 * sec ≤ now s)) ∧
    (∃ (s : State), s.loop.dirty = false ∧ now s < s.loop.lastCheck + 10 * sec) ∧
    (∃ (s : State), s.retained.queue ≠ []) ∧
    (∃ (s : State) (e : List Byte) (m : LoopMode), s.modes.mode = .standby ∧ tabWf loopReset s.loop.loops = true ∧ e.length = 72 ∧ fld16 e 0 < 256 ∧ loopModeOf (fld8 e 2) = some m) ∧
    (∃ (s : State), s.modes.mode ≠ .standby) :=
  ⟨⟨0, { (aLoop { loopReset with rcd := zeros 160 } R) with time.wraps := 1000000, modes.mode := .run }, by decide +kernel⟩,
   ⟨0, { aLoop { loopReset with rcd := zeros 160 } R with modes.mode := .standby }, by decide +kernel⟩,
   ⟨0, R, by decide +kernel⟩,
   ⟨0, .a, (aLoop { loopReset with rcd := zeros 160, sample := some { tick := 0, work := loopWorkReset, got := [], agreed := none } } (lanesAs .inVote R)), { tick := 0, work := loopWorkReset, got := [], agreed := none },
     by decide +kernel⟩,
   ⟨0, .a, 0, [], (aLoop { loopReset with rcd := zeros 160, sample := some { tick := 0, work := loopWorkReset, got := [(.b, 0, loopSignature [] R)], agreed := none } } (lanesAs .inVote R)),
     { tick := 0, work := loopWorkReset, got := [(.b, 0, loopSignature [] R)], agreed := none }, .b, rfl, by decide +kernel, by simp, rfl, rfl⟩,
   ⟨0, .a, 0, [], (aLoop { loopReset with rcd := zeros 160, sample := some { tick := 0, work := loopWorkReset, got := [], agreed := some (0, loopSignature [] R) } } (lanesAs .inVote R)),
     { tick := 0, work := loopWorkReset, got := [], agreed := some (0, loopSignature [] R) }, rfl, by decide +kernel, by simp, rfl⟩,
   ⟨0, .a, R, by decide +kernel⟩,
   ⟨0, (aLoop { loopReset with rcd := zeros 160, sample := some { tick := 1, work := loopWorkReset, got := [], agreed := none } } (lanesAs .inVote R)), { tick := 1, work := loopWorkReset, got := [], agreed := none },
     by decide +kernel⟩,
   ⟨0, { (aLoop { loopReset with rcd := zeros 160, sample := some { tick := 0, work := loopWorkReset, got := [(.a, 0, 0), (.b, 0, 0), (.c, 0, 0)], agreed := some (0, 0) } } (lanesAs .inVote R)) with time.wraps := 1000000 },
     { tick := 0, work := loopWorkReset, got := [(.a, 0, 0), (.b, 0, 0), (.c, 0, 0)], agreed := some (0, 0) }, by decide +kernel⟩,
   ⟨0, { (aLoop { loopReset with rcd := zeros 160, sample := some { tick := 0, work := loopWorkReset, got := [], agreed := none } } (lanesAs .inVote R)) with time.wraps := 1000000 },
     { tick := 0, work := loopWorkReset, got := [], agreed := none }, by decide +kernel⟩,
   ⟨{ R with retained.queue := [], loop.dirty := true }, by decide +kernel⟩,
   ⟨{ R with loop.dirty := false }, by decide +kernel⟩,
   ⟨{ R with retained.queue := [{ task := 0, cycle := 0, time := 0, since := 0, pages := [], onNew := false }] }, by decide +kernel⟩,
   ⟨{ R with modes.mode := .standby }, zeros 72, .off, by decide +kernel⟩,
   ⟨R, by decide +kernel⟩⟩

theorem witness_LockoutsEndAndCommitsClose :
    (∃ (f : Fin 256) (s : State) (t : Nat), (funcAt f.val s).timer = some t ∧ (funcAt f.val s).st = .degraded ∧ t + degradedNs (funcRec f.val s) ≤ now s) ∧
    (∃ (f : Fin 256) (s : State) (t : Nat), (funcAt f.val s).timer = some t ∧ ((funcAt f.val s).st ≠ .degraded ∨ now s < t + degradedNs (funcRec f.val s))) ∧
    (∃ (s : State) (t : Nat), s.safety.lockout = some t ∧ t ≤ now s) ∧
    (∃ (s : State) (t : Nat), s.safety.lockout = some t ∧ now s < t) ∧
    (∃ (t : Fin 32) (s : State) (c : QueuedCommit), s.retained.writing = some c ∧ c.task = t.val ∧ s.prog.st = .idle) ∧
    (∃ (t : Fin 32) (s : State), ((∀ c, s.retained.writing = some c → c.task ≠ t.val))) ∧
    (∃ (s : State), s.retained.lagging = false ∧ 100 * ms < retentionLag s) ∧
    (∃ (s : State), s.retained.lagging = true ∧ retentionLag s < 10 * ms ∧ s.retained.lastHigh + 10 * sec ≤ now s) ∧
    (∃ (s : State), s.prog.st = .preparing ∧ s.prog.caught = false ∧ s.modes.mode ≠ .standby ∧ pairInStep s = false ∧ s.prog.castAt ≠ 0) ∧
    (∃ (s : State), s.prog.st = .preparing ∧ s.prog.caught = false ∧ s.modes.mode ≠ .standby ∧ pairInStep s = false ∧ s.prog.castAt = 0 ∧ sendsToStandby s = false) ∧
    (∃ (s : State), s.prog.st = .preparing ∧ s.prog.caught = false ∧ s.modes.mode ≠ .standby ∧ pairInStep s = true ∧ s.prog.acked = false) ∧
    (∃ (s : State), (s.prog.st ≠ .preparing ∨ s.prog.caught = true)) ∧
    (∃ (s : State), pairInStep s = true ∧ (s.prog.st = .ready ∨ (s.prog.st = .preparing ∧ s.prog.caught = false))) ∧
    (∃ (s : State), s.prog.cast = 0) ∧
    (∃ (s : State), s.prog.cast ≠ 0 ∧ s.prog.cast ≤ now s + 2 * ms ∧ s.prog.st = .preparing) ∧
    (∃ (s : State), s.prog.cast ≠ 0 ∧ s.prog.cast ≤ now s + 2 * ms ∧ s.prog.st = .ready ∧ s.prog.acked = true) ∧
    (∃ (s : State), s.prog.cast ≠ 0 ∧ s.prog.cast ≤ now s ∧ s.prog.st = .ready ∧ (s.prog.acked = true ∨ pairInStep s = false)) ∧
    (∃ (s : State), s.prog.cast ≠ 0 ∧ s.prog.cast ≤ now s ∧ s.prog.st = .ready ∧ s.prog.acked = false ∧ pairInStep s = true) :=
  ⟨⟨0, { R with time.wraps := 1000000, safety.func := [(0, { funcReset with timer := some 0, st := .degraded })] }, 0, by decide +kernel⟩,
   ⟨0, { R with safety.func := [(0, { funcReset with timer := some 1 })] }, 1, by decide +kernel⟩,
   ⟨{ R with safety.lockout := some 0, time.wraps := 1000000 }, 0, by decide +kernel⟩,
   ⟨{ R with safety.lockout := some 1 }, 1, by decide +kernel⟩,
   ⟨0, { R with retained.writing := some { task := 0, cycle := 0, time := 0, since := 0, pages := [], onNew := false }, prog.st := .idle }, { task := 0, cycle := 0, time := 0, since := 0, pages := [], onNew := false },
     by decide +kernel⟩,
   ⟨0, R, by decide +kernel⟩,
   ⟨{ R with retained.lagging := false, retained.queue := [{ task := 0, cycle := 0, time := 0, since := 0, pages := [], onNew := false }], time.wraps := 1000000 }, by decide +kernel⟩,
   ⟨{ R with retained.lagging := true, time.wraps := 1000000 }, by decide +kernel⟩,
   ⟨{ R with prog.st := .preparing, prog.caught := false, prog.castAt := 1 }, by decide +kernel⟩,
   ⟨{ R with prog.st := .preparing, prog.caught := false, prog.castAt := 0 }, by decide +kernel⟩,
   ⟨{ R with prog.st := .preparing, prog.caught := false, prog.acked := false, pair.st := .activePaired }, by decide +kernel⟩,
   ⟨R, by decide +kernel⟩,
   ⟨{ R with prog.st := .ready, pair.st := .activePaired }, by decide +kernel⟩,
   ⟨{ R with prog.cast := 0 }, by decide +kernel⟩,
   ⟨{ R with prog.st := .preparing, prog.cast := 1 }, by decide +kernel⟩,
   ⟨{ R with prog.st := .ready, prog.acked := true, prog.cast := 1 }, by decide +kernel⟩,
   ⟨{ R with time.wraps := 1000000, prog.st := .ready, prog.acked := true, prog.cast := 1 }, by decide +kernel⟩,
   ⟨{ R with time.wraps := 1000000, prog.st := .ready, prog.acked := false, prog.cast := 1, pair.st := .activePaired }, by decide +kernel⟩⟩

theorem witness_ModuleTimeTicksStepsAndIsRead :
    (∃ (s : State), mainPower s = true ∧ 2 ^ 56 ≤ s.time.acc.toNat + s.time.inc.toNat ∧ s.time.stepDue = none) ∧
    (∃ (s : State), (mainPower s = false ∨ s.time.acc.toNat + s.time.inc.toNat < 2 ^ 56)) ∧
    (∃ (s : State), (s.time.stepUsed = true ∨ stepInRange s.time.adj.toInt s = false ∨ s.time.adj = 0)) ∧
    (∃ (s : State), s.time.stepUsed = false ∧ stepInRange s.time.adj.toInt s = true ∧ s.time.adj ≠ 0) ∧
    (∃ (s : State), stepInRange s.time.adj.toInt s = false) ∧
    (∃ (s : State), s.time.tempRate = true ∧ s.time.tempEnd ≤ now s) ∧
    (∃ (s : State), (s.time.tempRate = false ∨ now s < s.time.tempEnd)) ∧
    (∃ (s : State) (d : Int) (t : Nat), s.time.pairStep = some (d, t) ∧ now s < t) ∧
    (∃ (s : State) (d : Int) (t : Nat), s.time.pairStep = some (d, t) ∧ t ≤ now s ∧ 0 ≤ (now s : Int) + d ∧ (now s : Int) + d < 2 ^ 64) ∧
    (∃ (s : State), s.time.pairStep = none) :=
  ⟨⟨{ R with time.stepDue := none, time.acc := BitVec.ofNat 56 (2 ^ 56 - 1), time.inc := 1 }, by decide +kernel⟩,
   ⟨{ R with modes.mode := .plinth }, by decide +kernel⟩,
   ⟨{ R with time.stepUsed := true }, by decide +kernel⟩,
   ⟨{ R with time.stepUsed := false, time.adj := 1 }, by decide +kernel⟩,
   ⟨{ R with time.adj := BitVec.ofNat 64 (2 ^ 63 - 1) }, by decide +kernel⟩,
   ⟨{ R with time.tempRate := true, time.wraps := 1000000 }, by decide +kernel⟩,
   ⟨{ R with time.tempRate := false }, by decide +kernel⟩,
   ⟨{ R with time.pairStep := some (0, 1) }, 0, 1, by decide +kernel⟩,
   ⟨{ R with time.pairStep := some (0, 0), time.wraps := 1000000 }, 0, 0, by decide +kernel⟩,
   ⟨{ R with time.pairStep := none }, by decide +kernel⟩⟩

theorem witness_TimeSourcesMeasureAndAreLost :
    (∃ (p : Fin 4) (d : PtpDataset) (s : State), portUp p.val s = true ∧ d.domain = ptpDomain s ∧ -4 ≤ d.logSyncInterval ∧ d.logSyncInterval ≤ 0) ∧
    (∃ (p : Fin 4) (s : State), portUp p.val s = false) ∧
    (∃ (p : Fin 4) (s : State), portUp p.val s = true ∧ (tabGet none s.time.masters p.val).isSome = true) ∧
    (∃ (p : Fin 4) (n : BitVec 16) (s : State) (e : PtpExchange), tabGet none s.time.exchange p.val = some e ∧ e.seq = n ∧ e.origin = none) ∧
    (∃ (p : Fin 4) (n : BitVec 16) (s : State) (e : PtpExchange), tabGet none s.time.exchange p.val = some e ∧ e.seq ≠ n) ∧
    (∃ (p : Fin 4) (r : Nat) (c : Int) (tx : Word) (s : State) (e : PtpExchange) (t1 : Int), tabGet none s.time.exchange p.val = some e ∧ e.origin = some t1 ∧ (tabGet [] s.time.delays p.val) ≠ [] ∧
      medianOf (tabGet [] s.time.delays p.val) + 1000 < ((e.rx - t1) + ((r : Int) - c - (extend tx (now s) + portLatency p.val false s))) / 2) ∧
    (∃ (p : Fin 4) (r : Nat) (c : Int) (tx : Word) (s : State) (e : PtpExchange) (t1 : Int), tabGet none s.time.exchange p.val = some e ∧ e.origin = some t1 ∧ ((tabGet [] s.time.delays p.val) = [] ∨ ((e.rx - t1) + ((r : Int) - c - (extend tx (now s) + portLatency p.val false s))) / 2 ≤ medianOf (tabGet [] s.time.delays p.val) + 1000) ∧
      s.time.masterPort = p.val) ∧
    (∃ (p : Fin 4) (r : Nat) (c : Int) (tx : Word) (s : State) (e : PtpExchange) (t1 : Int), tabGet none s.time.exchange p.val = some e ∧ e.origin = some t1 ∧ ((tabGet [] s.time.delays p.val) = [] ∨ ((e.rx - t1) + ((r : Int) - c - (extend tx (now s) + portLatency p.val false s))) / 2 ≤ medianOf (tabGet [] s.time.delays p.val) + 1000) ∧
      s.time.masterPort ≠ p.val) ∧
    (∃ (p : Fin 4) (s : State), tabGet none s.time.exchange p.val = none) ∧
    (∃ (s : State), s.time.source = 1 ∧ s.time.servo = .locked ∧ s.time.lastMeasured + 3 * sec ≤ now s ∧ timeFallback s = none) ∧
    (∃ (s : State), s.time.source = 1 ∧ s.time.servo = .locked ∧ now s < s.time.lastMeasured + 3 * sec) ∧
    (∃ (s : State) (t : Nat), s.time.quietSince = some t ∧ s.time.large = true ∧ t + 10 * sec ≤ now s) ∧
    (∃ (s : State) (t : Nat), s.time.quietSince = some t ∧ s.time.large = true ∧ now s < t + 10 * sec) ∧
    (∃ (s : State), s.time.ppsLast = none) ∧
    (∃ (w : _) (s : State) (t0 : Int), s.time.ppsLast = some t0 ∧ ((extend w (now s)) < t0 ∨ (sec : Int) + ms < (extend w (now s)) - t0)) ∧
    (∃ (w : _) (s : State) (t0 : Int), s.time.ppsLast = some t0 ∧ t0 ≤ (extend w (now s)) ∧ (extend w (now s)) - t0 < (sec : Int) - ms) ∧
    (∃ (w : Word) (s : State) (t0 : Int), s.time.ppsLast = some t0 ∧ ((extend w (now s)) - t0 - sec).natAbs ≤ ms) ∧
    (∃ (t : Int) (s : State), s.time.ppsLast = some t ∧ s.time.ppsOk = true ∧ t + 3 * sec + ms ≤ now s) ∧
    (∃ (s : State), s.time.ppsOk = false) ∧
    (∃ (s : State), use10Mhz s = true ∧ s.time.valid = true) ∧
    (∃ (s : State), use10Mhz s = false) ∧
    (∃ (s : State), s.time.ppsOutEn = true ∧ s.time.valid = true ∧ s.time.ppsOut = false ∧ now s % sec < s.time.inc.toNat / 2 ^ 24) ∧
    (∃ (s : State), s.time.plinthLoaded = true ∧ s.time.valid = true ∧ s.time.plinthAt + 3600 * sec ≤ now s ∧ 2 < ((ticksOf (now s) : Int) - s.plinth.ticks.toNat).natAbs) ∧
    (∃ (s : State), s.time.plinthLoaded = true ∧ s.time.valid = true ∧ s.time.plinthAt + 3600 * sec ≤ now s ∧ ((ticksOf (now s) : Int) - s.plinth.ticks.toNat).natAbs ≤ 2) ∧
    (∃ (s : State), s.time.plinthLoaded = true ∧ s.time.valid = true ∧ now s < s.time.plinthAt + 3600 * sec) ∧
    (∃ (s : State), s.time.valid = false ∧ firmwareRuns s = true ∧ due s.time.lastNotValid (3600 * sec) (now s) = true) ∧
    (∃ (s : State), s.modes.mode = .standby ∧ s.time.source = 3) ∧
    (∃ (s : State), s.modes.mode ≠ .standby) :=
  ⟨⟨0, { domain := 0, master := 0, priority1 := 0, clockClass := 0, clockAccuracy := 0, variance := 0, priority2 := 0, grandmaster := 0, stepsRemoved := 0, logSyncInterval := -4, utcOffset := 0, utcValid := false },
     { R with net.port := R.net.port.map fun x => { x with link := true } }, by decide +kernel⟩,
   ⟨0, R, by decide +kernel⟩,
   ⟨0, { R with net.port := R.net.port.map fun x => { x with link := true }, time.masters := [(0, some { domain := 0, master := 0, priority1 := 0, clockClass := 0, clockAccuracy := 0, variance := 0, priority2 := 0, grandmaster := 0, stepsRemoved := 0, logSyncInterval := -4, utcOffset := 0, utcValid := false })] },
     by decide +kernel⟩,
   ⟨0, 0, { R with time.exchange := [(0, some { seq := 0, rx := 0, origin := none })] }, { seq := 0, rx := 0, origin := none }, by decide +kernel⟩,
   ⟨0, 1, { R with time.exchange := [(0, some { seq := 0, rx := 0, origin := none })] }, { seq := 0, rx := 0, origin := none }, by decide +kernel⟩,
   ⟨0, 10000000000, 0, 0, { R with time.exchange := [(0, some { seq := 0, rx := 0, origin := some 0 })], time.delays := [(0, [0])] }, { seq := 0, rx := 0, origin := some 0 },
     0, by decide +kernel⟩,
   ⟨0, 0, 0, 0, { R with time.masterPort := 0, time.exchange := [(0, some { seq := 0, rx := 0, origin := some 0 })] }, { seq := 0, rx := 0, origin := some 0 }, 0, by decide +kernel⟩,
   ⟨0, 0, 0, 0, { R with time.exchange := [(0, some { seq := 0, rx := 0, origin := some 0 })], time.masterPort := 1 }, { seq := 0, rx := 0, origin := some 0 }, 0, by decide +kernel⟩,
   ⟨0, R, by decide +kernel⟩,
   ⟨{ R with time.source := 1, time.servo := .locked, time.wraps := 1000000 }, by decide +kernel⟩,
   ⟨{ R with time.source := 1, time.servo := .locked }, by decide +kernel⟩,
   ⟨{ R with time.quietSince := some 0, time.large := true, time.wraps := 1000000 }, 0, by decide +kernel⟩,
   ⟨{ R with time.quietSince := some 0, time.large := true }, 0, by decide +kernel⟩,
   ⟨{ R with time.ppsLast := none }, by decide +kernel⟩,
   ⟨0, { R with time.ppsLast := some 0, time.wraps := 1000000 }, 0, by decide +kernel⟩,
   ⟨default, { R with time.ppsLast := some 0 }, 0, by decide +kernel⟩,
   ⟨0, { R with time.ppsLast := some (-1000000000) }, -1000000000, by decide +kernel⟩,
   ⟨0, { R with time.ppsLast := some 0, time.ppsOk := true, time.wraps := 1000000 }, by decide +kernel⟩,
   ⟨{ R with time.ppsOk := false }, by decide +kernel⟩,
   ⟨{ R with time.valid := true, cfg.started := { R.cfg.cur with recs := [(2 * 2 ^ 32, zeros 3 ++ [1] ++ zeros 28)] } }, by decide +kernel⟩,
   ⟨R, by decide +kernel⟩,
   ⟨{ R with time.ppsOutEn := true, time.valid := true, time.ppsOut := false }, by decide +kernel⟩,
   ⟨{ R with time.plinthLoaded := true, time.valid := true, time.wraps := 230000000 }, by decide +kernel⟩,
   ⟨{ R with time.plinthLoaded := true, time.valid := true, time.wraps := 1000000 }, by decide +kernel⟩,
   ⟨{ R with time.plinthLoaded := true, time.valid := true }, by decide +kernel⟩,
   ⟨{ R with time.valid := false, modes.mode := .run }, by decide +kernel⟩,
   ⟨{ R with modes.mode := .standby, time.source := 3 }, by decide +kernel⟩,
   ⟨R, by decide +kernel⟩⟩

theorem witness_PlinthCountsLoadsAndAlarms :
    (∃ (s : State), s.plinth.pendTicks = false ∧ s.plinth.pendWday = false) ∧
    (∃ (s : State), (s.plinth.pendTicks = true ∨ s.plinth.pendWday = true)) ∧
    (∃ (s : State), s.plinth.pendTicks = true ∧ s.plinth.loadWait = 0) ∧
    (∃ (s : State), s.plinth.pendWday = true ∧ s.plinth.loadWait = 0 ∧ s.plinth.loadWday ≠ 7 ∧ s.plinth.loadDay.toNat < dayTicks) ∧
    (∃ (s : State), s.plinth.loadWait ≠ 0) ∧
    (∃ (s : State), s.plinth.ticks = 0xFFFFFFFFFFFF#48 ∧ s.plinth.pendTicks = false) ∧
    (∃ (s : State), s.plinth.ticks ≠ 0xFFFFFFFFFFFF#48) ∧
    (∃ (s : State), s.plinth.phase.toNat + 1 = dayTicks ∧ s.plinth.pendWday = false) ∧
    (∃ (s : State), s.plinth.phase.toNat + 1 < dayTicks) ∧
    (∃ (n : Fin 2) (s : State), s.plinth.alarms[n].matched = false ∧ alarmMatches s.plinth.alarms[n] (edgeCounts s.plinth).1 (edgeCounts s.plinth).2.1 = true) ∧
    (∃ (n : Fin 2) (s : State), s.plinth.alarms[n].matched = true) ∧
    (∃ (mv : Nat) (s : State), mainPower s = true ∧ mv < 2500 ∧ s.plinth.battLow = false) ∧
    (∃ (mv : Nat) (s : State), mainPower s = true ∧ 2600 ≤ mv ∧ s.plinth.battLow = true) ∧
    (∃ (mv : Nat) (s : State), mainPower s = true ∧ 2500 ≤ mv ∧ mv < 2600) ∧
    (∃ (s : State), mainPower s = false) :=
  ⟨⟨{ R with plinth.pendTicks := false, plinth.pendWday := false }, by decide +kernel⟩,
   ⟨{ R with plinth.pendTicks := true }, by decide +kernel⟩,
   ⟨{ R with plinth.pendTicks := true, plinth.loadWait := 0 }, by decide +kernel⟩,
   ⟨{ R with plinth.pendWday := true, plinth.loadWait := 0 }, by decide +kernel⟩,
   ⟨{ R with plinth.loadWait := 1 }, by decide +kernel⟩,
   ⟨{ R with plinth.ticks := 0xFFFFFFFFFFFF#48, plinth.pendTicks := false }, by decide +kernel⟩,
   ⟨R, by decide +kernel⟩,
   ⟨{ R with plinth.pendWday := false, plinth.phase := BitVec.ofNat 32 (dayTicks - 1) }, by decide +kernel⟩,
   ⟨R, by decide +kernel⟩,
   ⟨0, { R with plinth.alarms := .replicate 2 { alarmReset with enable := true, matched := false, wdays := 0x7F, mask := 1, value := 1 } }, by decide +kernel⟩,
   ⟨0, { R with plinth.alarms := .replicate 2 { alarmReset with matched := true } }, by decide +kernel⟩,
   ⟨2499, { R with plinth.battLow := false }, by decide +kernel⟩,
   ⟨2600, { R with plinth.battLow := true }, by decide +kernel⟩,
   ⟨2500, R, by decide +kernel⟩,
   ⟨{ R with modes.mode := .plinth }, by decide +kernel⟩⟩

theorem witness_PanelsAreDrivenPoweredAndCleaned :
    (∃ (p : Fin 2) (s : State), panelEnabled (panelAt p s).rcd = false) ∧
    (∃ (p : Fin 2) (s : State), s.modes.mode ≠ .plinth ∧ s.power.powerFail = false ∧ panelEnabled (panelAt p s).rcd = true ∧ panelHeldDown p.val s = false ∧ (panelAt p s).framing = false ∧
      (panelAt p s).pwrEn = false ∧ (panelAt p s).newRcd = none ∧ runningOf p s = [] ∧ panelWork p s = true) ∧
    (∃ (p : Fin 2) (s : State), s.modes.mode ≠ .plinth ∧ panelEnabled (panelAt p s).rcd = true ∧ updatesOf p s ≠ [] ∧ due (panelAt p s).tempAt sec (now s) = true) ∧
    (∃ (p : Fin 2) (s : State) (x : Nat), (panelAt p s).differs = some x ∧ x + 10 * sec ≤ now s ∧ runningOf p s ≠ []) ∧
    (∃ (p : Fin 2) (s : State) (x : Nat), (panelAt p s).differs = some x ∧ now s < x + 10 * sec) ∧
    (∃ (p : Fin 2) (s : State), (panelAt p s).pwrEn = true ∧ (panelAt p s).pwrGood = false ∧ (panelAt p s).enabledAt + fld16 (panelAt p s).rcd 24 * ms ≤ now s) ∧
    (∃ (p : Fin 2) (s : State), (panelAt p s).framing = true ∧ (panelAt p s).pwrGood = true) ∧
    (∃ (p : Fin 2) (s : State), panelPowered (panelAt p s) (now s) = true ∧ (panelAt p s).framing = false ∧ max (panelAt p s).lastFrame (panelAt p s).enabledAt + fld16 (panelAt p s).rcd 26 * ms ≤ now s) ∧
    (∃ (p : Fin 2) (s : State) (x : Nat) (y : Nat) (w : Nat) (h : Nat), panelEnabled (panelAt p s).rcd = true ∧ fld16 (panelAt p s).rcd 28 ≠ 0 ∧ (panelAt p s).lastUpdate + fld16 (panelAt p s).rcd 28 * sec ≤ now s ∧
      updatesOf p s = [] ∧ slotsFull s = false ∧ markedRect (panelAt p s) = some (x, y, w, h)) ∧
    (∃ (p : Fin 2) (s : State) (id : Nat) (v : Update), s.retained.queue = [] ∧ s.loop.dirty = false ∧ (updatesOf p s).find? (fun u => u.id == id && u.st == .checkpointing) = some v) ∧
    (∃ (p : Fin 2) (s : State) (id : Nat), ((∀ u ∈ updatesOf p s, u.id ≠ id) ∨ s.retained.queue ≠ [] ∨ s.loop.dirty = true)) :=
  ⟨⟨0, R, by decide +kernel⟩,
   ⟨0, { R with power.powerFail := false, panel := R.panel.map fun x => { x with rcd := [0, 1] ++ zeros 26 ++ le 2 1 ++ zeros 2, framing := false, pwrEn := false, newRcd := none }, updates := [{ panel := 0, id := 0, order := 0, st := .queued, mode := 0, x := 0, y := 0, w := 1, h := 1, image := [], superseded := 0, excursion := false, cleaning := false }], modes.mode := .run },
     by decide +kernel⟩,
   ⟨0, { R with panel := R.panel.map fun x => { x with rcd := [0, 1] ++ zeros 26 ++ le 2 1 ++ zeros 2, tempAt := none }, updates := [{ panel := 0, id := 0, order := 0, st := .queued, mode := 0, x := 0, y := 0, w := 1, h := 1, image := [], superseded := 0, excursion := false, cleaning := false }], modes.mode := .run },
     by decide +kernel⟩,
   ⟨0, { R with time.wraps := 1000000, panel := R.panel.map fun x => { x with differs := some 0 }, updates := [{ panel := 0, id := 0, order := 0, st := .running, mode := 0, x := 0, y := 0, w := 1, h := 1, image := [], superseded := 0, excursion := false, cleaning := false }] },
     0, by decide +kernel⟩,
   ⟨0, { R with panel := R.panel.map fun x => { x with differs := some 1 } }, 1, by decide +kernel⟩,
   ⟨0, { R with time.wraps := 1000000, panel := R.panel.map fun x => { x with pwrEn := true, pwrGood := false } }, by decide +kernel⟩,
   ⟨0, { R with panel := R.panel.map fun x => { x with framing := true, pwrGood := true } }, by decide +kernel⟩,
   ⟨0, { R with time.wraps := 1000000, panel := R.panel.map fun x => { x with pwrEn := true, pwrGood := true, confirmed := true, enabledAt := 0, framing := false, lastFrame := 0 } },
     by decide +kernel⟩,
   ⟨0, { R with time.wraps := 1000000, panel := R.panel.map fun x => { x with rcd := [0, 1] ++ zeros 26 ++ le 2 1 ++ zeros 2, lastUpdate := 0, pix := [(0, { level := 0, prev := 0, ledger := 30000, flight := none, next := none })] } },
     0, 0, 1, 1, by decide +kernel⟩,
   ⟨0, { R with retained.queue := [], loop.dirty := false, updates := [{ panel := 0, id := 0, order := 0, st := .checkpointing, mode := 0, x := 0, y := 0, w := 1, h := 1, image := [], superseded := 0, excursion := false, cleaning := false }] },
     0, { panel := 0, id := 0, order := 0, st := .checkpointing, mode := 0, x := 0, y := 0, w := 1, h := 1, image := [], superseded := 0, excursion := false, cleaning := false },
     by decide +kernel⟩,
   ⟨0, R, 0, by decide +kernel⟩⟩

theorem witness_PairLinesHeartbeatsAndTakeoverAct :
    (∃ (s : State), pairConfigured s = true ∧ s.modes.mode ≠ .plinth) ∧
    (∃ (s : State), pairConfigured s = false) ∧
    (∃ (s : State), pairConfigured s = true ∧ s.pair.partnerLost = false ∧ s.pair.lastHb + 1550 * us ≤ now s) ∧
    (∃ (s : State), now s < s.pair.lastHb + 1550 * us) ∧
    (∃ (s : State), s.modes.mode = .run) ∧
    (∃ (s : State), (s.modes.mode = .boot ∨ s.modes.mode = .safe)) ∧
    (∃ (s : State), s.modes.mode = .plinth) ∧
    (∃ (s : State), (pairConfigured s = false ∨ s.modes.mode ≠ .standby)) ∧
    (∃ (s : State), pairConfigured s = true ∧ s.modes.mode = .standby ∧ s.pair.st = .inStep ∧ s.pair.partnerLost = true ∧ s.pair.liveStale = false ∧ s.pair.actIn = true) ∧
    (∃ (s : State), pairConfigured s = true ∧ s.pair.st ≠ .demoting) ∧
    (∃ (s : State), operating s = true ∧ (s.pair.st = .activePaired ∨ s.pair.st = .activeAlone) ∧ s.pair.actOut = true ∧ s.pair.actIn = true ∧ s.pair.liveStale = false ∧ s.pair.demoted = false ∧
      s.pair.position = false) ∧
    (∃ (s : State), operating s = true ∧ (s.pair.st = .activePaired ∨ s.pair.st = .activeAlone) ∧ s.pair.actOut = true ∧ s.pair.actIn = true ∧ s.pair.liveStale = false ∧ s.pair.demoted = false ∧
      s.pair.position = true) ∧
    (∃ (s : State), s.pair.actIn = false) ∧
    (∃ (s : State), s.pair.refreshed + ms ≤ now s) ∧
    (∃ (s : State), now s < s.pair.refreshed + ms) ∧
    (∃ (s : State), pairConfigured s = true ∧ s.pair.demoted = false ∧ s.modes.mode = .standby ∧ s.pair.st = .inStep) ∧
    (∃ (s : State), pairConfigured s = true ∧ s.pair.demoted = false ∧ s.modes.mode = .standby ∧ s.pair.st = .outOfStep) ∧
    (∃ (s : State), operating s = true ∧ s.pair.st = .demoting ∧ s.pair.handAt = none ∧ s.pair.demoteAt + 5 * ms ≤ now s) ∧
    (∃ (s : State), operating s = true ∧ s.pair.st = .demoting ∧ s.pair.handAt = none ∧ now s < s.pair.demoteAt + 5 * ms) ∧
    (∃ (l : Fin 2) (s : State), healthOf (0x30 + l.val) s ≠ 2 ∧ s.pair.up[l] = false) ∧
    (∃ (l : Fin 2) (k : Fin 2) (s : State), healthOf (0x30 + l.val) s ≠ 2 ∧ s.pair.up[l] = true ∧ k ≠ l ∧ s.pair.up[k] = true) ∧
    (∃ (s : State), s.modes.mode = .safe) ∧
    (∃ (s : State), pairConfigured s = true ∧ isActive s = true) ∧
    (∃ (h : Hello) (s : State), s.modes.mode = .standby ∧ s.pair.st = .catchingUp ∧ s.pair.phase = 0 ∧ helloFail h (drawbarArrives { s with pair := { s.pair with hello := some h } }) = 0) ∧
    (∃ (s : State) (h : Heartbeat) (t : Nat), s.pair.partner = some h ∧ bit (fld8 s.pair.rcd 0) 1 = true ∧ s.pair.st = .activePaired ∧ operating s = true ∧ h.pubLinksUp = true ∧
      pubLinksUp s = false ∧ reach s + fld16 s.pair.rcd 4 ≤ h.reach ∧ s.pair.reachSince = some t ∧ t + fld16 s.pair.rcd 6 * ms ≤ now s) ∧
    (∃ (s : State) (h : Heartbeat) (t : Nat), s.pair.partner = some h ∧ bit (fld8 s.pair.rcd 0) 1 = true ∧ s.pair.st = .activePaired ∧ operating s = true ∧ h.pubLinksUp = true ∧
      pubLinksUp s = false ∧ reach s + fld16 s.pair.rcd 4 ≤ h.reach ∧ s.pair.reachSince = some t ∧ now s < t + fld16 s.pair.rcd 6 * ms) ∧
    (∃ (s : State), s.pair.reachSince = none) ∧
    (∃ (s : State), s.pair.st = .outOfStep ∧ s.modes.mode = .standby ∧ s.pair.up.toList.any id = true ∧ s.pair.failed = 0 ∧ s.pair.leftAt + 5 * sec ≤ now s) ∧
    (∃ (s : State), s.pair.st = .outOfStep ∧ s.modes.mode = .standby ∧ s.pair.up.toList.any id = true ∧ s.pair.failed = 0 ∧ now s < s.pair.leftAt + 5 * sec) :=
  ⟨⟨{ R with pair.rcd := le 1 1 }, by decide +kernel⟩,
   ⟨R, by decide +kernel⟩,
   ⟨{ R with pair.rcd := le 1 1, pair.partnerLost := false, time.wraps := 1000000 }, by decide +kernel⟩,
   ⟨R, by decide +kernel⟩,
   ⟨{ R with modes.mode := .run }, by decide +kernel⟩,
   ⟨{ R with modes.mode := .boot }, by decide +kernel⟩,
   ⟨{ R with modes.mode := .plinth }, by decide +kernel⟩,
   ⟨R, by decide +kernel⟩,
   ⟨{ R with pair.rcd := le 1 1, modes.mode := .standby, pair.st := .inStep, pair.partnerLost := true, pair.liveStale := false, pair.actIn := true }, by decide +kernel⟩,
   ⟨{ R with pair.rcd := le 1 1 }, by decide +kernel⟩,
   ⟨{ R with modes.mode := .run, pair.st := .activePaired, pair.actOut := true, pair.actIn := true, pair.liveStale := false, pair.demoted := false, pair.position := false },
     by decide +kernel⟩,
   ⟨{ R with modes.mode := .run, pair.st := .activePaired, pair.actOut := true, pair.actIn := true, pair.liveStale := false, pair.demoted := false, pair.position := true }, by decide +kernel⟩,
   ⟨{ R with pair.actIn := false }, by decide +kernel⟩,
   ⟨{ R with time.wraps := 1000000 }, by decide +kernel⟩,
   ⟨R, by decide +kernel⟩,
   ⟨{ R with pair.rcd := le 1 1, pair.demoted := false, modes.mode := .standby, pair.st := .inStep }, by decide +kernel⟩,
   ⟨{ R with pair.rcd := le 1 1, pair.demoted := false, modes.mode := .standby, pair.st := .outOfStep }, by decide +kernel⟩,
   ⟨{ R with modes.mode := .run, pair.st := .demoting, pair.handAt := none, time.wraps := 1000000 }, by decide +kernel⟩,
   ⟨{ R with modes.mode := .run, pair.st := .demoting, pair.handAt := none }, by decide +kernel⟩,
   ⟨0, R, by decide +kernel⟩,
   ⟨0, 1, { R with pair.up := .replicate 2 true }, by decide +kernel⟩,
   ⟨{ R with modes.mode := .safe }, by decide +kernel⟩,
   ⟨{ R with pair.rcd := le 1 1, modes.mode := .run }, by decide +kernel⟩,
   ⟨{ owner := 0, position := false, protocol := 0, signingKey := true, credential := true, lifecycle := lifeCode R.modes.life, split := false, active := false }, { R with modes.mode := .standby, pair.st := .catchingUp, pair.phase := 0, modes.signingKey := true, modes.pairCred := true },
     by decide +kernel⟩,
   ⟨{ R with pair.partner := some { aBeat with reach := 1 }, pair.rcd := [2, 0, 0, 0, 0, 0, 0, 0], pair.st := .activePaired, modes.mode := .run, pair.reachSince := some 0 },
     { aBeat with reach := 1 }, 0, by decide +kernel⟩,
   ⟨{ R with pair.partner := some { aBeat with reach := 1 }, pair.rcd := [2, 0, 0, 0, 0, 0, 1, 0], pair.st := .activePaired, modes.mode := .run, pair.reachSince := some 0 },
     { aBeat with reach := 1 }, 0, by decide +kernel⟩,
   ⟨{ R with pair.reachSince := none }, by decide +kernel⟩,
   ⟨{ R with pair.st := .outOfStep, modes.mode := .standby, pair.failed := 0, time.wraps := 1000000, pair.up := .replicate 2 true }, by decide +kernel⟩,
   ⟨{ R with pair.st := .outOfStep, modes.mode := .standby, pair.failed := 0, pair.up := .replicate 2 true }, by decide +kernel⟩⟩

theorem witness_HandoverAndCatchUpRun :
    (∃ (s : State) (t : Nat), s.pair.handAt = some t ∧ s.pair.st = .handingOver ∧ s.pair.handed = false ∧ s.pair.fading = false ∧ t ≤ now s + ms ∧ s.pair.former = true) ∧
    (∃ (s : State) (t : Nat), s.pair.handAt = some t ∧ s.pair.st = .handingOver ∧ s.pair.handed = false ∧ now s + ms < t) ∧
    (∃ (s : State) (t : Nat), s.pair.handAt = some t ∧ s.pair.st = .handingOver ∧ s.pair.handed = false ∧ now s < t) ∧
    (∃ (s : State) (t : Nat), s.pair.handAt = some t ∧ s.pair.st = .handingOver ∧ s.pair.handed = false ∧ t ≤ now s ∧ s.pair.former = true) ∧
    (∃ (s : State) (t : Nat), s.pair.handAt = some t ∧ s.pair.st = .handingOver ∧ s.pair.handed = false ∧ t ≤ now s ∧ s.pair.former = false ∧ s.modes.mode = .standby) ∧
    (∃ (s : State), s.pair.handAt = none) ∧
    (∃ (s : State), s.pair.fading = true ∧ s.pair.former = true) ∧
    (∃ (s : State), s.pair.fading = true ∧ s.pair.former = false) ∧
    (∃ (s : State) (t : Nat), s.pair.handAt = some t ∧ t + ms ≤ now s ∧ operating s = true ∧ s.pair.st = .handingOver ∧ s.pair.handed = true ∧ s.pair.former = false) ∧
    (∃ (s : State) (t : Nat), s.pair.handAt = some t ∧ t + ms ≤ now s ∧ operating s = true ∧ s.pair.st = .handingOver ∧ s.pair.handed = true ∧ s.pair.former = true) ∧
    (∃ (s : State) (t : Nat), s.pair.verifyAt = some t ∧ t ≤ now s) ∧
    (∃ (s : State) (t : Nat), s.pair.verifyAt = some t ∧ now s < t) ∧
    (∃ (t : Fin 32) (s : State) (n : Nat), s.modes.mode = .standby ∧ s.task[t].cycleNo ≤ n ∧ ((∀ x ∈ ((tabGet [] s.pair.agreed t.val).filter (fun x => decide (s.task[t].cycleNo ≤ x.cycle))),
      x.cycle ≠ n))) ∧
    (∃ (s : State) (g : Nat), s.modes.mode = .standby ∧ s.image.gen < g ∧ ((∀ m ∈ s.pair.merges, m.generation ≠ g))) ∧
    (∃ (t : Fin 32) (s : State), s.modes.mode = .standby ∧ s.pair.st = .inStep ∧ s.task[t].phase = .gathered ∧ agreedFor t.val s = none ∧ s.task[t].next + ms ≤ now s) ∧
    (∃ (t : Fin 32) (s : State) (n : Nat), s.modes.mode = .standby ∧ ((∀ x ∈ ((tabGet [] s.pair.digests t.val).filter (fun x => decide (s.task[t].cycleNo ≤ x.cycle))), x.cycle ≠ n)) ∧
      s.task[t].phase ≠ .compared) ∧
    (∃ (s : State), s.modes.mode ≠ .standby ∧ pairInStep s = true ∧ s.prog.st = .ready) ∧
    (∃ (s : State), s.pair.st = .catchingUp ∧ s.modes.mode = .standby ∧ s.pair.phase = 5) ∧
    (∃ (s : State), s.pair.st = .catchingUp ∧ s.modes.mode = .standby ∧ s.pair.phase = 1) ∧
    (∃ (s : State), s.pair.st = .catchingUp ∧ s.modes.mode = .standby ∧ s.pair.phase = 2) ∧
    (∃ (s : State), s.pair.st = .catchingUp ∧ s.modes.mode = .standby ∧ s.pair.phase = 3) ∧
    (∃ (s : State), s.pair.st = .catchingUp ∧ s.modes.mode = .standby ∧ s.pair.phase = 4) ∧
    (∃ (s : State), s.pair.st = .catchingUp ∧ s.modes.mode = .standby ∧ s.pair.phase ≠ 5) ∧
    (∃ (s : State), s.pair.st ≠ .catchingUp) ∧
    (∃ (s : State), isActive s = true ∧ partnerCatching s = true ∧ s.pair.suspended = true) ∧
    (∃ (s : State), isActive s = true ∧ partnerCatching s = true ∧ s.pair.suspended = false) :=
  ⟨⟨{ R with pair.handAt := some 0, pair.st := .handingOver, pair.handed := false, pair.fading := false, pair.former := true }, 0, by decide +kernel⟩,
   ⟨{ R with pair.handAt := some (2 * ms), pair.st := .handingOver, pair.handed := false }, 2 * ms, by decide +kernel⟩,
   ⟨{ R with pair.handAt := some 1, pair.st := .handingOver, pair.handed := false }, 1, by decide +kernel⟩,
   ⟨{ R with pair.handAt := some 0, pair.st := .handingOver, pair.handed := false, time.wraps := 1000000, pair.former := true }, 0, by decide +kernel⟩,
   ⟨{ R with pair.handAt := some 0, pair.st := .handingOver, pair.handed := false, time.wraps := 1000000, pair.former := false, modes.mode := .standby }, 0, by decide +kernel⟩,
   ⟨{ R with pair.handAt := none }, by decide +kernel⟩,
   ⟨{ R with pair.fading := true, pair.former := true }, by decide +kernel⟩,
   ⟨{ R with pair.fading := true, pair.former := false }, by decide +kernel⟩,
   ⟨{ R with pair.handAt := some 0, time.wraps := 1000000, modes.mode := .run, pair.st := .handingOver, pair.handed := true, pair.former := false }, 0, by decide +kernel⟩,
   ⟨{ R with pair.handAt := some 0, time.wraps := 1000000, modes.mode := .run, pair.st := .handingOver, pair.handed := true, pair.former := true }, 0, by decide +kernel⟩,
   ⟨{ R with pair.verifyAt := some 0, time.wraps := 1000000 }, 0, by decide +kernel⟩,
   ⟨{ R with pair.verifyAt := some 1 }, 1, by decide +kernel⟩,
   ⟨0, { R with modes.mode := .standby }, 0, by decide +kernel⟩,
   ⟨{ R with modes.mode := .standby }, R.image.gen + 1, by decide +kernel⟩,
   ⟨0, { R with modes.mode := .standby, pair.st := .inStep, time.wraps := 1000000, task := R.task.map fun x => { x with phase := .gathered } }, by decide +kernel⟩,
   ⟨0, { R with modes.mode := .standby }, 0, by decide +kernel⟩,
   ⟨{ R with prog.st := .ready, pair.st := .activePaired }, by decide +kernel⟩,
   ⟨{ R with pair.st := .catchingUp, modes.mode := .standby, pair.phase := 5 }, by decide +kernel⟩,
   ⟨{ R with pair.st := .catchingUp, modes.mode := .standby, pair.phase := 1 }, by decide +kernel⟩,
   ⟨{ R with pair.st := .catchingUp, modes.mode := .standby, pair.phase := 2 }, by decide +kernel⟩,
   ⟨{ R with pair.st := .catchingUp, modes.mode := .standby, pair.phase := 3 }, by decide +kernel⟩,
   ⟨{ R with pair.st := .catchingUp, modes.mode := .standby, pair.phase := 4 }, by decide +kernel⟩,
   ⟨{ R with pair.st := .catchingUp, modes.mode := .standby }, by decide +kernel⟩,
   ⟨R, by decide +kernel⟩,
   ⟨{ R with modes.mode := .run, pair.suspended := true, pair.partner := some aBeat, pair.partnerLost := false }, by decide +kernel⟩,
   ⟨{ R with modes.mode := .run, pair.suspended := false, pair.partner := some aBeat, pair.partnerLost := false }, by decide +kernel⟩⟩

theorem witness_RecorderWritesAndSummarises :
    (∃ (s : State) (r : Record) (rs : List Record), writerRuns s = true ∧ s.recorder.reserve = r :: rs ∧ s.recorder.waiting = [] ∧ openRoom r s.recorder.segs = true) ∧
    (∃ (s : State) (r : Record), writerRuns s = true ∧ s.recorder.reserve = [] ∧ s.recorder.general = [r] ∧ openRoom r s.recorder.segs = true) ∧
    (∃ (s : State), (writerRuns s = false ∨ (s.recorder.reserve = [] ∧ s.recorder.general = []))) ∧
    (∃ (s : State), s.recorder.judged < now s / sec ∧ s.recorder.paths.toList.any (·.flood) = true ∧ writerRuns s = true) ∧
    (∃ (s : State), (s.recorder.paths.toList.any (·.flood) = false ∨ now s / sec ≤ s.recorder.judged)) :=
  ⟨⟨{ R with recorder.reserve := [{ time := 0, sev := 1, kind := 0, code := 0, flags := 0, source := 0, body := [] }], recorder.waiting := [], modes.mode := .run, recorder.segs := [{ cls := 1, full := false, first := 0, last := 0, opened := 0, recs := [] }] },
     { time := 0, sev := 1, kind := 0, code := 0, flags := 0, source := 0, body := [] }, [], by decide +kernel⟩,
   ⟨{ R with recorder.reserve := [], recorder.general := [{ time := 0, sev := 1, kind := 0, code := 0, flags := 0, source := 0, body := [] }], modes.mode := .run, recorder.segs := [{ cls := 1, full := false, first := 0, last := 0, opened := 0, recs := [] }] },
     { time := 0, sev := 1, kind := 0, code := 0, flags := 0, source := 0, body := [] }, by decide +kernel⟩,
   ⟨R, by decide +kernel⟩,
   ⟨{ R with modes.mode := .run, time.wraps := 1000000, recorder.paths := R.recorder.paths.map fun x => { x with flood := true } }, by decide +kernel⟩,
   ⟨R, by decide +kernel⟩⟩

theorem witness_RtcCtrlHasItsFields :
    (∃ (s : State), s.plinth.pendTicks = false ∧ s.plinth.pendWday = false) ∧
    (∃ (s : State), (s.plinth.pendTicks = true ∨ s.plinth.pendWday = true)) ∧
    (∃ (v : _) (w : _), v &&& 7#32 = w &&& 7#32) :=
  ⟨⟨{ R with plinth.pendTicks := false, plinth.pendWday := false }, by decide +kernel⟩,
   ⟨{ R with plinth.pendTicks := true }, by decide +kernel⟩,
   ⟨default, default, by decide +kernel⟩⟩

theorem witness_CanStatusHasItsFields : ∃ (c : Fin 8) (s : State), (canAt c.val s).enabled = true ∧ (canAt c.val s).st.toNat < 2 ∧ (canAt c.val s).rec_ = 0xFF#8 :=
  ⟨0, { R with can := R.can.map fun x => { x with enabled := true, st := 0, rec_ := 0xFF } }, by decide +kernel⟩

theorem witness_ByteMemoriesReadBackAndStayCanonical :
    (∃ (m : Mem) (bs : List Byte) (i : Nat), tabWf 0 m = true ∧ i < bs.length) ∧
    (∃ (m : Mem) (a : Nat) (bs : List Byte) (k : Nat), tabWf 0 m = true ∧ (k < a ∨ a + bs.length ≤ k)) ∧
    (∃ (m : Mem) (n : Mem), tabWf 0 m = true ∧ tabWf 0 n = true ∧ ((∀ k, memRead m k = memRead n k))) :=
  ⟨⟨[(0, 1)], [0], 0, by decide +kernel⟩,
   ⟨[(0, 1)], 1, [0], 0, by decide +kernel⟩,
   ⟨[(0, 1)], [(0, 1)], by decide, by decide, fun _ => rfl⟩⟩

theorem witness_ReadsAndProgramCommandsComplete :
    (∃ (m : MbxId) (q : Req) (s : State), InFlight m 0x0101 q s) ∧
    (∃ (m : MbxId) (q : Req) (s : State), InFlight m 0x0102 q s) ∧
    (∃ (m : MbxId) (q : Req) (s : State), InFlight m 0x0103 q s) ∧
    (∃ (m : MbxId) (q : Req) (s : State), InFlight m 0x0202 q s) ∧
    (∃ (m : MbxId) (q : Req) (s : State), InFlight m 0x0401 q s ∧ 1 ≤ (fld32 q.pay 4) ∧ (fld32 q.pay 4) ≤ 65536 ∧ (fld32 q.pay 0) + (fld32 q.pay 4) ≤ 0x10000000 ∧ q.count = 0 ∧
      s.prog.st = .idle ∧ (vget slotReset s.prog.slot (loadSlot s)).st = .loading) ∧
    (∃ (m : MbxId) (q : Req) (s : State), InFlight m 0x0403 q s ∧ bit (fld32 q.pay 8) 1 = true ∧ (s.prog.st = .preparing ∨ s.prog.st = .ready) ∧ (s.prog.cast = 0 ∨ now s + 2 * ms < s.prog.cast)) :=
  ⟨⟨.loc 0, requestOf (.loc 0) (box 0x0101 (zeros 64)), inBox (box 0x0101 (zeros 64)) (R), inBox_met _ _ _ (by decide +kernel)⟩,
   ⟨.loc 0, requestOf (.loc 0) (box 0x0102 (zeros 64)), inBox (box 0x0102 (zeros 64)) (R), inBox_met _ _ _ (by decide +kernel)⟩,
   ⟨.loc 0, requestOf (.loc 0) (box 0x0103 (zeros 64)), inBox (box 0x0103 (zeros 64)) (R), inBox_met _ _ _ (by decide +kernel)⟩,
   ⟨.loc 0, requestOf (.loc 0) (box 0x0202 (zeros 64)), inBox (box 0x0202 (zeros 64)) (R), inBox_met _ _ _ (by decide +kernel)⟩,
   ⟨.loc 0, requestOf (.loc 0) (box 0x0401 (le 4 0 ++ le 4 65536)), inBox (box 0x0401 (le 4 0 ++ le 4 65536)) ({ R with prog.st := .idle, prog.slot := R.prog.slot.set 0 { slotReset with st := .loading } }),
     inBox_met _ _ _ (by decide +kernel), by decide +kernel⟩,
   ⟨.loc 0, requestOf (.loc 0) (box 0x0403 (zeros 8 ++ le 4 2)), inBox (box 0x0403 (zeros 8 ++ le 4 2)) ({ R with prog.st := .ready, prog.cast := 0 }), inBox_met _ _ _ (by decide +kernel),
     by decide +kernel⟩⟩

theorem witness_TimeCommandsAndEventsComplete :
    (∃ (s : State), mainPower s = true ∧ 2 ^ 56 ≤ s.time.acc.toNat + s.time.inc.toNat ∧ s.time.stepDue = none) ∧
    (∃ (s : State), s.time.stepUsed = false ∧ stepInRange s.time.adj.toInt s = true ∧ s.time.adj ≠ 0) ∧
    (∃ (s : State), s.time.tempRate = true ∧ s.time.tempEnd ≤ now s) ∧
    (∃ (s : State) (d : Int) (t : Nat), s.time.pairStep = some (d, t) ∧ t ≤ now s ∧ 0 ≤ (now s : Int) + d ∧ (now s : Int) + d < 2 ^ 64) ∧
    (∃ (p : Fin 4) (d : PtpDataset) (s : State), portUp p.val s = true ∧ d.domain = ptpDomain s ∧ -4 ≤ d.logSyncInterval ∧ d.logSyncInterval ≤ 0 ∧ tabGet none s.time.masters p.val = none) ∧
    (∃ (p : Fin 4) (s : State), portUp p.val s = true ∧ (tabGet none s.time.masters p.val).isSome = true) ∧
    (∃ (p : Fin 4) (s : State) (e : PtpExchange), tabGet none s.time.exchange p.val = some e ∧ e.origin = none) ∧
    (∃ (p : Fin 4) (s : State) (e : PtpExchange) (t1 : Int), tabGet none s.time.exchange p.val = some e ∧ e.origin = some t1 ∧ tabGet [] s.time.delays p.val = [] ∧ s.time.masterPort ≠ p.val) ∧
    (∃ (s : State), s.time.source = 1 ∧ s.time.servo = .locked ∧ s.time.lastMeasured + 3 * sec ≤ now s) ∧
    (∃ (s : State) (t : Nat), s.time.quietSince = some t ∧ s.time.large = true ∧ t + 10 * sec ≤ now s) ∧
    (∃ (s : State), s.time.ppsLast = none) ∧
    (∃ (t : Int) (s : State), s.time.ppsLast = some t ∧ s.time.ppsOk = true ∧ t + 3 * sec + ms ≤ now s ∧ s.time.source ≠ 1) ∧
    (∃ (s : State), use10Mhz s = true ∧ s.time.valid = true) ∧
    (∃ (s : State), s.time.ppsOutEn = true ∧ s.time.valid = true ∧ s.time.ppsOut = false ∧ now s % sec < s.time.inc.toNat / 2 ^ 24) ∧
    (∃ (s : State), s.time.plinthLoaded = true ∧ s.time.valid = true ∧ s.time.plinthAt + 3600 * sec ≤ now s ∧ 2 < ((ticksOf (now s) : Int) - s.plinth.ticks.toNat).natAbs) ∧
    (∃ (s : State), s.time.valid = false ∧ firmwareRuns s = true ∧ due s.time.lastNotValid (3600 * sec) (now s) = true) ∧
    (∃ (s : State), s.modes.mode = .standby ∧ s.time.source = 3) :=
  ⟨⟨{ R with time.stepDue := none, time.acc := BitVec.ofNat 56 (2 ^ 56 - 1), time.inc := 1 }, by decide +kernel⟩,
   ⟨{ R with time.stepUsed := false, time.adj := 1 }, by decide +kernel⟩,
   ⟨{ R with time.tempRate := true, time.wraps := 1000000 }, by decide +kernel⟩,
   ⟨{ R with time.pairStep := some (0, 0), time.wraps := 1000000 }, 0, 0, by decide +kernel⟩,
   ⟨0, { domain := 0, master := 0, priority1 := 0, clockClass := 0, clockAccuracy := 0, variance := 0, priority2 := 0, grandmaster := 0, stepsRemoved := 0, logSyncInterval := -4, utcOffset := 0, utcValid := false },
     { R with net.port := R.net.port.map fun x => { x with link := true } }, by decide +kernel⟩,
   ⟨0, { R with net.port := R.net.port.map fun x => { x with link := true }, time.masters := [(0, some { domain := 0, master := 0, priority1 := 0, clockClass := 0, clockAccuracy := 0, variance := 0, priority2 := 0, grandmaster := 0, stepsRemoved := 0, logSyncInterval := -4, utcOffset := 0, utcValid := false })] },
     by decide +kernel⟩,
   ⟨0, { R with time.exchange := [(0, some { seq := 0, rx := 0, origin := none })] }, { seq := 0, rx := 0, origin := none }, by decide +kernel⟩,
   ⟨0, { R with time.exchange := [(0, some { seq := 0, rx := 0, origin := some 0 })], time.masterPort := 1 }, { seq := 0, rx := 0, origin := some 0 }, 0, by decide +kernel⟩,
   ⟨{ R with time.source := 1, time.servo := .locked, time.wraps := 1000000 }, by decide +kernel⟩,
   ⟨{ R with time.quietSince := some 0, time.large := true, time.wraps := 1000000 }, 0, by decide +kernel⟩,
   ⟨{ R with time.ppsLast := none }, by decide +kernel⟩,
   ⟨0, { R with time.ppsLast := some 0, time.ppsOk := true, time.wraps := 1000000 }, by decide +kernel⟩,
   ⟨{ R with time.valid := true, cfg.started := { R.cfg.cur with recs := [(2 * 2 ^ 32, zeros 3 ++ [1] ++ zeros 28)] } }, by decide +kernel⟩,
   ⟨{ R with time.ppsOutEn := true, time.valid := true, time.ppsOut := false }, by decide +kernel⟩,
   ⟨{ R with time.plinthLoaded := true, time.valid := true, time.wraps := 230000000 }, by decide +kernel⟩,
   ⟨{ R with time.valid := false, modes.mode := .run }, by decide +kernel⟩,
   ⟨{ R with modes.mode := .standby, time.source := 3 }, by decide +kernel⟩⟩

theorem witness_PlinthAndRecorderEventsComplete :
    (∃ (s : State), s.plinth.pendTicks = false ∧ s.plinth.pendWday = false) ∧
    (∃ (s : State), s.plinth.pendTicks = true ∧ s.plinth.loadWait = 0) ∧
    (∃ (s : State), s.plinth.ticks = 0xFFFFFFFFFFFF#48 ∧ s.plinth.pendTicks = false) ∧
    (∃ (s : State), s.plinth.phase.toNat + 1 = dayTicks ∧ s.plinth.pendWday = false) ∧
    (∃ (n : Fin 2) (s : State), s.plinth.alarms[n].matched = false ∧ alarmMatches s.plinth.alarms[n] (edgeCounts s.plinth).1 (edgeCounts s.plinth).2.1 = true) ∧
    (∃ (mv : Nat) (s : State), mainPower s = true ∧ mv < 2500 ∧ s.plinth.battLow = false) ∧
    (∃ (s : State) (r : Record) (rs : List Record), writerRuns s = true ∧ s.recorder.reserve = r :: rs ∧ s.recorder.waiting = [] ∧ openRoom r s.recorder.segs = true) ∧
    (∃ (s : State), s.recorder.judged < now s / sec ∧ s.recorder.paths.toList.any (·.flood) = true ∧ writerRuns s = true) :=
  ⟨⟨{ R with plinth.pendTicks := false, plinth.pendWday := false }, by decide +kernel⟩,
   ⟨{ R with plinth.pendTicks := true, plinth.loadWait := 0 }, by decide +kernel⟩,
   ⟨{ R with plinth.ticks := 0xFFFFFFFFFFFF#48, plinth.pendTicks := false }, by decide +kernel⟩,
   ⟨{ R with plinth.pendWday := false, plinth.phase := BitVec.ofNat 32 (dayTicks - 1) }, by decide +kernel⟩,
   ⟨0, { R with plinth.alarms := .replicate 2 { alarmReset with enable := true, matched := false, wdays := 0x7F, mask := 1, value := 1 } }, by decide +kernel⟩,
   ⟨0, { R with plinth.battLow := false }, by decide +kernel⟩,
   ⟨{ R with recorder.reserve := [{ time := 0, sev := 1, kind := 0, code := 0, flags := 0, source := 0, body := [] }], recorder.waiting := [], modes.mode := .run, recorder.segs := [{ cls := 1, full := false, first := 0, last := 0, opened := 0, recs := [] }] },
     { time := 0, sev := 1, kind := 0, code := 0, flags := 0, source := 0, body := [] }, [], by decide +kernel⟩,
   ⟨{ R with modes.mode := .run, time.wraps := 1000000, recorder.paths := R.recorder.paths.map fun x => { x with flood := true } }, by decide +kernel⟩⟩

theorem witness_PairEventsComplete :
    (∃ (s : State), pairConfigured s = true ∧ s.modes.mode ≠ .plinth) ∧
    (∃ (s : State), pairConfigured s = true ∧ s.pair.partnerLost = false ∧ s.pair.lastHb + 1550 * us ≤ now s) ∧
    (∃ (s : State), s.modes.mode = .run) ∧
    (∃ (s : State), (pairConfigured s = false ∨ s.modes.mode ≠ .standby)) ∧
    (∃ (s : State), pairConfigured s = true ∧ s.pair.st ≠ .demoting) ∧
    (∃ (s : State), operating s = true ∧ s.pair.st = .activeAlone ∧ s.pair.actOut = true ∧ s.pair.actIn = true ∧ s.pair.liveStale = false ∧ s.pair.demoted = false ∧ s.pair.position = true) ∧
    (∃ (s : State), s.pair.refreshed + ms ≤ now s) ∧
    (∃ (s : State), pairConfigured s = true ∧ s.pair.demoted = false ∧ s.modes.mode = .standby ∧ s.pair.st = .outOfStep) ∧
    (∃ (s : State), operating s = true ∧ s.pair.st = .demoting ∧ s.pair.handAt = none ∧ s.pair.demoteAt + 5 * ms ≤ now s) ∧
    (∃ (l : Fin 2) (s : State), healthOf (0x30 + l.val) s ≠ 2 ∧ s.pair.up[l] = false) ∧
    (∃ (s : State), s.modes.mode = .safe) ∧
    (∃ (s : State) (h : Heartbeat) (t : Nat), s.pair.partner = some h ∧ bit (fld8 s.pair.rcd 0) 1 = true ∧ s.pair.st = .activePaired ∧ operating s = true ∧ h.pubLinksUp = true ∧
      pubLinksUp s = false ∧ reach s + fld16 s.pair.rcd 4 ≤ h.reach ∧ s.pair.reachSince = some t ∧ t + fld16 s.pair.rcd 6 * ms ≤ now s) ∧
    (∃ (s : State), s.pair.st = .outOfStep ∧ s.modes.mode = .standby ∧ s.pair.up.toList.any id = true ∧ s.pair.failed = 0 ∧ s.pair.leftAt + 5 * sec ≤ now s) ∧
    (∃ (s : State) (t : Nat), s.pair.handAt = some t ∧ s.pair.st = .handingOver ∧ s.pair.handed = false ∧ s.pair.former = true ∧ s.pair.fading = false ∧ t ≤ now s + ms) ∧
    (∃ (s : State) (t : Nat), s.pair.handAt = some t ∧ s.pair.st = .handingOver ∧ s.pair.handed = false ∧ s.pair.former = true ∧ t ≤ now s) ∧
    (∃ (s : State), s.pair.fading = true ∧ s.pair.former = true) ∧
    (∃ (s : State) (t : Nat), s.pair.handAt = some t ∧ t + ms ≤ now s ∧ operating s = true ∧ s.pair.st = .handingOver ∧ s.pair.handed = true ∧ s.pair.former = false) ∧
    (∃ (s : State) (t : Nat), s.pair.verifyAt = some t ∧ t ≤ now s) ∧
    (∃ (s : State) (g : Nat), s.modes.mode = .standby ∧ s.image.gen < g ∧ ((∀ m ∈ s.pair.merges, m.generation ≠ g))) ∧
    (∃ (t : Fin 32) (s : State), s.modes.mode = .standby ∧ s.pair.st = .inStep ∧ s.task[t].phase = .gathered ∧ agreedFor t.val s = none ∧ s.task[t].next + ms ≤ now s) ∧
    (∃ (t : Fin 32) (s : State), s.modes.mode = .standby ∧ tabGet [] s.pair.digests t.val = [] ∧ s.task[t].phase ≠ .compared) ∧
    (∃ (s : State), s.pair.st = .catchingUp ∧ s.modes.mode = .standby ∧ s.pair.phase = 5) ∧
    (∃ (s : State), isActive s = true ∧ partnerCatching s = true ∧ s.pair.suspended = false) :=
  ⟨⟨{ R with pair.rcd := le 1 1 }, by decide +kernel⟩,
   ⟨{ R with pair.rcd := le 1 1, pair.partnerLost := false, time.wraps := 1000000 }, by decide +kernel⟩,
   ⟨{ R with modes.mode := .run }, by decide +kernel⟩,
   ⟨R, by decide +kernel⟩,
   ⟨{ R with pair.rcd := le 1 1 }, by decide +kernel⟩,
   ⟨{ R with modes.mode := .run, pair.st := .activeAlone, pair.actOut := true, pair.actIn := true, pair.liveStale := false, pair.demoted := false, pair.position := true }, by decide +kernel⟩,
   ⟨{ R with time.wraps := 1000000 }, by decide +kernel⟩,
   ⟨{ R with pair.rcd := le 1 1, pair.demoted := false, modes.mode := .standby, pair.st := .outOfStep }, by decide +kernel⟩,
   ⟨{ R with modes.mode := .run, pair.st := .demoting, pair.handAt := none, time.wraps := 1000000 }, by decide +kernel⟩,
   ⟨0, R, by decide +kernel⟩,
   ⟨{ R with modes.mode := .safe }, by decide +kernel⟩,
   ⟨{ R with pair.partner := some { aBeat with reach := 1 }, pair.rcd := [2, 0, 0, 0, 0, 0, 0, 0], pair.st := .activePaired, modes.mode := .run, pair.reachSince := some 0 },
     { aBeat with reach := 1 }, 0, by decide +kernel⟩,
   ⟨{ R with pair.st := .outOfStep, modes.mode := .standby, pair.failed := 0, time.wraps := 1000000, pair.up := .replicate 2 true }, by decide +kernel⟩,
   ⟨{ R with pair.handAt := some 0, pair.st := .handingOver, pair.handed := false, pair.former := true, pair.fading := false }, 0, by decide +kernel⟩,
   ⟨{ R with pair.handAt := some 0, pair.st := .handingOver, pair.handed := false, pair.former := true, time.wraps := 1000000 }, 0, by decide +kernel⟩,
   ⟨{ R with pair.fading := true, pair.former := true }, by decide +kernel⟩,
   ⟨{ R with pair.handAt := some 0, time.wraps := 1000000, modes.mode := .run, pair.st := .handingOver, pair.handed := true, pair.former := false }, 0, by decide +kernel⟩,
   ⟨{ R with pair.verifyAt := some 0, time.wraps := 1000000 }, 0, by decide +kernel⟩,
   ⟨{ R with modes.mode := .standby }, R.image.gen + 1, by decide +kernel⟩,
   ⟨0, { R with modes.mode := .standby, pair.st := .inStep, time.wraps := 1000000, task := R.task.map fun x => { x with phase := .gathered } }, by decide +kernel⟩,
   ⟨0, { R with modes.mode := .standby }, by decide +kernel⟩,
   ⟨{ R with pair.st := .catchingUp, modes.mode := .standby, pair.phase := 5 }, by decide +kernel⟩,
   ⟨{ R with modes.mode := .run, pair.suspended := false, pair.partner := some aBeat, pair.partnerLost := false }, by decide +kernel⟩⟩

end Sys2Proof.Tests
end

namespace Sys2Proof.Machine

/-! The configuration session works on a copy (R502 to R506): what each command of the session answers, and the state it leaves. -/

/-! ## A command in flight answers what its body gives -/

theorem InFlight.mbx_eq {m : MbxId} {code : Nat} {q : Req} {s : State} (h : InFlight m code q s) : q.mbx = m := by
  obtain ⟨b, -, -, -, rfl⟩ := h
  rfl

/-- The rule for a row that runs the body `f` of a command of its mailbox. -/
theorem answers_of_runCommand {i : Instr} {m : MbxId} {code : Nat} {q : Req} {s u : State} {r : Resp} {f : Req → State → State × Resp}
    (h : InFlight m code q s) (hi : exec i s = .next (runCommand code m f s)) (hf : f q s = (u, r)) : Answers i m s r u := by
  rw [Answers, hi, runCommand_inFlight h, hf]

/-! ## The session a request holds -/

/-- A session is held by the requests of its holder that name its number (R503). -/
theorem heldSession_eq_some {q : Req} {n : Nat} {s : State} {c : CfgSession} :
    heldSession q n s = some c ↔ s.cfg.session = some c ∧ c.number = n ∧ c.holder = mbxSession q.mbx := by
  unfold heldSession
  cases hs : s.cfg.session with
  | none => simp
  | some x =>
    simp only [Option.ite_none_right_eq_some, Option.some.injEq]
    constructor
    · rintro ⟨hx, rfl⟩
      exact ⟨rfl, hx⟩
    · rintro ⟨rfl, hx⟩
      exact ⟨hx, rfl⟩

theorem sessionSet_of_open {s : State} {c : CfgSession} (h : s.cfg.session = some c) (x : ConfigSet) :
    sessionSet x s = { s with cfg := { s.cfg with session := some { c with set := x } } } := by
  rw [sessionSet, h, Option.map_some]

/-- Abandoning a session records it and drops it; the set in force and all else stay (R503). -/
theorem abandonSession_of_open {s : State} {c : CfgSession} (h : s.cfg.session = some c) :
    ∃ rec, abandonSession s = { s with cfg := { s.cfg with session := none }, recorder := rec } := by
  simp only [abandonSession, h]
  exact ⟨_, record_eq ..⟩

/-! ## CFG_SESSION_OPEN (R502, R503) -/

theorem cfgSessionOpen_copies {m : MbxId} {q : Req} {s : State} (h : InFlight m 0x0301 q s) (hs : s.cfg.session = none) :
    Answers (.cfgSessionOpen m) m s (ok (le 4 s.cfg.nextSession ++ zeros 4 ++ le 8 s.cfg.configId))
      { s with cfg := { s.cfg with
        session := some { number := s.cfg.nextSession, holder := mbxSession m, set := s.cfg.cur, bound := false }
        nextSession := (s.cfg.nextSession + 1) % 0xFFFFFFFF } } := by
  refine answers_of_runCommand h rfl ?_
  simp only [hs, h.mbx_eq]

theorem cfgSessionOpen_busy {m : MbxId} {q : Req} {s : State} {c : CfgSession} (h : InFlight m 0x0301 q s) (hs : s.cfg.session = some c) :
    Answers (.cfgSessionOpen m) m s (stDetail stBusy (sessionId c.holder s).toNat) s := by
  refine answers_of_runCommand h rfl ?_
  simp only [hs]

/-! ## CFG_WRITE (R502, R504) -/

/-- The session's set after an inline `CFG_WRITE`: records deleted, bytes of the signal table written with its reserved bytes 4 to 15
kept zero (R9, R505), or records written. -/
def writtenSet (kind size index n : Nat) (del : Bool) (data : List Byte) (c : ConfigSet) : ConfigSet :=
  if del then deleteRecords kind index n c
  else if kind = 0x0010 then
    { c with table := memZero (memWriteN c.table index data) 4 12, tableLen := max c.tableLen (index + n) }
  else writeRecords kind index ((List.range n).map fun k => slice data (k * size) size) c

/-- A `CFG_WRITE` without carriages of `n` records of a kind that may be written, by the holder of the unbound session `c` (R502 to
R504). -/
structure InlineWrite (q : Req) (s : State) (c : CfgSession) (kind size index n : Nat) : Prop where
  kind_eq : kind = fld16 q.pay 0
  index_eq : index = fld32 q.pay 8
  count_eq : n = fld32 q.pay 12
  held : heldSession q (fld32 q.pay 4) s = some c
  size_eq : kindSize kind = some size
  not_force : kind ≠ 0x00F0
  unbound : c.bound = false
  count_ne_zero : n ≠ 0
  no_carriages : q.count = 0

/-- Where its range and its length are right, it puts the written set into the session and changes nothing else. -/
theorem InlineWrite.answers {m : MbxId} {q : Req} {s : State} {c : CfgSession} {size kind index n : Nat} {del : Bool}
    (w : InlineWrite q s c kind size index n) (h : InFlight m 0x0302 q s) (hdel : bit (fld16 q.pay 2) 0 = del)
    (hrange : rangeOk kind index n (!del) c.set = true) (hlen : del = false → q.pay.length = 16 + n * size) {x : ConfigSet}
    (hx : x = writtenSet kind size index n del (slice q.pay 16 (n * size)) c.set) :
    Answers (.cfgWrite m) m s (ok (le 4 (kindTotal kind x s))) { s with cfg := { s.cfg with session := some { c with set := x } } } := by
  obtain ⟨rfl, rfl, rfl, hc, hsize, hforce, hfree, hpos, hinline⟩ := w
  obtain ⟨hs, -, -⟩ := heldSession_eq_some.1 hc
  subst hx
  refine answers_of_runCommand h rfl ?_
  rw [← sessionSet_of_open hs]
  cases del with
  | true =>
    rw [Bool.not_true] at hrange
    simp [hdel, hc, hsize, hforce, hfree, hpos, hrange, writtenSet]
  | false =>
    rw [Bool.not_false] at hrange
    simp [hdel, hc, hsize, hforce, hfree, hpos, hrange, hinline, hlen, inlineOrC, writtenSet]

theorem kindTotal_records {kind : Nat} (htable : kind ≠ 0x0010) (hforce : kind ≠ 0x00F0) (c : ConfigSet) (s : State) :
    kindTotal kind c s = (cfgKind c kind).length := by
  rw [kindTotal, if_neg htable, if_neg hforce]

theorem kindTotal_table (c : ConfigSet) (s : State) : kindTotal 0x0010 c s = c.tableLen := rfl

theorem kindSize_table {size : Nat} (h : kindSize 0x0010 = some size) : size = 1 := (Option.some.inj h).symm

/-! ## CFG_READ (R502, R504) -/

theorem cfgRead_reads {m : MbxId} {q : Req} {s : State} {kind index n size : Nat} (h : InFlight m 0x0303 q s)
    (hkind : kind = fld16 q.pay 0) (hindex : index = fld32 q.pay 8) (hn : n = fld32 q.pay 12) (hsize : kindSize kind = some size)
    (hsrc : fld8 q.pay 2 = 0) (hrange : rangeOk kind index n false s.cfg.cur = true) (hinline : q.count = 0) (htable : kind ≠ 0x0010)
    (hforce : kind ≠ 0x00F0) {data : List Byte}
    (hdata : data = (List.range n).flatMap fun k => slice (cfgRec kind (index + k) s) 0 size) (hfit : data.length ≤ 4056) :
    Answers (.cfgRead m) m s (ok (le 4 (cfgKind s.cfg.cur kind).length ++ le 4 n ++ data)) s := by
  rw [← kindTotal_records htable hforce s.cfg.cur s]
  simp only [cfgRec] at hdata
  subst hkind hindex
  refine answers_of_runCommand h rfl ?_
  obtain rfl | hpos := eq_or_ne n 0
  · have hnil : data = [] := hdata
    simp [hsrc, hsize, hrange, htable, ← hn, hnil]
  · simp [hsrc, hsize, hrange, hinline, htable, hforce, ← hn, hpos, ← hdata, hfit]

/-! ## CFG_COMMIT (R502, R506) -/

/-- The carriages' contents of a commit's answer: its report, where the request claimed carriages (R506). -/
def commitData (q : Req) (c : CfgSession) (s : State) : List Byte :=
  if q.count = 0 then [] else commitReport (activeImage s) (withSet c.set s)

section
variable {m : MbxId} {q : Req} {s : State} {c : CfgSession} (h : InFlight m 0x0304 q s)
  (hc : heldSession q (fld32 q.pay 0) s = some c) (hfree : c.bound = false) (hswitch : s.prog.st ≠ .switching)
  (hsettle : s.prog.st ≠ .settling) (hpass : commitFail (activeImage s) (withSet c.set s) = none)
include h hc hfree hswitch hsettle hpass

theorem cfgCommit_checks (honly : bit (fld32 q.pay 4) 0 = true) :
    Answers (.cfgCommit m) m s { status := stOk, pay := le 8 s.cfg.configId ++ zeros 8, data := commitData q c s } s := by
  refine answers_of_runCommand h rfl ?_
  simp [hc, hfree, hswitch, hsettle, hpass, honly, commitPay, commitData]

/-- A commit without a safety change answers the identity that carrying it out gives the set. -/
theorem cfgCommit_commits (honly : bit (fld32 q.pay 4) 0 = false) (hsafety : safetyChange s.cfg.cur c.set = false)
    (hroom : auditRoom s = true) {u : State}
    (hu : u = commitSet c.set (fun _ => true) s.image.gen (activeImage s) (reqSession q s, roleOf q s) s) :
    Answers (.cfgCommit m) m s { status := stOk, pay := le 8 u.cfg.configId ++ zeros 8, data := commitData q c s } u := by
  refine answers_of_runCommand h rfl ?_
  simp [hc, hfree, hswitch, hsettle, hpass, honly, hsafety, hroom, commitPay, commitData, ← hu]

end

/-! ## CFG_ABANDON (R502, R503) -/

theorem cfgAbandon_drops {m : MbxId} {q : Req} {s : State} {c : CfgSession} (h : InFlight m 0x0305 q s) (hs : s.cfg.session = some c)
    (hnumber : c.number = fld32 q.pay 0) (hfree : c.bound = false) (hmay : c.holder = mbxSession m ∨ roleOf q s = 5 ∨ roleOf q s = 6) :
    ∃ rec, Answers (.cfgAbandon m) m s (ok []) { s with cfg := { s.cfg with session := none }, recorder := rec } := by
  obtain ⟨rec, hrec⟩ := abandonSession_of_open hs
  have hrole : ¬(c.holder ≠ mbxSession q.mbx ∧ roleOf q s ≠ 5 ∧ roleOf q s ≠ 6) := by
    rw [h.mbx_eq]
    tauto
  refine ⟨rec, answers_of_runCommand h rfl ?_⟩
  simp only [hs, hnumber, hfree, if_neg hrole, hrec, ne_eq, not_true_eq_false, Bool.false_eq_true, if_false]

/-! ## The statement -/

/-- Settles O16: each command of a configuration session, by its rule above; a commit's state by `commitSet_cfg`. -/
theorem configurationSessionsWorkOnACopy : Obligations.ConfigurationSessionsWorkOnACopy := by
  refine ⟨fun m q s => cfgSessionOpen_copies, fun m q s c => cfgSessionOpen_busy, ?write, ?read, ?commit,
    fun m q s c => cfgAbandon_drops⟩
  case write =>
    intro m q s c size kind index n h hkind hindex hn hc hsize hforce hfree hpos hinline
    have w : InlineWrite q s c kind size index n := ⟨hkind, hindex, hn, hc, hsize, hforce, hfree, hpos, hinline⟩
    refine ⟨fun hdel hrange hlen htable => ?records, fun hdel hrange hlen htable x hx => ?table, fun hdel hrange => ?deletion⟩
    case records =>
      rw [← kindTotal_records htable hforce _ s]
      exact w.answers h hdel hrange (fun _ => hlen) (by rw [writtenSet, if_neg Bool.false_ne_true, if_neg htable])
    case table =>
      obtain rfl : size = 1 := kindSize_table (htable ▸ hsize)
      have htotal : kindTotal kind x s = max c.set.tableLen (index + n) := by rw [htable, kindTotal_table, hx]
      rw [← htotal]
      exact w.answers h hdel hrange (fun _ => hlen)
        (by rw [hx, writtenSet, if_neg Bool.false_ne_true, if_pos htable, Nat.mul_one])
    case deletion =>
      exact ⟨_, w.answers h hdel hrange nofun rfl⟩
  case read =>
    intro m q s kind index n size h hkind hindex hn hsize hsrc hrange hinline htable hforce hfit
    exact cfgRead_reads h hkind hindex hn hsize hsrc hrange hinline htable hforce rfl hfit
  case commit =>
    intro m q s c h hc hfree hswitch hsettle hpass
    refine ⟨fun honly => ⟨_, cfgCommit_checks h hc hfree hswitch hsettle hpass honly⟩, fun honly hsafety hroom => ?_⟩
    have hu := cfgCommit_commits h hc hfree hswitch hsettle hpass honly hsafety hroom rfl
    rw [commitSet_cfg] at hu
    exact ⟨_, _, hu, commitSet_cfg ..⟩

end Sys2Proof.Machine

namespace Sys2Proof.Machine

/-! The marks of the image and of the Coupler: an image generation comes only of an image event (R138, R139), and COUPLER_FAULT and the
polarity that CP1 expects change only where a comparison sets them (R54, R56).  Every other operation of a cycle keeps all three. -/

/-- What few operations set: the image generation, COUPLER_FAULT, and the polarity that CP1 expects of the comparators. -/
def marks (s : State) : Nat × Bool × BitVec 3 := (s.image.gen, s.cpl.fault, s.cpl.pol1)

/-- The equation of an operation that touches none of them.  A proof by it is one that `simp` can use below a binder, where it takes no
proof by `rfl`. -/
theorem marks_congr {s t : State} (hgen : t.image.gen = s.image.gen) (hfault : t.cpl.fault = s.cpl.fault)
    (hpol : t.cpl.pol1 = s.cpl.pol1) : marks t = marks s := by
  unfold marks
  rw [hgen, hfault, hpol]

theorem Within.marks_eq {ps : List Part} {s t : State} (w : Within ps s t) (himage : ps.contains .image = false)
    (hcpl : ps.contains .cpl = false) : marks t = marks s := by
  have hi : t.image = s.image := w.same .image himage
  have hc : t.cpl = s.cpl := w.same .cpl hcpl
  exact marks_congr (hi ▸ rfl) (hc ▸ rfl) (hc ▸ rfl)

@[simp] theorem marks_foldl {α : Type} {f : State → α → State} (h : ∀ u x, marks (f u x) = marks u) (xs : List α) (s : State) :
    marks (xs.foldl f s) = marks s := by
  induction xs generalizing s with
  | nil => rfl
  | cons x xs ih => exact (ih (f s x)).trans (h s x)

@[simp] theorem marks_ite {c : Prop} [Decidable c] (s t : State) : marks (if c then s else t) = if c then marks s else marks t :=
  apply_ite ..

/-! ## Operations on other units -/

@[simp] theorem marks_admitRecord (r s) : marks (admitRecord r s) = marks s := (admitRecord_within ..).marks_eq rfl rfl
@[simp] theorem marks_record (sev code src data s) : marks (record sev code src data s) = marks s := (record_within ..).marks_eq rfl rfl
@[simp] theorem marks_audit (code src session data s) : marks (audit code src session data s) = marks s :=
  (audit_within ..).marks_eq rfl rfl
@[simp] theorem marks_nextFree (s) : marks (nextFree s) = marks s := marks_congr rfl rfl rfl
@[simp] theorem marks_taskMod (t f s) : marks (taskMod t f s) = marks s := marks_congr rfl rfl rfl
@[simp] theorem marks_ucMod (ch f s) : marks (ucMod ch f s) = marks s := marks_congr rfl rfl rfl
@[simp] theorem marks_digMod (ch f s) : marks (digMod ch f s) = marks s := marks_congr rfl rfl rfl
@[simp] theorem marks_funcMod (n f s) : marks (funcMod n f s) = marks s := marks_congr rfl rfl rfl
@[simp] theorem marks_pairMod (n f s) : marks (pairMod n f s) = marks s := marks_congr rfl rfl rfl
@[simp] theorem marks_lanePower (l x s) : marks (lanePower l x s) = marks s := marks_congr rfl rfl rfl
@[simp] theorem marks_subNotify (g gen s) : marks (subNotify g gen s) = marks s := (subNotify_within ..).marks_eq rfl rfl
@[simp] theorem marks_setHealth (n x c s) : marks (setHealth n x c s) = marks s := (setHealth_within ..).marks_eq rfl rfl
@[simp] theorem marks_canFollow (s) : marks (canFollow s) = marks s := (canFollow_within ..).marks_eq rfl rfl
@[simp] theorem marks_outputsOff (s) : marks (outputsOff s) = marks s := marks_congr rfl rfl rfl
@[simp] theorem marks_abandonExchange (s) : marks (abandonExchange s) = marks s := (abandonExchange_within ..).marks_eq rfl rfl
@[simp] theorem marks_alarmRecord (g a b s) : marks (alarmRecord g a b s) = marks s := (alarmRecord_within ..).marks_eq rfl rfl
@[simp] theorem marks_ucDiagRecords (ch a b s) : marks (ucDiagRecords ch a b s) = marks s := (ucDiagRecords_within ..).marks_eq rfl rfl
@[simp] theorem marks_checkPending (s) : marks (checkPending s) = marks s := (checkPending_within ..).marks_eq rfl rfl
@[simp] theorem marks_shiftTimers (t s) : marks (shiftTimers t s) = marks s := (shiftTimers_within ..).marks_eq rfl rfl
@[simp] theorem marks_clearLatches (n s) : marks (clearLatches n s) = marks s := (clearLatches_within ..).marks_eq rfl rfl

/-! ## The image -/

@[simp] theorem marks_putRec (g r s) : marks (putRec g r s) = marks s := marks_congr rfl rfl rfl
@[simp] theorem marks_noteEvent (gen s) : marks (noteEvent gen s) = marks s := marks_congr rfl rfl rfl
@[simp] theorem marks_poolSweep (s) : marks (poolSweep s) = marks s := marks_congr rfl rfl rfl
@[simp] theorem marks_intake (k es s) : marks (intake k es s) = marks s := marks_congr rfl rfl rfl
@[simp] theorem marks_staleOver (h s) : marks (staleOver h s) = marks s := marks_congr rfl rfl rfl
@[simp] theorem marks_intakeOwn (es s) : marks (intakeOwn es s) = marks s := by simp [intakeOwn]
@[simp] theorem marks_deliverOwn (h v w src s) : marks (deliverOwn h v w src s) = marks s := by simp [deliverOwn, deliverAt]
@[simp] theorem marks_deliverInt (h v w src t s) : marks (deliverInt h v w src t s) = marks s := by simp [deliverInt]
@[simp] theorem marks_deliverStatus (hs w s) : marks (deliverStatus hs w s) = marks s := by simp [deliverStatus]
@[simp] theorem marks_taskStale (t reason s) : marks (taskStale t reason s) = marks s := by simp [taskStale, staleSignals]

@[simp] theorem marks_offered (p n s) : marks (offered p n s) = marks s := (offered_within ..).marks_eq rfl rfl
@[simp] theorem marks_pathCoalesced (p s) : marks (pathCoalesced p s) = marks s := (pathCoalesced_within ..).marks_eq rfl rfl

@[simp] theorem marks_queuePublication (g s) : marks (queuePublication g s) = marks s := by
  unfold queuePublication
  extract_lets r t
  have ht : marks t = marks s := marks_offered ..
  split
  · simp [ht]
  · exact ht

@[simp] theorem marks_followPublication (g s) : marks (followPublication g s) = marks s := by
  unfold followPublication
  dsimp only
  split <;> rfl

@[simp] theorem marks_changeRec (g f stamp gen t s) : marks (changeRec g f stamp gen t s) = marks s := by
  unfold changeRec
  extract_lets old new0 own moved new1 slot kept img s1 prev past new2 s2 s3 img' s4 dueNow s5
  split
  · simp
  · have h1 : marks s1 = marks s := by unfold s1; split <;> rfl
    have h3 : marks s3 = marks s1 := by simp [s3, s2]
    have h4 : marks s4 = marks s3 := by unfold s4; split <;> rfl
    have h5 : marks s5 = marks s4 := by simp [s5]
    simp [h5, h4, h3, h1]

/-! ## The channels and the safety functions -/

@[simp] theorem marks_ucEmit (ch s) : marks (ucEmit ch s) = marks s := by simp [ucEmit]
@[simp] theorem marks_ucSetDiag (ch f s) : marks (ucSetDiag ch f s) = marks s := by simp [ucSetDiag]
@[simp] theorem marks_ucCommand (ch v s) : marks (ucCommand ch v s) = marks s := by simp [ucCommand]
@[simp] theorem marks_ucIdle (ch s) : marks (ucIdle ch s) = marks s := by simp [ucIdle]
@[simp] theorem marks_digEmit (ch t s) : marks (digEmit ch t s) = marks s := by simp [digEmit]
@[simp] theorem marks_digSetDiag (ch f s) : marks (digSetDiag ch f s) = marks s := by
  unfold digSetDiag
  extract_lets old t new reason t2 t3 d
  have h2 : marks t2 = marks t := marks_foldl (by simp) ..
  simp [t3, h2, t]

@[simp] theorem marks_digCommand (ch on s) : marks (digCommand ch on s) = marks s := by simp [digCommand]
@[simp] theorem marks_digIdle (ch s) : marks (digIdle ch s) = marks s := by simp [digIdle]
@[simp] theorem marks_ucCommandRaw (ch x s) : marks (ucCommandRaw ch x s) = marks s := by simp [ucCommandRaw]

@[simp] theorem marks_applySafe (n s) : marks (applySafe n s) = marks s := by simp [applySafe]
@[simp] theorem marks_setFault (n b s) : marks (setFault n b s) = marks s := by simp [setFault]
@[simp] theorem marks_forceSafe (cause s n) : marks (forceSafe cause s n) = marks s := by
  unfold forceSafe
  split <;> simp
@[simp] theorem marks_forceTaskSafe (cause t s) : marks (forceTaskSafe cause t s) = marks s := by simp [forceTaskSafe]
@[simp] theorem marks_scopesSafe (cause xs t s) : marks (scopesSafe cause xs t s) = marks s := by simp [scopesSafe]

@[simp] theorem marks_capabilityChanged (s) : marks (capabilityChanged s) = marks s := by
  refine marks_foldl (fun u n => ?_) ..
  dsimp only
  split
  · split <;> simp
  · split <;> simp

@[simp] theorem marks_concludePair (k r b s) : marks (concludePair k r b s) = marks s := by simp [concludePair]

theorem marks_foldl_fst {α β : Type} {f : State × β → α → State × β} (h : ∀ u x, marks (f u x).1 = marks u.1) (xs : List α)
    (a : State × β) : marks (xs.foldl f a).1 = marks a.1 := by
  induction xs generalizing a with
  | nil => rfl
  | cons x xs ih => exact (ih (f a x)).trans (h a x)

@[simp] theorem marks_funcGather (t snap rel s n) : marks (funcGather t snap rel s n) = marks s := by
  unfold funcGather
  extract_lets r ps ev s1 h f edge auto s2 s3
  have hev : marks ev.1 = marks s := marks_foldl_fst (by simp) ..
  have h2 : marks s2 = marks s := by simp [s2, s1, hev]
  split
  · split <;> simp [h2, s3]
  · simp [h2]

@[simp] theorem marks_safetyGather (t snap rel s) : marks (safetyGather t snap rel s) = marks s := by simp [safetyGather]
@[simp] theorem marks_funcReset_ (s n) : marks (funcReset_ s n) = marks s := by simp [funcReset_]
@[simp] theorem marks_safetyCommit (t s) : marks (safetyCommit t s) = marks s := by simp [safetyCommit]
@[simp] theorem marks_reachingSafe (t f s) : marks (reachingSafe t f s) = marks (f s) := by simp [reachingSafe]
@[simp] theorem marks_applyOutputs (os s) : marks (applyOutputs os s) = marks s := by
  refine (marks_foldl (fun u o => ?_) ..).trans rfl
  simp
@[simp] theorem marks_idleOutputsOf (os s) : marks (idleOutputsOf os s) = marks s := by simp [idleOutputsOf]

/-! ## The tasks -/

@[simp] theorem marks_takeState (t x s) : marks (takeState t x s) = marks s := by
  unfold takeState
  split
  · rfl
  · cases x <;> simp

@[simp] theorem marks_endCycle (t s) : marks (endCycle t s) = marks s := by
  unfold endCycle
  split
  · rfl
  · dsimp only
    split <;> simp

@[simp] theorem marks_discardCycle (t s) : marks (discardCycle t s) = marks s := by
  unfold discardCycle
  split
  · rfl
  · simp

@[simp] theorem marks_discardAll (s) : marks (discardAll s) = marks s := by simp [discardAll]
@[simp] theorem marks_discardOrphans (s) : marks (discardOrphans s) = marks s := by simp [discardOrphans]

@[simp] theorem marks_stopTasks (s) : marks (stopTasks s) = marks s := by
  refine (marks_poolSweep _).trans (marks_foldl (fun u t => ?_) ..)
  split <;> simp

@[simp] theorem marks_discardDisagreed (t xs s) : marks (discardDisagreed t xs s) = marks s := by
  unfold discardDisagreed
  cases xs <;> simp

/-! ## The lanes and the modes -/

@[simp] theorem marks_laneMod (l f s) : marks (laneMod l f s) = marks s := marks_congr rfl rfl rfl
@[simp] theorem marks_endCopy (p s) : marks (endCopy p s) = marks s := marks_congr rfl rfl rfl
@[simp] theorem marks_setSpare (l s) : marks (setSpare l s) = marks s := marks_congr rfl rfl rfl

@[simp] theorem marks_detachDebugger (s) : marks (detachDebugger s) = marks s := by
  unfold detachDebugger
  split
  · rfl
  · exact marks_audit ..

@[simp] theorem marks_lanesIdle (s) : marks (lanesIdle s) = marks s := by
  refine marks_foldl (fun u l => ?_) ..
  dsimp only
  split <;> rfl

@[simp] theorem marks_tryResync (s) : marks (tryResync s) = marks s := by
  have h : ∀ l, marks (enterResync l s) = marks s := fun l => by unfold enterResync; split <;> rfl
  unfold tryResync
  split
  · rfl
  · split <;> simp [h]

@[simp] theorem marks_rejoinCheck (s) : marks (rejoinCheck s) = marks s := by
  unfold rejoinCheck
  extract_lets joined ls t u v
  have hu : marks u = marks s := by simp [u, t]
  have hv : marks v = marks u := by unfold v; split <;> simp
  simp [hv, hu]

@[simp] theorem marks_handoverCheck (s) : marks (handoverCheck s) = marks s := by
  unfold handoverCheck
  split
  · rfl
  · split
    · rfl
    · extract_lets cpl t equal v w u
      have hv : marks v = marks t := by simp [v]
      have hw : marks w = marks v := by simp [w]
      have hu : marks u = marks t := by
        unfold u
        split
        · simp
        · split
          · split <;> simp [hw, hv]
          · exact hv
        · split <;> simp
        · rfl
      have ht : marks t = marks s := marks_congr rfl rfl rfl
      simp [hu, ht]

@[simp] theorem marks_beginHandover (c x s) : marks (beginHandover c x s) = marks s := by
  unfold beginHandover
  extract_lets s1 spare cpl s2 s3
  have h2 : marks s2 = marks s1 := marks_congr rfl rfl rfl
  have h3 : marks s3 = marks s2 := by simp [s3]
  simp [h3, h2, s1]

@[simp] theorem marks_unusableLane (l s) : marks (unusableLane l s) = marks s := by
  unfold unusableLane
  split
  · rfl
  · split <;> simp

@[simp] theorem marks_lanesStranded (s) : marks (lanesStranded s) = marks s := by simp [lanesStranded]

@[simp] theorem marks_dropLane (l s) : marks (dropLane l s) = marks s := by
  unfold dropLane
  dsimp only
  split <;> simp

@[simp] theorem marks_enterSafe (s) : marks (enterSafe s) = marks s := by
  unfold enterSafe
  split
  · rfl
  · extract_lets s1 modes pair s2 s3
    have h2 : marks s2 = marks s1 := marks_congr rfl rfl rfl
    simp [s3, h2, s1]

@[simp] theorem marks_demote (cause b s) : marks (demote cause b s) = marks s := by
  unfold demote
  extract_lets s1 pair
  have h1 : marks s1 = marks s := by simp [s1]
  clear_value s1
  exact (marks_congr rfl rfl rfl).trans h1

@[simp] theorem marks_selfDemote (cause b s) : marks (selfDemote cause b s) = marks s := by
  unfold selfDemote
  split
  case h_4 => exact marks_enterSafe s
  case h_5 => rfl
  all_goals
    split
    · exact marks_demote ..
    · exact marks_congr rfl rfl rfl
    · exact marks_enterSafe ..

@[simp] theorem marks_countMismatch (src s) : marks (countMismatch src s) = marks s := by
  unfold countMismatch
  extract_lets cpl s1 s2
  have h1 : marks s1 = marks s := marks_congr rfl rfl rfl
  simp [s2, h1]

/-! ## Publication -/

@[simp] theorem marks_sendBlock (kind gs s) : marks (sendBlock kind gs s) = marks s := (sendBlock_within ..).marks_eq rfl rfl
@[simp] theorem marks_pathMod (p f s) : marks (pathMod p f s) = marks s := (pathMod_within ..).marks_eq rfl rfl
@[simp] theorem marks_published (g s) : marks (published g s) = marks s := marks_congr rfl rfl rfl

@[simp] theorem marks_sendChanges (s) : marks (sendChanges s) = marks s := by
  unfold sendChanges
  extract_lets n gs pub t u
  have ht : marks t = marks s := marks_congr rfl rfl rfl
  simp [u, ht]

@[simp] theorem marks_publishFull (s) : marks (publishFull s) = marks s := by
  have h : ∀ fuel u, marks (fullBlocks fuel u) = marks u := by
    intro fuel
    induction fuel with
    | zero => exact fun _ => rfl
    | succ fuel ih => simp [fullBlocks, ih]
  exact h ..

/-! ## A commit's signals -/

@[simp] theorem marks_commitSignal (t gen s w) : marks (commitSignal t gen s w) = marks s := by
  unfold commitSignal
  extract_lets g q image
  split
  · exact marks_congr rfl rfl rfl
  · split
    · exact marks_changeRec ..
    · rfl

@[simp] theorem marks_commitAlarm (t gen s a) : marks (commitAlarm t gen s a) = marks s := by simp [commitAlarm]
@[simp] theorem marks_freshenTask (t gen s) : marks (freshenTask t gen s) = marks s := by simp [freshenTask]

theorem gen_eq_of_marks_eq {s t : State} (h : marks t = marks s) : t.image.gen = s.image.gen := congrArg (·.1) h

/-- A commit that writes nothing to the image makes no image event, and any other makes one (R136 to R139). -/
theorem commitSignals_gen (t : Nat) (ws : WriteSet) (s : State) :
    (commitSignals t ws s).image.gen =
      if ws.sigs = [] ∧ ws.alarms = [] ∧ ((taskAt t s).elim false (·.st == .running) = false ∨ staleOf t s = []) then s.image.gen
      else s.image.gen + 1 := by
  unfold commitSignals
  extract_lets running gen image s1 s2
  split
  · rfl
  · have h2 : marks s2 = marks s1 := by simp [s2]
    exact gen_eq_of_marks_eq (t := noteEvent ..) (s := s1) (by simp [h2])

end Sys2Proof.Machine

namespace Sys2Proof.Machine

/-! A task through the operations of its cycle: what is read of it before and after each (R92, R103, R107, R119). -/

/-- What is read of a task. -/
def taskView {α : Type} (f : Task → α) (t : Nat) (s : State) : Option α := (taskAt t s).map f

section
variable {α : Type} {f : Task → α} {t : Nat}

theorem Within.taskView_eq {ps : List Part} {u v : State} (w : Within ps u v) (h : ps.contains .task = false) :
    taskView f t v = taskView f t u := by
  rw [taskView, w.taskAt_eq h, taskView]

theorem taskView_foldl {β : Type} {g : State → β → State} (h : ∀ u x, taskView f t (g u x) = taskView f t u) (xs : List β)
    (s : State) : taskView f t (xs.foldl g s) = taskView f t s := by
  induction xs generalizing s with
  | nil => rfl
  | cons x xs ih => exact (ih (g s x)).trans (h s x)

theorem taskAt_taskMod_other {n : Nat} (h : n ≠ t) (g : Task → Task) (s : State) : taskAt t (taskMod n g s) = taskAt t s := by
  unfold taskAt
  rw [taskMod_task]
  exact vmod_get_other _ h _

theorem taskView_taskMod_same (g : Task → Task) (s : State) : taskView f t (taskMod t g s) = taskView (f ∘ g) t s := by
  rw [taskView, taskAt_taskMod, Option.map_map, taskView]

/-- A change of any task that leaves what is read. -/
theorem taskView_taskMod {g : Task → Task} (h : ∀ k, f (g k) = f k) (n : Nat) (s : State) :
    taskView f t (taskMod n g s) = taskView f t s := by
  obtain rfl | hn := eq_or_ne n t
  · rw [taskView_taskMod_same, show f ∘ g = f from funext h]
  · rw [taskView, taskAt_taskMod_other hn, taskView]

end

/-- A task after it entered the state `x` (R116 to R119). -/
def entering (x : TaskState) (k : Task) : Task :=
  { k with
    st := x, leaving := none, stepAsked := false
    entered := if x = .running then k.st == .running && k.entered else true
    overruns := if x = .running then 0 else k.overruns }

theorem taskMod_of_none {t : Nat} {s : State} (h : taskAt t s = none) (f : Task → Task) : taskMod t f s = s := by
  have hv : vmod s.task t f = s.task := by
    unfold vmod
    rw [show s.task[t]? = none from h]
  rw [taskMod, hv]

/-- Of the tasks, entering a state changes the one that enters it. -/
theorem takeState_task (t : Nat) (x : TaskState) (s : State) : (takeState t x s).task = (taskMod t (entering x) s).task := by
  have stale : ∀ n r u, (taskStale n r u).task = u.task := fun _ _ _ => (taskStale_within ..).same .task rfl
  have safe : ∀ c n u, (forceTaskSafe c n u).task = u.task := fun _ _ _ => (forceTaskSafe_within ..).same .task rfl
  have idle : ∀ os u, (if driving u then idleOutputsOf os u else u).task = u.task := fun os u => by
    split
    · exact (idleOutputsOf_within ..).same .task rfl
    · rfl
  unfold takeState
  split
  case h_1 h => rw [taskMod_of_none h]
  case h_2 k h =>
    cases x <;> dsimp only
    case running => rfl
    case held | stepping =>
      split
      · rfl
      · exact stale ..
    case stopped | faulted =>
      rw [stale, safe, idle]
      rfl

theorem taskAt_congr {u v : State} (h : u.task = v.task) (t : Nat) : taskAt t u = taskAt t v := by rw [taskAt, h, taskAt]

theorem taskView_takeState {α : Type} {f : Task → α} {t : Nat} {x : TaskState} (h : ∀ k, f (entering x k) = f k) (n : Nat)
    (s : State) : taskView f t (takeState n x s) = taskView f t s := by
  rw [taskView, taskAt_congr (takeState_task ..)]
  exact taskView_taskMod h n s

/-- The end of a cycle: the task asleep, the next cycle number (log 87), its definition as it was. -/
theorem taskView_endCycle {t : Nat} {s : State} {k : Task} (h : taskAt t s = some k) :
    taskView (fun j => (j.phase, j.cycleNo, j.defn)) t (endCycle t s) = some (.sleep, k.cycleNo + 1, k.defn) := by
  unfold endCycle
  split
  case h_1 hnone => exact nomatch h.symm.trans hnone
  case h_2 j hj =>
    obtain rfl : k = j := Option.some.inj (h.symm.trans hj)
    extract_lets s1
    have h1 : taskView (fun j => (j.phase, j.cycleNo, j.defn)) t s1 = some (.sleep, k.cycleNo + 1, k.defn) := by
      rw [taskView_taskMod_same, taskView, h]
      rfl
    split
    · rw [taskView_takeState fun _ => rfl, h1]
    · split
      · rw [taskView_takeState fun _ => rfl, h1]
      · exact h1

/-! ## Overruns are counted nowhere else -/

/-- The overruns of a task since its start. -/
def overrunsOf (t : Nat) (s : State) : Option Nat := taskView (·.totalOverruns) t s

theorem overrunsOf_taskMod {g : Task → Task} (h : ∀ k, (g k).totalOverruns = k.totalOverruns) (n t : Nat) (s : State) :
    overrunsOf t (taskMod n g s) = overrunsOf t s := taskView_taskMod h ..

theorem overrunsOf_takeState (n t : Nat) (x : TaskState) (s : State) : overrunsOf t (takeState n x s) = overrunsOf t s :=
  taskView_takeState (fun _ => rfl) ..

theorem overrunsOf_endCycle (n t : Nat) (s : State) : overrunsOf t (endCycle n s) = overrunsOf t s := by
  unfold endCycle
  split
  · rfl
  · extract_lets s1
    have h1 : overrunsOf t s1 = overrunsOf t s := overrunsOf_taskMod (by exact fun _ => rfl) ..
    split
    · rw [overrunsOf_takeState, h1]
    · split
      · rw [overrunsOf_takeState, h1]
      · exact h1

theorem overrunsOf_discardCycle (n t : Nat) (s : State) : overrunsOf t (discardCycle n s) = overrunsOf t s := by
  unfold discardCycle
  split
  · rfl
  · split
    · rfl
    · refine ((poolSweep_within _).taskView_eq rfl).trans ((overrunsOf_endCycle ..).trans ?_)
      exact taskView_foldl (fun u x => (funcMod_within ..).taskView_eq rfl) ..

theorem overrunsOf_leaveRunning (n t : Nat) (x : TaskState) (s : State) : overrunsOf t (leaveRunning n x s) = overrunsOf t s := by
  unfold leaveRunning
  split
  · rfl
  · split
    · exact overrunsOf_takeState ..
    · split
      · rw [overrunsOf_takeState, overrunsOf_discardCycle]
      · exact overrunsOf_taskMod (by exact fun _ => rfl) ..

@[simp] theorem overrunsOf_record (sev c src d t s) : overrunsOf t (record sev c src d s) = overrunsOf t s :=
  (record_within ..).taskView_eq rfl

theorem overrunsOf_leaveStep (t : Nat) (s : State) : overrunsOf t (leaveStep s) = overrunsOf t s := by
  have h : overrunsOf t (discardAll s) = overrunsOf t s := taskView_foldl (fun u n => overrunsOf_discardCycle n t u) ..
  have hp : ∀ p, overrunsOf t { discardAll s with pair := p } = overrunsOf t (discardAll s) :=
    fun p => (Within.set_pair (ps := [.pair]) rfl (.refl _ _)).taskView_eq rfl
  unfold leaveStep
  split
  · exact (overrunsOf_record ..).trans ((hp _).trans h)
  · exact (overrunsOf_record ..).trans ((hp _).trans h)
  · rfl

/-- An overrun counts once for its task. -/
theorem overrun_counts {t : Nat} {s : State} {k : Task} (hk : taskAt t s = some k) (hd : (taskDefn t s).isSome = true) :
    overrunsOf t (overrun t s) = some (k.totalOverruns + 1) := by
  have hf : ∀ c u, overrunsOf t (forceTaskSafe c t u) = overrunsOf t u := fun _ _ => (forceTaskSafe_within ..).taskView_eq rfl
  obtain ⟨d, hd⟩ := Option.isSome_iff_exists.mp hd
  unfold overrun
  split
  case h_2 h => exact (h k d hk hd).elim
  case h_1 j e hj _ =>
    obtain rfl : k = j := Option.some.inj (hk.symm.trans hj)
    extract_lets s1 s2
    have h1 : overrunsOf t s1 = some (k.totalOverruns + 1) := by
      rw [overrunsOf_record, overrunsOf, taskView_taskMod_same, taskView, hk]
      rfl
    have h2 : overrunsOf t s2 = overrunsOf t s1 := by
      unfold s2
      split
      · exact overrunsOf_taskMod (by exact fun _ => rfl) ..
      · exact overrunsOf_discardCycle ..
    rw [← h1, ← h2]
    split
    · exact overrunsOf_leaveStep ..
    · split
      · rw [overrunsOf_record, hf]
      · split
        · rw [overrunsOf_record, overrunsOf_leaveRunning]
        · rfl

/-! ## What follows the end of a cycle -/

theorem switchSweep_of_not_switching {s : State} (h : s.prog.st ≠ .switching) : switchSweep s = s := by
  have hn : ∀ n, switchesNow n s = false := fun n => by
    unfold switchesNow
    split
    · rfl
    · simp [h]
  rw [switchSweep, if_neg (by simp [hn])]

theorem taskView_shiftTimers {α : Type} {f : Task → α} (h : ∀ k, f { k with timerShift := 0 } = f k) (n t : Nat) (s : State) :
    taskView f t (shiftTimers n s) = taskView f t s := by
  unfold shiftTimers
  split
  · rfl
  · split
    · rfl
    · exact taskView_taskMod h ..

/-- A Gather touches the tasks only where it releases its own. -/
theorem taskView_gather {α : Type} {f : Task → α} (h : ∀ k, f { k with timerShift := 0 } = f k) (n t : Nat) (s : State) :
    ∃ g, taskView f t (gather n s) = taskView f t (taskMod n g s) ∧ ∀ k,
      (g k).phase = .gathered ∧ (g k).snap = snapshotAt (dueRelease n s) s ∧ (g k).released = dueRelease n s ∧
      (g k).next = dueRelease n s + (taskDefn n s).elim 0 (·.cycle) := by
  unfold gather
  rw [(checkPending_within _).taskView_eq rfl, (rejoinCheck_within _).taskView_eq rfl, (handoverCheck_within _).taskView_eq rfl,
    (safetyGather_within ..).taskView_eq rfl, taskView_shiftTimers h]
  exact ⟨_, rfl, fun _ => ⟨rfl, rfl, rfl, rfl⟩⟩

@[simp] theorem marks_gather (n s) : marks (gather n s) = marks s := by simp [gather]

/-- A property that every Gather of a Background task keeps outlives the passes that begin. -/
theorem passesBegin_keeps {P : State → Prop} (h : ∀ n u, background n u = true → P u → P (gather n u)) (old : State) {s : State}
    (hs : P s) : P (passesBegin old s) := by
  have key : ∀ (ns : List Nat) (u : State), P u → P (ns.foldl (fun u n =>
      if background n u && (taskAt n old).elim false (fun k => k.phase != .sleep) && releaseDue n u then gather n u else u) u) := by
    intro ns
    induction ns with
    | nil => exact fun _ hu => hu
    | cons n ns ih =>
      intro u hu
      refine ih _ ?_
      dsimp only
      split
      case isTrue hc =>
        simp only [Bool.and_eq_true] at hc
        exact h n u hc.1.1 hu
      case isFalse => exact hu
  exact key _ _ hs

theorem marks_followTasks {s : State} (h : s.prog.st ≠ .switching) (old : State) : marks (followTasks old s) = marks s := by
  unfold followTasks
  rw [switchSweep_of_not_switching h, marks_lanesIdle, marks_checkPending]
  exact passesBegin_keeps (P := fun u => marks u = marks s) (fun n u _ hu => (marks_gather n u).trans hu) old rfl

theorem taskView_map {α β : Type} (f : Task → α) (g : α → β) (t : Nat) (s : State) :
    taskView (fun k => g (f k)) t s = (taskView f t s).map g := by rw [taskView, taskView, Option.map_map]; rfl

/-- Whether a task is of class Background is read of its definition. -/
theorem background_congr {t : Nat} {u v : State} (h : taskView (·.defn) t u = taskView (·.defn) t v) :
    background t u = background t v := by
  have hdefn : ∀ w, taskDefn t w = (taskView (·.defn) t w).join := fun w => by
    show (taskAt t w).bind (·.defn) = ((taskAt t w).map (·.defn)).join
    cases taskAt t w <;> rfl
  rw [background, hdefn, h, ← hdefn, background]

/-- While no exchange switches, what follows the end of a cycle leaves a task that is not Background where it is. -/
theorem taskView_followTasks {α : Type} {f : Task → α} (hf : ∀ k, f { k with timerShift := 0 } = f k) {t : Nat} {s : State}
    (hst : s.prog.st ≠ .switching) (hback : background t s = false) (old : State) :
    taskView f t (followTasks old s) = taskView f t s := by
  unfold followTasks
  rw [switchSweep_of_not_switching hst, (lanesIdle_within _).taskView_eq rfl, (checkPending_within _).taskView_eq rfl]
  have h := passesBegin_keeps (P := fun u => taskView (fun k => (k.defn, f k)) t u = taskView (fun k => (k.defn, f k)) t s) ?_ old rfl
  · rw [taskView_map (fun k => (k.defn, f k)) (·.2), h, ← taskView_map]
  intro n u hn hu
  have hnt : n ≠ t := by
    rintro rfl
    have hdefn : taskView (·.defn) n u = taskView (·.defn) n s := by
      rw [taskView_map (fun k => (k.defn, f k)) (·.1), hu, ← taskView_map]
    rw [background_congr hdefn, hback] at hn
    exact Bool.false_ne_true hn
  obtain ⟨g, hg, -⟩ := taskView_gather (f := fun k => (k.defn, f k)) (fun k => by rw [hf]) n t u
  rw [hg, taskView, taskAt_taskMod_other hnt]
  exact hu

end Sys2Proof.Machine

namespace Sys2Proof.Machine

/-! The rows of a task's cycle (R41 to R44, R50 to R57, R92, R103 to R107): what each does to a task in the phase it is for, and that it
leaves any other alone. -/

theorem taskAt_fin (t : Fin 32) (s : State) : taskAt t.val s = some s.task[t] := by simp [taskAt]

theorem taskView_fin {α : Type} {f : Task → α} {t : Fin 32} {s : State} {x : α} : taskView f t.val s = some x ↔ f s.task[t] = x := by
  rw [taskView, taskAt_fin, Option.map_some, Option.some.injEq]

/-! ## TASK_RELEASE (R92, R107) -/

theorem taskRelease_releases {t : Fin 32} {s : State} (h : releaseDue t.val s = true) :
    ∃ u, exec (.taskRelease t) s = .next u ∧ u.task[t].phase = .gathered ∧ u.task[t].snap = snapshotAt (dueRelease t.val s) s ∧
      u.task[t].released = dueRelease t.val s ∧ u.task[t].next = dueRelease t.val s + (taskDefn t.val s).elim 0 (·.cycle) := by
  obtain ⟨g, hg, hk⟩ := taskView_gather (f := fun k => (k.phase, k.snap, k.released, k.next)) (fun _ => rfl) t.val t.val s
  obtain ⟨hphase, hsnap, hrel, hnext⟩ := hk s.task[t]
  have hu : taskView (fun k => (k.phase, k.snap, k.released, k.next)) t.val (lanesIdle (gather t.val s)) =
      some (.gathered, snapshotAt (dueRelease t.val s) s, dueRelease t.val s,
        dueRelease t.val s + (taskDefn t.val s).elim 0 (·.cycle)) := by
    rw [(lanesIdle_within _).taskView_eq rfl, hg, taskView_taskMod_same, taskView, taskAt_fin, Option.map_some, Function.comp, hphase,
      hsnap, hrel, hnext]
  refine ⟨lanesIdle (gather t.val s), ?_, ?_⟩
  · show execTaskRelease t s = _
    rw [execTaskRelease, if_pos h]
  · simpa only [Prod.mk.injEq] using taskView_fin.mp hu

theorem taskRelease_waits {t : Fin 32} {s : State} (h : releaseDue t.val s = false) : exec (.taskRelease t) s = .next s := by
  show execTaskRelease t s = _
  rw [execTaskRelease, if_neg (Bool.eq_false_iff.mp h)]

/-! ## CP1_AGREE (R50, R51, R56, R430) -/

section
variable {t : Fin 32} {items : List CpItem} {present : List Lane} {shown : BitVec 3} {s : State} {here late : List Lane}
  (hhere : here = (membersOf t.val s).filter fun l => present.contains l)
  (hlate : late = (membersOf t.val s).filter fun l => !present.contains l)
  (hready : ¬(s.task[t].phase ≠ .gathered ∨ here.length < quorum t.val s))
include hhere hlate hready

/-- A standby executes on the inputs that the active module agreed (R430). -/
theorem cp1Agree_follows {vs : List (ItemSrc × ItemVal)} (h : agreedFor t.val s = some vs) :
    exec (.cp1Agree t items present shown) s =
      .next (followTasks s (beginExecute t vs (vs.map fun x => itemTol t.val x.1 s) late s)) := by
  subst hhere hlate
  show execCp1Agree t items present shown s = _
  simp only [execCp1Agree, if_neg hready, h]

theorem cp1Agree_compares (h : agreedFor t.val s = none) (hmode : s.modes.mode ≠ .standby) :
    exec (.cp1Agree t items present shown) s = .next (followTasks s (whiffletree t items here late shown s)) := by
  subst hhere hlate
  show execCp1Agree t items present shown s = _
  simp only [execCp1Agree, if_neg hready, h, if_neg hmode]

end

/-- Inputs that every lane present agrees on are executed on (R41, R50). -/
theorem whiffletree_agrees {t : Fin 32} {items : List CpItem} {here late : List Lane} {shown : BitVec 3} {s : State}
    {vs : List (ItemSrc × ItemVal)} {tols : List F64} (hpol : polarityWrong shown s.cpl.pol1 (usedComparators here) = false)
    (hsend : sendsToStandby s = false)
    (hagree : agreeAll t.val (quorum t.val s) here s (items.map (proposals s.task[t] here)) = some (vs, tols, [])) :
    whiffletree t items here late shown s =
      beginExecute t vs tols late { s with cpl := { s.cpl with pol1 := s.cpl.pol1 ^^^ usedComparators here } } := by
  unfold whiffletree
  extract_lets k used cpl s0
  have hsend0 : sendsToStandby (beginExecute t vs tols late s0) = false := hsend
  rw [if_neg (Bool.eq_false_iff.mp hpol), hagree]
  simp only [List.eraseDups_nil, List.length_nil, Nat.not_lt_zero, if_false, oddLanes, List.foldl_nil, hsend0, Bool.false_eq_true]
  rfl

/-- A comparator's fault stands in the Coupler, and the comparators used go on to expect the other polarity (R54, R56; log 174). -/
theorem whiffletree_wrong {t : Fin 32} {items : List CpItem} {here late : List Lane} {shown : BitVec 3} {s : State}
    (hpol : polarityWrong shown s.cpl.pol1 (usedComparators here) = true) :
    (whiffletree t items here late shown s).cpl.fault = true ∧
      (whiffletree t items here late shown s).cpl.pol1 = s.cpl.pol1 ^^^ usedComparators here := by
  have hm : ∀ {u v : State}, marks u = marks v → u.cpl.fault = v.cpl.fault ∧ u.cpl.pol1 = v.cpl.pol1 := fun h =>
    ⟨congrArg (·.2.1) h, congrArg (·.2.2) h⟩
  have hfault : ∀ src u, (couplerFault src u).cpl.fault = true ∧ (couplerFault src u).cpl.pol1 = u.cpl.pol1 := fun src u =>
    hm ((marks_selfDemote ..).trans (marks_countMismatch src { u with cpl := { u.cpl with fault := true } }))
  unfold whiffletree
  extract_lets k used cpl s0
  rw [if_pos hpol]
  obtain ⟨h1, h2⟩ := hfault (srcTask t.val) (discardDisagreed t.val none s0)
  exact ⟨h1, h2.trans (hm (marks_discardDisagreed ..)).2⟩

/-! ## CP2_COMPARE (R53, R57) -/

theorem taskMod_taskMod (t : Nat) (f g : Task → Task) (s : State) : taskMod t f (taskMod t g s) = taskMod t (f ∘ g) s := by
  have hv : vmod (vmod s.task t g) t f = vmod s.task t (f ∘ g) := by
    by_cases ht : t < 32
    · simp [vmod_eq _ _ _ ht]
    · simp [vmod, ht]
  simp only [taskMod, hv]

theorem scopesSafe_nil (cause t : Nat) (s : State) : scopesSafe cause [] t s = s := by
  have hnil : ((funcsOfTask t s).filter fun n => ([] : List Nat).contains n) = [] := by simp
  rw [scopesSafe, hnil, List.foldl_nil]

theorem oddLanes_nil (s : State) : oddLanes [] s = s := by simp [oddLanes]

theorem digestCheck_of_no_digests {s : State} (h : s.pair.digests = []) (t : Nat) (sigs : List (Nat × BitVec 128)) :
    digestCheck t sigs s = s := by
  unfold digestCheck
  rw [h]
  split
  · rfl
  · rfl

/-- Where every scope agrees, no lane is odd and nothing is discarded: the first lane's signatures and outputs are held. -/
theorem compareResults_agree {t : Nat} {here : List LaneResult} {late : List Lane} {r : LaneResult} {s : State} {k : Task}
    (hk : taskAt t s = some k) (hhead : here.head? = some r)
    (hall : ∀ x ∈ scopesOf t here s, compareScope (scopeMatch s.cpl.key k.cycleNo x) here = some []) (hdig : s.pair.digests = []) :
    compareResults t here late s = taskMod t (fun j => { j with
      areaDue := false, phase := .compared, outs := r.outs, badScopes := [], absent2 := late,
      sigs := (scopesOf t here s).map fun x => (x, (scopeSig s.cpl.key k.cycleNo x r).getD 0) }) s := by
  unfold compareResults
  extract_lets key cycle xs cmp bad odd s0 badHere
  have hcmp : cmp = xs.map fun x => (x, some []) := List.map_congr_left fun x hx => by
    rw [← hall x hx]
    simp [cycle, hk, key]
  have hbad : badHere = [] := by simp [badHere, bad, hcmp]
  have hodd : odd = [] := by
    have hflat : (cmp.flatMap fun p => p.2.getD []) = [] := by simp [hcmp]
    simp [odd, hflat]
  have hfind : here.find? (fun r => !odd.contains r.lane) = some r := by
    obtain ⟨rs, rfl⟩ := List.head?_eq_some_iff.mp hhead
    simp [hodd]
  have hnone : ¬(cmp.any (fun p => p.2.isNone) = true ∨ 1 < odd.length) := by simp [hcmp, hodd]
  rw [hfind]
  dsimp only
  rw [if_neg hnone, hbad, hodd, scopesSafe_nil, oddLanes_nil, digestCheck_of_no_digests (by exact hdig)]
  simp only [s0, taskMod_taskMod, cycle, hk]
  rfl

theorem cp2Compare_compares {t : Fin 32} {rs : List LaneResult} {shown used : BitVec 3} {s : State} {here : List LaneResult}
    {late : List Lane} (hphase : s.task[t].phase = .executing)
    (hhere : here = (membersOf t.val s).filterMap fun l => rs.find? fun r => r.lane == l)
    (hlate : late = (membersOf t.val s).filter fun l => !(here.map (·.lane)).contains l) (hquorum : quorum t.val s ≤ here.length)
    (hhalted : haltedTask t.val s = false) (hused : used = usedComparators (here.map (·.lane)))
    (hpol : polarityWrong shown s.cpl.pol2 used = false) :
    exec (.cp2Compare t rs shown) s =
      .next (followTasks s (compareResults t.val here late { s with cpl := { s.cpl with pol2 := s.cpl.pol2 ^^^ used } })) := by
  subst hused hlate hhere
  show execCp2Compare t rs shown s = _
  unfold execCp2Compare
  extract_lets mem here used cpl s0
  rw [if_neg (not_or.mpr ⟨not_not.mpr hphase, not_or.mpr ⟨Nat.not_lt.mpr hquorum, Bool.eq_false_iff.mp hhalted⟩⟩),
    if_neg (Bool.eq_false_iff.mp hpol)]

/-! ## LATE_LANE_CHECK, LAG_LIMIT_EXPIRY (R42, R44) -/

theorem lateLane_result_agrees {t : Fin 32} {l : Lane} {r : LaneResult} {s : State} (h : s.task[t].absent2.contains l = true)
    (hd : lateDiffers s.task[t] s.cpl.key (.result r) = false) :
    exec (.lateLaneCheck t l (.result r)) s = .next (taskMod t.val (fun k => { k with absent2 := k.absent2.filter (· != l) }) s) := by
  show execLateLaneCheck t l (.result r) s = _
  simp only [execLateLaneCheck, h, hd, Bool.true_eq_false, Bool.false_eq_true, if_false]

theorem lateLane_release {t : Fin 32} {l : Lane} {s : State} (h : s.task[t].absent3.contains l = true) :
    exec (.lateLaneCheck t l .release) s = .next (taskMod t.val (fun k => { k with absent3 := k.absent3.filter (· != l) }) s) := by
  show execLateLaneCheck t l .release s = _
  simp only [execLateLaneCheck, h, lateDiffers, Bool.true_eq_false, Bool.false_eq_true, if_false]

section
variable {t : Fin 32} {l : Lane} {s : State}

section
variable (h1 : s.task[t].absent1.contains l = false) (h2 : s.task[t].absent2.contains l = false)
  (h3 : s.task[t].absent3.contains l = false)
include h1 h2 h3

theorem lateLane_present {c : LateContribution} : exec (.lateLaneCheck t l c) s = .next s := by
  show execLateLaneCheck t l c s = _
  cases c with
  | proposals _ => rw [execLateLaneCheck, if_pos h1]
  | result _ => rw [execLateLaneCheck, if_pos h2]
  | release => rw [execLateLaneCheck, if_pos h3]

theorem lagLimit_asleep {first : Nat} (hphase : s.task[t].phase = .sleep) : exec (.lagLimitExpiry t l first) s = .next s := by
  show execLagLimitExpiry t l s first = _
  simp only [execLagLimitExpiry, h1, h2, h3, hphase, bne_self_eq_false, Bool.false_and, Bool.or_false, Bool.false_eq_true, if_false]

end

theorem lagLimit_excludes {first : Nat} (h : s.task[t].absent2.contains l = true) (hsus : lagSuspended t.val s = false)
    (hrel : s.task[t].released ≤ first) (hpast : first + (taskDefn t.val s).elim 0 lagLimit < now s) :
    exec (.lagLimitExpiry t l first) s = .next (followTasks s (excludeLane l s)) := by
  show execLagLimitExpiry t l s first = _
  simp only [execLagLimitExpiry, h, hsus, hrel, hpast, Bool.or_true, Bool.true_or, Bool.true_and, decide_true, Bool.not_false, if_true]

theorem lagLimit_waits {first : Nat} (hpast : now s ≤ first + (taskDefn t.val s).elim 0 lagLimit) :
    exec (.lagLimitExpiry t l first) s = .next s := by
  show execLagLimitExpiry t l s first = _
  simp only [execLagLimitExpiry, Nat.not_lt.mpr hpast, decide_false, Bool.and_false, Bool.false_and, Bool.false_eq_true, if_false]

end

/-! ## Overruns (R103 to R106) -/

theorem Within.eq_recorder_task {s u : State} (h : Within [.recorder, .task] s u) :
    u = { s with task := u.task, recorder := u.recorder } := by
  refine State.ext_parts fun p => ?_
  have hp := h.same p
  cases p
  case recorder | task => rfl
  all_goals exact hp rfl

theorem wcetExceeded_counts {t : Fin 32} {s : State} (h : s.task[t].phase = .executing) :
    ∃ u, exec (.wcetExceeded t) s = .next u ∧ u = { s with task := u.task, recorder := u.recorder } ∧
      u.task[t].wcetExceeded = s.task[t].wcetExceeded + 1 := by
  obtain ⟨u, hu, hcount⟩ : ∃ u, execWcetExceeded t s = .next u ∧
      taskView (·.wcetExceeded) t.val u = some (s.task[t].wcetExceeded + 1) := by
    unfold execWcetExceeded
    extract_lets k s1
    have h1 : taskView (·.wcetExceeded) t.val s1 = some (s.task[t].wcetExceeded + 1) := by
      rw [taskView_taskMod_same, taskView, taskAt_fin]
      rfl
    refine ⟨_, rfl, ?_⟩
    rw [if_neg (not_not.mpr h)]
    split
    · rw [(record_within ..).taskView_eq rfl, taskView_taskMod (by exact fun _ => rfl), h1]
    · exact h1
  exact ⟨u, hu, (execWcetExceeded_within t s u hu).eq_recorder_task, taskView_fin.mp hcount⟩

theorem deadlineOverrun_overruns {t : Fin 32} {s : State} (hphase : s.task[t].phase ≠ .sleep) (hback : background t.val s = false)
    (hlate : s.task[t].late = false) (hnext : s.task[t].next ≤ now s) :
    exec (.deadlineOverrun t) s = .next (followTasks s (overrun t.val s)) := by
  show execDeadlineOverrun t s = _
  simp only [execDeadlineOverrun, hphase, hback, hlate, Nat.not_lt.mpr hnext, Bool.false_eq_true, or_self, if_false]

theorem passLimitExpiry_overruns {t : Fin 32} {s : State} (hphase : s.task[t].phase ≠ .sleep) (hback : background t.val s = true)
    (hlimit : s.task[t].released + (taskDefn t.val s).elim 0 (·.passLimit) * sec ≤ now s) :
    exec (.passLimitExpiry t) s = .next (followTasks s (overrun t.val s)) := by
  show execPassLimitExpiry t s = _
  simp only [execPassLimitExpiry, hphase, hback, Nat.not_lt.mpr hlimit, Bool.true_eq_false, or_self, if_false]

theorem overrun_counts_fin {t : Fin 32} {s : State} (h : (taskDefn t.val s).isSome = true) :
    (overrun t.val s).task[t].totalOverruns = s.task[t].totalOverruns + 1 :=
  taskView_fin.mp (overrun_counts (taskAt_fin t s) h)

theorem overruns_asleep {t : Fin 32} {s : State} (h : s.task[t].phase = .sleep) :
    exec (.wcetExceeded t) s = .next s ∧ exec (.deadlineOverrun t) s = .next s ∧ exec (.passLimitExpiry t) s = .next s := by
  refine ⟨(?_ : execWcetExceeded t s = _), (?_ : execDeadlineOverrun t s = _), (?_ : execPassLimitExpiry t s = _)⟩
  · simp only [execWcetExceeded, h, ne_eq, reduceCtorEq, not_false_eq_true, if_true]
  · simp only [execDeadlineOverrun, h, true_or, if_true]
  · simp only [execPassLimitExpiry, h, true_or, if_true]

/-! ## CP3_COMMIT (R41, R93, R136 to R139) -/

/-- What a commit leaves from its image event to the end of the cycle. -/
def standing (t : Nat) (s : State) : (Nat × Bool × BitVec 3) × ExchState × Option (Phase × Nat × Option TaskDef) :=
  (marks s, s.prog.st, taskView (fun k => (k.phase, k.cycleNo, k.defn)) t s)

section
variable {t : Nat}

theorem standing_congr {u v : State} (hmarks : marks v = marks u) (hst : v.prog.st = u.prog.st) (htask : v.task = u.task) :
    standing t v = standing t u := by
  rw [standing, hmarks, hst, taskView, taskAt_congr htask, standing, taskView]

theorem Within.standing_eq {ps : List Part} {u v : State} (w : Within ps u v) (hprog : ps.contains .prog = false)
    (htask : ps.contains .task = false) (hmarks : marks v = marks u) : standing t v = standing t u :=
  standing_congr hmarks (congrArg (·.st) (w.same .prog hprog)) (w.same .task htask)

theorem standing_taskMod {g : Task → Task} (h : ∀ k, ((g k).phase, (g k).cycleNo, (g k).defn) = (k.phase, k.cycleNo, k.defn))
    (n : Nat) (s : State) : standing t (taskMod n g s) = standing t s := by
  rw [standing, marks_taskMod, taskMod_prog, taskView_taskMod h, standing]

theorem standing_queueRetained (n : Nat) (ps : List PageWrite) (s : State) : standing t (queueRetained n ps s) = standing t s := by
  have hr : ∀ {r g u}, standing t (taskMod n (fun k => { k with allDirty := g }) { u with retained := r }) = standing t u :=
    (standing_taskMod (by exact fun _ => rfl) ..).trans (standing_congr rfl rfl rfl)
  unfold queueRetained
  split
  · rfl
  · extract_lets mine all ps s1
    split
    · exact hr
    · exact ((enqueueCommit_within ..).standing_eq rfl rfl ((enqueueCommit_within ..).marks_eq rfl rfl)).trans hr

theorem standing_reconvert (n : Nat) (s : State) : standing t (reconvert n s) = standing t s := by
  unfold reconvert
  split
  · exact standing_congr rfl rfl rfl
  · split
    · exact standing_congr rfl rfl rfl
    · rfl

/-- With no exchange in progress a first cycle settles nothing. -/
theorem standing_exchFirst {s : State} (h : s.prog.st = .idle) (n : Nat) : standing t (exchFirst n s) = standing t s := by
  have hsettle : ∀ u, u.prog.st = .idle → settleCheck u = u := fun u hu => by
    rw [settleCheck, if_neg (by simp [hu])]
  unfold exchFirst
  split
  · rfl
  · split
    · rw [hsettle _ (by exact h)]
      exact (standing_congr rfl rfl rfl).trans (standing_taskMod (by exact fun _ => rfl) n s)
    · rfl

end

theorem marks_commitStream (n : Nat) (s : State) : marks (commitStream n s) = marks s := by
  unfold commitStream
  split
  · exact marks_congr rfl rfl rfl
  · rfl

/-- The state in which a commit makes its image event: its task sleeps already. -/
def beforeEvent (t : Nat) (late : List Lane) (s : State) : State := taskMod t (fun k => { k with phase := .sleep, absent3 := late }) s

/-- After its image event a commit leaves the task asleep in its cycle, with no exchange in progress, until it ends the cycle. -/
theorem commitCycle_ends (t : Fin 32) (ws : WriteSet) (late : List Lane) {s : State} (hst : s.prog.st = .idle) :
    ∃ v, commitCycle t ws late s = poolSweep (followTasks s (endCycle t.val v)) ∧
      standing t.val v =
        (marks (commitSignals t.val ws (beforeEvent t.val late s)), .idle, some (.sleep, s.task[t].cycleNo, s.task[t].defn)) := by
  unfold commitCycle
  extract_lets k s1 moved outs s2 s3 s4 s5 s6 s7
  refine ⟨_, rfl, ?_⟩
  change standing t.val _ = (marks s1, _)
  have h1 : standing t.val s1 = (marks s1, .idle, some (.sleep, s.task[t].cycleNo, s.task[t].defn)) := by
    have hprog : s1.prog = s.prog := (commitSignals_within ..).same .prog rfl
    have htask : taskView (fun k => (k.phase, k.cycleNo, k.defn)) t.val s1 = some (.sleep, s.task[t].cycleNo, s.task[t].defn) := by
      rw [(commitSignals_within ..).taskView_eq rfl, taskView_taskMod_same, taskView, taskAt_fin]
      rfl
    rw [standing, hprog, hst, htask]
  have h2 : standing t.val s2 = standing t.val s1 :=
    ((safetyCommit_within ..).standing_eq rfl rfl (marks_safetyCommit ..)).trans (standing_taskMod (by exact fun _ => rfl) ..)
  have h3 : standing t.val s3 = standing t.val s2 := by
    unfold s3
    split
    · exact (reachingSafe_step rfl (applyOutputs_within ..)).standing_eq rfl rfl (by simp)
    · rfl
  have h4 : standing t.val s4 = standing t.val s3 := calc
    _ = _ := (commitStream_within ..).standing_eq rfl rfl (marks_commitStream ..)
    _ = _ := standing_queueRetained ..
    _ = _ := (commitLoops_within ..).standing_eq rfl rfl ((commitLoops_within ..).marks_eq rfl rfl)
    _ = _ := standing_congr rfl rfl rfl
  have h5 : standing t.val s5 = standing t.val s4 := by
    unfold s5
    split
    · exact standing_congr rfl rfl rfl
    · rfl
  have h6 : standing t.val s6 = standing t.val s5 := standing_taskMod (by exact fun _ => rfl) ..
  have h7 : standing t.val s7 = standing t.val s6 := by
    unfold s7
    split
    · calc
        _ = _ := (subFillAll_within ..).standing_eq rfl rfl ((subFillAll_within ..).marks_eq rfl rfl)
        _ = _ := (publishFull_within ..).standing_eq rfl rfl (marks_publishFull ..)
        _ = _ := (outputsAfter_within ..).standing_eq rfl rfl ((outputsAfter_within ..).marks_eq rfl rfl)
    · rfl
  have h : standing t.val (reconvert t.val s7) = (marks s1, .idle, some (.sleep, s.task[t].cycleNo, s.task[t].defn)) := by
    rw [standing_reconvert, h7, h6, h5, h4, h3, h2, h1]
  have hidle : (reconvert t.val s7).prog.st = .idle := congrArg (·.2.1) h
  exact (standing_exchFirst hidle t.val).trans h

/-- A cycle that ends while no exchange is in progress is followed by no switch of a task. -/
theorem endCycle_not_switching {t : Nat} {v : State} (h : v.prog.st = .idle) : (endCycle t v).prog.st ≠ .switching := by
  have hprog : (endCycle t v).prog = v.prog := (endCycle_within ..).same .prog rfl
  rw [hprog, h]
  decide

theorem commitCycle_task {t : Fin 32} (ws : WriteSet) (late : List Lane) {s : State} (hst : s.prog.st = .idle)
    (hback : background t.val s = false) :
    (commitCycle t ws late s).task[t].phase = .sleep ∧ (commitCycle t ws late s).task[t].cycleNo = s.task[t].cycleNo + 1 := by
  obtain ⟨v, hcommit, hv⟩ := commitCycle_ends t ws late hst
  simp only [standing, Prod.mk.injEq, taskView_fin] at hv
  obtain ⟨-, hvst, -, hvcycle, hvdefn⟩ := hv
  have hend := taskView_endCycle (taskAt_fin t v)
  rw [hvcycle, hvdefn] at hend
  have hdefn : taskView (·.defn) t.val (endCycle t.val v) = taskView (·.defn) t.val s := by
    rw [taskView_map (fun j => (j.phase, j.cycleNo, j.defn)) (·.2.2), hend, taskView, taskAt_fin]
    rfl
  have hnone : background t.val (endCycle t.val v) = false := (background_congr hdefn).trans hback
  have h : taskView (fun j => (j.phase, j.cycleNo, j.defn)) t.val (commitCycle t ws late s) =
      some (.sleep, s.task[t].cycleNo + 1, s.task[t].defn) := by
    rw [hcommit, (poolSweep_within _).taskView_eq rfl, taskView_followTasks (fun _ => rfl) (endCycle_not_switching hvst) hnone, hend]
  obtain ⟨hphase, hcycle, -⟩ : _ ∧ _ ∧ _ := by simpa only [Prod.mk.injEq] using taskView_fin.mp h
  exact ⟨hphase, hcycle⟩

theorem commitCycle_gen {t : Fin 32} (ws : WriteSet) (late : List Lane) {s : State} (hst : s.prog.st = .idle) :
    (commitCycle t ws late s).image.gen =
      if ws.sigs = [] ∧ ws.alarms = [] ∧ (s.task[t].st ≠ .running ∨ staleOf t.val s = []) then s.image.gen else s.image.gen + 1 := by
  obtain ⟨v, hcommit, hv⟩ := commitCycle_ends t ws late hst
  simp only [standing, Prod.mk.injEq] at hv
  obtain ⟨hvmarks, hvst, -⟩ := hv
  have hmarks : marks (commitCycle t ws late s) = marks (commitSignals t.val ws (beforeEvent t.val late s)) := by
    rw [hcommit, marks_poolSweep, marks_followTasks (endCycle_not_switching hvst), marks_endCycle, hvmarks]
  have hrun : ((taskAt t.val (beforeEvent t.val late s)).elim false (·.st == .running) = false) = (s.task[t].st ≠ .running) := by
    rw [beforeEvent, taskAt_taskMod, taskAt_fin]
    simp
  have hstale : staleOf t.val (beforeEvent t.val late s) = staleOf t.val s := rfl
  rw [gen_eq_of_marks_eq hmarks, commitSignals_gen, hstale]
  simp only [hrun]
  rfl

theorem cp3Commit_commits {t : Fin 32} {ws : WriteSet} {present : List Lane} {s : State} (hphase : s.task[t].phase = .compared)
    (hbad : s.task[t].badScopes = []) (hhalted : haltedTask t.val s = false)
    (hquorum : quorum t.val s ≤ ((membersOf t.val s).filter fun l => present.contains l).length) :
    exec (.cp3Commit t ws present) s =
      .next (commitCycle t ws ((membersOf t.val s).filter fun l => !present.contains l) s) := by
  have hgood : goodWrites [] ws = ws := by simp [goodWrites]
  show execCp3Commit t ws s present = _
  unfold execCp3Commit
  extract_lets k here late
  rw [if_neg (not_or.mpr ⟨not_not.mpr hphase, not_or.mpr ⟨Nat.not_lt.mpr hquorum, Bool.eq_false_iff.mp hhalted⟩⟩), hbad, hgood]

/-! ## The statement -/

/-- Settles O35: each phase of a cycle by its rule above. -/
theorem taskCyclesRunThroughTheirPhases : Obligations.TaskCyclesRunThroughTheirPhases := by
  refine ⟨fun t s => ⟨taskRelease_releases, taskRelease_waits⟩, ?cp1, ?cp2, ?cp3, fun t l r s => lateLane_result_agrees,
    fun t l s => lateLane_release, fun t l c first s h1 h2 h3 => ⟨lateLane_present h1 h2 h3, lagLimit_asleep h1 h2 h3⟩,
    fun t l first s h hsus hrel => ⟨lagLimit_excludes h hsus hrel, lagLimit_waits⟩, fun t s => wcetExceeded_counts, ?overrun,
    fun t s => overruns_asleep⟩
  case cp1 =>
    intro t items present shown s here late used v hphase hhere hlate hquorum hused hv
    subst hused hv
    have hready : ¬(s.task[t].phase ≠ .gathered ∨ here.length < quorum t.val s) :=
      not_or.mpr ⟨not_not.mpr hphase, Nat.not_lt.mpr hquorum⟩
    refine ⟨fun vs h => cp1Agree_follows hhere hlate hready h,
      fun h hmode => ⟨fun vs tols hpol hsend hagree => ?agrees, fun hpol => ?wrong⟩⟩
    case agrees =>
      rw [cp1Agree_compares hhere hlate hready h hmode, whiffletree_agrees hpol hsend hagree]
      rfl
    case wrong =>
      exact ⟨_, cp1Agree_compares hhere hlate hready h hmode, whiffletree_wrong hpol⟩
  case cp2 =>
    intro t rs shown s here late r used hphase hhere hlate hquorum hhead hhalted hused hpol hall hdig
    rw [cp2Compare_compares hphase hhere hlate hquorum hhalted hused hpol]
    exact congrArg (Host.Outcome.next <| followTasks s ·) (compareResults_agree (taskAt_fin ..) hhead hall hdig)
  case cp3 =>
    intro t ws present s hphase hbad hst hback hhalted hquorum
    obtain ⟨htask, hcycle⟩ := commitCycle_task ws ((membersOf t.val s).filter fun l => !present.contains l) hst hback
    exact ⟨_, cp3Commit_commits hphase hbad hhalted hquorum, htask, hcycle, commitCycle_gen ws _ hst⟩
  case overrun =>
    intro t s hphase hdefn
    exact ⟨fun hback hlate hnext => ⟨_, deadlineOverrun_overruns hphase hback hlate hnext, overrun_counts_fin hdefn⟩,
      fun hback hlimit => ⟨_, passLimitExpiry_overruns hphase hback hlimit, overrun_counts_fin hdefn⟩⟩

end Sys2Proof.Machine

namespace Sys2Proof.Machine

/-! The degraded time and the lockouts end (R306, R316, R526), a retained commit closes (R121 to R126), and an exchange comes to its
cast point or is abandoned (R190, R191, R194, R205, R212): what each row does. -/

/-! ## DEGRADED_TIME_EXPIRY, PASSWORD_LOCKOUT_END, LOGIN_LOCKOUT_END (R306, R316, R526) -/

section
variable {f : Fin 256} {s : State} {t : Nat}

theorem degradedTimeExpiry_forces (ht : (funcAt f.val s).timer = some t) (hst : (funcAt f.val s).st = .degraded)
    (hdue : t + degradedNs (funcRec f.val s) ≤ now s) : exec (.degradedTimeExpiry f) s = .next (forceSafe 0x07 s f.val) := by
  show execDegradedTimeExpiry f s = _
  simp only [execDegradedTimeExpiry, ht, if_pos (And.intro hst hdue)]

theorem degradedTimeExpiry_waits (ht : (funcAt f.val s).timer = some t)
    (h : (funcAt f.val s).st ≠ .degraded ∨ now s < t + degradedNs (funcRec f.val s)) : exec (.degradedTimeExpiry f) s = .next s := by
  have hnot : ¬((funcAt f.val s).st = .degraded ∧ t + degradedNs (funcRec f.val s) ≤ now s) := by
    rwa [not_and_or, not_le]
  show execDegradedTimeExpiry f s = _
  simp only [execDegradedTimeExpiry, ht, if_neg hnot]

theorem passwordLockoutEnd_forgets (ht : s.safety.lockout = some t) (hdue : t ≤ now s) :
    exec .passwordLockoutEnd s = .next { s with safety := { s.safety with lockout := none, failures := [] } } := by
  show execPasswordLockoutEnd s = _
  simp only [execPasswordLockoutEnd, ht, if_pos hdue]

theorem passwordLockoutEnd_waits (ht : s.safety.lockout = some t) (hearly : now s < t) : exec .passwordLockoutEnd s = .next s := by
  show execPasswordLockoutEnd s = _
  simp only [execPasswordLockoutEnd, ht, if_neg (Nat.not_le.mpr hearly)]

end

/-- What stays of the login locks when the lock of `user` may end. -/
theorem mem_loginLockoutEnd {user : List Byte} {s : State} {p : List Byte × Nat} :
    p ∈ s.modes.loginLocks.filter (fun p => p.1 != user || decide (now s < p.2)) ↔
      p ∈ s.modes.loginLocks ∧ (p.1 = user → now s < p.2) := by
  rw [List.mem_filter, Bool.or_eq_true, bne_iff_ne, decide_eq_true_eq, ← imp_iff_not_or]

/-! ## RETAINED_COMMIT_CLOSED, RETENTION_LAG_WARNING (R121 to R126) -/

/-- A commit that closes while no exchange is in progress says nothing to an exchange record. -/
theorem commitDone_idle {s : State} (h : s.prog.st = .idle) (c : QueuedCommit) : commitDone c s = s := by
  simp only [commitDone, h]

theorem retainedCommitClosed_closes {t : Fin 32} {s : State} {c : QueuedCommit} (hc : s.retained.writing = some c)
    (ht : c.task = t.val) (hst : s.prog.st = .idle) :
    exec (.retainedCommitClosed t) s =
      .next (startWriting (writeCommit c { s with retained := { s.retained with writing := none } })) := by
  show execRetainedCommitClosed t s = _
  simp only [execRetainedCommitClosed, hc, if_pos ht]
  rw [commitDone_idle (by exact hst)]

theorem retainedCommitClosed_other {t : Fin 32} {s : State} (h : ∀ c, s.retained.writing = some c → c.task ≠ t.val) :
    exec (.retainedCommitClosed t) s = .next s := by
  show execRetainedCommitClosed t s = _
  unfold execRetainedCommitClosed
  split
  case h_1 c hc => rw [if_neg (h c hc)]
  case h_2 => rfl

/-- The record that a commit leaves in the ring of its number's parity. -/
theorem writeCommit_record (c : QueuedCommit) (s : State) :
    ∃ r : CommitRecord, (writeCommit c s).retained.rings = vmod s.retained.rings (r.seq % 2) (fun rs => ringKeep ringSize (r :: rs)) ∧
      r.task = c.task ∧ r.seq = s.retained.nextSeq ∧ r.cycle = c.cycle ∧ r.close = 0xFFFFFFFFFFFFFFFF - r.seq ∧
      r.pages.map (·.1) = c.pages.map (·.1) ∧ (writeCommit c s).retained.nextSeq = s.retained.nextSeq + 1 := by
  unfold writeCommit
  extract_lets ps r
  have hpages : r.pages.map (·.1) = c.pages.map (·.1) := List.map_map ..
  exact ⟨r, rfl, rfl, rfl, rfl, rfl, hpages, rfl⟩

theorem retentionLagWarning_sets {s : State} (hlag : s.retained.lagging = false) (hlong : 100 * ms < retentionLag s) :
    ∃ u, exec .retentionLagWarning s = .next u ∧
      u = { s with retained := { s.retained with lagging := true }, recorder := u.recorder } := by
  refine ⟨_, ?_, record_eq sevWarning 0x0312 (srcUnit 9) [] { s with retained := { s.retained with lagging := true } }⟩
  show execRetentionLagWarning s = _
  simp only [execRetentionLagWarning, if_pos (And.intro hlag hlong)]

theorem retentionLagWarning_clears {s : State} (hlag : s.retained.lagging = true) (hshort : retentionLag s < 10 * ms)
    (hlong : s.retained.lastHigh + 10 * sec ≤ now s) :
    exec .retentionLagWarning s = .next { s with retained := { s.retained with lagging := false } } := by
  show execRetentionLagWarning s = _
  simp only [execRetentionLagWarning, hlag, Bool.true_eq_false, false_and, if_false, hshort, hlong, and_self, if_true]

/-! ## PREPARATION_CAUGHT_UP, STANDBY_READY_ACK (R190, R191, R194, R197, R212) -/

/-- Filling the maquette's area changes the areas of the program unit and nothing else. -/
theorem fillArea_eq (s : State) : ∃ x, fillArea s = { s with prog := { s.prog with inst := x } } := by
  unfold fillArea
  refine List.foldlRecOn (motive := fun u => ∃ x, u = { s with prog := { s.prog with inst := x } }) _ _ ?_ ?_
  · exact ⟨_, rfl⟩
  · rintro _ ⟨x, rfl⟩ n -
    exact ⟨_, rfl⟩

/-- The state in which a preparation has caught up. -/
def caughtUp (s : State) : State := { fillArea s with prog := { (fillArea s).prog with caught := true } }

theorem caughtUp_eq (s : State) : ∃ x, caughtUp s = { s with prog := { s.prog with inst := x, caught := true } } := by
  obtain ⟨x, hx⟩ := fillArea_eq s
  exact ⟨x, by rw [caughtUp, hx]⟩

section
variable {s : State}

/-- What a preparation that catches up becomes, on a module that is no standby: in a pair in step without the standby's
acknowledgement it waits, else it is READY. -/
theorem preparationCaughtUp_prepared (hst : s.prog.st = .preparing) (hcaught : s.prog.caught = false)
    (hmode : s.modes.mode ≠ .standby) :
    exec .preparationCaughtUp s =
      .next (if pairInStep s ∧ s.prog.acked = false then caughtUp s else becomeReady (caughtUp s)) := by
  obtain ⟨x, hx⟩ := caughtUp_eq s
  have hmode' : (caughtUp s).modes.mode ≠ .standby := by rwa [hx]
  have hwaits : (pairInStep (caughtUp s) ∧ (caughtUp s).prog.acked = false) = (pairInStep s ∧ s.prog.acked = false) := by
    rw [hx]
    rfl
  show execPreparationCaughtUp s = _
  rw [execPreparationCaughtUp, if_neg (by simp [hst, hcaught])]
  show Host.Outcome.next (if (caughtUp s).modes.mode = .standby then _
    else if pairInStep (caughtUp s) ∧ (caughtUp s).prog.acked = false then caughtUp s else becomeReady (caughtUp s)) = _
  simp only [if_neg hmode', hwaits]

theorem preparationCaughtUp_otherwise (h : s.prog.st ≠ .preparing ∨ s.prog.caught = true) :
    exec .preparationCaughtUp s = .next s := by
  show execPreparationCaughtUp s = _
  rw [execPreparationCaughtUp, if_pos h]

theorem becomeReady_with_cast (h : s.prog.castAt ≠ 0) : becomeReady s = { s with prog := { s.prog with st := .ready } } :=
  if_pos h

theorem becomeReady_without_cast (h : s.prog.castAt = 0) (hsend : sendsToStandby s = false) :
    becomeReady s = { s with prog := { s.prog with st := .ready, cast := ceilUs (now s + 20 * ms), acked := false } } := by
  have hsend' : ∀ p, ¬sendsToStandby { s with prog := p } = true := fun _ => Bool.eq_false_iff.mp hsend
  unfold becomeReady
  extract_lets t c u
  rw [if_neg (not_not.mpr h), if_neg (hsend' _)]
  rfl

theorem standbyReadyAck_holds (hpair : pairInStep s = true)
    (hst : s.prog.st = .ready ∨ (s.prog.st = .preparing ∧ s.prog.caught = false)) :
    exec .standbyReadyAck s = .next { s with prog := { s.prog with acked := true } } := by
  have hwaits : (s.prog.st = .preparing ∨ s.prog.st = .ready) ∧ pairInStep s = true := ⟨by tauto, hpair⟩
  have hnot : ¬(s.prog.st = .preparing ∧ s.prog.caught = true) := by
    rcases hst with h | ⟨-, h⟩ <;> simp [h]
  show Host.Outcome.next (standbyReady s) = _
  rw [standbyReady, if_pos hwaits]
  exact congrArg _ (if_neg hnot)

theorem standbyReadyAck_unpaired (hpair : pairInStep s = false) : exec .standbyReadyAck s = .next s := by
  show Host.Outcome.next (standbyReady s) = _
  rw [standbyReady, if_neg (by simp [hpair])]

/-! ## CAST_ABANDON_DEADLINE, CAST_POINT (R190, R194, R205) -/

/-- An exchange before its cast point that is abandoned is over. -/
theorem abandonExchange_idle (h : s.prog.st = .preparing ∨ s.prog.st = .ready) : (abandonExchange s).prog.st = .idle := by
  have hemit : ∀ {c : Prop} [Decidable c] (o u), (if c then emit o u else u).prog = u.prog := by
    intro c _ o u
    split <;> rfl
  have hrecord : ∀ sev code src data u, (record sev code src data u).prog = u.prog :=
    fun _ _ _ _ _ => (record_within ..).same .prog rfl
  unfold abandonExchange
  split
  case h_1 | h_2 =>
    dsimp only
    rw [hemit, hrecord]
    rfl
  case h_3 hprep hready => exact (h.elim hprep hready).elim

theorem castAbandonDeadline_uncast (h : s.prog.cast = 0) : exec .castAbandonDeadline s = .next s := by
  show execCastAbandonDeadline s = _
  rw [execCastAbandonDeadline, if_pos (.inl h)]

theorem castPoint_uncast (h : s.prog.cast = 0) : exec .castPoint s = .next s := by
  show execCastPoint s = _
  rw [execCastPoint, if_pos (.inr (.inl h))]

section
variable (hcast : s.prog.cast ≠ 0)
include hcast

section
variable (hdue : s.prog.cast ≤ now s + 2 * ms)
include hdue

theorem castAbandonDeadline_unready (hst : s.prog.st = .preparing) : exec .castAbandonDeadline s = .next (abandonExchange s) := by
  show execCastAbandonDeadline s = _
  rw [execCastAbandonDeadline, if_neg (not_or.mpr ⟨hcast, Nat.not_lt.mpr hdue⟩), if_pos (.inl hst)]

theorem castAbandonDeadline_acked (hst : s.prog.st = .ready) (hack : s.prog.acked = true) :
    exec .castAbandonDeadline s = .next s := by
  show execCastAbandonDeadline s = _
  rw [execCastAbandonDeadline, if_neg (not_or.mpr ⟨hcast, Nat.not_lt.mpr hdue⟩), if_neg (by simp [hst, hack])]

end

section
variable (hdue : s.prog.cast ≤ now s) (hst : s.prog.st = .ready)
include hdue hst

theorem castPoint_casts (hack : s.prog.acked = true ∨ pairInStep s = false) : exec .castPoint s = .next (castNow s) := by
  have hnot : ¬(pairInStep s = true ∧ s.prog.acked = false) := by
    rcases hack with h | h <;> simp [h]
  show execCastPoint s = _
  rw [execCastPoint, if_neg (not_or.mpr ⟨not_not.mpr hst, not_or.mpr ⟨hcast, Nat.not_lt.mpr hdue⟩⟩), if_neg hnot]

theorem castPoint_unacked (hack : s.prog.acked = false) (hpair : pairInStep s = true) :
    exec .castPoint s = .next (abandonExchange s) := by
  show execCastPoint s = _
  rw [execCastPoint, if_neg (not_or.mpr ⟨not_not.mpr hst, not_or.mpr ⟨hcast, Nat.not_lt.mpr hdue⟩⟩), if_pos ⟨hpair, hack⟩]

end
end
end

/-! ## The statement -/

/-- Settles O45: each row by its rule above. -/
theorem lockoutsEndAndCommitsClose : Obligations.LockoutsEndAndCommitsClose := by
  refine ⟨fun f s t ht => ⟨degradedTimeExpiry_forces ht, degradedTimeExpiry_waits ht⟩,
    fun s t ht => ⟨passwordLockoutEnd_forgets ht, passwordLockoutEnd_waits ht⟩,
    fun user s => ⟨_, rfl, rfl, fun p => mem_loginLockoutEnd⟩, ?closes, fun t s => retainedCommitClosed_other,
    fun s => ⟨retentionLagWarning_sets, retentionLagWarning_clears⟩, ?prepared, fun s => preparationCaughtUp_otherwise,
    fun s => standbyReadyAck_holds, fun s => standbyReadyAck_unpaired,
    fun s h => ⟨castAbandonDeadline_uncast h, castPoint_uncast h⟩, ?cast⟩
  case closes =>
    intro t s c hc ht hst
    obtain ⟨r, hrings, htask, hseq, hcycle, hclose, hpages, hnext⟩ :=
      writeCommit_record c { s with retained := { s.retained with writing := none } }
    exact ⟨_, r, retainedCommitClosed_closes hc ht hst, rfl, hrings, htask.trans ht, hseq, hcycle, hclose, hpages, hnext, rfl, rfl⟩
  case prepared =>
    rintro s v hst hcaught hmode (rfl : v = caughtUp s)
    rw [preparationCaughtUp_prepared hst hcaught hmode]
    obtain ⟨x, hx⟩ := caughtUp_eq s
    refine ⟨fun hpair hcast => ?_, fun hpair hcast hsend => ?_, fun hpair hack => by rw [if_pos ⟨hpair, hack⟩]⟩
    · rw [if_neg (by simp [hpair]), becomeReady_with_cast (by rwa [hx])]
    · rw [if_neg (by simp [hpair]), becomeReady_without_cast (by rwa [hx]) (by rwa [hx])]
      have hnow : now (caughtUp s) = now s := by
        rw [hx]
        rfl
      rw [hnow]
  case cast =>
    intro s hcast
    exact ⟨fun hdue hst => ⟨castAbandonDeadline_unready hcast hdue hst, abandonExchange_idle (.inl hst)⟩,
      castAbandonDeadline_acked hcast, castPoint_casts hcast, castPoint_unacked hcast⟩

end Sys2Proof.Machine

namespace Sys2Proof.Machine

/-! PROG_START, PROG_STOP, PROG_HOLD, PROG_STEP and PROG_RESUME (R118, R119, R215, R216, R508): what each answers, and where the task
that it names goes. -/

/-! ## A task command and the task it names -/

/-- A task that is there in one state is there in every state. -/
theorem taskAt_of_taskAt {t : Nat} {s : State} {k : Task} (h : taskAt t s = some k) (u : State) : ∃ y, taskAt t u = some y := by
  obtain ⟨ht, -⟩ := Vector.getElem?_eq_some_iff.mp h
  exact ⟨_, Vector.getElem?_eq_getElem ht⟩

/-- Whether a task is defined is read of it. -/
theorem taskDefined_congr {t : Nat} {u v : State} (h : taskView (·.defn) t u = taskView (·.defn) t v) :
    taskDefined t u = taskDefined t v := by
  have hdefn : ∀ w, taskDefn t w = (taskView (·.defn) t w).join := fun w => by
    show (taskAt t w).bind (·.defn) = ((taskAt t w).map (·.defn)).join
    cases taskAt t w <;> rfl
  rw [taskDefined, hdefn, h, ← hdefn, taskDefined]

section
variable {q : Req} {s : State} {t : Nat} {f : Nat → Task → Option Nat × State}

/-- A task command that is carried out answers the task's state at acceptance (R508). -/
theorem taskCommand_carried {k : Task} {v : State} (ht : t = fld8 q.pay 0) (hk : taskAt t s = some k) (hd : taskDefined t s = true)
    (hf : f t k = (none, v)) : taskCommand q s f = (v, ok (le 1 (taskCode k.st) ++ zeros 3)) := by
  subst ht
  simp only [taskCommand, hk, hd, hf, taskAnswer, Option.elim]

theorem taskCommand_undefined (hd : taskDefined (fld8 q.pay 0) s = false) : taskCommand q s f = (s, st stInconsistent) := by
  unfold taskCommand
  dsimp only
  split
  case h_1 htrue => exact (Bool.false_ne_true (hd.symm.trans htrue)).elim
  case h_2 => rfl

end

/-! ## What follows a task command -/

theorem taskAt_shiftTimers_other {n t : Nat} (h : n ≠ t) (s : State) : taskAt t (shiftTimers n s) = taskAt t s := by
  unfold shiftTimers
  split
  · rfl
  · split
    · rfl
    · exact taskAt_taskMod_other h ..

/-- A Gather leaves every other task as it is. -/
theorem taskAt_gather_other {n t : Nat} (h : n ≠ t) (s : State) : taskAt t (gather n s) = taskAt t s := by
  unfold gather
  rw [(checkPending_within _).taskAt_eq rfl, (rejoinCheck_within _).taskAt_eq rfl, (handoverCheck_within _).taskAt_eq rfl,
    (safetyGather_within ..).taskAt_eq rfl, taskAt_shiftTimers_other h, taskAt_taskMod_other h]

theorem releaseDue_asleep {t : Nat} {s : State} {k : Task} (hk : taskAt t s = some k) (h : releaseDue t s = true) : k.phase = .sleep := by
  simp only [releaseDue, releaseCome, hk, Bool.and_eq_true, beq_iff_eq] at h
  tauto

/-- While no exchange switches, a task whose cycle has not ended since `old` stays as it is: no pass of it begins. -/
theorem taskAt_followTasks {t : Nat} {old s : State} {k : Task} (hst : s.prog.st ≠ .switching) (hk : taskAt t s = some k)
    (hphase : ∀ j, taskAt t old = some j → j.phase = k.phase) : taskAt t (followTasks old s) = some k := by
  unfold followTasks passesBegin
  rw [switchSweep_of_not_switching hst, (lanesIdle_within _).taskAt_eq rfl, (checkPending_within _).taskAt_eq rfl]
  refine List.foldlRecOn (motive := fun u => taskAt t u = some k) _ _ hk fun u hu n _ => ?_
  split
  case isFalse => exact hu
  case isTrue hbegins =>
    simp only [Bool.and_eq_true] at hbegins
    obtain ⟨⟨-, hran⟩, hdue⟩ := hbegins
    have hnt : n ≠ t := by
      rintro rfl
      have hsleep := releaseDue_asleep hu hdue
      cases hj : taskAt n old with
      | none => simp [hj] at hran
      | some j => simp [hj, hphase j hj, hsleep] at hran
    rw [taskAt_gather_other hnt, hu]

/-- While no exchange switches, a task's state and the state it waits to enter outlast what follows a task command. -/
theorem followTasks_aim {t : Nat} {s : State} {z : Task} (old : State) (hst : s.prog.st ≠ .switching) (hz : taskAt t s = some z) :
    ∃ y, taskAt t (followTasks old s) = some y ∧ y.st = z.st ∧ y.leaving = z.leaving := by
  obtain ⟨y, hy⟩ := taskAt_of_taskAt hz (followTasks old s)
  have haims := followTasks_aims hst old t
  simp only [aims, hy, hz, Option.map_some, Option.some.injEq, Prod.mk.injEq] at haims
  obtain ⟨-, hyst, hyleaving⟩ := haims
  exact ⟨y, hy, hyst, hyleaving⟩

/-! ## PROG_STOP, PROG_HOLD -/

/-- A task that is told to leave for the state `x`: between cycles it is in it, and with a cycle in execution of a class other than
Background it leaves after the cycle (R119). -/
theorem leaveRunning_follows {t : Nat} {s : State} {k : Task} (hk : taskAt t s = some k) (hst : s.prog.st ≠ .switching)
    (x : TaskState) :
    ∃ y, taskAt t (followTasks s (leaveRunning t x s)) = some y ∧ (k.phase = .sleep → y.st = x) ∧
      (k.phase ≠ .sleep → background t s = false → y.st = k.st ∧ y.leaving = some x) := by
  have hprog : (leaveRunning t x s).prog = s.prog := (leaveRunning_within ..).same .prog rfl
  have hfollow := fun z => followTasks_aim (t := t) (z := z) s (hprog ▸ hst)
  by_cases hphase : k.phase = .sleep
  · obtain ⟨z, hz, hzst, -⟩ := takeState_at hk x
    obtain ⟨y, hy, hyst, -⟩ := hfollow z (by simp only [leaveRunning, hk, if_pos hphase, hz])
    exact ⟨y, hy, fun _ => hyst.trans hzst, fun h => absurd hphase h⟩
  · obtain hback | hback := Bool.eq_false_or_eq_true (background t s)
    · obtain ⟨y, hy⟩ := taskAt_of_taskAt hk (followTasks s (leaveRunning t x s))
      exact ⟨y, hy, fun h => absurd h hphase, fun _ h => absurd (h.symm.trans hback) Bool.false_ne_true⟩
    · obtain ⟨y, hy, hyst, hyleaving⟩ := hfollow { k with leaving := some x } (by
        simp only [leaveRunning, hk, if_neg hphase, hback, Bool.false_eq_true, if_false, taskAt_taskMod, Option.map_some])
      exact ⟨y, hy, fun h => absurd h hphase, fun _ _ => ⟨hyst, hyleaving⟩⟩

section
variable {m : MbxId} {q : Req} {s : State} {t : Nat} {k : Task}

theorem progStop_stops (h : InFlight m 0x0405 q s) (ht : t = fld8 q.pay 0) (hk : taskAt t s = some k) (hd : taskDefined t s = true)
    (hman : s.modes.manoeuvring = false) (hrun : k.st = .running) :
    Answers (.progStop m) m s (ok (le 1 1 ++ zeros 3)) (followTasks s (leaveRunning t .stopped s)) := by
  have hanswer : ok (le 1 1 ++ zeros 3) = ok (le 1 (taskCode k.st) ++ zeros 3) := by rw [hrun]; rfl
  rw [hanswer]
  exact answers_of_runCommand h rfl (taskCommand_carried ht hk hd (if_neg (by simp [hman, hrun])))

theorem progHold_holds (h : InFlight m 0x0406 q s) (ht : t = fld8 q.pay 0) (hk : taskAt t s = some k) (hd : taskDefined t s = true)
    (hman : s.modes.manoeuvring = false) (hsafety : taskSafety t s = false) (hrole : s.modes.life = .inService → roleOf q s = 6)
    (hrun : k.st = .running) :
    Answers (.progHold m) m s (ok (le 1 1 ++ zeros 3)) (followTasks s (leaveRunning t .held s)) := by
  have hanswer : ok (le 1 1 ++ zeros 3) = ok (le 1 (taskCode k.st) ++ zeros 3) := by rw [hrun]; rfl
  have hmay : ¬(s.modes.life = .inService ∧ roleOf q s ≠ 6) := fun ⟨hlife, hno⟩ => hno (hrole hlife)
  rw [hanswer]
  refine answers_of_runCommand h rfl ((if_neg hmay).trans (taskCommand_carried ht hk hd (if_neg ?_)))
  simp [hman, hrun, hsafety]

end

/-! ## PROG_START, PROG_RESUME -/

theorem enterRunning_runs {t : Nat} {s : State} (hd : taskDefined t s = true) :
    ∃ y, taskAt t (enterRunning t s) = some y ∧ y.st = .running := by
  obtain ⟨d, hdefn⟩ := Option.isSome_iff_exists.mp hd
  obtain ⟨k, hk, -⟩ := Option.bind_eq_some_iff.mp hdefn
  have hmod : ∀ g, taskAt t (taskMod t g s) = some (g k) := fun g => by
    rw [taskAt_taskMod, show taskAt t s = some k from hk, Option.map_some]
  obtain ⟨y, hy, hyst, -⟩ := takeState_at (hmod _) .running
  refine ⟨y, ?_, hyst⟩
  simp only [enterRunning, hdefn]
  exact hy

theorem enterRunning_follows {t : Nat} {s : State} (hd : taskDefined t s = true) (hst : s.prog.st ≠ .switching) (old : State) :
    ∃ y, taskAt t (followTasks old (enterRunning t s)) = some y ∧ y.st = .running := by
  have hprog : (enterRunning t s).prog = s.prog := (enterRunning_within ..).same .prog rfl
  obtain ⟨z, hz, hzst⟩ := enterRunning_runs hd
  obtain ⟨y, hy, hyst, -⟩ := followTasks_aim old (hprog ▸ hst) hz
  exact ⟨y, hy, hyst.trans hzst⟩

theorem abandonExchange_not_switching {s : State} (h : s.prog.st ≠ .switching) : (abandonExchange s).prog.st ≠ .switching := by
  by_cases hst : s.prog.st = .preparing ∨ s.prog.st = .ready
  · rw [abandonExchange_idle hst]
    decide
  · obtain ⟨hprep, hready⟩ := not_or.mp hst
    have hsame : abandonExchange s = s := by
      unfold abandonExchange
      split
      case h_1 hc => exact (hprep hc).elim
      case h_2 hc => exact (hready hc).elim
      case h_3 => rfl
    rwa [hsame]

/-- The state in which a task that is started becomes RUNNING: it is restarted, after an exchange before its cast point was abandoned;
a cold restart is one of its loops too (R215, R216). -/
def restarted (cold : Bool) (t : Nat) (s : State) : State :=
  if cold then loopsRestart [t] (restartTask cold (restartAbandons s) t) else restartTask cold (restartAbandons s) t

theorem restarted_defined (cold : Bool) (t : Nat) (s : State) : taskDefined t (restarted cold t s) = taskDefined t s := by
  have hdata : taskView (·.defn) t (restartData t cold (restartAbandons s)) = taskView (·.defn) t s :=
    ((restartData_within ..).taskView_eq rfl).trans ((restartAbandons_within ..).taskView_eq rfl)
  refine taskDefined_congr ?_
  cases cold with
  | false => exact hdata
  | true => calc
      _ = taskView (·.defn) t (restartTask true (restartAbandons s) t) := (loopsRestart_within ..).taskView_eq rfl
      _ = taskView (·.defn) t (taskMod t _ _) := (forceTaskSafe_within ..).taskView_eq rfl
      _ = _ := taskView_taskMod (by exact fun _ => rfl) ..
      _ = _ := hdata

/-- The data of a restarted task is no state of the exchange. -/
theorem restartData_exchange (t : Nat) (cold : Bool) (s : State) : (restartData t cold s).prog.st = s.prog.st := rfl

theorem restarted_not_switching {s : State} (h : s.prog.st ≠ .switching) (cold : Bool) (t : Nat) :
    (restarted cold t s).prog.st ≠ .switching := by
  have hdata : (restartData t cold (restartAbandons s)).prog.st ≠ .switching := by
    rw [restartData_exchange, restartAbandons]
    exact abandonExchange_not_switching h
  cases cold with
  | false => exact hdata
  | true =>
    have hprog : (restarted true t s).prog = (restartData t true (restartAbandons s)).prog := calc
      _ = (restartTask true (restartAbandons s) t).prog := (loopsRestart_within ..).same .prog rfl
      _ = _ := (forceTaskSafe_within ..).same .prog rfl
    rwa [hprog]

section
variable {m : MbxId} {q : Req} {s : State} {t : Nat} {k : Task}

theorem progStart_starts (h : InFlight m 0x0404 q s) (ht : t = fld8 q.pay 0) (hk : taskAt t s = some k) (hd : taskDefined t s = true)
    (hmode : s.modes.mode = .run) (htemp : fld8 q.pay 1 ≤ 1) (hdown : k.st = .stopped ∨ k.st = .faulted)
    (hswitch : s.prog.st ≠ .switching) (hsettle : s.prog.st ≠ .settling) (hcold : fld8 q.pay 1 = 1 → taskSafety t s = false) :
    Answers (.progStart m) m s (ok (le 1 (taskCode k.st) ++ zeros 3))
      (followTasks s (enterRunning t (restarted (fld8 q.pay 1 == 1) t s))) := by
  have hsafe : (fld8 q.pay 1 == 1 && taskSafety t s) = false := by
    rw [Bool.and_eq_false_imp, beq_iff_eq]
    exact hcold
  refine answers_of_runCommand h rfl ((if_neg (not_not.mpr hmode)).trans (taskCommand_carried ht hk hd ?_))
  rw [if_neg (Nat.not_lt.mpr htemp), if_neg (by tauto), if_neg (not_or.mpr ⟨hswitch, hsettle⟩)]
  simp only [hsafe, coldAuth, if_true, Bool.false_eq_true, if_false]
  rfl

/-- A task that is resumed between cycles is RUNNING. -/
theorem progResume_runs (h : InFlight m 0x0408 q s) (ht : t = fld8 q.pay 0) (hk : taskAt t s = some k) (hd : taskDefined t s = true)
    (hheld : k.st = .held ∨ k.st = .stepping) (hphase : k.phase = .sleep) :
    Answers (.progResume m) m s (ok (le 1 (taskCode k.st) ++ zeros 3)) (followTasks s (enterRunning t s)) :=
  answers_of_runCommand h rfl (taskCommand_carried ht hk hd ((if_neg (by tauto)).trans (if_pos hphase)))

/-- A task that is resumed with a stepped cycle in execution completes it first. -/
theorem progResume_completes (h : InFlight m 0x0408 q s) (ht : t = fld8 q.pay 0) (hk : taskAt t s = some k)
    (hd : taskDefined t s = true) (hheld : k.st = .held ∨ k.st = .stepping) (hphase : k.phase ≠ .sleep) :
    Answers (.progResume m) m s (ok (le 1 (taskCode k.st) ++ zeros 3)) (taskMod t (fun k => { k with leaving := some .running }) s) :=
  answers_of_runCommand h rfl (taskCommand_carried ht hk hd ((if_neg (by tauto)).trans (if_neg hphase)))

/-! ## PROG_STEP -/

/-- A task that has a cycle asked for, of the definition `d`, released at its next nominal release from `x` on (R119). -/
def stepAskedFor (d : TaskDef) (x : Nat) (k : Task) : Task := { k with stepAsked := true, next := releaseFrom d k.next x }

theorem progStep_steps (h : InFlight m 0x0407 q s) (ht : t = fld8 q.pay 0) (hk : taskAt t s = some k) (hd : taskDefined t s = true)
    (hheld : k.st = .held) : ∃ d, Answers (.progStep m) m s (ok (le 1 2 ++ zeros 3))
      (followTasks s (taskMod t (stepAskedFor d (now (takeState t .stepping s))) (takeState t .stepping s))) := by
  have hdefn : taskDefined t (takeState t .stepping s) = true := (taskDefined_congr (taskView_takeState (fun _ => rfl) ..)).trans hd
  obtain ⟨d, hdefn⟩ := Option.isSome_iff_exists.mp hdefn
  have hanswer : ok (le 1 2 ++ zeros 3) = ok (le 1 (taskCode k.st) ++ zeros 3) := by rw [hheld]; rfl
  rw [hanswer]
  refine ⟨d, answers_of_runCommand h rfl (taskCommand_carried ht hk hd ?_)⟩
  rw [if_neg (by simp [hheld]), if_neg (not_not.mpr hheld)]
  simp only [hdefn]
  rfl

end

/-- No pass begins of a task that begins to step: its one cycle stays asked for. -/
theorem stepping_follows {t : Nat} {s : State} {k : Task} (hk : taskAt t s = some k) (hst : s.prog.st ≠ .switching) (d : TaskDef)
    (x : Nat) :
    taskAt t (followTasks s (taskMod t (stepAskedFor d x) (takeState t .stepping s))) =
      some (stepAskedFor d x (entering .stepping k)) := by
  have htake : taskAt t (takeState t .stepping s) = some (entering .stepping k) := by
    rw [taskAt_congr (takeState_task ..), taskAt_taskMod, hk, Option.map_some]
  have hprog : (takeState t .stepping s).prog = s.prog := (takeState_within ..).same .prog rfl
  refine taskAt_followTasks (by rwa [taskMod_prog, hprog]) (by rw [taskAt_taskMod, htake, Option.map_some]) fun j hj => ?_
  obtain rfl : k = j := Option.some.inj (hk.symm.trans hj)
  rfl

/-! ## A task that is not defined -/

theorem taskCommands_undefined {m : MbxId} {q : Req} {s : State} {c : Instr} {code : Nat}
    (hc : (c, code) ∈ [(Instr.progStop m, 0x0405), (.progStep m, 0x0407), (.progResume m, 0x0408)]) (h : InFlight m code q s)
    (hd : taskDefined (fld8 q.pay 0) s = false) : Answers c m s (st stInconsistent) s := by
  simp only [List.mem_cons, Prod.mk.injEq, List.not_mem_nil, or_false] at hc
  obtain ⟨rfl, rfl⟩ | ⟨rfl, rfl⟩ | ⟨rfl, rfl⟩ := hc
  all_goals exact answers_of_runCommand h rfl (taskCommand_undefined hd)

/-! ## The statement -/

/-- Settles O19: each command by its answer above, and the task it names by what follows a change of its state. -/
theorem taskCommandsMoveTheTask : Obligations.TaskCommandsMoveTheTask := by
  refine ⟨?start, ?stop, ?hold, ?step, ?resume, fun m q s c code => taskCommands_undefined⟩
  case start =>
    intro m q s t k h ht hk hd hmode htemp hdown hswitch hsettle hcold
    obtain ⟨y, hy, hrun⟩ := enterRunning_follows ((restarted_defined ..).trans hd) (restarted_not_switching hswitch _ _) s
    exact ⟨_, y, progStart_starts h ht hk hd hmode htemp hdown hswitch hsettle hcold, hy, hrun⟩
  case stop =>
    intro m q s t k h ht hk hd hman hrun hswitch
    obtain ⟨y, hleaves⟩ := leaveRunning_follows hk hswitch .stopped
    rw [hrun] at hleaves
    exact ⟨_, y, progStop_stops h ht hk hd hman hrun, hleaves⟩
  case hold =>
    intro m q s t k h ht hk hd hman hsafety hrole hrun hswitch
    obtain ⟨y, hleaves⟩ := leaveRunning_follows hk hswitch .held
    rw [hrun] at hleaves
    exact ⟨_, y, progHold_holds h ht hk hd hman hsafety hrole hrun, hleaves⟩
  case step =>
    intro m q s t k h ht hk hd hheld hswitch
    obtain ⟨d, hanswer⟩ := progStep_steps h ht hk hd hheld
    exact ⟨_, _, hanswer, stepping_follows hk hswitch .., rfl, rfl⟩
  case resume =>
    intro m q s t k h ht hk hd hheld hswitch
    by_cases hphase : k.phase = .sleep
    · obtain ⟨y, hy, hrun⟩ := enterRunning_follows hd hswitch s
      exact ⟨_, y, progResume_runs h ht hk hd hheld hphase, hy, fun _ => hrun, fun hno => (hno hphase).elim⟩
    · refine ⟨_, { k with leaving := some .running }, progResume_completes h ht hk hd hheld hphase, ?_, fun hno => (hphase hno).elim,
        fun _ => rfl⟩
      rw [taskAt_taskMod, hk, Option.map_some]

end Sys2Proof.Machine

namespace Sys2Proof.Machine

/-! The image's clock: its generation and its next merge tick.  A merge of the module's own intake is one image event, at which the
generation moves on by one (R138, R146); nothing else that it does touches either of them. -/

/-- The generation of the image and its next merge tick. -/
def imageClock (s : State) : Nat × Nat := (s.image.gen, s.image.nextMerge)

/-- The equation of an operation that touches neither, as `simp` can use it below a binder. -/
theorem imageClock_congr {s t : State} (hgen : t.image.gen = s.image.gen) (hnext : t.image.nextMerge = s.image.nextMerge) :
    imageClock t = imageClock s := by
  unfold imageClock
  rw [hgen, hnext]

theorem Within.imageClock_eq {ps : List Part} {s t : State} (w : Within ps s t) (himage : ps.contains .image = false) :
    imageClock t = imageClock s := by
  have hi : t.image = s.image := w.same .image himage
  exact imageClock_congr (hi ▸ rfl) (hi ▸ rfl)

@[simp] theorem imageClock_foldl {α : Type} {f : State → α → State} (h : ∀ u x, imageClock (f u x) = imageClock u) (xs : List α)
    (s : State) : imageClock (xs.foldl f s) = imageClock s :=
  List.foldlRecOn (motive := fun u => imageClock u = imageClock s) _ _ rfl fun u hu x _ => (h u x).trans hu

@[simp] theorem imageClock_ite {c : Prop} [Decidable c] (s t : State) :
    imageClock (if c then s else t) = if c then imageClock s else imageClock t := apply_ite ..

/-! ## Operations on other units -/

@[simp] theorem imageClock_record (sev code src data s) : imageClock (record sev code src data s) = imageClock s :=
  (record_within ..).imageClock_eq rfl
@[simp] theorem imageClock_recordSig (sev code src h data s) : imageClock (recordSig sev code src h data s) = imageClock s :=
  (recordSig_within ..).imageClock_eq rfl
@[simp] theorem imageClock_alarmRecord (g a b s) : imageClock (alarmRecord g a b s) = imageClock s :=
  (alarmRecord_within ..).imageClock_eq rfl
@[simp] theorem imageClock_subNotify (g gen s) : imageClock (subNotify g gen s) = imageClock s :=
  (subNotify_within ..).imageClock_eq rfl
@[simp] theorem imageClock_subFillAll (s) : imageClock (subFillAll s) = imageClock s := (subFillAll_within ..).imageClock_eq rfl
@[simp] theorem imageClock_outputsAfter (gen s) : imageClock (outputsAfter gen s) = imageClock s :=
  (outputsAfter_within ..).imageClock_eq rfl
@[simp] theorem imageClock_emit (o s) : imageClock (emit o s) = imageClock s := imageClock_congr rfl rfl
@[simp] theorem imageClock_pathMod (p f s) : imageClock (pathMod p f s) = imageClock s := imageClock_congr rfl rfl
@[simp] theorem imageClock_offered (p n s) : imageClock (offered p n s) = imageClock s := imageClock_congr rfl rfl
@[simp] theorem imageClock_pathCoalesced (p s) : imageClock (pathCoalesced p s) = imageClock s := imageClock_congr rfl rfl
@[simp] theorem imageClock_sendBlock (kind gs s) : imageClock (sendBlock kind gs s) = imageClock s :=
  (sendBlock_within ..).imageClock_eq rfl

/-! ## Records and their publication -/

@[simp] theorem imageClock_putRec (g r s) : imageClock (putRec g r s) = imageClock s := imageClock_congr rfl rfl
@[simp] theorem imageClock_noteEvent (gen s) : imageClock (noteEvent gen s) = imageClock s := imageClock_congr rfl rfl
@[simp] theorem imageClock_poolSweep (s) : imageClock (poolSweep s) = imageClock s := imageClock_congr rfl rfl
@[simp] theorem imageClock_published (g s) : imageClock (published g s) = imageClock s := imageClock_congr rfl rfl
@[simp] theorem imageClock_stationMod (n f s) : imageClock (stationMod n f s) = imageClock s := imageClock_congr rfl rfl

@[simp] theorem imageClock_queuePublication (g s) : imageClock (queuePublication g s) = imageClock s := by
  unfold queuePublication
  dsimp only
  split <;> rfl

@[simp] theorem imageClock_followPublication (g s) : imageClock (followPublication g s) = imageClock s := by
  unfold followPublication
  dsimp only
  split <;> rfl

@[simp] theorem imageClock_changeRec (g f stamp gen t s) : imageClock (changeRec g f stamp gen t s) = imageClock s := by
  unfold changeRec
  extract_lets old new0 own moved new1 slot kept img s1 prev past new2 s2 s3 img' s4 dueNow s5
  split
  · rfl
  · have h1 : imageClock s1 = imageClock s := by unfold s1; split <;> rfl
    have h3 : imageClock s3 = imageClock s1 := by simp [s3, s2]
    have h4 : imageClock s4 = imageClock s3 := by unfold s4; split <;> rfl
    have h5 : imageClock s5 = imageClock s4 := by simp [s5]
    simp [h5, h4, h3, h1]

@[simp] theorem imageClock_sendChanges (s) : imageClock (sendChanges s) = imageClock s := by
  unfold sendChanges
  extract_lets n gs pub t u
  have hu : imageClock u = imageClock s := rfl
  simp [hu]

@[simp] theorem imageClock_fullBlocks (fuel s) : imageClock (fullBlocks fuel s) = imageClock s := by
  induction fuel generalizing s with
  | zero => rfl
  | succ fuel ih => simp [fullBlocks, ih]

@[simp] theorem imageClock_publishFull (s) : imageClock (publishFull s) = imageClock s := imageClock_fullBlocks ..

@[simp] theorem imageClock_afterEvent (gen s) : imageClock (afterEvent gen s) = imageClock s := by simp [afterEvent]

/-! ## Stations and entries -/

@[simp] theorem imageClock_keepStation (n gen s) : imageClock (keepStation n gen s) = imageClock s := imageClock_congr rfl rfl

@[simp] theorem imageClock_setMirror (n x gen s) : imageClock (setMirror n x gen s) = imageClock s := by
  unfold setMirror
  extract_lets old t u gs
  have hu : imageClock u = imageClock s := by unfold u; cases x <;> simp [t]
  simp [hu]

@[simp] theorem imageClock_findGap (n gen s) : imageClock (findGap n gen s) = imageClock s := by
  unfold findGap
  dsimp only
  split <;> simp

@[simp] theorem imageClock_mergeDiscards (gen s) : imageClock (mergeDiscards gen s) = imageClock s := by simp [mergeDiscards]

@[simp] theorem imageClock_mergeBlock (gen k s) : imageClock (mergeBlock gen k s) = imageClock s := by
  unfold mergeBlock
  split
  case h_2 => rfl
  case h_1 n _ kind pass gap takeover first count =>
    extract_lets s1 s2 s3 s4
    have h1 : imageClock s1 = imageClock s := by simp [s1]
    have h2 : imageClock s2 = imageClock s := by unfold s2; split <;> simp [h1]
    split
    · split <;> simp [s4, s3, h2]
    · exact h2

@[simp] theorem imageClock_applyEntry (gen t s e) : imageClock (applyEntry gen t s e) = imageClock s := by
  unfold applyEntry
  extract_lets g n r img src noted
  split
  case h_1 => split <;> simp
  case h_2 =>
    split
    · rfl
    · split
      case h_1 => rfl
      case h_5 =>
        extract_lets corrected
        have hc : imageClock corrected = imageClock s := by unfold corrected; split <;> rfl
        simp [hc]
      case h_8 =>
        have hn : imageClock noted = imageClock s := by simp [noted]
        exact (imageClock_changeRec ..).trans hn
      all_goals exact imageClock_changeRec ..

@[simp] theorem imageClock_applyAll (gen t es s) : imageClock (applyAll gen t es s) = imageClock s := by simp [applyAll]

/-! ## A merge of the own intake -/

theorem exchangeMerge_waits_not {s : State} (h : exchangeWaits s = false) (gen : Nat) : exchangeMerge gen s = s := by
  have hno : s.prog.mergeDue = false ∨ now s < s.prog.cast := by
    simpa only [exchangeWaits, Bool.and_eq_false_iff, decide_eq_false_iff_not, not_le] using h
  rw [exchangeMerge, if_pos hno]

theorem Within.exchangeWaits_eq {ps : List Part} {s t : State} (w : Within ps s t) (hprog : ps.contains .prog = false)
    (htime : ps.contains .time = false) : exchangeWaits t = exchangeWaits s := by
  have hp : t.prog = s.prog := w.same .prog hprog
  have ht : t.time = s.time := w.same .time htime
  unfold exchangeWaits now
  rw [hp, ht]

/-- A merge of the own intake that no exchange waits for is the one image event after the last. -/
theorem mergeOwn_clock {s : State} (h : exchangeWaits s = false) (r : List Batch × List Batch) :
    imageClock (mergeOwn r s) = (s.image.gen + 1, s.image.nextMerge) := by
  unfold mergeOwn
  extract_lets gen image s1 s2 s3 s4
  have h2 : imageClock s2 = imageClock s1 := by simp [s2]
  have w2 : Within [.recorder, .host, .image, .pub] s s2 :=
    .foldl (fun u b => .step (applyAll_within ..) rfl (.step (mergeBlock_within ..) rfl (.refl _ _))) _
      (.step (mergeDiscards_within ..) rfl (.set_image rfl (.refl _ _)))
  have h3 : s3 = s2 := exchangeMerge_waits_not ((w2.exchangeWaits_eq rfl rfl).trans h) gen
  have h4 : imageClock s4 = imageClock s1 := by simp [s4, h3, h2]
  rw [imageClock_afterEvent, h4]
  rfl

theorem mergeOwn_image {s : State} (h : exchangeWaits s = false) (r : List Batch × List Batch) :
    (mergeOwn r s).image.gen = s.image.gen + 1 ∧ (mergeOwn r s).image.nextMerge = s.image.nextMerge := by
  simpa only [imageClock, Prod.mk.injEq] using mergeOwn_clock h r

/-! ## MERGE_TICK (R22, R146, R147) -/

/-- Where no lane's copy differs, the merge is made and no lane is excluded (R50, R57). -/
theorem mergeAmong_agree (n : Nat) (present : List Lane) (f : State → State) (s : State) :
    mergeAmong n present [] f s = followTasks s (f s) := by
  simp [mergeAmong, mergeOdd, oddLanes]

theorem mergeTick_skips {s : State} {present : List Lane} {differs : List (Lane × Nat)}
    (h : mergesRun s = false ∨ now s < s.image.nextMerge ∨
      ((mergeVoters s).filter fun l => present.contains l).length < mergeQuorum s) :
    exec (.mergeTick present differs) s = .next s := by
  show execMergeTick s present differs = _
  rw [execMergeTick, if_pos h]

theorem adoptTables_none {s : State} (h : s.net.newTables = none) : adoptTables s = s := by
  simp only [adoptTables, h]

theorem mergeTick_merges {s v : State} {p tick : Nat} {present : List Lane} (hrun : mergesRun s = true)
    (hdue : s.image.nextMerge ≤ now s) (hquorum : mergeQuorum s ≤ ((mergeVoters s).filter fun l => present.contains l).length)
    (hp : p = max 1 (mergePeriod s)) (htick : tick = s.image.nextMerge + (now s - s.image.nextMerge) / p * p)
    (hown : followsMerges s = false) (htables : s.net.newTables = none)
    (hv : v = { s with image := { s.image with nextMerge := tick + p } })
    (hsome : (takeBatches tick 4096 true s.image.intake).1 ≠ [])
    (hawake : sleptThrough tick (takeBatches tick 4096 true s.image.intake).1 s = false) :
    exec (.mergeTick present []) s = .next (followTasks v (mergeOwn (takeBatches tick 4096 true s.image.intake) v)) := by
  subst hp htick hv
  have hready : ¬(mergesRun s = false ∨ now s < s.image.nextMerge ∨
      ((mergeVoters s).filter fun l => present.contains l).length < mergeQuorum s) := by
    rintro (h | h | h)
    · simp [hrun] at h
    · omega
    · omega
  show execMergeTick s present [] = _
  rw [execMergeTick, if_neg hready]
  extract_lets p tick
  rw [adoptTables_none (by exact htables), mergeAt, if_neg (by exact Bool.eq_false_iff.mp hown)]
  extract_lets r other
  rw [if_neg, mergeAmong_agree]
  rintro (⟨hnone, -⟩ | ⟨-, hslept⟩)
  · exact hsome hnone
  · exact Bool.eq_false_iff.mp hawake hslept

end Sys2Proof.Machine

namespace Sys2Proof.Machine

/-! Publication blocks of other stations and the peers' time limits (R158 to R161, R167), and the active module's own blocks (R155, R158,
R163, R164, R332): what each row does. -/

/-! ## PUB_BLOCK_RECEIVED (R158 to R161) -/

section
variable {src : PubSource} {data : List Byte} {s : State} {b : Block} {n : Nat}

theorem pubBlockReceived_net_off (h : netRuns s = false) : exec (.pubBlockReceived src data) s = .next s := by
  show execPubBlockReceived src data s = _
  simp only [execPubBlockReceived, h, if_true]

theorem pubBlockReceived_own (hrun : netRuns s = true) (hown : ownBlock data s = true) :
    exec (.pubBlockReceived .own data) s = .next (discardBlock s) := by
  show execPubBlockReceived .own data s = _
  simp [execPubBlockReceived, hrun, hown]

theorem pubBlockReceived_malformed (hrun : netRuns s = true) (hown : ownBlock data s = false) (h : parseBlock data s = none) :
    exec (.pubBlockReceived src data) s = .next (discardBlock s) := by
  show execPubBlockReceived src data s = _
  simp [execPubBlockReceived, hrun, hown, h]

theorem pubBlockReceived_absent (hrun : netRuns s = true) (hown : ownBlock data s = false) (h : parseBlock data s = some b)
    (hst : (stationAt (fld8 data 6) s).st = .absent) : exec (.pubBlockReceived src data) s = .next (discardBlock s) := by
  show execPubBlockReceived src data s = _
  simp [execPubBlockReceived, hrun, hown, h, hst]

theorem pubBlockReceived_orders (hrun : netRuns s = true) (hown : ownBlock data s = false) (h : parseBlock data s = some b)
    (hn : fld8 data 6 < 64) (hst : (stationAt (fld8 data 6) s).st ≠ .absent) :
    exec (.pubBlockReceived src data) s = .next (orderBlock (fld8 data 6) b s) := by
  show execPubBlockReceived src data s = _
  simp [execPubBlockReceived, hrun, hown, h, Nat.not_le.mpr hn, hst]

theorem orderBlock_old (hst : (stationAt n s).st = .live) (hseq : b.seq ≤ (stationAt n s).lastSeq) :
    orderBlock n b s = discardBlock s := by
  simp [orderBlock, hst, hseq]

theorem orderBlock_ahead (hst : (stationAt n s).st = .live) (hseq : (stationAt n s).lastSeq + 1 < b.seq)
    (htake : b.takeover = false) :
    orderBlock n b s = stationMod n (fun x => { x with held := holdBlock b x.held }) s := by
  have hnew : ¬b.seq ≤ (stationAt n s).lastSeq := by omega
  have hgap : ¬(b.seq = (stationAt n s).lastSeq + 1 ∨ b.takeover = true) := by
    simp only [htake, Bool.false_eq_true, or_false]
    omega
  simp only [orderBlock, hst, if_neg hnew, if_neg hgap]
  rfl

theorem orderBlock_first (hst : (stationAt n s).st = .waiting) (h : blockWaits n s = false) :
    orderBlock n b s = acceptBlock n false b (stationMod n (fun x => { x with held := [] }) s) := by
  simp only [orderBlock, hst, h]
  rfl

end

/-! ## PUB_GAP_HOLD_EXPIRY (R159) -/

section
variable {n : Fin 64} {s : State}

theorem pubGapHoldExpiry_waits (h : ∀ b ∈ (stationAt n.val s).held, now s < b.arrival + ms) :
    exec (.pubGapHoldExpiry n) s = .next s := by
  show execPubGapHoldExpiry n s = _
  rw [execPubGapHoldExpiry, if_neg]
  simpa using h

theorem stationAt_stationMod (f : Station → Station) : stationAt n.val (stationMod n.val f s) = f (stationAt n.val s) :=
  vget_vmod_same _ _ _ _ n.isLt

theorem pubGapHoldExpiry_applies {b : Block} (hheld : (stationAt n.val s).held = [b]) (hdue : b.arrival + ms ≤ now s)
    (hseq : (stationAt n.val s).lastSeq < b.seq) :
    exec (.pubGapHoldExpiry n) s = .next (acceptBlock n.val (b.seq != (stationAt n.val s).lastSeq + 1) b
      (stationMod n.val (fun x => { x with held := [] }) s)) := by
  show execPubGapHoldExpiry n s = _
  simp only [execPubGapHoldExpiry, hheld, List.any_cons, decide_eq_true hdue, Bool.true_or, if_true, applyHeld, List.foldl_cons,
    List.foldl_nil, stationAt_stationMod, if_neg (Nat.not_le.mpr hseq)]

/-! ## PEER_TIMEOUT, PEER_LOSS_TIME (R167) -/

theorem peerTimeout_silences (hst : (stationAt n.val s).st = .live) (hdue : (stationAt n.val s).lastTime + peerTimeoutNs s ≤ now s)
    (hwait : stationWaits n.val false s = false) :
    exec (.peerTimeout n) s = .next (intake .own [{ sig := sigNo n.val 0, kind := .station false }] s) := by
  show execPeerTimeout n s = _
  rw [execPeerTimeout, if_pos ⟨.inl hst, hdue, hwait⟩]
  rfl

theorem peerLossTime_loses (hst : (stationAt n.val s).st = .silent)
    (hdue : (stationAt n.val s).lastTime + 20 * peerTimeoutNs s ≤ now s) (hwait : stationWaits n.val true s = false) :
    exec (.peerLossTime n) s = .next (intake .own [{ sig := sigNo n.val 0, kind := .station true }] s) := by
  show execPeerLossTime n s = _
  rw [execPeerLossTime, if_pos ⟨hst, hdue, hwait⟩]
  rfl

theorem peerTimes_absent (hst : (stationAt n.val s).st = .absent) :
    exec (.peerTimeout n) s = .next s ∧ exec (.peerLossTime n) s = .next s := by
  constructor
  · show execPeerTimeout n s = _
    simp [execPeerTimeout, hst]
  · show execPeerLossTime n s = _
    simp [execPeerLossTime, hst]

end

/-! ## Blocks sent (R158, R163, R332) -/

/-- What a block that is sent leaves of the publisher: its number is the last one, and it is neither the first nor a takeover's. -/
theorem sendBlock_pub (kind : Nat) (gs : List Nat) (s : State) :
    (sendBlock kind gs s).pub =
      { s.pub with seq := nextBlockSeq s, first := false, takeover := false, lastSent := now s } := by
  unfold sendBlock
  dsimp only
  split <;> rfl

/-- A block that is sent changes the publisher and what is sent, and nothing else. -/
theorem sendBlock_eq (kind : Nat) (gs : List Nat) (s : State) :
    sendBlock kind gs s = { s with pub := (sendBlock kind gs s).pub, out := (sendBlock kind gs s).out } := by
  unfold sendBlock
  dsimp only
  split <;> rfl

theorem published_foldl_pub (gs : List Nat) (s : State) : (gs.foldl (fun v g => published g v) s).pub = s.pub :=
  List.foldlRecOn (motive := fun u : State => u.pub = s.pub) _ _ rfl fun _ hu _ _ => hu

section
variable {s : State}

theorem sendChanges_pub (h : changeCount s ≠ 0) :
    (sendChanges s).pub.seq = nextBlockSeq s ∧ (sendChanges s).pub.queue = s.pub.queue.drop (changeCount s) ∧
      (sendChanges s).pub.lastSent = now s := by
  unfold sendChanges
  extract_lets n gs pub t u
  rw [if_neg h, published_foldl_pub, sendBlock_pub]
  exact ⟨rfl, rfl, rfl⟩

theorem pubChangeBlockClose_sends {q : Nat × Nat} {qs : List (Nat × Nat)} (hact : isActive s = true) (hq : s.pub.queue = q :: qs)
    (hdue : q.2 + ms ≤ now s) : exec .pubChangeBlockClose s = .next (sendChanges s) := by
  show execPubChangeBlockClose s = _
  simp only [execPubChangeBlockClose, hq, hact, decide_eq_true hdue, Bool.and_self, if_true]

theorem pubKeepalive_sends (hact : isActive s = true) (hdue : s.pub.lastSent + 10 * ms ≤ now s) :
    exec .pubKeepalive s = .next (sendBlock 2 [] s) := by
  show execPubKeepalive s = _
  simp only [execPubKeepalive, hact, decide_eq_true hdue, Bool.and_self, if_true]

/-- A refresh block at its time in the pass takes the next number; the first of a pass begins the next PASS (R164). -/
theorem refreshBlock_sends (hact : isActive s = true) (hblock : s.pub.block < passBlocks s)
    (hdue : s.pub.passStart + s.pub.block * (16 * sec) / passBlocks s ≤ now s) :
    ∃ u, exec .refreshBlock s = .next u ∧ u.pub.seq = nextBlockSeq s ∧ u.pub.block = s.pub.block + 1 ∧ u.pub.lastSent = now s ∧
      u.pub.pass = if s.pub.block = 0 then (s.pub.pass + 1) % 65536 else s.pub.pass := by
  have hruns : ¬(isActive s = false ∨ passBlocks s = 0) := by
    simp only [hact, Bool.true_eq_false, false_or]
    omega
  show ∃ u, execRefreshBlock s = .next u ∧ _
  rw [execRefreshBlock, if_neg hruns]
  extract_lets pub s1 k pub1 s2 count gs s3 sent
  have h1 : s1 = s := if_neg (Nat.not_le.mpr hblock)
  have hk : k = s.pub.block := congrArg (·.pub.block) h1
  have h2 : s2 = { s with pub := { s.pub with pass := if s.pub.block = 0 then (s.pub.pass + 1) % 65536 else s.pub.pass } } := by
    unfold s2 pub1
    rw [hk, h1]
    split <;> rfl
  have hsent : sent = { s2.pub with seq := nextBlockSeq s2, first := false, takeover := false, lastSent := now s2 } :=
    sendBlock_pub ..
  rw [if_neg (by rw [hk, h1]; exact Nat.not_lt.mpr hdue)]
  refine ⟨_, rfl, ?_⟩
  dsimp only
  rw [hsent, h2, hk]
  exact ⟨rfl, rfl, rfl, rfl⟩

theorem publication_inactive (h : isActive s = false) :
    exec .pubChangeBlockClose s = .next s ∧ exec .pubKeepalive s = .next s ∧ exec .refreshBlock s = .next s ∧
      exec .pubSequenceStore s = .next s := by
  refine ⟨(?_ : execPubChangeBlockClose s = _), (?_ : execPubKeepalive s = _), (?_ : execRefreshBlock s = _),
    (?_ : execPubSequenceStore s = _)⟩
  · unfold execPubChangeBlockClose
    split <;> simp [h]
  · simp [execPubKeepalive, h]
  · simp [execRefreshBlock, h]
  · simp [execPubSequenceStore, h]

theorem pubSequenceStore_stores (hact : isActive s = true) (hfirst : s.pub.first = false) :
    exec .pubSequenceStore s = .next { s with pub := { s.pub with stored := s.pub.seq } } := by
  show execPubSequenceStore s = _
  simp [execPubSequenceStore, hact, hfirst]

/-! ## PUB_LAG_WARNING (R155) -/

theorem pubLagWarning_sets (hlag : s.pub.lagging = false) (hact : isActive s = true) (hlong : 500 * ms < publicationLag s) :
    ∃ u, exec .pubLagWarning s = .next u ∧ u = { s with pub := { s.pub with lagging := true }, recorder := u.recorder } := by
  refine ⟨_, ?_, record_eq sevWarning 0x0431 (srcUnit 3) [] { s with pub := { s.pub with lagging := true } }⟩
  show execPubLagWarning s = _
  rw [execPubLagWarning, if_pos ⟨hlag, hlong, hact⟩]

theorem pubLagWarning_clears (hlag : s.pub.lagging = true) (hshort : publicationLag s < 50 * ms)
    (hlong : s.pub.lastHigh + 10 * sec ≤ now s) :
    exec .pubLagWarning s = .next { s with pub := { s.pub with lagging := false } } := by
  show execPubLagWarning s = _
  simp only [execPubLagWarning, hlag, Bool.true_eq_false, false_and, if_false, hshort, hlong, and_self, if_true]

end

/-! ## The statement -/

/-- Settles O37: the merge tick by the image's clock, each other row by its rule above. -/
theorem mergesAndPublicationRun : Obligations.MergesAndPublicationRun := by
  refine ⟨?merges, fun s present differs => mergeTick_skips, fun src data s => pubBlockReceived_malformed, ?received,
    fun data s => pubBlockReceived_own, fun src data s => pubBlockReceived_net_off, fun n s => pubGapHoldExpiry_waits,
    fun n s b => pubGapHoldExpiry_applies, ?closes, ?alive, ?refresh, fun s => publication_inactive,
    fun s => pubSequenceStore_stores, fun s => ⟨pubLagWarning_sets, pubLagWarning_clears⟩,
    fun n s => ⟨peerTimeout_silences, peerLossTime_loses, peerTimes_absent⟩⟩
  case merges =>
    intro s p tick present v bs hrun hdue hquorum hp htick hown htables hwaits hv hbs hsome hawake
    subst hbs
    obtain ⟨hgen, hnext⟩ := mergeOwn_image (s := v) (by rw [hv]; exact hwaits) (takeBatches tick 4096 true s.image.intake)
    exact ⟨_, mergeTick_merges hrun hdue hquorum hp htick hown htables hv hsome hawake, hgen.trans (by rw [hv]),
      hnext.trans (by rw [hv])⟩
  case received =>
    rintro src data s b n hrun hown hparse rfl hn
    have horder (hst) := pubBlockReceived_orders (src := src) hrun hown hparse hn hst
    refine ⟨pubBlockReceived_absent hrun hown hparse, fun hst hseq => ?_, fun hst hseq htake => ?_, fun hst hwait => ?_⟩
    · rw [horder (by simp [hst]), orderBlock_old hst hseq]
    · rw [horder (by simp [hst]), orderBlock_ahead hst hseq htake]
    · rw [horder (by simp [hst]), orderBlock_first hst hwait]
  case closes =>
    exact fun s q qs hact hq hdue hsome => ⟨_, pubChangeBlockClose_sends hact hq hdue, sendChanges_pub hsome⟩
  case alive =>
    exact fun s hact hdue => ⟨_, pubKeepalive_sends hact hdue, sendBlock_eq .., sendBlock_pub ..⟩
  case refresh =>
    rintro s _ _ hact rfl rfl
    exact refreshBlock_sends hact

end Sys2Proof.Machine

namespace Sys2Proof.Machine

/-! The Plinth's rows (R381 to R400), the recorder's writer and its summaries (R534, R538, R543), and the records of each second (R165):
what each leaves where its condition holds. -/

/-! ## Accesses to the Plinth's registers (R385 to R387, R398) -/

/-- A load bit written while no load is pending makes its load pending, to apply at the first edge 2 µs from now (R386, R387). -/
theorem rtcCtrl_schedules {p : Plinth} (hticks : p.pendTicks = false) (hwday : p.pendWday = false) (loadTicks loadWday markLost : Bool)
    (h : (loadTicks || loadWday) = true) :
    rtcCtrl loadTicks loadWday markLost p =
      { p with retainLost := p.retainLost || markLost, pendTicks := loadTicks, pendWday := loadWday, loadWait := 50 } := by
  simp [rtcCtrl, h, hticks, hwday]

theorem rtcCtrl_marks (p : Plinth) : (rtcCtrl false false true p).retainLost = true := by simp [rtcCtrl]

/-! ## The tick edge (R383, R386, R389, R390) -/

/-- What an edge gives and firmware does not touch: the count, the day phase and the alarms. -/
def edgeView (p : Plinth) : BitVec 48 × Word × Vector Alarm 2 := (p.ticks, p.phase, p.alarms)

theorem edgeView_noticeAlarm (n : Nat) (main : Bool) (s : State) : edgeView (noticeAlarm n main s).plinth = edgeView s.plinth := by
  unfold noticeAlarm
  split
  · rw [(record_within ..).same .plinth rfl, plinthMod_plinth]
    unfold setAlarmFlag
    split <;> rfl
  · rfl

/-- The alarms that firmware finds after an edge change nothing of what the edge gave (R391). -/
theorem edgeView_plinthEdge (s : State) :
    edgeView (plinthEdge s).plinth =
      ((edgeCounts s.plinth).1, (edgeCounts s.plinth).2.2,
        s.plinth.alarms.map (alarmEdge (edgeCounts s.plinth).1 (edgeCounts s.plinth).2.1)) := by
  unfold plinthEdge
  dsimp only
  split
  · rw [edgeView_noticeAlarm, edgeView_noticeAlarm]
    rfl
  · rfl

theorem edgeCounts_ticks (p : Plinth) :
    (edgeCounts p).1 = if p.pendTicks = true ∧ p.loadWait = 0 then p.loadHi ++ p.loadLo else p.ticks + 1 := by
  unfold edgeCounts
  dsimp only
  split
  · rfl
  · split <;> rfl

theorem plinthEdge_ticks (s : State) :
    (plinthEdge s).plinth.ticks =
      if s.plinth.pendTicks = true ∧ s.plinth.loadWait = 0 then s.plinth.loadHi ++ s.plinth.loadLo else s.plinth.ticks + 1 :=
  (congrArg Prod.fst (edgeView_plinthEdge s)).trans (edgeCounts_ticks _)

/-- The day phase returns to 0 after the last tick of a day (R389). -/
theorem plinthEdge_dayEnd {s : State} (hphase : s.plinth.phase.toNat + 1 = dayTicks) (hpend : s.plinth.pendWday = false) :
    (plinthEdge s).plinth.phase = 0 := by
  have hedge : (edgeCounts s.plinth).2.2 = 0 := by simp [edgeCounts, hpend, hphase]
  exact (congrArg (·.2.1) (edgeView_plinthEdge s)).trans hedge

theorem plinthEdge_alarm (n : Fin 2) (s : State) :
    (plinthEdge s).plinth.alarms[n] =
      alarmEdge (edgeCounts s.plinth).1 (edgeCounts s.plinth).2.1 s.plinth.alarms[n] := by
  have halarms := congrArg (·.2.2) (edgeView_plinthEdge s)
  have hget := congrArg (fun v : Vector Alarm 2 => v[n]) halarms
  exact hget.trans (by simp)

section
variable {s : State}

theorem rtcLoadApply_loads (hpend : s.plinth.pendTicks = true) (hwait : s.plinth.loadWait = 0) :
    ∃ u, exec .rtcLoadApply s = .next u ∧ u.plinth.ticks = s.plinth.loadHi ++ s.plinth.loadLo := by
  refine ⟨plinthEdge s, ?_, by rw [plinthEdge_ticks, if_pos ⟨hpend, hwait⟩]⟩
  show execRtcLoadApply s = _
  simp [execRtcLoadApply, hpend, hwait]

theorem rtcWrap_wraps (hticks : s.plinth.ticks = 0xFFFFFFFFFFFF#48) (hpend : s.plinth.pendTicks = false) :
    ∃ u, exec .rtcWrap s = .next u ∧ u.plinth.ticks = 0 := by
  refine ⟨plinthEdge s, ?_, by rw [plinthEdge_ticks, if_neg (by simp [hpend]), hticks]; rfl⟩
  show execRtcWrap s = _
  rw [execRtcWrap, if_pos ⟨hticks, hpend⟩]

theorem dayPhaseRollover_rolls (hphase : s.plinth.phase.toNat + 1 = dayTicks) (hpend : s.plinth.pendWday = false) :
    ∃ u, exec .dayPhaseRollover s = .next u ∧ u.plinth.phase = 0 := by
  refine ⟨plinthEdge s, ?_, plinthEdge_dayEnd hphase hpend⟩
  show execDayPhaseRollover s = _
  rw [execDayPhaseRollover, if_pos ⟨hphase, hpend⟩]

theorem rtcAlarmMatch_marks {n : Fin 2} (hold : s.plinth.alarms[n].matched = false)
    (hmatch : alarmMatches s.plinth.alarms[n] (edgeCounts s.plinth).1 (edgeCounts s.plinth).2.1 = true) :
    ∃ u, exec (.rtcAlarmMatch n) s = .next u ∧ u.plinth.alarms[n].matched = true := by
  refine ⟨plinthEdge s, ?_, by rw [plinthEdge_alarm]; exact hmatch⟩
  show execRtcAlarmMatch n s = _
  rw [execRtcAlarmMatch, if_pos ⟨hmatch, hold⟩]

/-! ## CELL_MEASUREMENT (R393) -/

theorem cellMeasurement_low {mv : Nat} (hmain : mainPower s = true) (hmv : mv < 2500) (hbatt : s.plinth.battLow = false) :
    ∃ u, exec (.cellMeasurement mv) s = .next u ∧ u.plinth = { s.plinth with battLow := true } := by
  refine ⟨_, ?_, (record_within sevWarning 0x0A02 (srcUnit 8) [] (plinthMod (fun p => { p with battLow := true }) s)).same .plinth rfl⟩
  show execCellMeasurement mv s = _
  rw [execCellMeasurement, if_neg (by simp [hmain]), if_pos ⟨hmv, hbatt⟩]

end

/-! ## RECORDER_WRITE (R534, R538) -/

theorem place_open {r : Record} {s : State} (h : openRoom r s.recorder.segs = true) :
    place r s = recMod (fun x => { x with segs := appendRecord r s.recorder.next x.segs, next := s.recorder.next + 1 }) s := by
  rw [place, if_pos h]

theorem recorderWrite_appends {s : State} {r : Record} {rs : List Record} (hrun : writerRuns s = true)
    (hres : s.recorder.reserve = r :: rs) (hwait : s.recorder.waiting = []) (hroom : openRoom r s.recorder.segs = true) :
    ∃ u, exec .recorderWrite s = .next u ∧ u.recorder.segs = appendRecord r s.recorder.next s.recorder.segs := by
  have hnext : writerNext s.recorder = some (r, { s.recorder with reserve := rs }) := by simp only [writerNext, hres]
  show ∃ u, execRecorderWrite s = .next u ∧ _
  rw [execRecorderWrite, if_neg (by simp [hrun]), hnext]
  dsimp only
  rw [place_open (by exact hroom), if_neg (by exact Nat.succ_ne_self _)]
  refine ⟨_, rfl, ?_⟩
  dsimp only [pathDelivered, pathMod, recMod_recorder, demandClock, powerMod_recorder]
  rw [hwait]
  rfl

/-! ## FLOOD_SUMMARY (R543) -/

theorem admitReserve_judged (r : Record) (s : State) : (admitReserve r s).recorder.judged = s.recorder.judged := by
  unfold admitReserve
  extract_lets put wait
  split
  · rfl
  · split
    · split <;> rfl
    · split
      · rfl
      · split <;> rfl

/-- A summary is admitted to the reserve, which leaves the judged second alone (R538, R539). -/
theorem admitRecord_summary_judged {r : Record} (hsev : r.sev = sevWarning) (hkind : r.kind = 2) (s : State) :
    (admitRecord r s).recorder.judged = s.recorder.judged := by
  have hno : ¬r.sev ≤ 1 := by
    rw [hsev]
    decide
  simp only [admitRecord, hno, false_and, if_false, hkind, or_true, if_true, admitReserve_judged]
  rfl

/-- Changes of the paths leave the judged second alone. -/
theorem pathMod_foldl_judged (f : State → Nat → Path → Path) (ps : List Nat) (s : State) :
    (ps.foldl (fun u p => pathMod p (f u p) u) s).recorder.judged = s.recorder.judged :=
  List.foldlRecOn (motive := fun u : State => u.recorder.judged = s.recorder.judged) _ _ rfl fun _ hu _ _ => hu

theorem floodSummary_judges {s : State} (hnew : s.recorder.judged < now s / sec)
    (hflood : s.recorder.paths.toList.any (·.flood) = true) (hrun : writerRuns s = true) :
    ∃ u, exec .floodSummary s = .next u ∧ u.recorder.judged = now s / sec := by
  show ∃ u, execFloodSummary s = .next u ∧ _
  rw [execFloodSummary, if_pos ⟨hnew, hflood, hrun⟩]
  extract_lets judge t floods used
  have ht : t.recorder.judged = now s / sec := pathMod_foldl_judged (fun u p => judgePath (halfBudget p u)) ..
  refine ⟨_, rfl, ?_⟩
  rw [admitRecord_summary_judged rfl rfl, ht]

/-! ## The statement -/

/-- Settles O59: the Plinth's rows through what an edge gives, the recorder's through the place of a record and the judged second. -/
theorem plinthAndRecorderEventsComplete : Obligations.PlinthAndRecorderEventsComplete := by
  refine ⟨fun s => ⟨_, rfl, rfl, rfl⟩, ?loads, fun s => ⟨⟨_, rfl, rtcCtrl_marks _⟩, _, rfl, rfl⟩, fun s => rtcLoadApply_loads,
    fun s => rtcWrap_wraps, fun s => dayPhaseRollover_rolls, fun n s => rtcAlarmMatch_marks, fun mv s => cellMeasurement_low,
    fun s => ⟨_, rfl, rfl, rfl, rfl⟩, fun s r rs => recorderWrite_appends, fun s => floodSummary_judges,
    fun s => ⟨_, rfl, rfl, rfl, rfl⟩⟩
  case loads =>
    intro s hticks hwday
    exact ⟨⟨_, rfl, congrArg (·.pendTicks) (rtcCtrl_schedules hticks hwday true false false rfl)⟩,
      _, rfl, congrArg (·.pendWday) (rtcCtrl_schedules hticks hwday false true false rfl)⟩

end Sys2Proof.Machine

namespace Sys2Proof.Machine

/-! The pair's events (R212, R423 to R443, R523): heartbeats and lines, the demotion, the drawbar's links, the hand-over, the streams to a
standby and its catch-up.  Each row's rule says what it does where its condition holds. -/

/-- What changes other parts leaves the pair alone. -/
theorem Within.pair_eq {ps : List Part} {s u : State} (w : Within ps s u) (h : ps.contains .pair = false) : u.pair = s.pair :=
  w.same .pair h

/-! ## HEARTBEAT_SEND, HEARTBEAT_RECEIVED, HEARTBEAT_LOSS (R429, R433) -/

/-- What a module knows of its partner by the heartbeats: when the last came, and whether they are lost. -/
def heard (s : State) : Nat × Bool := (s.pair.lastHb, s.pair.partnerLost)

theorem Within.heard_eq {ps : List Part} {s u : State} (w : Within ps s u) (h : ps.contains .pair = false) : heard u = heard s := by
  rw [heard, w.pair_eq h, heard]

theorem heard_goAlone (s : State) : heard (goAlone s) = heard s := by
  unfold goAlone
  split
  iterate 2
    · rw [(record_within ..).heard_eq rfl]
      rfl
  · rfl

theorem heard_leaveStep (s : State) : heard (leaveStep s) = heard s := by
  unfold leaveStep
  split
  iterate 2
    · simp only [heard, (record_within ..).pair_eq rfl, (discardAll_within s).pair_eq rfl]
  · rfl

/-- What a heartbeat says changes the roles, not what was heard of it. -/
theorem heard_heartbeatNews (h : Heartbeat) (s : State) : heard (heartbeatNews h s) = heard s := by
  unfold heartbeatNews
  extract_lets s1
  have hs1 : heard s1 = heard s := rfl
  clear_value s1
  rw [← hs1]
  split
  · split <;> rfl
  · split
    · exact heard_goAlone s1
    · rfl
  · split
    · exact heard_goAlone s1
    · rfl
  · split
    · exact heard_leaveStep s1
    · rfl
  · split
    · exact heard_leaveStep s1
    · rfl
  · rfl

theorem heard_takeover (trigger : Nat) (s : State) : heard (takeover trigger s) = heard s := by
  unfold takeover
  extract_lets s0 m s1 s2 s3
  have hbefore : heard s2 = heard s := (abandonExchange_within s).heard_eq rfl
  have hcycles : Within [.recorder, .cpl, .task, .image, .uc, .dig, .safety] s2 s3 := .foldl (fun t n => by
    split
    · exact .refl _ _
    · exact .ite (fun _ => (discardCycle_within ..).mono rfl) fun _ => .refl _ _) _ (.refl _ _)
  clear_value s3 s2
  rw [(takeoverUnits_within ..).heard_eq rfl, (loopsTakeover_within ..).heard_eq rfl, (driveHeld_within ..).heard_eq rfl,
    (followTasks_within ..).heard_eq rfl, hcycles.heard_eq rfl, hbefore]

theorem heard_lossCheck (before : Bool) (s : State) : heard (lossCheck before s) = heard s := by
  unfold lossCheck
  split
  · rfl
  · split
    · exact heard_takeover 1 s
    · exact (takeoverRefused_within s).heard_eq rfl

section
variable {s : State}

theorem heartbeatSend_sends (hpair : pairConfigured s = true) (hmode : s.modes.mode ≠ .plinth) :
    exec .heartbeatSend s = .next (emit (.heartbeat (heartbeatOf s)) { s with pair := { s.pair with hbSeq := s.pair.hbSeq + 1 } }) :=
  congrArg Host.Outcome.next (if_neg (by simp [hpair, hmode]))

theorem heartbeatReceived_heard {l : Fin 2} {h : Heartbeat} (hpair : pairConfigured s = true) :
    ∃ u, exec (.heartbeatReceived l h) s = .next u ∧ heard u = (now s, false) := by
  show ∃ u, execHeartbeatReceived l h s = .next u ∧ _
  rw [execHeartbeatReceived, if_neg (by simp [hpair])]
  extract_lets fresh s1
  have hs1 : heard s1 = (now s, false) := (drawbarArrives_within _).heard_eq rfl
  refine ⟨_, rfl, ?_⟩
  split
  · exact (heard_heartbeatNews h s1).trans hs1
  · exact hs1

theorem heartbeatLoss_loses (hpair : pairConfigured s = true) (hheard : s.pair.partnerLost = false)
    (hdue : s.pair.lastHb + 1550 * us ≤ now s) : ∃ u, exec .heartbeatLoss s = .next u ∧ u.pair.partnerLost = true := by
  show ∃ u, execHeartbeatLoss s = .next u ∧ _
  rw [execHeartbeatLoss, if_neg (by simp [hpair, hheard, hdue])]
  extract_lets before s1
  refine ⟨_, rfl, ?_⟩
  split
  · exact congrArg Prod.snd (heard_goAlone s1)
  · exact congrArg Prod.snd (heard_lossCheck before s1)

/-! ## PAIR_LIVE_TOGGLE, PAIR_LIVE_STALE, PAIR_ACT_I_CHANGE (R423, R425, R426) -/

theorem pairLiveToggle_toggles (hmode : s.modes.mode = .run) :
    ∃ u, exec .pairLiveToggle s = .next u ∧ u.pair.liveOut = !s.pair.liveOut := by
  show ∃ u, execPairLiveToggle s = .next u ∧ _
  simp only [execPairLiveToggle, hmode]
  exact ⟨_, rfl, rfl⟩

theorem lossCheck_no_standby {before : Bool} (hmode : s.modes.mode ≠ .standby) : lossCheck before s = s := if_pos (.inl hmode)

theorem pairLiveStale_marks (h : pairConfigured s = false ∨ s.modes.mode ≠ .standby) :
    ∃ u, exec .pairLiveStale s = .next u ∧ u.pair.liveStale = true := by
  show ∃ u, execPairLiveStale s = .next u ∧ _
  unfold execPairLiveStale
  extract_lets s1
  obtain hpair | hmode := h
  · rw [if_neg (by simp [hpair])]
    exact ⟨s1, rfl, rfl⟩
  · rw [lossCheck_no_standby (by exact hmode), ite_self]
    exact ⟨s1, rfl, rfl⟩

theorem pairActIChange_high (hpair : pairConfigured s = true) (hst : s.pair.st ≠ .demoting) :
    ∃ u, exec (.pairActIChange true) s = .next u ∧ u.pair.actIn = true := by
  show ∃ u, execPairActIChange true s = .next u ∧ _
  unfold execPairActIChange
  extract_lets s1
  rw [if_neg (by simp [hpair]), if_pos rfl, if_neg fun h => hst h.1]
  exact ⟨s1, rfl, rfl⟩

/-! ## ACTIVITY_CONFLICT, FIELD_REFRESH_TIMEOUT (R425, R426, R428) -/

/-- Where both lines are high, position 1 steps down (R425, R450). -/
theorem activityConflict_steps_down (hrun : operating s = true) (hst : s.pair.st = .activePaired ∨ s.pair.st = .activeAlone)
    (hout : s.pair.actOut = true) (hin : s.pair.actIn = true) (hlive : s.pair.liveStale = false) (hdem : s.pair.demoted = false)
    (hpos : s.pair.position = true) :
    ∃ u, exec .activityConflict s = .next u ∧ u.modes.mode = .standby ∧ u.pair.st = .outOfStep ∧ u.pair.actOut = false := by
  show ∃ u, execActivityConflict s = .next u ∧ _
  unfold execActivityConflict
  extract_lets quiet s1 s2
  have hquiet : quiet = true := by
    obtain h | h := hst <;> simp [quiet, h]
  rw [if_neg (by simp [hrun, hout, hin, hlive, hdem, hquiet]), if_pos hpos]
  refine ⟨_, rfl, ?_⟩
  rw [(canFollow_within _).mode_eq rfl, (canFollow_within _).pair_eq rfl, (outputsOff_within _).mode_eq rfl,
    (outputsOff_within _).pair_eq rfl]
  exact ⟨rfl, rfl, rfl⟩

theorem fieldRefreshTimeout_off (h : s.pair.refreshed + ms ≤ now s) : exec .fieldRefreshTimeout s = .next (outputsOff s) :=
  congrArg Host.Outcome.next (if_pos h)

/-! ## DEMOTE_RECEIVED, DEMOTION_TAKEOVER_TIMEOUT, REACH_DEMOTE (R428, R433 to R435) -/

/-- A standby that cannot take over holds the message and stays as it is (R434). -/
theorem demoteReceived_refused {l : Fin 2} (hpair : pairConfigured s = true) (hdem : s.pair.demoted = false)
    (hmode : s.modes.mode = .standby) (hst : s.pair.st = .outOfStep) :
    ∃ u, exec (.demoteReceived l) s = .next u ∧ u.pair = { s.pair with demoted := true } := by
  show ∃ u, execDemoteReceived l s = .next u ∧ _
  rw [execDemoteReceived, if_neg (by simp [hpair, hdem, hmode])]
  extract_lets s1
  have hs1 : s1.pair = { s.pair with demoted := true } := (drawbarArrives_within _).pair_eq rfl
  rw [if_neg (by simp [takesOver, hs1, hst])]
  exact ⟨_, rfl, ((takeoverRefused_within s1).pair_eq rfl).trans hs1⟩

theorem demotionTakeoverTimeout_safe (hrun : operating s = true) (hst : s.pair.st = .demoting) (hat : s.pair.handAt = none)
    (hdue : s.pair.demoteAt + 5 * ms ≤ now s) : ∃ u, exec .demotionTakeoverTimeout s = .next u ∧ u.modes.mode = .safe := by
  show ∃ u, execDemotionTakeoverTimeout s = .next u ∧ _
  rw [execDemotionTakeoverTimeout, if_pos ⟨hrun, hst, hat, hdue⟩]
  exact ⟨_, rfl, ((admitWaiting_within _).mode_eq rfl).trans (enterSafe_mode s)⟩

/-- An active module with a standby in step demotes itself, whatever the cause (R428, R433). -/
theorem selfDemote_paired {cause : Nat} {toSafe : Bool} (hrun : operating s = true) (hst : s.pair.st = .activePaired) :
    selfDemote cause toSafe s = demote cause toSafe s := by
  unfold operating at hrun
  unfold selfDemote
  rw [hst]
  split at hrun <;> simp_all

theorem reachDemote_demotes {h : Heartbeat} {t : Nat} (hpartner : s.pair.partner = some h) (hnet : bit (fld8 s.pair.rcd 0) 1 = true)
    (hst : s.pair.st = .activePaired) (hrun : operating s = true) (hup : h.pubLinksUp = true) (hdown : pubLinksUp s = false)
    (hlead : reach s + fld16 s.pair.rcd 4 ≤ h.reach) (hsince : s.pair.reachSince = some t)
    (hdue : t + fld16 s.pair.rcd 6 * ms ≤ now s) : ∃ u, exec .reachDemote s = .next u ∧ u.pair.st = .demoting := by
  have hlost : reachLost s = true := by simp [reachLost, hpartner, hnet, hup, hdown, hlead]
  show ∃ u, execReachDemote s = .next u ∧ _
  simp only [execReachDemote, hsince]
  rw [if_pos ⟨hst, hrun, hlost, hdue⟩, selfDemote_paired hrun hst]
  exact ⟨_, rfl, rfl⟩

/-! ## DRAWBAR_LINK_CHANGE, DRAWBAR_HELLO, OUT_OF_STEP_RETRY (R424, R428, R431, R442) -/

theorem drawbarLinkChange_up {l : Fin 2} (hhealth : healthOf (0x30 + l.val) s ≠ 2) (hup : s.pair.up[l] = false) :
    ∃ u, exec (.drawbarLinkChange l true) s = .next u ∧ u.pair.up = s.pair.up.set l true := by
  show ∃ u, execDrawbarLinkChange l true s = .next u ∧ _
  rw [execDrawbarLinkChange, if_neg (not_or.mpr ⟨by rw [hup]; exact Bool.false_ne_true, hhealth⟩), if_pos rfl]
  exact ⟨_, rfl, rfl⟩

theorem drawbarHello_safe {l : Fin 2} {h : Hello} (hmode : s.modes.mode = .safe) :
    ∃ u, exec (.drawbarHello l h) s = .next u ∧ u.pair.hello = some h := by
  show ∃ u, execDrawbarHello l h s = .next u ∧ _
  simp only [execDrawbarHello, hmode]
  exact ⟨_, rfl, congrArg (·.hello) ((drawbarArrives_within _).pair_eq rfl)⟩

theorem outOfStepRetry_begins (hst : s.pair.st = .outOfStep) (hmode : s.modes.mode = .standby)
    (hup : s.pair.up.toList.any id = true) (hfail : s.pair.failed = 0) (hdue : s.pair.leftAt + 5 * sec ≤ now s) :
    exec .outOfStepRetry s = .next (beginCatchup s) :=
  congrArg Host.Outcome.next (if_pos ⟨hst, hmode, hup, hdue, hfail⟩)

end

/-! ## CROSSFADE_START, CROSSFADE_STEP (R437, R440) -/

section
variable {s : State} {t : Nat}

theorem crossfadeStart_begins (hat : s.pair.handAt = some t) (hst : s.pair.st = .handingOver) (hhanded : s.pair.handed = false)
    (hfading : s.pair.fading = false) (hdue : t ≤ now s + ms) (hformer : s.pair.former = true) :
    exec .crossfadeStart s =
      .next { s with pair := { s.pair with fading := true, verifyAt := some (t + 20 * ms), share := 32 } } := by
  show execCrossfadeStart s = _
  simp [execCrossfadeStart, hat, hst, hhanded, hfading, Nat.not_lt.mpr hdue, hformer, pairUnit]

theorem crossfadeStart_waits (hat : s.pair.handAt = some t) (hearly : now s + ms < t) : exec .crossfadeStart s = .next s := by
  show execCrossfadeStart s = _
  simp [execCrossfadeStart, hat, hearly]

theorem crossfadeStep_steady (h : s.pair.fading = false) : exec .crossfadeStep s = .next s := by
  show execCrossfadeStep s = _
  rw [execCrossfadeStep, if_pos h]

theorem crossfadeStep_falls (hfading : s.pair.fading = true) (hformer : s.pair.former = true) :
    exec .crossfadeStep s = .next { s with pair := { s.pair with share := s.pair.share - 1 } } := by
  show execCrossfadeStep s = _
  rw [execCrossfadeStep, if_neg (by simp [hfading]), if_pos hformer]
  rfl

theorem crossfadeStep_rises (hfading : s.pair.fading = true) (hformer : s.pair.former = false) :
    ∃ u, exec .crossfadeStep s = .next u ∧ u = { s with pair := u.pair } ∧ u.pair.share = min 32 (s.pair.share + 1) := by
  show ∃ u, execCrossfadeStep s = .next u ∧ _
  rw [execCrossfadeStep, if_neg (by simp [hfading]), if_neg (by simp [hformer])]
  exact ⟨_, rfl, rfl, rfl⟩

/-! ## HANDOVER_TIME (R194, R440) -/

theorem handoverTime_waits (hat : s.pair.handAt = some t) (hearly : now s < t) : exec .handoverTime s = .next s := by
  show execHandoverTime s = _
  simp [execHandoverTime, hat, hearly]

section
variable (hat : s.pair.handAt = some t) (hst : s.pair.st = .handingOver) (hhanded : s.pair.handed = false) (hdue : t ≤ now s)
include hat hst hhanded hdue

theorem handoverTime_releases (hformer : s.pair.former = true) :
    ∃ u, exec .handoverTime s = .next u ∧
      u.pair = { s.pair with handed := true, fading := false, share := 0, actOut := false } := by
  refine ⟨?next, (?run : execHandoverTime s = .next ?next), ?pair⟩
  case run =>
    simp only [execHandoverTime, hat]
    rw [if_neg (by simp [hst, hhanded, hdue]), if_pos hformer]
  rw [(hostSwitchover_within ..).pair_eq rfl, pairUnit_pair, (abandonExchange_within s).pair_eq rfl]

/-- At T_h a standby takes the mode its partner reported and drives its outputs whole (R436, R440). -/
theorem handoverTime_takes (hformer : s.pair.former = false) (hmode : s.modes.mode = .standby) :
    ∃ u, exec .handoverTime s = .next u ∧ u.pair.handed = true ∧ u.pair.actOut = true ∧ u.pair.share = 32 ∧
      u.modes.mode = takenMode s := by
  show ∃ u, execHandoverTime s = .next u ∧ _
  simp -zeta only [execHandoverTime, hat]
  rw [if_neg (by simp [hst, hhanded, hdue]), if_neg (by simp [hformer]), if_neg (by simp [hmode])]
  extract_lets s1 m s2 s3
  have hpair1 : s1.pair = { s.pair with handed := true, fading := false, share := 32, actOut := true, lastTrigger := 3 } := by
    rw [pairUnit_pair, (abandonExchange_within s).pair_eq rfl]
  have hpair2 : s2.pair = s1.pair := by
    unfold s2
    rw [(driveHeld_within ..).pair_eq rfl]
  have hmode2 : s2.modes.mode = takenMode s1 := by
    unfold s2
    rw [(driveHeld_within ..).mode_eq rfl]
  have hunits : Within [.recorder, .host, .time, .power, .cpl, .image, .pub, .loop, .uc, .net, .can, .modes, .cfg, .out] s2
      (toStandby (.ownerCount s3.net.owner) s3) :=
    .step (toStandby_within ..) rfl (.step (takeoverUnits_within ..) rfl ((loopsTakeover_within s2).mono rfl))
  have hpair := (hunits.pair_eq rfl).trans (hpair2.trans hpair1)
  have htaken : takenMode s1 = takenMode s := by simp only [takenMode, hpair1]
  exact ⟨_, rfl, by rw [hpair], by rw [hpair], by rw [hpair], (hunits.mode_eq rfl).trans (hmode2.trans htaken)⟩

end

/-! ## HANDOVER_END, VERIFICATION_RESUME (R436, R438, R440) -/

theorem handover_not_announced (h : s.pair.handAt = none) :
    exec .crossfadeStart s = .next s ∧ exec .handoverTime s = .next s ∧ exec .handoverEnd s = .next s := by
  refine ⟨(?_ : execCrossfadeStart s = _), (?_ : execHandoverTime s = _), (?_ : execHandoverEnd s = _)⟩
  · simp only [execCrossfadeStart, h]
  · simp only [execHandoverTime, h]
  · simp only [execHandoverEnd, h]

/-- After a planned switchover the former active module stands by in step, its line low (R440). -/
theorem endRelease_planned {v : State} (h : v.pair.st ≠ .demoting) :
    (endRelease v).modes.mode = .standby ∧ (endRelease v).pair.st = .inStep ∧ (endRelease v).pair.actOut = false := by
  have hst : (v.pair.st == .demoting) = false := by simp [h]
  simp only [endRelease, hst, Bool.false_eq_true, false_and, if_false]
  rw [(canFollow_within _).mode_eq rfl, (canFollow_within _).pair_eq rfl, (outputsOff_within _).mode_eq rfl,
    (outputsOff_within _).pair_eq rfl]
  exact ⟨rfl, rfl, rfl⟩

section
variable (hat : s.pair.handAt = some t) (hdue : t + ms ≤ now s) (hrun : operating s = true) (hst : s.pair.st = .handingOver)
  (hhanded : s.pair.handed = true)
include hat hdue hrun hst hhanded

theorem handoverEnd_activates (hformer : s.pair.former = false) :
    ∃ u, exec .handoverEnd s = .next u ∧ u = { s with pair := u.pair, recorder := u.recorder } ∧ u.pair.st = .activePaired ∧
      u.pair.handAt = none ∧ u.pair.lastTrigger = 3 ∧ u.pair.lastSwitchover = t := by
  show ∃ u, execHandoverEnd s = .next u ∧ _
  simp only [execHandoverEnd, hat]
  rw [if_neg (by simp [hrun, hdue]), if_neg (by simp [hst]), if_neg (by simp [hst, hhanded]), if_neg (by simp [hformer]), audit_eq]
  exact ⟨_, rfl, rfl, rfl, rfl, rfl, rfl⟩

theorem handoverEnd_stands_by (hformer : s.pair.former = true) :
    ∃ u, exec .handoverEnd s = .next u ∧ u.modes.mode = .standby ∧ u.pair.st = .inStep ∧ u.pair.actOut = false := by
  show ∃ u, execHandoverEnd s = .next u ∧ _
  simp only [execHandoverEnd, hat]
  rw [if_neg (by simp [hrun, hdue]), if_neg (by simp [hst]), if_neg (by simp [hst, hhanded]), if_pos hformer]
  refine ⟨_, rfl, ?_⟩
  rw [(audit_within ..).mode_eq rfl, (audit_within ..).pair_eq rfl]
  exact endRelease_planned (by simp [hst])

end

theorem verificationResume_resumes (hat : s.pair.verifyAt = some t) (hdue : t ≤ now s) :
    exec .verificationResume s = .next { s with pair := { s.pair with verifyAt := none } } := by
  show execVerificationResume s = _
  simp only [execVerificationResume, hat, if_pos hdue, pairUnit]

theorem verificationResume_waits (hat : s.pair.verifyAt = some t) (hearly : now s < t) : exec .verificationResume s = .next s := by
  show execVerificationResume s = _
  simp only [execVerificationResume, hat, if_neg (Nat.not_le.mpr hearly)]

end

/-! ## AGREED_INPUTS_RECEIVED, AGREED_INPUTS_TIMEOUT, COMMIT_DIGEST_RECEIVED (R429, R430) -/

section
variable {s : State} {t : Fin 32}

theorem agreedInputsReceived_keeps_cycle {n : Nat} {items : List (ItemSrc × ItemVal)} {held : List AgreedCycle}
    (hmode : s.modes.mode = .standby)
    (hheld : held = (tabGet [] s.pair.agreed t.val).filter fun x => decide (s.task[t].cycleNo ≤ x.cycle))
    (hcome : s.task[t].cycleNo ≤ n) (hfirst : ∀ x ∈ held, x.cycle ≠ n) :
    exec (.agreedInputsReceived (.cycle t n items)) s = .next (drawbarArrives { s with pair := { s.pair with
      agreed := tabSet [] s.pair.agreed t.val (held ++ [{ cycle := n, items := items }]) } }) := by
  show execAgreedInputsReceived (.cycle t n items) s = _
  simp only [execAgreedInputsReceived, taskAt_fin, Option.elim_some, ← hheld]
  rw [if_neg (by simp [hmode]), if_neg (not_or.mpr ⟨Nat.not_lt.mpr hcome, by simpa using hfirst⟩)]
  rfl

theorem agreedInputsReceived_keeps_merge {g : Nat} {es : List Entry} (hmode : s.modes.mode = .standby) (hcome : s.image.gen < g)
    (hfirst : ∀ m ∈ s.pair.merges, m.generation ≠ g) :
    exec (.agreedInputsReceived (.merge g es)) s =
      .next (drawbarArrives { s with pair := { s.pair with merges := s.pair.merges ++ [{ generation := g, entries := es }] } }) := by
  show execAgreedInputsReceived (.merge g es) s = _
  simp only [execAgreedInputsReceived]
  rw [if_neg (by simp [hmode]), if_neg (not_or.mpr ⟨Nat.not_le.mpr hcome, by simpa using hfirst⟩)]
  rfl

/-- A standby that leaves step holds no agreed inputs any more (R428, R430). -/
theorem leaveStep_from_step (h : s.pair.st = .inStep) : (leaveStep s).pair.st = .outOfStep ∧ (leaveStep s).pair.agreed = [] := by
  rw [leaveStep, h]
  dsimp only
  rw [(record_within ..).pair_eq rfl]
  exact ⟨rfl, rfl⟩

theorem agreedInputsTimeout_leaves (hmode : s.modes.mode = .standby) (hst : s.pair.st = .inStep)
    (hphase : s.task[t].phase = .gathered) (hnone : agreedFor t.val s = none) (hdue : s.task[t].next + ms ≤ now s) :
    ∃ u, exec (.agreedInputsTimeout t) s = .next u ∧ u.pair.st = .outOfStep ∧ u.pair.agreed = [] := by
  show ∃ u, execAgreedInputsTimeout t s = .next u ∧ _
  rw [execAgreedInputsTimeout, if_pos ⟨hmode, by simp [takesOver, hst], hphase, by simp [hnone], hdue⟩]
  exact ⟨_, rfl, leaveStep_from_step hst⟩

theorem commitDigestReceived_keeps {n g : Nat} {sigs : List (Nat × BitVec 128)} {held : List CycleDigest}
    (hmode : s.modes.mode = .standby)
    (hheld : held = (tabGet [] s.pair.digests t.val).filter fun x => decide (s.task[t].cycleNo ≤ x.cycle))
    (hfirst : ∀ x ∈ held, x.cycle ≠ n) (hphase : s.task[t].phase ≠ .compared) :
    exec (.commitDigestReceived t n sigs g) s = .next (drawbarArrives { s with pair := { s.pair with
      digests := tabSet [] s.pair.digests t.val (held ++ [{ cycle := n, sigs := sigs, generation := g }]) } }) := by
  show execCommitDigestReceived t n sigs g s = _
  simp only [execCommitDigestReceived, ← hheld]
  rw [if_neg (by simp [hmode]), if_neg (by simpa using hfirst), if_neg fun h => hphase h.1]
  rfl

theorem streams_not_kept {n g : Nat} {sigs : List (Nat × BitVec 128)} {i : AgreedInputs} (hmode : s.modes.mode ≠ .standby) :
    exec (.agreedInputsReceived i) s = .next s ∧ exec (.agreedInputsTimeout t) s = .next s ∧
      exec (.commitDigestReceived t n sigs g) s = .next s := by
  refine ⟨congrArg Host.Outcome.next (if_pos hmode), (?_ : execAgreedInputsTimeout t s = _), congrArg Host.Outcome.next (if_pos hmode)⟩
  rw [execAgreedInputsTimeout, if_neg fun h => hmode h.1]

end

/-! ## PAIR_CONTROL_MESSAGE (R212, R429) -/

section
variable {s t : State} {c : PairControl} (ht : t = drawbarArrives { s with pair := { s.pair with ctrlSeq := s.pair.ctrlSeq + 1 } })
include ht

theorem pairControlMessage_standby (hmode : s.modes.mode = .standby) :
    exec (.pairControlMessage c) s = .next (applyControl c t) := by
  subst ht
  show execPairControlMessage c s = _
  rw [execPairControlMessage, if_pos hmode]
  rfl

/-- The standby's answer to a cast point reaches the active module in the state that holds the message (R212). -/
theorem pairControlMessage_castPoint {flags : Nat} (hmode : s.modes.mode ≠ .standby) (hc : c = .castPoint s.prog.cast flags)
    (hpair : pairInStep s = true) (hready : s.prog.st = .ready) :
    exec (.pairControlMessage c) s = .next { t with prog := { t.prog with acked := true } } := by
  have hdraw : Within [.power] { s with pair := { s.pair with ctrlSeq := s.pair.ctrlSeq + 1 } } t := ht ▸ drawbarArrives_within _
  have hpair' : pairInStep t = true := by rw [pairInStep, hdraw.pair_eq rfl]; exact hpair
  have hready' : t.prog.st = .ready := (congrArg (·.st) (hdraw.same .prog rfl)).trans hready
  refine Eq.trans ?_ (standbyReadyAck_holds hpair' (.inl hready'))
  subst ht hc
  show execPairControlMessage _ s = .next (standbyReady _)
  rw [execPairControlMessage, if_neg hmode]
  dsimp only
  rw [if_pos rfl]
  rfl

theorem pairControlMessage_resync (hmode : s.modes.mode ≠ .standby) (hc : c = .resync) : exec (.pairControlMessage c) s = .next t := by
  subst ht hc
  show execPairControlMessage .resync s = _
  rw [execPairControlMessage, if_neg hmode]
  rfl

end

/-! ## CATCHUP_PHASE_COMPLETE, CATCHUP_SUSPEND (R442, R443) -/

/-- The phase whose content a message of the catch-up brings, and the state with that content; the hello and the join bring none (R442). -/
def phaseCopy (s : State) : CatchupCopy → Option (Nat × State)
  | .configuration recs id log forces => some (1, copyConfiguration recs id log forces s)
  | .program active maquette => some (2, copyProgram active maquette s)
  | .laneState gen inst sigs tasks =>
    some (3, pairUnit (fun p => { p with progress := 1000 }) (copyLaneState gen inst sigs tasks s))
  | .retained pages loops => some (4, copyRetained pages loops s)
  | .hello | .join => none

section
variable {s : State} {c : CatchupCopy}

theorem catchupPhaseComplete_elsewhere (h : s.pair.st ≠ .catchingUp) : exec (.catchupPhaseComplete c) s = .next s :=
  congrArg Host.Outcome.next (if_pos (.inl h))

section
variable (hst : s.pair.st = .catchingUp) (hmode : s.modes.mode = .standby)
include hst hmode

/-- The content of the phase now running is copied, and the next phase begins (R442). -/
theorem catchupPhaseComplete_copies {v : State} {n : Nat} (hcopy : phaseCopy s c = some (n, v)) (hphase : s.pair.phase = n) :
    ∃ u, exec (.catchupPhaseComplete c) s = .next u ∧ u.pair = { v.pair with phase := n + 1 } := by
  refine ⟨pairUnit (fun p => { p with phase := n + 1 }) v, (?_ : execCatchupPhaseComplete c s = _), pairUnit_pair ..⟩
  have hruns : ¬(s.pair.st ≠ .catchingUp ∨ s.modes.mode ≠ .standby) := by simp [hst, hmode]
  cases c with
  | hello | join => cases hcopy
  | configuration | program | laneState | retained =>
    cases hcopy
    simp only [execCatchupPhaseComplete, if_neg hruns, hphase]

theorem catchupPhaseComplete_advances {v : State} {n : Nat} (hcopy : phaseCopy s c = some (n, v)) (hphase : s.pair.phase = n) :
    ∃ u, exec (.catchupPhaseComplete c) s = .next u ∧ u.pair.phase = n + 1 := by
  obtain ⟨u, hexec, hpair⟩ := catchupPhaseComplete_copies hst hmode hcopy hphase
  exact ⟨u, hexec, congrArg (·.phase) hpair⟩

theorem catchupPhaseComplete_joins (hphase : s.pair.phase = 5) :
    exec (.catchupPhaseComplete .join) s = .next { s with pair := { s.pair with st := .inStep, phase := 0 } } := by
  show execCatchupPhaseComplete .join s = _
  rw [execCatchupPhaseComplete, if_neg (by simp [hst, hmode])]
  simp only [hphase, pairUnit]

theorem catchupPhaseComplete_join_early (hphase : s.pair.phase ≠ 5) : exec (.catchupPhaseComplete .join) s = .next s := by
  show execCatchupPhaseComplete .join s = _
  rw [execCatchupPhaseComplete, if_neg (by simp [hst, hmode])]
  split
  case h_6 hnow => exact absurd hnow hphase
  case h_7 => rfl
  all_goals contradiction

end

section
variable (hact : isActive s = true) (hpartner : partnerCatching s = true)
include hact hpartner

theorem catchupSuspend_restarts (h : s.pair.suspended = true) :
    exec (.catchupSuspend true) s = .next { s with pair := { s.pair with suspended := false, progress := 0 } } := by
  show execCatchupSuspend true s = _
  rw [execCatchupSuspend, if_neg (by simp [hact, hpartner, h]), if_pos rfl]
  rfl

theorem catchupSuspend_suspends (h : s.pair.suspended = false) :
    ∃ u, exec (.catchupSuspend false) s = .next u ∧
      u = { s with pair := { s.pair with suspended := true }, recorder := u.recorder } := by
  show ∃ u, execCatchupSuspend false s = .next u ∧ _
  rw [execCatchupSuspend, if_neg (by simp [hact, hpartner, h]), if_neg Bool.false_ne_true]
  exact ⟨_, rfl, record_eq ..⟩

end
end

/-! ## The statements -/

/-- Settles O51: each row by its rule above. -/
theorem handoverAndCatchUpRun : Obligations.HandoverAndCatchUpRun := by
  refine ⟨?announced, fun s => handover_not_announced,
    fun s => ⟨crossfadeStep_steady, crossfadeStep_falls, crossfadeStep_rises⟩,
    fun s t hat hdue hrun hst hhanded =>
      ⟨handoverEnd_activates hat hdue hrun hst hhanded, handoverEnd_stands_by hat hdue hrun hst hhanded⟩,
    fun s t hat => ⟨verificationResume_resumes hat, verificationResume_waits hat⟩,
    fun t s n xs h => agreedInputsReceived_keeps_cycle, fun s g es => agreedInputsReceived_keeps_merge,
    fun t s => agreedInputsTimeout_leaves, fun t s n g sigs h => commitDigestReceived_keeps, fun t s n g sigs i => streams_not_kept,
    fun c s t f ht => ⟨pairControlMessage_standby ht, pairControlMessage_castPoint ht, pairControlMessage_resync ht⟩,
    ?catchup, fun s c => catchupPhaseComplete_elsewhere,
    fun s hact hpartner => ⟨catchupSuspend_restarts hact hpartner, catchupSuspend_suspends hact hpartner⟩⟩
  case announced =>
    intro s t hat hst hhanded
    exact ⟨crossfadeStart_begins hat hst hhanded, crossfadeStart_waits hat, handoverTime_waits hat,
      handoverTime_releases hat hst hhanded, handoverTime_takes hat hst hhanded⟩
  case catchup =>
    intro s hst hmode
    refine ⟨catchupPhaseComplete_joins hst hmode, fun a b c d => catchupPhaseComplete_advances hst hmode rfl,
      fun a b => catchupPhaseComplete_advances hst hmode rfl, fun a b c d hphase => ?_,
      fun a b => catchupPhaseComplete_advances hst hmode rfl, catchupPhaseComplete_join_early hst hmode⟩
    obtain ⟨u, hexec, hpair⟩ := catchupPhaseComplete_copies (c := .laneState a b c d) hst hmode rfl hphase
    exact ⟨u, hexec, congrArg (·.phase) hpair, congrArg (·.progress) hpair⟩

/-- Settles O60: the hand-over, the streams and the catch-up by the rules of O51, each other row by its rule above. -/
theorem pairEventsComplete : Obligations.PairEventsComplete := by
  refine ⟨fun s => heartbeatSend_sends, ?received, fun s => heartbeatLoss_loses, fun s => pairLiveToggle_toggles,
    fun s => pairLiveStale_marks, fun s => pairActIChange_high, ?conflict, fun s => fieldRefreshTimeout_off, ?demote,
    fun s => demotionTakeoverTimeout_safe, fun l s => drawbarLinkChange_up, fun l h s => drawbarHello_safe, ?reach,
    fun s => outOfStepRetry_begins, ?handover, fun s hfading hformer => ⟨_, crossfadeStep_falls hfading hformer, rfl⟩, ?ends,
    fun s t hat hdue => ⟨_, verificationResume_resumes hat hdue, rfl⟩, ?merge, ?timeout, ?digest,
    fun c s => pairControlMessage_standby rfl, fun s hst hmode hphase => ⟨_, catchupPhaseComplete_joins hst hmode hphase, rfl⟩,
    ?suspend⟩
  case received =>
    intro l h s hpair
    obtain ⟨u, hexec, hheard⟩ := heartbeatReceived_heard hpair
    exact ⟨u, hexec, congrArg Prod.fst hheard⟩
  case conflict =>
    intro s hrun hst hout hin hlive hdem hpos
    obtain ⟨u, hexec, hmode, -, hlow⟩ := activityConflict_steps_down hrun (.inr hst) hout hin hlive hdem hpos
    exact ⟨u, hexec, hmode, hlow⟩
  case demote =>
    intro l s hpair hdem hmode hst
    obtain ⟨u, hexec, hu⟩ := demoteReceived_refused hpair hdem hmode hst
    exact ⟨u, hexec, congrArg (·.demoted) hu⟩
  case reach =>
    exact fun s h hpartner hnet hst hrun hup hdown hlead t => reachDemote_demotes hpartner hnet hst hrun hup hdown hlead
  case handover =>
    intro s t hat hst hhanded hformer
    refine ⟨fun hfading hdue => ⟨_, crossfadeStart_begins hat hst hhanded hfading hdue hformer, rfl⟩, fun hdue => ?_⟩
    obtain ⟨u, hexec, hu⟩ := handoverTime_releases hat hst hhanded hdue hformer
    exact ⟨u, hexec, congrArg (·.handed) hu, congrArg (·.actOut) hu⟩
  case ends =>
    intro s t hat hdue hrun hst hhanded hformer
    obtain ⟨u, hexec, -, hpaired, hnone, -⟩ := handoverEnd_activates hat hdue hrun hst hhanded hformer
    exact ⟨u, hexec, hpaired, hnone⟩
  case merge =>
    exact fun s g es hmode hcome hfirst => ⟨_, agreedInputsReceived_keeps_merge hmode hcome hfirst,
      congrArg (·.merges) ((drawbarArrives_within _).pair_eq rfl)⟩
  case timeout =>
    intro t s hmode hst hphase hnone hdue
    obtain ⟨u, hexec, hleft, -⟩ := agreedInputsTimeout_leaves hmode hst hphase hnone hdue
    exact ⟨u, hexec, hleft⟩
  case digest =>
    exact fun t s n g sigs hmode hnone hphase => ⟨_, commitDigestReceived_keeps (held := []) hmode (by rw [hnone]; rfl) nofun hphase,
      congrArg (·.digests) ((drawbarArrives_within _).pair_eq rfl)⟩
  case suspend =>
    intro s hact hpartner hrun
    obtain ⟨u, hexec, hu⟩ := catchupSuspend_suspends hact hpartner hrun
    exact ⟨u, hexec, congrArg (·.pair.suspended) hu⟩

end Sys2Proof.Machine

namespace Sys2Proof.Machine

/-! The host's commands on loops (R226, R239 to R243, R249, R502, R507, R513): what each answers, and the change that it leaves to come. -/

/-! ## Reading a loop -/

/-- A value other than an unlisted one's is read back after its write, whatever the table. -/
theorem tabGet_set_listed {α : Type} [DecidableEq α] {d v : α} (h : v ≠ d) (t : Tab α) (k : Nat) :
    tabGet d (tabSet d t k v) k = v := by
  rw [tabSet, if_neg h, tabGet_insert_same]

theorem loopAt_loopMod {n : Nat} {f : Loop → Loop} {s : State} (h : f (loopAt n s) ≠ loopReset) :
    loopAt n (loopMod n f s) = f (loopAt n s) := tabGet_set_listed h ..

/-- A loop with a record is not the loop that an unlisted number stands for. -/
theorem ne_loopReset_of_rcd {x : Loop} (h : x.rcd ≠ []) : x ≠ loopReset := by
  rintro rfl
  exact h rfl

@[simp] theorem loopAt_storeLoop (k n r s) : loopAt k (storeLoop n r s) = loopAt k s := rfl

theorem tellStandby_loop (c s) : (tellStandby c s).loop = s.loop := (tellStandby_within c s).same .loop rfl

theorem tellStandby_cfg (c s) : (tellStandby c s).cfg = s.cfg := (tellStandby_within c s).same .cfg rfl

/-! ## TUNE_WRITE (R239, R507) -/

theorem fieldGroup_eq {f : Nat × Nat × Nat} (h : f ∈ tuneFields) : fieldGroup f.1 = f.2.2 := by
  revert f
  decide

/-- A loop in which an ungrouped field waits for time `t`. -/
def Loop.withTune (t o : Nat) (v : List Byte) (x : Loop) : Loop :=
  { x with shadow := if x.shadow = [] then x.rcd else x.shadow, tune := x.tune ++ [(t, [(o, v)])] }

/-- A loop with a field of group `g` in its shadows; a group whose apply is scheduled is pending again after it. -/
def Loop.withShadow (g o : Nat) (v : List Byte) (x : Loop) : Loop :=
  { x with
    shadow := putAt (if x.shadow = [] then x.rcd else x.shadow) o v
    pend := x.pend ||| BitVec.ofNat 3 (2 ^ g)
    again := if x.sched.isSome then x.again ||| BitVec.ofNat 3 (2 ^ g) else x.again }

/-- An ungrouped field waits in the loop, where loops run, and is in the configuration at once. -/
theorem takeTune_ungrouped {n o : Nat} {s : State} (hrcd : (loopAt n s).rcd ≠ []) (hg : fieldGroup o = 3)
    (hmode : s.modes.mode ≠ .maintenance) (t : Nat) (v : List Byte) :
    takeTune n t [(o, v)] s = storeLoop n (putAt (cfgRec 0x0040 n s) o v) (loopMod n (Loop.withTune t o v) s) := by
  unfold Loop.withTune
  simp [takeTune, hrcd, hg, hmode, putFields]

/-- A grouped field goes to the shadows and makes its group pending. -/
theorem takeTune_grouped {n o g : Nat} {s : State} (hrcd : (loopAt n s).rcd ≠ []) (hgroup : fieldGroup o = g) (hg : g < 3) (t : Nat)
    (v : List Byte) : takeTune n t [(o, v)] s = storeLoop n (cfgRec 0x0040 n s) (loopMod n (Loop.withShadow g o v) s) := by
  unfold Loop.withShadow
  simp [takeTune, hrcd, hgroup, hg.ne, putFields]

section
variable {m : MbxId} {q : Req} {s : State} {n : Nat} {f : Nat × Nat × Nat} {v : List Byte} (h : InFlight m 0x0306 q s)
  (hn : n = fld16 q.pay 0) (hlt : n < 256) (hrcd : (loopAt n s).rcd ≠ []) (hone : fld16 q.pay 2 = 1) (hf : f ∈ tuneFields)
  (hlook : tuneFields.find? (fun g => g.1 == fld16 (slice q.pay 4 16) 0 && g.2.1 == fld16 (slice q.pay 4 16) 2) = some f)
  (hv : v = slice (slice q.pay 4 16) 8 f.2.1) (hok : loopFieldOk (putAt (loopAt n s).rcd f.1 v) f.1 = true)
include h hn hlt hrcd hone hf hlook hv hok

/-- A write of one field within its range is taken, and told to a standby. -/
theorem tuneWrite_takes {t : State} (ht : takeTune n (now s + 20 * us) [(f.1, v)] s = t) : Answers (.tuneWrite m) m s
    (ok (le 8 (if f.2.2 ≠ 3 then 0 else if s.modes.mode = .maintenance then now s else loopTickFrom (loopAt n s) (now s + 20 * us)) ++
      le 1 (loopAt n t).pend.toNat ++ zeros 7))
    (tellStandby (.loopTune n (now s + 20 * us) [(f.1, v)]) t) := by
  subst hn hv ht
  refine answers_of_runCommand h rfl ?_
  simp [hlt, hrcd, hone, hlook, hok, fieldGroup_eq hf]

theorem tuneWrite_ungrouped (hg : f.2.2 = 3) (hmode : s.modes.mode ≠ .maintenance) : ∃ u,
    Answers (.tuneWrite m) m s
      (ok (le 8 (loopTickFrom (loopAt n s) (now s + 20 * us)) ++ le 1 (loopAt n s).pend.toNat ++ zeros 7)) u ∧
    u.loop.loops = tabSet loopReset s.loop.loops n ((loopAt n s).withTune (now s + 20 * us) f.1 v) ∧
    u.cfg = (storeLoop n (putAt (cfgRec 0x0040 n s) f.1 v) s).cfg := by
  have hans := tuneWrite_takes h hn hlt hrcd hone hf hlook hv hok (takeTune_ungrouped hrcd ((fieldGroup_eq hf).trans hg) hmode ..)
  rw [loopAt_storeLoop, loopAt_loopMod (ne_loopReset_of_rcd hrcd), if_neg (not_not.mpr hg), if_neg hmode] at hans
  exact ⟨_, hans, congrArg (·.loops) (tellStandby_loop ..), tellStandby_cfg ..⟩

theorem tuneWrite_grouped (hg : f.2.2 < 3) : ∃ u,
    Answers (.tuneWrite m) m s
      (ok (le 8 0 ++ le 1 ((loopAt n s).pend ||| BitVec.ofNat 3 (2 ^ f.2.2)).toNat ++ zeros 7)) u ∧
    u.loop.loops = tabSet loopReset s.loop.loops n ((loopAt n s).withShadow f.2.2 f.1 v) := by
  have hans := tuneWrite_takes h hn hlt hrcd hone hf hlook hv hok (takeTune_grouped hrcd (fieldGroup_eq hf) hg ..)
  rw [loopAt_storeLoop, loopAt_loopMod (ne_loopReset_of_rcd hrcd), if_pos hg.ne] at hans
  exact ⟨_, hans, congrArg (·.loops) (tellStandby_loop ..)⟩

end

/-! ## GROUP_APPLY (R240 to R242) -/

/-- The groups that an apply takes: those asked for, or all, as far as they are pending. -/
def appliedGroups (ask : Nat) (x : Loop) : BitVec 3 := (if BitVec.ofNat 3 ask = 0 then x.pend else BitVec.ofNat 3 ask) &&& x.pend

section
variable {m : MbxId} {q : Req} {s : State} {n : Nat} (h : InFlight m 0x0307 q s) (hn : n = fld16 q.pay 0)
  (hadmit : ¬(256 ≤ n ∨ (loopAt n s).rcd = [] ∨ 7 < fld8 q.pay 2))
include h hn hadmit

theorem groupApply_busy (hsched : (loopAt n s).sched ≠ none) : Answers (.groupApply m) m s (st stBusy) s := by
  subst hn
  refine answers_of_runCommand h rfl ?_
  dsimp only
  rw [if_neg hadmit, if_pos (Option.isSome_iff_ne_none.mpr hsched)]

theorem groupApply_nothing (hsched : (loopAt n s).sched = none) (hmask : appliedGroups (fld8 q.pay 2) (loopAt n s) = 0) :
    Answers (.groupApply m) m s (ok (le 8 0 ++ le 2 (loopAt n s).gen.toNat ++ le 1 0 ++ zeros 5)) s := by
  subst hn
  refine answers_of_runCommand h rfl ?_
  dsimp only
  rw [← appliedGroups, if_neg hadmit, if_neg (by simp [hsched]), if_pos hmask]
  rfl

theorem groupApply_schedules (hsched : (loopAt n s).sched = none) {mask : BitVec 3}
    (hmask : mask = appliedGroups (fld8 q.pay 2) (loopAt n s)) (hsome : mask ≠ 0) {snap : List Byte}
    (hsnap : snap = if (loopAt n s).shadow = [] then (loopAt n s).rcd else (loopAt n s).shadow)
    (hok : groupOk (copyGroups mask snap (loopAt n s).rcd) (otherLoops n s) (fun c => (digAt c s).rcd) = true)
    (hmode : s.modes.mode ≠ .maintenance) {k : Nat} (hk : k = loopTickFrom (loopAt n s) (now s + 20 * us)) :
    Answers (.groupApply m) m s (ok (le 8 k ++ le 2 ((loopAt n s).gen + 1).toNat ++ le 1 mask.toNat ++ zeros 5))
      (tellStandby (.loopApply n k mask snap) (takeApply n k mask snap s)) := by
  subst hn hmask hsnap hk
  refine answers_of_runCommand h rfl ?_
  dsimp only
  rw [← appliedGroups, if_neg hadmit, if_neg (by simp [hsched]), if_neg hsome, if_neg (by simp [hok]), if_neg hmode]

end

theorem takeApply_loops {n : Nat} {s : State} (hrcd : (loopAt n s).rcd ≠ []) (k : Nat) (mask : BitVec 3) (snap : List Byte) :
    (takeApply n k mask snap s).loop.loops =
      tabSet loopReset s.loop.loops n { loopAt n s with sched := some (k, mask, snap), again := 0 } := by
  rw [takeApply, if_neg hrcd]
  rfl

/-! ## LOOP_MODE_SET (R226, R513) -/

section
variable {m : MbxId} {q : Req} {s : State} {n : Nat} {md : LoopMode} (h : InFlight m 0x0602 q s) (hn : n = fld16 q.pay 0)
  (hlt : n < 256) (hrcd : (loopAt n s).rcd ≠ []) (hmd : loopModeOf (fld8 q.pay 2) = some md)
include h hn hlt hrcd hmd

theorem loopModeSet_refused (howner : loopFlag (loopAt n s).rcd 1 = false) : Answers (.loopModeSet m) m s (st stRefusedState) s := by
  subst hn
  refine answers_of_runCommand h rfl ?_
  simp [hmd, hlt, hrcd, howner]

theorem loopModeSet_granted (howner : loopFlag (loopAt n s).rcd 1 = true)
    (hother : ¬((loopAt n s).mode = .manual ∧ md = .manual)) (hgrant : loopGrants (loopAt n s) md (now s) s = true) :
    Answers (.loopModeSet m) m s (ok (le 8 (loopTickFrom (loopAt n s) (now s))))
      (loopMod n (fun x => { x with hostAsk := some (fld8 q.pay 2, f32At q.pay 4) }) s) := by
  subst hn
  refine answers_of_runCommand h rfl ?_
  simp [hmd, hlt, hrcd, howner, hother, hgrant]

end

/-! ## LOOP_REP_RESET (R243, R513) -/

theorem takeReset_loops {n : Nat} {s : State} (hrcd : (loopAt n s).rcd ≠ []) (t : Nat) :
    (takeReset n t s).loop.loops = tabSet loopReset s.loop.loops n { loopAt n s with repReset := some t } := by
  rw [takeReset, if_neg hrcd]
  rfl

theorem loopRepReset_plans {m : MbxId} {q : Req} {s : State} {n : Nat} (h : InFlight m 0x0603 q s) (hn : n = fld16 q.pay 0)
    (hlt : n < 256) (hrcd : (loopAt n s).rcd ≠ []) :
    Answers (.loopRepReset m) m s (ok (le 8 (loopTickFrom (loopAt n s) (now s + 20 * us))))
      (record sevEvent 0x0501 (srcLoop n) [] (tellStandby (.loopReset n (now s + 20 * us)) (takeReset n (now s + 20 * us) s))) := by
  subst hn
  refine answers_of_runCommand h rfl ?_
  have hsome : fld16 q.pay 0 ≠ 0xFFFF := by omega
  simp [hlt, hrcd, hsome]

/-! ## LOOP_STATE_GET (R230, R249, R513) -/

theorem loopStateGet_reports {m : MbxId} {q : Req} {s : State} (h : InFlight m 0x0601 q s)
    (hrange : fld16 q.pay 0 + fld16 q.pay 2 ≤ 256) (hfit : fld16 q.pay 2 ≤ 63) (htrace : bit (fld32 q.pay 4) 0 = false) {ns : List Nat}
    (hns : ns = List.range' (fld16 q.pay 0) (fld16 q.pay 2)) :
    Answers (.loopStateGet m) m s (ok (le 2 (fld16 q.pay 2) ++ zeros 6 ++ ns.flatMap fun n => loopStateRecord n s))
      (ns.foldl (fun t n => if (loopAt n t).rcd = [] then t else loopMod n (fun x => { x with delayMax := 0 }) t) s) := by
  subst hns
  refine answers_of_runCommand h rfl ?_
  simp [hrange, hfit, htrace, ok]

/-! ## The statement -/

/-- Settles O17: each command on a loop by its rule above. -/
theorem loopCommandsScheduleTheirChange : Obligations.LoopCommandsScheduleTheirChange := by
  refine ⟨?tune, ?apply, ?mode, ?reset, fun m q s h hrange hfit htrace => loopStateGet_reports h hrange hfit htrace rfl⟩
  case tune =>
    rintro m q s n x f h hn rfl hlt hrcd hone hf hlook hok v rfl
    refine ⟨tuneWrite_ungrouped h hn hlt hrcd hone hf hlook rfl hok, fun hg => ?_⟩
    obtain ⟨u, hans, hloops⟩ := tuneWrite_grouped h hn hlt hrcd hone hf hlook rfl hok hg
    exact ⟨u, _, hans, hloops⟩
  case apply =>
    rintro m q s n x h hn rfl hlt hrcd hask
    have hadmit : ¬(256 ≤ n ∨ (loopAt n s).rcd = [] ∨ 7 < fld8 q.pay 2) := by
      rintro (hge | hnone | hgt)
      · exact hge.not_gt hlt
      · exact hrcd hnone
      · exact hgt.not_ge hask
    refine ⟨groupApply_busy h hn hadmit, fun mask snap hsched hmask hsnap => ⟨?nothing, fun hsome hok hmode => ?scheduled⟩⟩
    case nothing =>
      rintro rfl
      exact groupApply_nothing h hn hadmit hsched hmask.symm
    case scheduled =>
      exact ⟨_, groupApply_schedules h hn hadmit hsched hmask hsome hsnap hok hmode rfl,
        (congrArg (·.loops) (tellStandby_loop ..)).trans (takeApply_loops hrcd ..)⟩
  case mode =>
    rintro m q s n x md h hn rfl hlt hrcd hmd
    refine ⟨loopModeSet_refused h hn hlt hrcd hmd, ?_⟩
    rintro howner hother hgrant y rfl
    exact loopModeSet_granted h hn hlt hrcd hmd howner hother hgrant
  case reset =>
    rintro m q s n x h hn rfl hlt hrcd
    refine ⟨_, loopRepReset_plans h hn hlt hrcd, ?_⟩
    rw [(record_within ..).same .loop rfl, tellStandby_loop, takeReset_loops hrcd]

end Sys2Proof.Machine

namespace Sys2Proof.Machine

/-! A loop's samples (R219, R223, R226, R227, R231 to R233), its checkpoints (R246) and the entries that a standby takes (R245). -/

/-! ## LOOP_SAMPLE_TICK (R219, R223, R226) -/

/-- The module that drives is no standby. -/
theorem mode_ne_standby_of_loopsRun {s : State} (h : loopsRun s = true) : s.modes.mode ≠ .standby := by
  intro hmode
  simp [loopsRun, isActive, operating, hmode] at h

theorem Within.loopAt_eq {ps : List Part} {s u : State} (w : Within ps s u) (h : ps.contains .loop = false) (n : Nat) :
    loopAt n u = loopAt n s := by
  rw [loopAt, w.same .loop h, loopAt]

/-- A loop whose next tick is not 0 is not the loop that an unlisted number stands for. -/
theorem ne_loopReset_of_next {x : Loop} (h : x.next ≠ 0) : x ≠ loopReset := by
  rintro rfl
  exact h rfl

/-- The next tick lies a period on, which is never 0. -/
theorem loopAt_loopAdvance (n t : Nat) (s : State) :
    loopAt n (loopAdvance n t s) = { loopAt n s with next := t + max 1 (loopPeriod (loopAt n s).rcd) } :=
  loopAt_loopMod (ne_loopReset_of_next (by dsimp only; omega))

theorem lt_next_loopAdvance (n t : Nat) (s : State) : t < (loopAt n (loopAdvance n t s)).next := by
  rw [loopAt_loopAdvance]
  dsimp only
  omega

/-- A sample that is begun or dropped leaves the rest of a loop that waits for a tick. -/
theorem loopAt_sample {n : Nat} {s : State} (h : (loopAt n s).next ≠ 0) (p : Option LoopSample) :
    loopAt n (loopMod n (fun x => { x with sample := p }) s) = { loopAt n s with sample := p } :=
  loopAt_loopMod (ne_loopReset_of_next h)

/-- The state at a loop's tick on the module that drives, before the sample is computed: what falls due and the changes of mode are
taken, and the loop waits for its next tick. -/
def tickTaken (n : Nat) (s : State) : State :=
  loopAdvance n (loopAt n s).next (loopModes n (loopAt n s).next (loopDue n (loopAt n s).next s).1)

section
variable {n : Fin 256} {s : State} (hrcd : (loopAt n.val s).rcd ≠ []) (hdue : (loopAt n.val s).next ≤ now s)
  (hnone : (loopAt n.val s).sample = none)
include hrcd hdue hnone

theorem loopSampleTick_samples (hruns : loopsRun s = true) {w : LoopWork}
    (hw : w = loopCompute n.val (loopDue n.val (loopAt n.val s).next s).2.1 (loopDue n.val (loopAt n.val s).next s).2.2
      (loopAt n.val s).next (tickTaken n.val s)) :
    exec (.loopSampleTick n) s = .next (if (loopAt n.val (tickTaken n.val s)).mode = .off
      then loopOff n.val (loopMod n.val (fun x => { x with sample := none }) (tickTaken n.val s))
      else loopMod n.val (fun x => { x with sample := some { tick := (loopAt n.val s).next, work := w, got := [], agreed := none } })
        (tickTaken n.val s)) := by
  subst hw
  show execLoopSampleTick n s = _
  unfold execLoopSampleTick
  extract_lets x pend t due s2 w
  rw [if_neg (by simp [hruns, x, hrcd, hdue, pend, hnone]), if_neg (mode_ne_standby_of_loopsRun hruns)]
  rfl

theorem loopSampleTick_standby (hmode : s.modes.mode = .standby) : exec (.loopSampleTick n) s =
    .next (loopAdvance n.val (loopAt n.val s).next (loopDue n.val (loopAt n.val s).next s).1) := by
  show execLoopSampleTick n s = _
  unfold execLoopSampleTick
  extract_lets x pend
  rw [if_neg (by simp [hmode, x, hrcd, hdue, pend, hnone]), if_pos hmode]

/-- What a tick leaves of its loop: none or a fresh sample, and a later tick. -/
theorem loopSampleTick_begins (hruns : loopsRun s = true) : ∃ u, exec (.loopSampleTick n) s = .next u ∧
    (loopAt n.val s).next < (loopAt n.val u).next ∧
    (((loopAt n.val u).mode = .off ∧ (loopAt n.val u).sample = none) ∨
      ∃ w, (loopAt n.val u).sample = some { tick := (loopAt n.val s).next, work := w, got := [], agreed := none }) := by
  have hlater : (loopAt n.val s).next < (loopAt n.val (tickTaken n.val s)).next := lt_next_loopAdvance ..
  have hsample := loopAt_sample (Nat.ne_zero_of_lt hlater)
  refine ⟨_, loopSampleTick_samples hrcd hdue hnone hruns rfl, ?_⟩
  split
  case isTrue hoff =>
    rw [(loopOff_within ..).loopAt_eq rfl, hsample]
    exact ⟨hlater, .inl ⟨hoff, rfl⟩⟩
  case isFalse =>
    rw [hsample]
    exact ⟨hlater, .inr ⟨_, rfl⟩⟩

end

theorem loopSampleTick_waits {n : Fin 256} {s : State}
    (h : (loopsRun s = false ∧ s.modes.mode ≠ .standby) ∨ (loopAt n.val s).rcd = [] ∨ now s < (loopAt n.val s).next) :
    exec (.loopSampleTick n) s = .next s := by
  show execLoopSampleTick n s = _
  unfold execLoopSampleTick
  extract_lets x pend
  exact congrArg _ (if_pos (by tauto))

/-! ## LOOP_COPY_DELIVERY (R231 to R233) -/

theorem not_delivered {p : LoopSample} {l : Lane} (h : ∀ x ∈ p.got, x.1 ≠ l) : ¬p.got.any (fun x => x.1 == l) = true := by
  intro hany
  obtain ⟨x, hx, hxl⟩ := List.any_eq_true.mp hany
  exact h x hx (beq_iff_eq.mp hxl)

section
variable {n : Fin 256} {l : Lane} {v : F64} {w : List Byte} {s : State} {p : LoopSample} (hp : (loopAt n.val s).sample = some p)
  (hvotes : (loopVoters p.tick s).contains l = true) (hnew : ∀ x ∈ p.got, x.1 ≠ l) {g : BitVec 128} (hg : g = loopSignature w s)
  {t : State} (ht : t = loopMod n.val (fun x => { x with sample := some { p with got := p.got ++ [(l, v, g)] } }) s)
include hp hvotes hnew hg ht

/-- Until the sample is agreed, a delivery is held; it agrees the sample where it needs no other copy or equals one, and the lanes of
copies that differ are excluded. -/
theorem loopCopyDelivery_open (hopen : p.agreed = none) : exec (.loopCopyDelivery n l v w) s =
    .next (if (loopVoters p.tick s).length ≤ 1 ∨ p.got.any (fun x => x.2 == (v, g)) then
      followTasks s (((p.got.filter fun x => x.2 != (v, g)).map (·.1)).foldl (fun t k => excludeLane k t) (loopAgreed n.val v g t))
    else t) := by
  subst hg ht
  have hfirst := not_delivered hnew
  show execLoopCopyDelivery n l v w s = _
  simp only [execLoopCopyDelivery, hp, hvotes, Bool.true_eq_false, if_false, if_neg hfirst, hopen]

theorem loopCopyDelivery_first (hopen : p.agreed = none) (htwo : 2 ≤ (loopVoters p.tick s).length) (hgot : p.got = []) :
    exec (.loopCopyDelivery n l v w) s = .next t := by
  rw [loopCopyDelivery_open hp hvotes hnew hg ht hopen]
  exact congrArg _ (if_neg (by simp [hgot]; omega))

theorem loopCopyDelivery_second {k : Lane} (hopen : p.agreed = none) (hgot : p.got = [(k, v, g)]) :
    exec (.loopCopyDelivery n l v w) s = .next (followTasks s (loopAgreed n.val v g t)) := by
  rw [loopCopyDelivery_open hp hvotes hnew hg ht hopen]
  simp [hgot]

theorem loopCopyDelivery_equal (hagreed : p.agreed = some (v, g)) : exec (.loopCopyDelivery n l v w) s = .next t := by
  subst hg ht
  have hfirst := not_delivered hnew
  show execLoopCopyDelivery n l v w s = _
  simp only [execLoopCopyDelivery, hp, hvotes, Bool.true_eq_false, if_false, if_neg hfirst, hagreed, if_true]

end

theorem loopCopyDelivery_ignored {n : Fin 256} {l : Lane} {v : F64} {w : List Byte} {s : State}
    (h : ∀ p, (loopAt n.val s).sample = some p → (loopVoters p.tick s).contains l = false) :
    exec (.loopCopyDelivery n l v w) s = .next s := by
  show execLoopCopyDelivery n l v w s = _
  unfold execLoopCopyDelivery
  extract_lets x sig
  split
  case h_1 => rfl
  case h_2 p hp => rw [if_pos (h p hp)]

/-! ## LOOP_SAMPLE_DEADLINE (R226, R232) -/

/-- A change of mode counts no missed sample. -/
theorem loopEnter_missed (n : Nat) (m : LoopMode) (reason : Nat) (s : State) : (loopEnter n m reason s).loop.missed = s.loop.missed := by
  unfold loopEnter
  extract_lets x r present w y s1 s2
  have hs2 : s2.loop = s1.loop := (record_within ..).same .loop rfl
  split
  · rw [(loopSignals_within ..).same .loop rfl, (loopZero_within ..).same .loop rfl, hs2]
    rfl
  · rw [hs2]
    rfl

theorem loopMissed_counts {n : Nat} {s : State} (h : s.loop.missed ≠ 0xFFFFFFFF) : (loopMissed n s).loop.missed = s.loop.missed + 1 := by
  unfold loopMissed
  extract_lets s1 s2 x
  have hs2 : s2.loop.missed = s.loop.missed + 1 := if_neg h
  split
  · rw [loopEnter_missed, hs2]
  · exact hs2

section
variable {n : Fin 256} {s : State} {p : LoopSample} (hp : (loopAt n.val s).sample = some p)
include hp

theorem loopSampleDeadline_waits (hearly : now s < p.tick + loopDelta (loopAt n.val s).rcd) :
    exec (.loopSampleDeadline n) s = .next s := by
  show execLoopSampleDeadline n s = _
  simp only [execLoopSampleDeadline, hp, if_pos hearly]

theorem loopSampleDeadline_ends (hdue : p.tick + loopDelta (loopAt n.val s).rcd ≤ now s) (hagreed : p.agreed.isSome = true)
    (hall : ∀ l ∈ loopVoters p.tick s, p.got.any (fun g => g.1 == l) = true) :
    exec (.loopSampleDeadline n) s = .next (followTasks s (loopMod n.val (fun x => { x with sample := none }) s)) := by
  obtain ⟨a, ha⟩ := Option.isSome_iff_exists.mp hagreed
  have hlate : (loopVoters p.tick s).filter (fun l => !p.got.any fun g => g.1 == l) = [] :=
    List.filter_eq_nil_iff.mpr fun l hl => by simp [hall l hl]
  show execLoopSampleDeadline n s = _
  simp only [execLoopSampleDeadline, hp, if_neg hdue.not_gt, ha, hlate, List.foldl_nil]

theorem loopSampleDeadline_misses (hdue : p.tick + loopDelta (loopAt n.val s).rcd ≤ now s) (hopen : p.agreed = none)
    (hfew : p.got.length < 2) : exec (.loopSampleDeadline n) s = .next (loopMissed n.val s) := by
  show execLoopSampleDeadline n s = _
  simp only [execLoopSampleDeadline, hp, if_neg hdue.not_gt, hopen, if_neg hfew.not_ge]

end

/-! ## LOOP_CHECKPOINT_WRITE (R246) -/

section
variable {s : State}

theorem loopCheckpointWrite_writes (hqueue : s.retained.queue = []) (hdue : s.loop.dirty = true ∨ s.loop.lastCheck + 10 * sec ≤ now s)
    {k : Nat} (hk : k = (checkNewest s).elim 0 (·.update) + 1) :
    exec .loopCheckpointWrite s = .next { s with loop := { s.loop with
      lastCheck := now s, dirty := false
      check := vset s.loop.check (k % 2) { update := k, valid := true, loops := s.loop.loops.map fun p => (p.1, loopSave p.2)
                                           pool := s.loop.pool } } } := by
  subst hk
  have hgoes : ¬((s.loop.dirty = false ∧ now s < s.loop.lastCheck + 10 * sec) ∨ s.retained.queue ≠ []) := by
    rintro (⟨hclean, hearly⟩ | hsome)
    · exact hdue.elim (fun h => Bool.false_ne_true (hclean.symm.trans h)) hearly.not_ge
    · exact hsome hqueue
  exact congrArg Host.Outcome.next (if_neg hgoes)

theorem loopCheckpointWrite_waits (h : (s.loop.dirty = false ∧ now s < s.loop.lastCheck + 10 * sec) ∨ s.retained.queue ≠ []) :
    exec .loopCheckpointWrite s = .next s := congrArg Host.Outcome.next (if_pos h)

end

/-! ## LOOP_STATE_ENTRY_RECEIVED (R245) -/

/-- A working state that has been taken over has started, so its loop is not the loop that an unlisted number stands for. -/
theorem ne_loopReset_of_started {x : Loop} (h : x.work.started = true) : x ≠ loopReset := by
  rintro rfl
  exact Bool.false_ne_true h

/-- A loop is read of the list of loops alone. -/
theorem loopAt_leMod {f : LoopEngine → LoopEngine} {s : State} (h : (f s.loop).loops = s.loop.loops) (n : Nat) :
    loopAt n (leMod f s) = loopAt n s := congrArg (tabGet loopReset · n) h

/-- The loop that an entry names, after the entry is taken. -/
theorem loopAt_loopTake {e : List Byte} {m : LoopMode} {s : State} (hlen : e.length = 72) (hlt : fld16 e 0 < 256)
    (hm : loopModeOf (fld8 e 2) = some m) : loopAt (fld16 e 0) (loopTake e s) = { loopAt (fld16 e 0) s with
      mode := m, gen := BitVec.ofNat 16 (fld16 e 4), samples := fld64 e 8
      work := { (loopAt (fld16 e 0) s).work with
        ramping := bit (fld8 e 3) 0, repActive := bit (fld8 e 3) 1, repFrozen := bit (fld8 e 3) 2
        u := fldL e 16, i := fldL e 24, d := fldL e 32, yf := fldL e 40, edPrev := fldL e 48, rEff := fldL e 56
        started := true, cell := fld16 e 6 } } := by
  simp only [loopTake, if_neg (not_or.mpr ⟨hlt.not_ge, not_not.mpr hlen⟩), hm]
  split
  · exact loopAt_loopMod (ne_loopReset_of_started rfl)
  · rw [loopAt_leMod rfl]
    exact loopAt_loopMod (ne_loopReset_of_started rfl)

theorem loopStateEntryReceived_taken {e : List Byte} {s : State} (hmode : s.modes.mode = .standby) :
    exec (.loopStateEntryReceived e) s = .next (loopTake e s) := congrArg Host.Outcome.next (if_pos hmode)

theorem Within.eq_loop {s t : State} (h : Within [.loop] s t) : t = { s with loop := t.loop } := by
  refine State.ext_parts fun p => ?_
  have := h.same p
  cases p
  case loop => rfl
  all_goals exact this rfl

/-! ## The statement -/

/-- Settles O44: each row of a loop's samples by its rule above. -/
theorem loopSamplesRunThroughTheirCopies : Obligations.LoopSamplesRunThroughTheirCopies := by
  refine ⟨?tick, ?standby, fun n s => loopSampleTick_waits, ?delivery, fun n l v w s => loopCopyDelivery_ignored, ?deadline, ?checkpoint,
    ?entry, fun s e hmode => congrArg Host.Outcome.next (if_neg hmode)⟩
  case tick =>
    rintro n s x rfl - hruns hrcd hdue hnone
    exact loopSampleTick_begins hrcd hdue hnone hruns
  case standby =>
    rintro n s x rfl hmode hrcd hdue hnone
    exact loopSampleTick_standby hrcd hdue hnone hmode
  case delivery =>
    intro n l v w g s p t hg hp hvotes hnew ht
    exact ⟨loopCopyDelivery_first hp hvotes hnew hg ht, fun k => loopCopyDelivery_second hp hvotes hnew hg ht,
      loopCopyDelivery_equal hp hvotes hnew hg ht⟩
  case deadline =>
    intro n s p hp
    exact ⟨loopSampleDeadline_waits hp, loopSampleDeadline_ends hp,
      fun hdue hopen hfew => ⟨loopSampleDeadline_misses hp hdue hopen hfew, loopMissed_counts⟩⟩
  case checkpoint =>
    intro s k hk
    exact ⟨fun hqueue hdue => loopCheckpointWrite_writes hqueue hdue hk,
      fun hclean hearly => loopCheckpointWrite_waits (.inl ⟨hclean, hearly⟩), fun hqueue => loopCheckpointWrite_waits (.inr hqueue)⟩
  case entry =>
    rintro s e m hmode - hlen hlt hm
    refine ⟨_, loopStateEntryReceived_taken hmode, (loopTake_within ..).eq_loop, ?_⟩
    rw [loopAt_loopTake hlen hlt hm]
    exact ⟨rfl, rfl, rfl, rfl⟩

end Sys2Proof.Machine

namespace Sys2Proof.Machine

/-! Level changes, transitions, outputs, diagnostics and groups of the digital channels (R274 to R286, R293): what each row does. -/

/-! ## One digital channel among the state (R272) -/

theorem digAt_fin (ch : Fin 48) (s : State) : digAt ch.val s = s.dig[ch] := by simp [digAt, vget]

theorem digAt_congr {s u : State} (h : u.dig = s.dig) (k : Nat) : digAt k u = digAt k s := congrArg (vget digReset · k) h

theorem Within.digAt_eq {ps : List Part} {s u : State} (w : Within ps s u) (h : ps.contains .dig = false) (k : Nat) :
    digAt k u = digAt k s := digAt_congr (w.same .dig h) k

theorem digAt_digMod {ch : Nat} (h : ch < 48) (f : Dig → Dig) (s : State) : digAt ch (digMod ch f s) = f (digAt ch s) :=
  vget_vmod_same digReset s.dig ch f h

theorem digMod_digMod (ch : Nat) (f g : Dig → Dig) (s : State) : digMod ch f (digMod ch g s) = digMod ch (f ∘ g) s := by
  have hv : vmod (vmod s.dig ch g) ch f = vmod s.dig ch (f ∘ g) := by
    by_cases hch : ch < 48
    · simp [vmod_eq _ _ _ hch]
    · simp [vmod, hch]
  simp only [digMod, hv]

/-- What a change of one channel does not touch in it, it touches in no channel. -/
theorem digMod_keeps {β : Type} {v : Dig → β} {f : Dig → Dig} (hf : ∀ d, v (f d) = v d) (k ch : Nat) (s : State) :
    v (digAt k (digMod ch f s)) = v (digAt k s) := by
  by_cases hk : k = ch
  · subst hk
    by_cases hlt : k < 48
    · rw [digAt_digMod hlt, hf]
    · simp [digAt, vget, hlt]
  · exact congrArg v (vget_vmod_other digReset s.dig ch f hk)

/-! ## What giving a channel's signal leaves of the channel (R276, R277, R286) -/

/-- A view of a channel that does not see what giving its signal changes: its status, the time of its quality, and the clearings
gathered. -/
def SignalFree {β : Type} (v : Dig → β) : Prop := ∀ d w t m, v { d with status := w, turned := t, cleared := m } = v d

section
variable {β : Type} {v : Dig → β} (hv : SignalFree v)
include hv

theorem digEmit_keeps (k ch stamp : Nat) (s : State) : v (digAt k (digEmit ch stamp s)) = v (digAt k s) := by
  unfold digEmit
  extract_lets d w t
  have ht : v (digAt k t) = v (digAt k s) := digMod_keeps (fun d => hv d w _ d.cleared) k ch s
  split
  · rw [(deliverInt_within ..).digAt_eq rfl, ht]
  · rw [(deliverStatus_within ..).digAt_eq rfl, ht]

theorem digFresh_keeps (k ch : Nat) (s : State) : v (digAt k (digFresh ch s)) = v (digAt k s) := by
  unfold digFresh
  extract_lets d
  split
  · rw [digEmit_keeps hv, (staleOver_within ..).digAt_eq rfl]
    split
    · rfl
    · rw [(staleOver_within ..).digAt_eq rfl]
  · rfl

theorem sendStateWord_keeps (k g : Nat) (s : State) : v (digAt k (sendStateWord g s)) = v (digAt k s) := by
  unfold sendStateWord
  extract_lets t
  rw [(emit_within ..).digAt_eq rfl, (intakeDiscrete_within ..).digAt_eq rfl, (deliverCounting_within ..).digAt_eq rfl]
  refine List.foldlRecOn (motive := fun u => v (digAt k u) = v (digAt k s)) _ _ rfl fun u hu c _ => ?_
  rw [digFresh_keeps hv, hu]

/-- A change of diagnostics does to its channel what it says, as far as a view sees that is free of the signal. -/
theorem digSetDiag_changes {ch : Nat} (hch : ch < 48) (f : Dig → Dig) (s : State) :
    v (digAt ch (digSetDiag ch f s)) = v (f (digAt ch s)) := by
  unfold digSetDiag
  extract_lets old t new reason t2 t3 d
  have ht2 : digAt ch t2 = digAt ch t :=
    List.foldlRecOn (motive := fun u => digAt ch u = digAt ch t) _ _ rfl fun u hu n _ => by
      split
      · rw [(record_within ..).digAt_eq rfl, hu]
      · exact hu
  have ht3 : v (digAt ch t3) = v (f (digAt ch s)) := by
    rw [digMod_keeps (fun d => hv d d.status d.turned _), ht2, digAt_digMod hch]
  split
  · rw [digEmit_keeps hv, ht3]
  · exact ht3

end

/-! ## DIGITAL_INPUT_CHANGE, DIGITAL_TRANSITION_ACCEPTED (R275 to R279) -/

/-- What an accepted transition leaves in its channel: the state, the departure taken, the transitions counted and the time. -/
def acceptance (d : Dig) : Bool × Option Nat × BitVec 2 × Nat := (d.acc, d.first, d.tcount, d.stamp)

theorem acceptance_signalFree : SignalFree acceptance := fun _ _ _ _ => rfl

/-- The chatter check accepts nothing. -/
theorem chatterCheck_acceptance {ch : Nat} (hch : ch < 48) (t : Nat) (s : State) :
    acceptance (digAt ch (chatterCheck ch t s)) = acceptance (digAt ch s) := by
  unfold chatterCheck
  extract_lets d lim recent s1
  have h1 : acceptance (digAt ch s1) = acceptance (digAt ch s) := digMod_keeps (v := acceptance) (by exact fun _ => rfl) ch ch s
  split
  · exact (digSetDiag_changes acceptance_signalFree hch ..).trans h1
  · exact h1

theorem acceptState_fresh {ch : Nat} (hch : ch < 48) (stamp : Nat) {s : State} (h : (digAt ch s).fresh = true) :
    acceptance (digAt ch (acceptState ch stamp s)) = acceptance { digAt ch s with acc := (digAt ch s).prev, first := none } := by
  rw [acceptState, if_pos h, digEmit_keeps acceptance_signalFree, digAt_digMod hch]
  rfl

theorem acceptState_transition {ch : Nat} (hch : ch < 48) (stamp : Nat) {s : State} (h : (digAt ch s).fresh = false) :
    acceptance (digAt ch (acceptState ch stamp s)) = ((digAt ch s).prev, none, (digAt ch s).tcount + 1, stamp) := by
  unfold acceptState
  extract_lets d g s1 s2 s3 s4
  have h3 : acceptance (digAt ch s3) = (d.prev, none, d.tcount + 1, stamp) := by
    rw [chatterCheck_acceptance hch, (groupMod_within ..).digAt_eq rfl, digAt_digMod hch]
    rfl
  have h4 : digAt ch s4 = digAt ch s3 := by
    unfold s4
    split
    · exact (soeEntry_within ..).digAt_eq rfl ch
    · rfl
  rw [if_neg (Bool.eq_false_iff.mp h), sendStateWord_keeps acceptance_signalFree, digEmit_keeps acceptance_signalFree, h4, h3]

/-- What a level change with debounce leaves of its channel: the departure is noted, nothing is accepted. -/
theorem levelChange_debounced {ch : Nat} (hch : ch < 48) (level : Bool) {s : State} (hst : (digAt ch s).st = .running)
    (hdeb : 1 ≤ fld16 (digAt ch s).rcd 4) : ∃ e : Dig, levelChange ch level s = digMod ch (fun _ => e) s ∧ e.pin = level ∧
      e.prev = sampled { digAt ch s with pin := level } level ∧ e.acc = (digAt ch s).acc := by
  unfold levelChange
  extract_lets s0 d t x D d1 d2 s1
  have hd : d = { digAt ch s with pin := level } := digAt_digMod hch ..
  have hd1 : d1.pin = d.pin ∧ d1.acc = d.acc := by
    unfold d1
    split <;> exact ⟨rfl, rfl⟩
  have hrun : ¬d.st ≠ .running := by rw [hd]; exact not_not.mpr hst
  have hD : D ≠ 0 := by
    have : fld16 d.rcd 4 ≠ 0 := by rw [hd]; exact Nat.ne_of_gt hdeb
    exact Nat.mul_ne_zero this (by decide)
  rw [if_neg hrun, if_neg (fun h => hD h.1)]
  refine ⟨d2, digMod_digMod .., ?_, ?_, ?_⟩
  · rw [show d2.pin = d1.pin from rfl, hd1.1, hd]
  · rw [show d2.prev = sampled d level from rfl, hd]
  · rw [show d2.acc = d1.acc from rfl, hd1.2, hd]

section
variable {ch : Fin 48} {s : State}

theorem digitalInputChange_stopped (b : Bool) (hst : s.dig[ch].st ≠ .running) :
    exec (.digitalInputChange ch b) s = .next (digMod ch.val (fun d => { d with pin := b }) s) := by
  have hst' : (digAt ch.val (digMod ch.val (fun d => { d with pin := b }) s)).st ≠ .running := by
    rwa [digAt_digMod ch.isLt, digAt_fin]
  exact congrArg Host.Outcome.next (if_pos hst')

theorem digitalInputChange_debounced (b : Bool) (hst : s.dig[ch].st = .running) (hdeb : 1 ≤ fld16 s.dig[ch].rcd 4) :
    ∃ u, exec (.digitalInputChange ch b) s = .next u ∧ u = { s with dig := u.dig } ∧ u.dig[ch].pin = b ∧
      u.dig[ch].prev = sampled { s.dig[ch] with pin := b } b ∧ u.dig[ch].acc = s.dig[ch].acc ∧
      ∀ k : Fin 48, k ≠ ch → u.dig[k] = s.dig[k] := by
  rw [← digAt_fin] at hst hdeb
  obtain ⟨e, he, hpin, hprev, hacc⟩ := levelChange_debounced ch.isLt b hst hdeb
  have hch : (digMod ch.val (fun _ => e) s).dig[ch] = e := vmod_same s.dig ch.val _ ch.isLt
  rw [← digAt_fin ch s]
  refine ⟨_, congrArg Host.Outcome.next he, rfl, ?_, ?_, ?_, fun k hk => ?_⟩
  · rw [hch, hpin]
  · rw [hch, hprev]
  · rw [hch, hacc]
  · exact vmod_other s.dig ch.val _ k.isLt (Fin.val_ne_of_ne hk)

theorem digitalTransitionAccepted_accepts (hst : s.dig[ch].st = .running) (hprev : s.dig[ch].prev ≠ s.dig[ch].acc)
    (hstayed : s.dig[ch].last + fld16 s.dig[ch].rcd 4 * us ≤ groupTime (groupOf ch.val) s) :
    exec (.digitalTransitionAccepted ch) s =
      .next (acceptState ch.val (s.dig[ch].first.getD (groupTime (groupOf ch.val) s)) s) :=
  congrArg Host.Outcome.next (if_pos ⟨hst, .inl hprev, hstayed⟩)

/-- What an accepted state leaves in its channel, fresh or not. -/
theorem acceptState_channel (ch : Fin 48) (stamp : Nat) (s : State) :
    (acceptState ch.val stamp s).dig[ch].acc = s.dig[ch].prev ∧ (acceptState ch.val stamp s).dig[ch].first = none ∧
      (s.dig[ch].fresh = false → (acceptState ch.val stamp s).dig[ch].tcount = s.dig[ch].tcount + 1 ∧
        (acceptState ch.val stamp s).dig[ch].stamp = stamp) := by
  simp only [← digAt_fin]
  cases hfresh : (digAt ch.val s).fresh
  case false =>
    have h := acceptState_transition ch.isLt stamp hfresh
    simp only [acceptance, Prod.mk.injEq] at h
    obtain ⟨hacc, hfirst, hcount, hstamp⟩ := h
    exact ⟨hacc, hfirst, fun _ => ⟨hcount, hstamp⟩⟩
  case true =>
    have h := acceptState_fresh ch.isLt stamp hfresh
    simp only [acceptance, Prod.mk.injEq] at h
    obtain ⟨hacc, hfirst, -⟩ := h
    exact ⟨hacc, hfirst, fun hnot => absurd hnot Bool.true_eq_false.mp⟩

theorem digitalTransitionAccepted_stopped (hst : s.dig[ch].st ≠ .running) : exec (.digitalTransitionAccepted ch) s = .next s :=
  congrArg Host.Outcome.next (if_neg fun h => hst h.1)

/-! ## CHATTER_CLEAR, SWITCH_RETRY, DIGITAL_RECONFIG_STEP (R279, R281, R293) -/

theorem chatterClear_clears (hchat : s.dig[ch].chatter = true) (hquiet : s.dig[ch].busyAt + 10 * sec ≤ groupTime (groupOf ch.val) s) :
    exec (.chatterClear ch) s = .next (digSetDiag ch.val (fun d => { d with chatter := false }) s) :=
  congrArg Host.Outcome.next (if_pos ⟨hchat, hquiet⟩)

theorem chatterClear_calm (hcalm : s.dig[ch].chatter = false) : exec (.chatterClear ch) s = .next s :=
  congrArg Host.Outcome.next (if_neg fun h => Bool.false_ne_true (hcalm.symm.trans h.1))

theorem switchRetry_drives {t : Nat} (hat : s.dig[ch].retryAt = some t) (hdue : t ≤ now s) (hlock : s.dig[ch].locked = false) :
    exec (.switchRetry ch) s = .next (digMod ch.val (fun d => { d with retryAt := none, switch := d.command }) s) := by
  show execSwitchRetry ch s = _
  simp only [execSwitchRetry, hat, if_pos (And.intro hdue hlock)]

theorem switchRetry_idle (hat : s.dig[ch].retryAt = none) : exec (.switchRetry ch) s = .next s := by
  show execSwitchRetry ch s = _
  simp only [execSwitchRetry, hat]

theorem digitalReconfigStep_idle (hst : s.dig[ch].st ≠ .configuring) : exec (.digitalReconfigStep ch) s = .next s :=
  congrArg Host.Outcome.next (if_pos hst)

section
variable (hst : s.dig[ch].st = .configuring)
include hst

theorem digitalReconfigStep_clears (hstep : s.dig[ch].step = 1) : exec (.digitalReconfigStep ch) s =
    .next { digMod ch.val (fun d => { d with step := 2 }) s with counter := vmod s.counter ch.val (fun _ => counterReset) } := by
  show execDigitalReconfigStep ch s = _
  rw [execDigitalReconfigStep, if_neg (not_not.mpr hst), if_pos hstep]

theorem digitalReconfigStep_samples (hstep : s.dig[ch].step = 2) (hdeb : 1 ≤ fld16 s.dig[ch].rcd 4) :
    exec (.digitalReconfigStep ch) s =
      .next (digMod ch.val (samplingRestarts (now s) (groupTime (groupOf ch.val) s)) s) := by
  have hnot : s.dig[ch].step ≠ 1 := by rw [hstep]; decide
  show execDigitalReconfigStep ch s = _
  rw [execDigitalReconfigStep, if_neg (not_not.mpr hst), if_neg hnot]
  exact congrArg Host.Outcome.next (if_neg (Nat.ne_of_gt hdeb))

end

/-! ## The detections on a channel, to which the safety functions react (R281 to R286, R302) -/

/-- The reaction to a change depends on what the change makes of the state alone. -/
theorem next_reacting {f g : State → State} {s : State} (h : f s = g s) :
    (.next (reacting f s) : Host.Outcome State Fault Refusal) = .next (reacting g s) := by
  rw [reacting, reacting, h]

/-- A change of diagnostics depends on what it makes of its channel alone. -/
theorem digSetDiag_congr {f g : Dig → Dig} (h : f s.dig[ch] = g s.dig[ch]) : digSetDiag ch.val f s = digSetDiag ch.val g s := by
  have hmod : digMod ch.val f s = digMod ch.val g s := by
    rw [digMod, digMod, vmod_eq _ _ _ ch.isLt, vmod_eq _ _ _ ch.isLt, show f s.dig[ch.val] = g s.dig[ch.val] from h]
  rw [digSetDiag, digSetDiag, hmod]

theorem outputMismatchDetect_sets (hcomp : comparing ch.val s = true) (hdiff : s.dig[ch].prev ≠ s.dig[ch].command)
    (hshort : s.dig[ch].shorted = false) (hshared : digFlag s.dig[ch] 2 = false) :
    exec (.outputMismatchDetect ch false) s = .next (reacting (digSetDiag ch.val (fun d => { d with mismatch := true })) s) := by
  have hcompared : ¬(comparing ch.val s = false ∨ s.dig[ch].prev = s.dig[ch].command ∨ s.dig[ch].shorted = true) := by
    rw [hcomp, hshort]
    simpa using hdiff
  have halone : ¬(digFlag s.dig[ch] 2 && s.dig[ch].prev && !s.dig[ch].command && partnerDrives s) = true := by
    simp only [hshared, Bool.false_and, Bool.false_eq_true, not_false_eq_true]
  exact next_reacting ((if_neg hcompared).trans (if_neg halone))

theorem outputMismatchDetect_clears (heq : s.dig[ch].prev = s.dig[ch].command) :
    exec (.outputMismatchDetect ch true) s = .next (reacting (digSetDiag ch.val (fun d => { d with mismatch := false })) s) :=
  next_reacting (if_pos heq)

section
variable (hout : digOutput s.dig[ch] = true)
include hout

section
variable (hst : s.dig[ch].st = .running) (hon : s.dig[ch].switch = true)
include hst hon

theorem switchShortCircuit_switches_off {v : State} {n : Nat} (hn : n = if s.dig[ch].shorted then s.dig[ch].retries + 1 else 0)
    (hv : v = digSetDiag ch.val (fun d => { d with
      switch := false, shorted := true, mismatch := false, retries := n, locked := decide (3 ≤ n)
      retryAt := if 3 ≤ n then none else some (now s + sec) }) s) :
    exec (.switchShortCircuit ch false) s = .next (reacting (fun _ => v) s) := by
  subst hv hn
  have hdrives : ¬(digOutput s.dig[ch] = false ∨ s.dig[ch].st ≠ .running) := by simp only [hout, hst]; decide
  have hswitch : ¬s.dig[ch].switch = false := by simp only [hon]; decide
  exact next_reacting ((if_neg hdrives).trans ((if_neg hswitch).trans (digSetDiag_congr rfl)))

theorem switchShortCircuit_recovers : exec (.switchShortCircuit ch true) s =
    .next (reacting (digSetDiag ch.val (fun d => { d with shorted := false, retries := 0, retryAt := none })) s) := by
  have hdrives : ¬(digOutput s.dig[ch] = false ∨ s.dig[ch].st ≠ .running) := by simp only [hout, hst]; decide
  exact next_reacting ((if_neg hdrives).trans (if_pos hon))

end

section
variable (hdetects : digFlag s.dig[ch] 3 = true)
include hdetects

theorem openLoadDetect_detects : ¬(digOutput s.dig[ch] = false ∨ digFlag s.dig[ch] 3 = false) := by
  simp only [hout, hdetects]
  decide

theorem openLoadDetect_clears :
    exec (.openLoadDetect ch true) s = .next (reacting (digSetDiag ch.val (fun d => { d with open_ := false })) s) :=
  next_reacting (if_neg (openLoadDetect_detects hout hdetects))

theorem openLoadDetect_sets (hcomp : comparing ch.val s = true) (hoff : s.dig[ch].command = false) :
    exec (.openLoadDetect ch false) s =
      .next (reacting (digSetDiag ch.val (fun d => { d with open_ := true, mismatch := false })) s) := by
  have hopen : (comparing ch.val s && !s.dig[ch].command) = true := by rw [hcomp, hoff]; rfl
  exact next_reacting ((if_neg (openLoadDetect_detects hout hdetects)).trans (if_pos hopen))

end
end
end

/-! ## The groups (R276, R278, R282, R286, R294) -/

section
variable {g : Fin 4} {s : State}

theorem stateWordSend_sends (hdue : s.group[g].sent + ms ≤ now s) (hgood : s.group[g].failed = false) :
    exec (.stateWordSend g) s = .next (sendStateWord g.val (drainSoe g.val s)) := congrArg Host.Outcome.next (if_pos ⟨hdue, hgood⟩)

theorem stateWordSend_waits (hearly : now s < s.group[g].sent + ms) : exec (.stateWordSend g) s = .next s :=
  congrArg Host.Outcome.next (if_neg fun h => hearly.not_ge h.1)

theorem digitalAlignment_aligned (hskew : s.group[g].skew = 0) :
    exec (.digitalAlignment g) s = .next (drainSoe g.val (groupMod g.val (fun x => { x with skew := 0 }) s)) :=
  congrArg (fun u => Host.Outcome.next (drainSoe g.val (groupMod g.val _ u))) (if_pos hskew)

theorem digitalAlignment_moves (hskew : s.group[g].skew ≠ 0) : exec (.digitalAlignment g) s =
    .next (drainSoe g.val (groupMod g.val (fun x => { x with skew := 0 }) (alignTimes g.val (-s.group[g].skew) s))) :=
  congrArg (fun u => Host.Outcome.next (drainSoe g.val (groupMod g.val _ u))) (if_neg hskew)

section
variable {k : Fin 12} {n : Nat} {b : Bool} {t : State}
  (ht : t = groupMod g.val (fun x => { x with current := BitVec.ofNat 16 (min n 0xFFFF), shedding := b }) s)
include ht

theorem groupOverloadShed_keeps (hlow : n ≤ 4000 ∨ n ≤ 4400 ∧ s.group[g].shedding = false) (hb : b = false) :
    exec (.groupOverloadShed g k n) s = .next (reacting (fun _ => t) s) := by
  subst ht hb
  have hsheds : (decide (4400 < n) || (s.group[g].shedding && decide (4000 < n))) = false := by
    rcases hlow with hn | ⟨hn, hshed⟩
    · simp [hn, hn.trans (by decide : 4000 ≤ 4400)]
    · simp only [hshed, Bool.false_and, Bool.or_false, decide_eq_false_iff_not, Nat.not_lt.mpr hn, not_false_eq_true]
  refine next_reacting ?_
  rw [stepGroupOverloadShed, hsheds]
  exact if_pos (.inl rfl)

theorem groupOverloadShed_sheds (hhigh : 4400 < n ∨ 4000 < n ∧ s.group[g].shedding = true) (hb : b = true)
    (hout : digOutput (digAt (12 * g.val + k.val) s) = true) :
    exec (.groupOverloadShed g k n) s = .next (reacting (fun _ => groupMod g.val (fun x => { x with overload := true })
      (digSetDiag (12 * g.val + k.val) (fun d => { d with switch := false, overload := true, retryAt := none }) t)) s) := by
  subst ht hb
  have hsheds : (decide (4400 < n) || (s.group[g].shedding && decide (4000 < n))) = true := by
    rcases hhigh with hn | ⟨hn, hshed⟩
    · simp [hn]
    · simp only [hshed, Bool.true_and, hn, decide_true, Bool.or_true]
  refine next_reacting ?_
  rw [stepGroupOverloadShed, hsheds]
  exact if_neg (by simp [hout])

end

theorem groupMod_at (f : DGroup → DGroup) : (groupMod g.val f s).group[g] = f s.group[g] := vmod_same s.group g.val f g.isLt

theorem fsLowDetect_group (g : Fin 4) (b : Bool) (v : BitVec 16) (s : State) : ∃ u, exec (.fsLowDetect g b v) s = .next u ∧
    u.group = (groupMod g.val (fun x => { x with fsVoltage := v, fsLow := !b, fsUnder := x.fsUnder || !b }) s).group := by
  suffices hnext : ∀ w, execFsLowDetect g b v s = .next w → w.group = _ from ⟨_, rfl, hnext _ rfl⟩
  unfold execFsLowDetect
  extract_lets t u
  have hu : u.group = t.group :=
    List.foldlRecOn (motive := fun w : State => w.group = t.group) _ _ rfl fun w hw c _ => by
      extract_lets d
      split
      · rw [(digEmit_within ..).same .group rfl, hw]
      · exact hw
  intro w hw
  injection hw with hw
  rw [← hw]
  split
  · rw [(record_within ..).same .group rfl, hu]
  · split
    · rw [(record_within ..).same .group rfl, hu]
    · exact hu

end

/-! ## The statement -/

/-- Settles O42: each row by its rule above. -/
theorem digitalChannelsSampleDriveAndDiagnose : Obligations.DigitalChannelsSampleDriveAndDiagnose := by
  refine ⟨fun ch b s => ⟨digitalInputChange_stopped b, digitalInputChange_debounced b⟩, ?accepted,
    fun ch s => digitalTransitionAccepted_stopped, fun g s => stateWordSend_sends, fun g s => stateWordSend_waits,
    fun g s => digitalAlignment_aligned, fun g s => digitalAlignment_moves, fun ch s => chatterClear_clears,
    fun ch s => chatterClear_calm, ?mismatch, fun ch s => outputMismatchDetect_clears, ?shorted, fun ch s t => switchRetry_drives,
    fun ch s => switchRetry_idle, fun g k n s b t ht => ⟨groupOverloadShed_keeps ht, groupOverloadShed_sheds ht⟩,
    fun ch s hout hdetects => ⟨openLoadDetect_clears hout hdetects, openLoadDetect_sets hout hdetects⟩, ?supply, fun g s => rfl,
    fun ch s => digitalReconfigStep_idle, fun ch s => digitalReconfigStep_clears, fun ch s => digitalReconfigStep_samples⟩
  case accepted =>
    rintro ch s d rfl hst hprev hstayed
    exact ⟨_, digitalTransitionAccepted_accepts hst hprev hstayed, acceptState_channel ..⟩
  case mismatch =>
    rintro ch s d rfl
    exact outputMismatchDetect_sets
  case shorted =>
    rintro ch s d n rfl hout hst hon hn
    exact ⟨_, rfl, switchShortCircuit_switches_off hout hst hon hn rfl, switchShortCircuit_recovers hout hst hon⟩
  case supply =>
    intro g b v s
    obtain ⟨u, hu, hgroup⟩ := fsLowDetect_group g b v s
    refine ⟨u, hu, ?_⟩
    rw [hgroup, groupMod_at]
    exact ⟨rfl, rfl, rfl⟩

end Sys2Proof.Machine

namespace Sys2Proof.Machine

/-! Edges, index, periods and the time limit of the counting functions (R288 to R291): what each row does. -/

/-! ## COUNT_EDGE (R288, R289, R291) -/

/-- A counting function after an edge at a time in a direction. -/
def edgeTaken (t : Nat) (dn : Bool) (c : Counter) : Counter :=
  { c with edges := (t, dn) :: (c.edges.filter fun e => decide (t < e.1 + ms)), lastEdge := t, down := dn }

/-- A counter after an edge: one count on, or back. -/
def countTaken (t : Nat) (dn : Bool) (c : Counter) : Counter :=
  { edgeTaken t dn c with count := (BitVec.ofInt 64 (if dn then c.count - 1 else c.count + 1)).toInt }

/-- An encoder after an edge: one step of the angle, one count on or back since the index. -/
def angleTaken (t cpr : Nat) (dn : Bool) (c : Counter) : Counter :=
  { edgeTaken t dn c with c := stepAngle c.c cpr dn, since := if dn then c.since - 1 else c.since + 1 }

/-- An encoder after an index at a time, with its revolution count. -/
def indexTaken (t : Nat) (n : Word) (c : Counter) : Counter :=
  { c with c := 0, n := n, since := 0, indexed := true, armed := false, lastEdge := t }

/-- A period function after an edge at a time, with the pulses seen and the good periods in a row. -/
def periodTaken (t pulses good : Nat) (c : Counter) : Counter :=
  { c with tp := t, period := t - c.tp, n := c.n + 1, pulses := pulses, good := good, lastEdge := t }

/-- The diagnostic of edges that cannot be counted for certain sets (R291). -/
def encFaultSet (ch : Nat) (s : State) : State := digSetDiag ch (fun d => { d with encFault := true }) s

section
variable {ch : Fin 4} {s : State}

theorem counterMod_at (f : Counter → Counter) : (counterMod ch.val f s).counter[ch] = f s.counter[ch] :=
  vmod_same s.counter ch.val f ch.isLt

theorem digAt_encFaultSet {β : Type} {v : Dig → β} (hv : SignalFree v) (ch : Fin 4) (s : State) :
    v (digAt ch.val (encFaultSet ch.val s)) = v { digAt ch.val s with encFault := true } :=
  digSetDiag_changes hv (ch.isLt.trans (by decide)) ..

section
variable (hrun : counting ch.val s = true)
include hrun

theorem countEdge_counter (hfn : digFunction (digAt ch.val s) = 1) (dn fast : Bool) :
    exec (.countEdge ch dn false fast) s = .next (counterMod ch.val (countTaken (now s) (digFlag (digAt ch.val s) 4 && dn))
      (if fast then encFaultSet ch.val s else s)) := by
  show execCountEdge ch dn false fast s = _
  simp only [execCountEdge, hrun, hfn, Bool.and_false, Bool.or_false, Bool.true_eq_false, if_false, if_true]
  rfl

theorem countEdge_encoder (hfn : digFunction (digAt ch.val s) = 2) (dn : Bool) : exec (.countEdge ch dn false false) s =
    .next (counterMod ch.val (angleTaken (now s) (fld32 (digAt ch.val s).rcd 16) (digFlag (digAt ch.val s) 4 && dn)) s) := by
  have htwo : ¬(2 : Nat) = 1 := by decide
  show execCountEdge ch dn false false s = _
  simp only [execCountEdge, hrun, hfn, Bool.and_false, Bool.or_false, Bool.true_eq_false, Bool.false_eq_true, if_false, if_true,
    if_neg htwo]
  rfl

/-- The count of an edge too fast is the count of the same edge after the diagnostic has set. -/
theorem countEdge_too_fast (hfn : digFunction (digAt ch.val s) = 1) (dn : Bool) :
    exec (.countEdge ch dn false true) s = exec (.countEdge ch dn false false) (encFaultSet ch.val s) := by
  have hst : (digAt ch.val (encFaultSet ch.val s)).st = (digAt ch.val s).st := digAt_encFaultSet (v := (·.st)) (fun _ _ _ _ => rfl) ..
  have hrcd : (digAt ch.val (encFaultSet ch.val s)).rcd = (digAt ch.val s).rcd := digAt_encFaultSet (v := (·.rcd)) (fun _ _ _ _ => rfl) ..
  have hfn' : digFunction (digAt ch.val (encFaultSet ch.val s)) = digFunction (digAt ch.val s) := congrArg (fld8 · 2) hrcd
  have hquad : digFlag (digAt ch.val (encFaultSet ch.val s)) 4 = digFlag (digAt ch.val s) 4 :=
    congrArg (fun r => bit (fld8 r 3) 4) hrcd
  have hnow : now (encFaultSet ch.val s) = now s :=
    congrArg (fun t => t.wraps.toNat * 2 ^ 32 + t.acc.toNat / 2 ^ 24) ((digSetDiag_within ..).same .time rfl)
  have hrun' : counting ch.val (encFaultSet ch.val s) = true := by rwa [counting, hst, hfn']
  rw [countEdge_counter hrun hfn, countEdge_counter hrun' (hfn'.trans hfn), hquad, hnow]
  rfl

/-! ## ENCODER_REF_EDGE, ENCODER_INDEX, PERIOD_EDGE, COUNT_TIMEOUT (R289 to R291) -/

theorem encoderRefEdge_arms (hfn : digFunction (digAt ch.val s) = 2) :
    exec (.encoderRefEdge ch) s = .next (counterMod ch.val (fun c => { c with armed := true }) s) :=
  congrArg Host.Outcome.next (if_pos (by rw [hrun, hfn]; rfl))

theorem encoderIndex_indexes (hfn : digFunction (digAt ch.val s) = 2) : ∃ u, exec (.encoderIndex ch) s = .next u ∧
    u.counter[ch] = indexTaken (now s) (if s.counter[ch].armed then 0
      else if s.counter[ch].down then s.counter[ch].n - 1 else s.counter[ch].n + 1) s.counter[ch] := by
  have hnot : ¬(counting ch.val s = false ∨ digFunction (digAt ch.val s) ≠ 2) := by simp [hrun, hfn]
  suffices hnext : ∀ w, execEncoderIndex ch s = .next w → w.counter[ch] = _ from ⟨_, rfl, hnext _ rfl⟩
  unfold execEncoderIndex
  extract_lets d c dev good n s1
  rw [if_neg hnot]
  intro w hw
  injection hw with hw
  have hcounter : w.counter = s1.counter := by
    rw [← hw]
    split
    · exact (digSetDiag_within ..).same .counter rfl
    · rfl
  simp only [hcounter]
  exact counterMod_at (indexTaken (now s) n)

theorem periodEdge_times (hfn : digFunction (digAt ch.val s) = 3) : ∃ u, exec (.periodEdge ch) s = .next u ∧
    ∃ pulses good, u.counter[ch] = periodTaken (now s) pulses good s.counter[ch] := by
  have hnot : ¬(counting ch.val s = false ∨ digFunction (digAt ch.val s) ≠ 3) := by simp [hrun, hfn]
  suffices hnext : ∀ w, execPeriodEdge ch s = .next w → ∃ pulses good, w.counter[ch] = periodTaken (now s) pulses good s.counter[ch]
    from ⟨_, rfl, hnext _ rfl⟩
  unfold execPeriodEdge
  extract_lets d c t T fast good s1
  rw [if_neg hnot]
  intro w hw
  injection hw with hw
  have hcounter : w.counter = s1.counter := by
    rw [← hw]
    split
    · exact (digSetDiag_within ..).same .counter rfl
    · split
      · exact (digSetDiag_within ..).same .counter rfl
      · rfl
  simp only [hcounter]
  exact ⟨min 2 (c.pulses + 1), good, vmod_same s.counter ch.val _ ch.isLt⟩

theorem countTimeout_rests (hlong : s.counter[ch].lastEdge + fld32 (digAt ch.val s).rcd 24 * ms ≤ now s) :
    exec (.countTimeout ch) s = .next (counterMod ch.val (fun c => { c with edges := [] })
      (deliverOwn (fldW (digAt ch.val s).rcd 12) 0 (digStatus (digAt ch.val s) (groupAt 0 s).fsLow) (digSource ch.val) s)) :=
  congrArg Host.Outcome.next (if_pos (Bool.and_eq_true_iff.mpr ⟨hrun, decide_eq_true hlong⟩))

end

theorem counting_stopped (h : counting ch.val s = false) (a b c : Bool) : exec (.countEdge ch a b c) s = .next s ∧
    exec (.encoderIndex ch) s = .next s ∧ exec (.encoderRefEdge ch) s = .next s ∧ exec (.periodEdge ch) s = .next s ∧
      exec (.countTimeout ch) s = .next s :=
  ⟨congrArg Host.Outcome.next (if_pos h), congrArg Host.Outcome.next (if_pos (.inl h)),
    congrArg Host.Outcome.next (if_neg (by simp [h])), congrArg Host.Outcome.next (if_pos (.inl h)),
    congrArg Host.Outcome.next (if_neg (by simp [h]))⟩

end

/-! ## The statement -/

/-- Settles O43: each row by its rule above. -/
theorem countersCount : Obligations.CountersCount := by
  refine ⟨?counter, ?encoder, ?fast, fun ch s a b c h => counting_stopped h a b c,
    fun ch s hrun hfn => ⟨encoderRefEdge_arms hrun hfn, encoderIndex_indexes hrun hfn⟩, ?period, ?timeout⟩
  case counter =>
    rintro ch s d dn rfl hrun hfn
    refine ⟨_, countEdge_counter hrun hfn dn false, rfl, ?_⟩
    have hc := counterMod_at (ch := ch) (s := s) (countTaken (now s) (digFlag (digAt ch.val s) 4 && dn))
    rw [if_neg Bool.false_ne_true, hc]
    exact ⟨rfl, rfl, rfl, fun k hk => vmod_other s.counter ch.val _ k.isLt (Fin.val_ne_of_ne hk)⟩
  case encoder =>
    rintro ch s d dn rfl hrun hfn
    refine ⟨_, countEdge_encoder hrun hfn dn, rfl, ?_⟩
    rw [counterMod_at]
    exact ⟨rfl, rfl, rfl⟩
  case fast =>
    intro ch s dn hrun hfn
    have hfast := countEdge_counter hrun hfn dn true
    refine ⟨_, _, hfast, (countEdge_too_fast hrun hfn dn).symm.trans hfast, rfl, ?_⟩
    exact digAt_encFaultSet (v := (·.encFault)) (fun _ _ _ _ => rfl) ch s
  case period =>
    intro ch s hrun hfn
    obtain ⟨u, hu, pulses, good, hc⟩ := periodEdge_times hrun hfn
    refine ⟨u, hu, ?_⟩
    rw [hc]
    exact ⟨rfl, rfl, rfl, rfl⟩
  case timeout =>
    rintro ch s d rfl hrun
    exact countTimeout_rests hrun

end Sys2Proof.Machine

namespace Sys2Proof.Machine

/-! The change log and the recorder serve the host, and the safety password, the life cycle and the owner lock change at its command
(R316 to R318, R462 to R466, R517, R518, R536, R537). -/

/-! ## An entry of the change log (R317) -/

theorem record_safety (sev code src data) (s : State) : (record sev code src data s).safety = s.safety :=
  (record_within ..).same .safety rfl

/-- A safety change adds one entry, with the next SEQUENCE, and carries the chain on: no other field of the safety unit differs. -/
theorem changeLogBy_appends (q kind object before after detail) (s : State) :
    ∃ e chain, e.seq = s.safety.nextSeq ∧ (changeLogBy q kind object before after detail s).safety =
      { s.safety with log := s.safety.log ++ [e], nextSeq := s.safety.nextSeq + 1, chain := chain } := by
  simp only [changeLogBy, changeLog, apply_ite State.safety, record_safety, emit_safety, ite_self]
  exact ⟨_, _, by rfl, rfl⟩

/-! ## CHANGELOG_READ, CHANGELOG_ACK (R318, R521) -/

section
variable {m : MbxId} {q : Req} {s : State}

theorem changelogRead_reads {es : List LogEntry} (h : InFlight m 0x0D04 q s) (hpos : 1 ≤ fld32 q.pay 8) (hmax : fld32 q.pay 8 ≤ 4096)
    (hlo : logOldest s ≤ fld64 q.pay 0) (hhi : fld64 q.pay 0 ≤ s.safety.nextSeq) (hinline : q.count = 0)
    (hes : es = ((s.safety.log.filter fun e => decide (fld64 q.pay 0 ≤ e.seq)).take (fld32 q.pay 8)).take 31) :
    Answers (.changelogRead m) m s
      (ok (le 8 (logOldest s) ++ le 8 s.safety.nextSeq ++ le 4 es.length ++ zeros 12 ++ es.flatMap (·.bytes))) s := by
  refine answers_of_runCommand h rfl ?_
  dsimp only
  rw [if_neg (by omega), if_neg (by omega), if_neg (by omega), if_neg (by omega), if_pos hinline, ← hes]

theorem changelogAck_short (h : InFlight m 0x0D05 q s) (hshort : s.safety.log.length < 1024) :
    Answers (.changelogAck m) m s (st stRefusedState) s :=
  answers_of_runCommand h rfl (if_pos hshort)

/-- An acknowledgement that names the first 1,024 entries by OLDEST and their digest frees them, and is logged itself. -/
theorem changelogAck_frees (h : InFlight m 0x0D05 q s) (hlong : 1024 ≤ s.safety.log.length) (hold : fld64 q.pay 0 = logOldest s)
    (hdigest : BitVec.ofNat 384 (unle ((q.pay.drop 8).take 48)) = Config.sha384 ((s.safety.log.take 1024).flatMap (·.bytes))) :
    ∃ u e, Answers (.changelogAck m) m s (ok (le 8 (logOldest u) ++ le 8 s.safety.nextSeq)) u ∧
      u.safety.log = s.safety.log.drop 1024 ++ [e] ∧ e.seq = s.safety.nextSeq ∧ u.safety.nextSeq = s.safety.nextSeq + 1 := by
  have hnamed : ¬(fld64 q.pay 0 ≠ logOldest s ∨ BitVec.ofNat 384 (unle ((q.pay.drop 8).take 48)) ≠
      Config.sha384 ((s.safety.log.take 1024).flatMap (·.bytes))) := by simp [hold, hdigest]
  obtain ⟨e, chain, hseq, hsafety⟩ := changeLogBy_appends q 0x0008 0 [] [] []
    { s with safety := { s.safety with log := s.safety.log.drop 1024 } }
  exact ⟨_, e, answers_of_runCommand h rfl ((if_neg (by omega)).trans (if_neg hnamed)), congrArg (·.log) hsafety, hseq,
    congrArg (·.nextSeq) hsafety⟩

end

/-! ## EVT_READ (R517, R536, R540) -/

theorem takeRecords_prefix (n room : Nat) (es : List (Nat × Record)) : takeRecords n room es <+: es := by
  fun_induction takeRecords with
  | case1 => exact List.nil_prefix
  | case2 => exact List.nil_prefix
  | case3 n room e es hfit ih => exact List.cons_prefix_cons.2 ⟨rfl, ih⟩
  | case4 => exact List.nil_prefix

theorem takeRecords_length_le (n room : Nat) (es : List (Nat × Record)) : (takeRecords n room es).length ≤ n := by
  fun_induction takeRecords with
  | case1 => exact Nat.le_refl _
  | case2 => exact Nat.zero_le _
  | case3 n room e es hfit ih => exact Nat.succ_le_succ ih
  | case4 => exact Nat.zero_le _

/-- What the store holds: its segments and NEXT (R527, R532). -/
def recorderStore (s : State) : List Segment × Nat := (s.recorder.segs, s.recorder.next)

theorem recorderStore_delivered (es : List (Nat × Record)) (s : State) :
    recorderStore (es.foldl (fun u e => pathDelivered 2 e.2.sev (recordLength e.2) u) s) = recorderStore s := by
  induction es generalizing s with
  | nil => rfl
  | cons e es ih => exact ih _

/-- The records that an `EVT_READ` serves: of those held from the cursor on and of its severities, as many as COUNT, the room of the
response and the MAILBOX budget allow. -/
def evtServed (q : Req) (s : State) : List (Nat × Record) :=
  takeRecords (fld32 q.pay 8) (mailboxRoom s) (takeRecords (fld32 q.pay 8) (if q.count = 0 then 4040 else claimRoom q)
    ((heldRecords s).filter fun e => decide (fld64 q.pay 0 ≤ e.1) && decide (fld8 q.pay 12 ≤ e.2.sev)))

section
variable {m : MbxId} {q : Req} {s : State} (h : InFlight m 0x0901 q s)
include h

theorem evtRead_above (habove : s.recorder.next < fld64 q.pay 0) : Answers (.evtRead m) m s (st stInconsistent) s :=
  answers_of_runCommand h rfl (if_pos habove)

theorem evtRead_below (hhi : fld64 q.pay 0 ≤ s.recorder.next) (hbelow : fld64 q.pay 0 < oldestHeld s) :
    Answers (.evtRead m) m s { status := stOvertaken, pay := evtHead (fld64 q.pay 0) (oldestHeld s) [] } s :=
  answers_of_runCommand h rfl ((if_neg hhi.not_gt).trans (if_pos hbelow))

theorem evtRead_none (hlo : oldestHeld s ≤ fld64 q.pay 0) (hhi : fld64 q.pay 0 ≤ s.recorder.next) (hcount : fld32 q.pay 8 = 0) :
    Answers (.evtRead m) m s (ok (evtHead (fld64 q.pay 0) (oldestHeld s) [])) s :=
  answers_of_runCommand h rfl ((if_neg hhi.not_gt).trans ((if_neg hlo.not_gt).trans (if_pos hcount)))

/-- A read serves its records and counts them on the MAILBOX path: the store stays. -/
theorem evtRead_serves (hlo : oldestHeld s ≤ fld64 q.pay 0) (hhi : fld64 q.pay 0 ≤ s.recorder.next) (hcount : fld32 q.pay 8 ≠ 0) :
    ∃ u r, Answers (.evtRead m) m s r u ∧ r.status = stOk ∧ recorderStore u = recorderStore s ∧
      (q.count = 0 → ∃ next, r.pay = evtHead next (oldestHeld s) (evtServed q s) ++ (evtServed q s).flatMap recordBytes) := by
  refine ⟨_, _, answers_of_runCommand h rfl ((if_neg hhi.not_gt).trans ((if_neg hlo.not_gt).trans (if_neg hcount))), ?status,
    recorderStore_delivered .., fun hinline => ?pay⟩
  case status => split <;> rfl
  case pay =>
    rw [if_pos hinline]
    exact ⟨_, rfl⟩

end

/-! ## EVT_CLEAR, EVT_STATS (R518, R527, R537) -/

theorem place_clearAt (r : Record) (s : State) : (place r s).recorder.clearAt = s.recorder.clearAt := by
  simp only [place]
  split
  · rfl
  · split <;> rfl

/-- A clear sets the boundary, frees what lies below it, and places its own record. -/
theorem evtClear_clears {m : MbxId} {q : Req} {s : State} (h : InFlight m 0x0902 q s) :
    ∃ u cleared, Answers (.evtClear m) m s (ok (le 8 cleared ++ le 8 s.recorder.next)) u ∧
      u.recorder.clearAt = clearBoundary (fld64 q.pay 0) s.recorder :=
  ⟨_, _, answers_of_runCommand h rfl rfl, place_clearAt ..⟩

/-- The last fields of `EVT_STATS`: DROPPED per severity, COALESCED, SHED and 16 reserved bytes (R518). -/
def evtLosses (x : Recorder) : List Byte :=
  ((List.range 8).flatMap fun k => le 4 (tabGet 0 x.dropped k)) ++ le 8 x.coalesced ++ le 8 x.shed ++ zeros 16

theorem evtLosses_length (x : Recorder) : (evtLosses x).length = 64 := by simp [evtLosses]

theorem evtStats_reports {m : MbxId} {q : Req} {s : State} (h : InFlight m 0x0903 q s) :
    Answers (.evtStats m) m s (ok (le 8 (oldestHeld s) ++ le 8 s.recorder.next ++ le 8 (recordsLength (heldRecords s)) ++
      le 8 (segmentCount * segmentBytes) ++
      ((List.range 8).flatMap fun k => le 4 ((heldRecords s).filter fun e => e.2.sev == k).length) ++ evtLosses s.recorder)) s := by
  refine answers_of_runCommand h rfl ?_
  simp only [evtLosses, List.append_assoc]

/-! ## SAFETY_PASSWORD_SET (R316, R466, R521) -/

/-- A salt is drawn of two free values (R316). -/
def saltDrawn (s : State) : List Byte := le 8 (freeValue s).toNat ++ le 8 (freeValue (nextFree s)).toNat

theorem saltDrawn_length (s : State) : (saltDrawn s).length = 16 := by simp [saltDrawn]

/-- The state in which the password hash is `p`: the change is logged (R317). -/
def passwordTaken (q : Req) (p : Option (List Byte × BitVec 256)) (s : State) : State :=
  changeLogBy q 0x0007 0 [] [] [] { s with safety := { s.safety with password := p } }

theorem passwordTaken_password (q : Req) (p) (s : State) : (passwordTaken q p s).safety.password = p := changeLogBy_password ..

section
variable {m : MbxId} {q : Req} {s : State} (h : InFlight m 0x0D03 q s) (hlock : ownerLocked s = false) (hroom : logFull s = false)
include h hlock hroom

/-- Where no password is set, one needs neither the old password nor another state than COMMISSIONING or SERVICE_OPEN. -/
theorem safetyPasswordSet_sets (hclear : bit (fld8 q.pay 0) 0 = false) (hlife : s.modes.life = .commissioning ∨ s.modes.life = .serviceOpen)
    (hnone : s.safety.password = none) (hrole : roleIncludes (roleOf q s) 4 = true) {new : List Byte} (hnew : new = slice q.pay 72 68)
    (hmin : 12 ≤ fld8 new 0) (hmax : fld8 new 0 ≤ 64) :
    ∃ u, Answers (.safetyPasswordSet m) m s (st stOk) u ∧
      u.safety.password = some (saltDrawn s, Config.argon2id (slice new 4 (fld8 new 0)) (saltDrawn s)) := by
  have hopen : (s.modes.life == .commissioning || s.modes.life == .serviceOpen) = true := by simpa using hlife
  have hlen : ¬(fld8 new 0 < 12 ∨ 64 < fld8 new 0) := by omega
  subst hnew
  refine ⟨passwordTaken q _ (nextFree (nextFree s)), answers_of_runCommand h rfl ?_, passwordTaken_password ..⟩
  simp only [hlock, hclear, hnone, hopen, hroom, hrole, if_neg hlen]
  rfl

theorem safetyPasswordSet_clears (hclear : bit (fld8 q.pay 0) 0 = true) (hlife : s.modes.life = .serviceOpen) (hrole : roleOf q s = 6) :
    ∃ u, Answers (.safetyPasswordSet m) m s (st stOk) u ∧ u.safety.password = none := by
  refine ⟨passwordTaken q none s, answers_of_runCommand h rfl ?_, passwordTaken_password ..⟩
  simp only [hlock, hclear, hlife, hroom, hrole]
  rfl

end

/-! ## LIFECYCLE_SET (R462, R464, R466, R578) -/

/-- A transition of the life cycle without the compatibility flag is recorded (R462). -/
def lifeRecorded (q : Req) (x y : Lifecycle) (s : State) : State :=
  audit 0x0D00 (srcUnit 0x0A) (reqSession q s) (le 1 (lifeCode x) ++ le 1 (lifeCode y) ++ le 1 (b2n false)) s

theorem lifecycleSet_moves {m : MbxId} {q : Req} {s : State} {y : Lifecycle} {need : LifeNeed} (h : InFlight m 0x0D06 q s)
    (hlock : ownerLocked s = false) (hy : lifeOf (fld8 q.pay 0) = some y) (hcompat : bit (fld8 q.pay 1) 0 = false)
    (hlisted : lifeTransition s.modes.life y = some need) (hmet : lifeConditions s.modes.life y s = true)
    (hallowed : lifeAllowed need q s = true) (hroom : auditRoom s = true) :
    ∃ u, Answers (.lifecycleSet m) m s (ok (le 1 (lifeCode y) ++ zeros 3)) u ∧ u.modes.life = y := by
  refine ⟨takeLife q s.modes.life y (lifeRecorded q s.modes.life y s), answers_of_runCommand h rfl ?_,
    congrArg (·.2.2) (takeLife_kept ..)⟩
  simp only [hlock, hy, hcompat, hlisted, hmet, hallowed, hroom]
  rfl

theorem lifecycleSet_locked {m : MbxId} {q : Req} {s : State} (h : InFlight m 0x0D06 q s) (hlock : ownerLocked s = true) :
    Answers (.lifecycleSet m) m s (st stRefusedState) s :=
  answers_of_runCommand h rfl (if_pos hlock)

/-! ## OWNER_LOCK (R466) -/

theorem lockChange_modes (session : Word) (f : Modes → Modes) (s : State) : (lockChange session f s).modes = f s.modes := by
  rw [lockChange]
  split
  · rfl
  · exact (audit_within ..).same .modes rfl

section
variable {m : MbxId} {q : Req} {s : State} (h : InFlight m 0x0D07 q s)
include h

theorem ownerLock_changes (hengage : fld8 q.pay 0 ≤ 1) (hinput : fld8 q.pay 0 = 0 → s.modes.lockInput = false)
    (hroom : auditRoom s = true) :
    ∃ u, Answers (.ownerLock m) m s (ok (le 1 (b2n (ownerLocked u)) ++ le 1 (b2n s.modes.lockInput) ++ zeros 2)) u ∧
      u.modes = { s.modes with lockCmd := fld8 q.pay 0 == 1 } := by
  have hfree : (!(fld8 q.pay 0 == 1) && s.modes.lockInput) = false := by
    obtain h0 | h1 : fld8 q.pay 0 = 0 ∨ fld8 q.pay 0 = 1 := by omega
    · rw [hinput h0, Bool.and_false]
    · rw [h1]
      rfl
  refine ⟨lockChange (reqSession q s) (fun x => { x with lockCmd := fld8 q.pay 0 == 1 }) s, answers_of_runCommand h rfl ?_,
    lockChange_modes ..⟩
  simp only [if_neg hengage.not_gt, hfree, hroom, lockChange_modes]
  rfl

theorem ownerLock_held (hrelease : fld8 q.pay 0 = 0) (hinput : s.modes.lockInput = true) :
    Answers (.ownerLock m) m s (st stRefusedState) s := by
  refine answers_of_runCommand h rfl ?_
  simp only [hrelease, hinput]
  rfl

end

/-! ## The statements -/

/-- Settles O15: each command by its rule above. -/
theorem passwordLifecycleAndLockChange : Obligations.PasswordLifecycleAndLockChange := by
  refine ⟨?password, fun m q s h hlock hclear hlife hroom hrole => safetyPasswordSet_clears h hlock hroom hclear hlife hrole,
    fun m q s y need => lifecycleSet_moves, fun m q s => lifecycleSet_locked, fun m q s => ownerLock_changes,
    fun m q s => ownerLock_held⟩
  intro m q s h hlock hclear hlife hnone hroom hrole hmin hmax
  obtain ⟨u, hu, hpassword⟩ := safetyPasswordSet_sets h hlock hroom hclear hlife hnone hrole rfl hmin hmax
  exact ⟨saltDrawn s, u, saltDrawn_length s, hu, hpassword⟩

/-- Settles O23: each command by its rule above. -/
theorem recorderAndChangeLogCommandsAct : Obligations.RecorderAndChangeLogCommandsAct := by
  refine ⟨fun m q s h => ⟨evtRead_above h, evtRead_below h, evtRead_none h, ?serves⟩, fun m q s => evtClear_clears,
    fun m q s h => ⟨_, evtLosses_length _, evtStats_reports h⟩, fun m q s es => changelogRead_reads,
    fun m q s h => ⟨changelogAck_short h, changelogAck_frees h⟩⟩
  intro hlo hhi hcount
  obtain ⟨u, r, hr, hstatus, hstore, hpay⟩ := evtRead_serves h hlo hhi hcount
  obtain ⟨hsegs, hnext⟩ := Prod.mk.inj hstore
  exact ⟨u, r, evtServed q s, hr, hstatus, hsegs, hnext, (takeRecords_prefix ..).trans (takeRecords_prefix ..),
    takeRecords_length_le .., hpay⟩

end Sys2Proof.Machine

namespace Sys2Proof.Machine

/-! The register of a CAN controller's status and the saturation of its receive error counter (R10, R359). -/

/-! ## Fields of a register word -/

theorem atBit_eq_mul (b : Bool) (i : Nat) : atBit b i = b.toNat * 2 ^ i := by cases b <;> simp [atBit]

/-- The field of `len` bits from bit `a` of a word given as a number. -/
theorem extractLsb'_ofNat_eq {n a len : Nat} {x : BitVec len} (hw : a + len ≤ 32) (h : n / 2 ^ a % 2 ^ len = x.toNat) :
    (BitVec.ofNat 32 n).extractLsb' a len = x := by
  refine BitVec.eq_of_getLsbD_eq fun i hi => ?_
  rw [BitVec.getLsbD_extractLsb', BitVec.getLsbD_ofNat, decide_eq_true hi, decide_eq_true (by omega : a + i < 32), Bool.true_and,
    Bool.true_and, Nat.add_comm a i, ← Nat.testBit_div_two_pow, ← BitVec.testBit_toNat, ← h, Nat.testBit_mod_two_pow,
    decide_eq_true hi, Bool.true_and]

/-- The flag at bit `k` of a word given as a number. -/
theorem getLsbD_ofNat_eq {n k : Nat} {b : Bool} (hk : k < 32) (h : n / 2 ^ k % 2 = b.toNat) : (BitVec.ofNat 32 n).getLsbD k = b := by
  rw [BitVec.getLsbD_ofNat, decide_eq_true hk, Bool.true_and, Nat.testBit_eq_decide_div_mod_eq, h]
  cases b <;> rfl

/-! ## `CAN_STATUS` (R359) -/

theorem netReg_canStatus (c : Fin 8) : netReg (0x1000 + 0x400 * c.val) = .canStatus c.val := by
  revert c
  decide

theorem regRead_canStatus (c : Fin 8) (s : State) : regRead .network (0x1000 + 0x400 * c.val) s = (canStatus c.val s, s) := by
  simp only [regRead, netRead, netReg_canStatus]

theorem registerWrite_canStatus (c : Fin 8) (v : Word) (s : State) : exec (.registerWrite .network (0x1000 + 0x400 * c.val) v) s =
    .next (canMod c.val (fun x => { x with
      conflict := x.conflict && !v.getLsbD 12, busoffSeen := x.busoffSeen && !v.getLsbD 7, unmatched := x.unmatched && !v.getLsbD 2 }) s) := by
  change Host.Outcome.next (netWrite _ v s) = _
  simp only [netWrite, netReg_canStatus]

theorem canStatus_fields {c : Nat} {s : State} {x : Can} {w : Word} (hx : x = canAt c s) (hw : w = canStatus c s) :
    w.extractLsb' 24 8 = x.tec ∧ w.extractLsb' 16 8 = x.rec_ ∧ w.extractLsb' 13 3 = 0 ∧ w.getLsbD 12 = x.conflict ∧ w.getLsbD 11 = x.refActive ∧
    w.getLsbD 10 = x.monitor ∧ w.extractLsb' 8 2 = x.st ∧ w.getLsbD 7 = x.busoffSeen ∧ w.extractLsb' 4 3 = x.lastError ∧ w.getLsbD 3 = x.standbyLine ∧
    w.getLsbD 2 = x.unmatched ∧ w.getLsbD 1 = x.obj.any (fun p => p.2.pending) ∧ w.getLsbD 0 = x.enabled := by
  rw [hw, canStatus, ← hx]
  simp only [atBit_eq_mul]
  have hreserved : (0 : BitVec 3).toNat = 0 := rfl
  have htec := x.tec.isLt
  have hrec := x.rec_.isLt
  have hst := x.st.isLt
  have herr := x.lastError.isLt
  have hflag := Bool.toNat_le
  have h12 := hflag x.conflict
  have h11 := hflag x.refActive
  have h10 := hflag x.monitor
  have h7 := hflag x.busoffSeen
  have h3 := hflag x.standbyLine
  have h2 := hflag x.unmatched
  have h1 := hflag (x.obj.any fun p => p.2.pending)
  have h0 := hflag x.enabled
  refine ⟨extractLsb'_ofNat_eq ?_ ?_, extractLsb'_ofNat_eq ?_ ?_, extractLsb'_ofNat_eq ?_ ?_, getLsbD_ofNat_eq ?_ ?_,
    getLsbD_ofNat_eq ?_ ?_, getLsbD_ofNat_eq ?_ ?_, extractLsb'_ofNat_eq ?_ ?_, getLsbD_ofNat_eq ?_ ?_, extractLsb'_ofNat_eq ?_ ?_,
    getLsbD_ofNat_eq ?_ ?_, getLsbD_ofNat_eq ?_ ?_, getLsbD_ofNat_eq ?_ ?_, getLsbD_ofNat_eq ?_ ?_⟩ <;> omega

theorem canAt_reset (c : Fin 8) : canAt c.val State.reset = canReset := by
  simp [canAt, vget, State.reset]

theorem canStatus_reset (c : Fin 8) : canStatus c.val State.reset = 0x308#32 := by
  rw [canStatus, canAt_reset]
  decide

/-! ## Error counters (R359) -/

theorem canAt_canMod_same (c : Fin 8) (f : Can → Can) (s : State) : canAt c.val (canMod c.val f s) = f (canAt c.val s) :=
  vget_vmod_same canReset s.can c.val f c.isLt

theorem errorState_rec (x : Can) : (errorState x).rec_ = x.rec_ := by
  unfold errorState
  split <;> rfl

/-- A receiver's error raises its receive error counter, which saturates. -/
theorem canBusError_counts_rec {c : Fin 8} {s : State} (e : Fin 8) (hon : (canAt c.val s).enabled = true) (hst : (canAt c.val s).st.toNat < 2) :
    ∃ u, exec (.canBusError c e false) s = .next u ∧
      (canAt c.val u).rec_ = BitVec.ofNat 8 (satInc 255 (canAt c.val s).rec_.toNat) := by
  have hlive : ¬ ((canAt c.val s).enabled = false ∨ 2 ≤ (canAt c.val s).st.toNat) := by simp [hon, hst]
  refine ⟨_, congrArg Host.Outcome.next (if_neg hlive), ?_⟩
  rw [canAt_canMod_same, errorState_rec]
  rfl

/-! ## The statement -/

/-- Settles O54: each field of a read by its bits, each other clause by its rule above. -/
theorem canStatusHasItsFields : Obligations.CanStatusHasItsFields := by
  refine ⟨fun c s x w hx hw => canStatus_fields hx (hw.trans (congrArg Prod.fst (regRead_canStatus c s))),
    fun c s => congrArg Prod.snd (regRead_canStatus c s), registerWrite_canStatus,
    fun c => (regRead_canStatus c State.reset).trans (by rw [canStatus_reset]), ?saturates⟩
  intro c e s hon hst hfull
  obtain ⟨u, hu, hrec⟩ := canBusError_counts_rec e hon hst
  refine ⟨u, hu, ?_⟩
  rw [hrec, hfull]
  rfl

end Sys2Proof.Machine

namespace Sys2Proof.Machine

/-! Module time (R361 to R369, R376, R379): the tick at which `TIME_NS` wraps, the accesses to its registers, the end of a temporary rate
and the pair's step. -/

/-! ## The tick (R361) -/

/-- Module time as it is counted: `TIME_WRAPS` and the accumulator (R361). -/
def timeCount (s : State) : Word × BitVec 56 := (s.time.wraps, s.time.acc)

theorem timeCount_ppsTick (old : Nat) (s : State) : timeCount (ppsTick old s) = timeCount s := by
  unfold ppsTick
  dsimp only
  split
  · split <;> rfl
  · split
    · rfl
    · split <;> rfl

/-- A tick without a step adds the increment, and counts the wrap (R361). -/
theorem timeCount_refTick {s : State} (h : s.time.stepDue = none) :
    timeCount (refTick s) =
      (s.time.wraps + BitVec.ofNat 32 ((s.time.acc.toNat + s.time.inc.toNat) / 2 ^ 56),
        BitVec.ofNat 56 (s.time.acc.toNat + s.time.inc.toNat)) := by
  simp only [refTick, h]
  rw [timeCount, (crystalTick_within _).same .time rfl]
  exact timeCount_ppsTick ..

section
variable {s : State}

theorem timeWrap_wraps (hmain : mainPower s = true) (hwrap : 2 ^ 56 ≤ s.time.acc.toNat + s.time.inc.toNat)
    (hstep : s.time.stepDue = none) :
    ∃ u, exec .timeWrap s = .next u ∧ u.time.wraps = s.time.wraps + 1 ∧
      u.time.acc = BitVec.ofNat 56 (s.time.acc.toNat + s.time.inc.toNat) := by
  have hone : (s.time.acc.toNat + s.time.inc.toNat) / 2 ^ 56 = 1 := by
    have hacc := s.time.acc.isLt
    have hinc := s.time.inc.isLt
    omega
  obtain ⟨hwraps, hacc⟩ := Prod.mk.inj (timeCount_refTick hstep)
  rw [hone] at hwraps
  refine ⟨refTick s, ?_, hwraps, hacc⟩
  show execTimeWrap s = _
  rw [execTimeWrap, if_pos ⟨hmain, hwrap⟩]

theorem timeWrap_waits (h : mainPower s = false ∨ s.time.acc.toNat + s.time.inc.toNat < 2 ^ 56) : exec .timeWrap s = .next s := by
  have hnot : ¬(mainPower s = true ∧ 2 ^ 56 ≤ s.time.acc.toNat + s.time.inc.toNat) := by
    rwa [not_and_or, Bool.not_eq_true, not_le]
  show execTimeWrap s = _
  rw [execTimeWrap, if_neg hnot]

end

/-! ## TIME_CTRL (R366, R379) -/

theorem toInt_bne_zero {n : Nat} {x : BitVec n} : (x.toInt != 0) = true ↔ x ≠ 0 := by
  rw [bne_iff_ne, ← BitVec.toInt_zero (w := n)]
  exact BitVec.toInt_ne

section
variable {s : State}

/-- A step that is used in its session, out of range or zero is ignored (R366). -/
theorem timeCtrlStep_ignored (b : Bool) (h : s.time.stepUsed = true ∨ stepInRange s.time.adj.toInt s = false ∨ s.time.adj = 0) :
    exec (.timeCtrlStep b) s = .next (timeMod (fun x => { x with ppsOutEn := b }) s) := by
  show Host.Outcome.next (writeTimeCtrl true false b s) = _
  rcases h with hused | hrange | hzero
  · simp [writeTimeCtrl, hused]
  · cases hused : s.time.stepUsed <;> simp [writeTimeCtrl, hused, hrange]
  · simp [writeTimeCtrl, hzero]

theorem timeCtrlStep_steps (b : Bool) (hfree : s.time.stepUsed = false) (hrange : stepInRange s.time.adj.toInt s = true)
    (hadj : s.time.adj ≠ 0) :
    exec (.timeCtrlStep b) s = .next (beginStep s.time.adj.toInt (timeMod (fun x => { x with ppsOutEn := b }) s)) := by
  show Host.Outcome.next (writeTimeCtrl true false b s) = _
  simp only [writeTimeCtrl, hfree, hrange, toInt_bne_zero.2 hadj]
  rfl

theorem timeCtrlNewSession_restarts (b : Bool) :
    exec (.timeCtrlNewSession false b) s = .next (restartSession (timeMod (fun x => { x with ppsOutEn := b }) s)) := rfl

/-- A new session has its step free, whatever the last one used. -/
theorem timeCtrlNewSession_steps (b : Bool) (hrange : stepInRange s.time.adj.toInt s = true) (hadj : s.time.adj ≠ 0) :
    exec (.timeCtrlNewSession true b) s =
      .next (beginStep s.time.adj.toInt (restartSession (timeMod (fun x => { x with ppsOutEn := b }) s))) := by
  show Host.Outcome.next (writeTimeCtrl true true b s) = _
  simp only [writeTimeCtrl, hrange, toInt_bne_zero.2 hadj]
  rfl

theorem timeCtrlNewSession_ignored (b : Bool) (hrange : stepInRange s.time.adj.toInt s = false) :
    exec (.timeCtrlNewSession true b) s = .next (timeMod (fun x => { x with ppsOutEn := b }) s) := by
  show Host.Outcome.next (writeTimeCtrl true true b s) = _
  simp only [writeTimeCtrl, hrange]
  rfl

end

/-! ## TEMP_RATE_EXPIRY (R367) -/

/-- A rate that the servo did not ask for leaves OFFSET_LARGE as it is (R363). -/
theorem setRate_unasked (r : Rat) (s : State) :
    setRate r false s = timeMod (fun x => { x with inc := BitVec.ofInt 32 (clampInc (incRat r)) }) s := by
  simp only [setRate, Bool.false_and, Bool.or_false]

section
variable {s : State}

theorem tempRateExpiry_restores (htemp : s.time.tempRate = true) (hend : s.time.tempEnd ≤ now s) :
    exec .tempRateExpiry s = .next { s with time := { s.time with
      tempRate := false, hostRate := s.time.priorRate
      inc := if s.time.source = 2 then BitVec.ofInt 32 (clampInc (incRat s.time.priorRate)) else s.time.inc } } := by
  show execTempRateExpiry s = _
  simp only [execTempRateExpiry, if_pos (And.intro htemp hend), timeMod_time, setRate_unasked]
  split <;> rfl

theorem tempRateExpiry_waits (h : s.time.tempRate = false ∨ now s < s.time.tempEnd) : exec .tempRateExpiry s = .next s := by
  have hnot : ¬(s.time.tempRate = true ∧ s.time.tempEnd ≤ now s) := by
    rwa [not_and_or, Bool.not_eq_true, not_le]
  exact congrArg Host.Outcome.next (if_neg hnot)

end

/-! ## PAIR_TIME_STEP (R366, R369, R376) -/

/-- Module time is the whole nanoseconds of its count, of 24 bits of fraction (R361, R362). -/
theorem now_of_timeCount {v : Nat} {s : State} (h : timeCount s = (BitVec.ofNat 32 (v / 2 ^ 56), BitVec.ofNat 56 v)) (hv : v < 2 ^ 88) :
    now s = v / 2 ^ 24 := by
  obtain ⟨hwraps, hacc⟩ := Prod.mk.inj h
  rw [now, hwraps, hacc, BitVec.toNat_ofNat, BitVec.toNat_ofNat]
  omega

/-- What a step gives and the load of the Plinth after it does not touch: the count, TIME_VALID, STEPPED and the pair's step. -/
def stepView (s : State) : (Word × BitVec 56) × Bool × Bool × Option (Int × Nat) :=
  (timeCount s, s.time.valid, s.time.stepped, s.time.pairStep)

theorem stepView_loadPlinth (s : State) : stepView (loadPlinth s) = stepView s := by
  unfold loadPlinth
  split <;> rfl

/-- A step changes the count as one value, with its wraps, nanoseconds and fraction (R366); time is then valid and stepped. -/
theorem stepView_applyStep {d : Int} {v : Nat} {s : State}
    (hv : v = ((s.time.wraps.toNat * 2 ^ 56 + s.time.acc.toNat : Int) + d * 2 ^ 24).toNat) :
    stepView (applyStep d s) = ((BitVec.ofNat 32 (v / 2 ^ 56), BitVec.ofNat 56 v), true, true, s.time.pairStep) := by
  subst hv
  unfold applyStep
  extract_lets before v host s1 s2 s3
  have h3 : stepView s3 = stepView s1 := by
    have htime : s3.time = s1.time := by
      rw [(audit_within ..).same .time rfl, (shiftRest_within ..).same .time rfl, (shiftNet_within ..).same .time rfl,
        (shiftField_within ..).same .time rfl, (shiftLoops_within ..).same .time rfl, (shiftTasks_within ..).same .time rfl]
    rw [stepView, stepView, timeCount, timeCount, htime]
  split
  · rw [stepView_loadPlinth, h3]
    rfl
  · rw [h3]
    rfl

/-- A step within the range of module time moves it by exactly the step. -/
theorem now_applyStep {d : Int} {s : State} (hlo : 0 ≤ (now s : Int) + d) (hhi : (now s : Int) + d < 2 ^ 64) :
    (now (applyStep d s) : Int) = now s + d := by
  have hacc := s.time.acc.isLt
  have hview := stepView_applyStep (d := d) (s := s) rfl
  rw [now] at hlo hhi
  rw [now_of_timeCount (congrArg Prod.fst hview) (by omega), now]
  omega

section
variable {s : State} {d : Int} {t : Nat} (h : s.time.pairStep = some (d, t))
include h

theorem pairTimeStep_waits (hearly : now s < t) : exec .pairTimeStep s = .next s := by
  show execPairTimeStep s = _
  simp only [execPairTimeStep, h, if_neg (Nat.not_le.mpr hearly)]

theorem pairTimeStep_steps (hdue : t ≤ now s) (hlo : 0 ≤ (now s : Int) + d) (hhi : (now s : Int) + d < 2 ^ 64) :
    ∃ u, exec .pairTimeStep s = .next u ∧ (now u : Int) = now s + d ∧ u.time.valid = true ∧ u.time.stepped = true ∧
      u.time.pairStep = none := by
  have hview := stepView_applyStep (d := d) (s := timeMod (fun x => { x with pairStep := none, stepUsed := true }) s) rfl
  refine ⟨applyStep d (timeMod (fun x => { x with pairStep := none, stepUsed := true }) s), ?_, now_applyStep hlo hhi,
    congrArg (·.2.1) hview, congrArg (·.2.2.1) hview, congrArg (·.2.2.2) hview⟩
  show execPairTimeStep s = _
  simp only [execPairTimeStep, h, if_pos hdue]

end

theorem pairTimeStep_none {s : State} (h : s.time.pairStep = none) : exec .pairTimeStep s = .next s := by
  show execPairTimeStep s = _
  simp only [execPairTimeStep, h]

/-! ## The statement -/

/-- Settles O46: the wrap by what a tick counts, the accesses and the end of a rate by their rules above, the pair's step by what a step
does to the count. -/
theorem moduleTimeTicksStepsAndIsRead : Obligations.ModuleTimeTicksStepsAndIsRead := by
  refine ⟨fun s => timeWrap_wraps, fun s => timeWrap_waits, fun s => rfl, fun v s => rfl, ?control, fun s => tempRateExpiry_restores,
    fun s => tempRateExpiry_waits, fun s d t h => ⟨pairTimeStep_waits h, pairTimeStep_steps h⟩, fun s => pairTimeStep_none⟩
  rintro b s t rfl
  exact ⟨timeCtrlStep_ignored b, timeCtrlStep_steps b, timeCtrlNewSession_restarts b, timeCtrlNewSession_steps b,
    timeCtrlNewSession_ignored b⟩

end Sys2Proof.Machine

namespace Sys2Proof.Machine

/-! The commands of the time unit and of the Plinth (R366, R367, R388, R391, R392, R515, R516): what each answers, and the state it
leaves. -/

/-! ## TIME_GET (R515) -/

/-- The last fields of `TIME_GET`: the UTC offset, the increment, and the Plinth's count, day phase, weekday and status (R515). -/
def timeGetRest (s : State) : List Byte :=
  le 2 (unsigned 16 s.time.utcOffset) ++ le 2 (b2n s.time.utcValid) ++ le 4 s.time.inc.toNat ++ le 8 s.plinth.ticks.toNat ++
    le 4 s.plinth.phase.toNat ++ le 1 s.plinth.wday.toNat ++ zeros 3 ++ le 4 (rtcStatus s.plinth).toNat ++ zeros 4

theorem timeGet_reports {m : MbxId} {q : Req} {s : State} (h : InFlight m 0x0801 q s) :
    Answers (.timeGet m) m s
      (ok (le 8 (now s) ++ le 4 (timeStatus s.time).toNat ++ le 4 s.time.offset.toNat ++ timeGetRest s))
      { s with plinth := rtcLatch s.plinth } := by
  refine answers_of_runCommand h rfl ?_
  simp only [timeGetRest, List.append_assoc]
  rfl

/-! ## TIME_STEP (R366, R367) -/

/-- An accepted step without a standby to tell is due at the next tick. -/
theorem beginStep_alone {s : State} (h : sendsToStandby s = false) (d : Int) :
    beginStep d s = { s with time := { s.time with stepUsed := true, stepDue := some d } } := by
  have hno : ¬sendsToStandby (timeMod (fun x => { x with stepUsed := true }) s) = true := Bool.not_eq_true _ ▸ h
  simp only [beginStep, if_neg hno]
  rfl

/-- With a standby in step, the step is due at both modules 1 ms ahead (R376). -/
theorem beginStep_paired {s : State} (h : sendsToStandby s = true) (d : Int) :
    (beginStep d s).time = { s.time with stepUsed := true, pairStep := some (d, now s + ms) } := by
  have hyes : sendsToStandby (timeMod (fun x => { x with stepUsed := true }) s) = true := h
  simp only [beginStep, if_pos hyes]
  rfl

/-- A request that no row of R366 refuses answers the session and the time after its step. -/
theorem timeStep_begins {m : MbxId} {q : Req} {s : State} {delta : Int} (h : InFlight m 0x0802 q s)
    (hdelta : delta = signed 64 (fld64 q.pay 0)) (hnew : bit (fld32 q.pay 8) 0 = false) (hne : delta ≠ 0)
    (hpass : stepRefusal delta false s = none) (hroom : auditRoom s = true) :
    Answers (.timeStep m) m s
      (ok (le 2 s.time.session.toNat ++ zeros 6 ++ le 8 ((nextTickTime s : Int) + stepAmount delta s).toNat))
      (beginStep (stepAmount delta s) s) := by
  subst hdelta
  refine answers_of_runCommand h rfl ?_
  simp [hnew, hpass, hroom, hne]

/-! ## TIME_RATE (R367) -/

/-- The state after a rate change of `ppb` for `dur` ms, before its record: added to the rate that a temporary change began from (R367). -/
def rateTaken (ppb : Int) (dur : Nat) (s : State) : State :=
  let base := if s.time.tempRate then s.time.priorRate else s.time.hostRate
  let rate := base + ppb
  setRate rate false (timeMod (fun x =>
    { x with hostRate := rate, priorRate := base, tempRate := dur != 0, tempEnd := now s + dur * ms }) s)

/-- The state that a `TIME_RATE` leaves: a change of the increment is an EVENT (R368). -/
def rateRecorded (q : Req) (ppb : Int) (dur : Nat) (s : State) : State :=
  let t := rateTaken ppb dur s
  if t.time.inc = s.time.inc then t
  else admitRecord (plainRecord sevEvent 0x0902 (srcUnit 0x0B) noHandle (reqSession q s) (le 4 (unsigned 32 ppb) ++ le 4 dur) t) t

theorem rateRecorded_time (q : Req) (ppb : Int) (dur : Nat) (s : State) : (rateRecorded q ppb dur s).time = (rateTaken ppb dur s).time := by
  simp only [rateRecorded]
  split
  · rfl
  · exact (admitRecord_within ..).same .time rfl

section
variable {m : MbxId} {q : Req} {s : State} {ppb : Int} (h : InFlight m 0x0803 q s) (hppb : ppb = signed 32 (fld32 q.pay 0))
  (hmax : ppb.natAbs ≤ 100000) (hdur : fld32 q.pay 4 ≤ 600000) (hhost : s.time.source = 2)
include h hppb hmax hdur hhost

theorem timeRate_zero (hzero : ppb = 0) : Answers (.timeRate m) m s (ok (le 4 s.time.inc.toNat)) s := by
  have hin : ¬(100000 < ppb.natAbs ∨ 600000 < fld32 q.pay 4) := by omega
  subst hppb
  refine answers_of_runCommand h rfl ?_
  dsimp only
  rw [if_neg hin, if_neg (not_not.mpr hhost), if_pos hzero]

/-- A change answers the increment then in force. -/
theorem timeRate_changes (hne : ppb ≠ 0) :
    Answers (.timeRate m) m s (ok (le 4 (rateRecorded q ppb (fld32 q.pay 4) s).time.inc.toNat))
      (rateRecorded q ppb (fld32 q.pay 4) s) := by
  have hin : ¬(100000 < ppb.natAbs ∨ 600000 < fld32 q.pay 4) := by omega
  subst hppb
  refine answers_of_runCommand h rfl ?_
  dsimp only
  rw [if_neg hin, if_neg (not_not.mpr hhost), if_neg hne]
  rfl

end

/-! ## RTC_SET (R388) -/

/-- Module time from now to the edge at which a load applies (R386, R388). -/
def timeToLoad (s : State) : Nat := ticksToLoad s.plinth * s.time.inc.toNat / 2 ^ 24

/-- Edges of the Plinth from now to the one at which a load applies. -/
def edgesToLoad (s : State) : Nat := if crystalSpan < s.plinth.crystal + 50 * 32768 then 2 else 1

/-- The Plinth with the loads that an `RTC_SET` asks for pending (R388). -/
def rtcAsked (t wday phase : Nat) (s : State) : Plinth :=
  let v := BitVec.ofNat 48 (ticksOf (t + timeToLoad s))
  { s.plinth with
    loadLo := if t = 0 then s.plinth.loadLo else v.setWidth 32
    loadHi := if t = 0 then s.plinth.loadHi else v.extractLsb' 32 16
    loadWday := if wday = 0xFF then s.plinth.wday else BitVec.ofNat 3 wday
    loadDay := if phase = 0xFFFFFFFF then BitVec.ofNat 32 ((s.plinth.phase.toNat + edgesToLoad s) % dayTicks) else BitVec.ofNat 32 phase
    pendTicks := t != 0, pendWday := wday != 0xFF || phase != 0xFFFFFFFF, loadWait := 50 }

/-- The count that an `RTC_SET` answers: that of the edge at which its load applies (R388). -/
def rtcAskedCount (t : Nat) (s : State) : Nat :=
  if t = 0 then (s.plinth.ticks + BitVec.ofNat 48 (edgesToLoad s)).toNat else (BitVec.ofNat 48 (ticksOf (t + timeToLoad s))).toNat

theorem rtcAskedCount_of_time {t : Nat} {s : State} (hne : t ≠ 0) (h : ticksOf (t + timeToLoad s) < 2 ^ 48) :
    rtcAskedCount t s = ticksOf (t + timeToLoad s) := by
  rw [rtcAskedCount, if_neg hne, BitVec.toNat_ofNat, Nat.mod_eq_of_lt h]

/-- An accepted `RTC_SET` is an EVENT, whose record leaves the Plinth as the request left it (R388). -/
theorem rtcSet_asks {m : MbxId} {q : Req} {s : State} {t wday phase : Nat} (h : InFlight m 0x0804 q s) (ht : t = fld64 q.pay 0)
    (hwday : wday = fld8 q.pay 8) (hphase : phase = fld32 q.pay 12) (hvalid : s.time.valid = true → t = 0)
    (hrange : t ≠ 0 → tai2000 ≤ t ∧ ticksOf (t + timeToLoad s) < 2 ^ 48) (hday : wday ≤ 6 ∨ wday = 0xFF)
    (hdayPhase : phase < dayTicks ∨ phase = 0xFFFFFFFF) :
    ∃ u, Answers (.rtcSet m) m s (ok (le 8 (rtcAskedCount t s))) u ∧ u.plinth = rtcAsked t wday phase s := by
  have hheld : ¬(s.time.valid = true ∧ t ≠ 0) := fun ⟨hv, hne⟩ => hne (hvalid hv)
  have hin : ¬(t ≠ 0 ∧ (t < tai2000 ∨ 2 ^ 48 ≤ ticksOf (t + timeToLoad s))) := by
    rintro ⟨hne, hout⟩
    exact hout.elim (hrange hne).1.not_gt (hrange hne).2.not_ge
  have hwdayIn : ¬(6 < wday ∧ wday ≠ 0xFF) := by omega
  have hphaseIn : ¬(dayTicks ≤ phase ∧ phase ≠ 0xFFFFFFFF) := fun ⟨hge, hne⟩ => hdayPhase.elim hge.not_gt hne
  subst ht hwday hphase
  exact ⟨_, answers_of_runCommand h rfl
    ((if_neg hheld).trans ((if_neg hin).trans ((if_neg hwdayIn).trans (if_neg hphaseIn)))), (admitRecord_within ..).same .plinth rfl⟩

/-! ## RTC_ALARM_SET (R391) -/

theorem rtcAlarmSet_sets {m : MbxId} {q : Req} {s : State} {mask : BitVec 48} {wdays : BitVec 7} {on : Bool} (h : InFlight m 0x0805 q s)
    (hn : fld8 q.pay 0 ≤ 1) (hmask : mask = BitVec.ofNat 48 (fld64 q.pay 12)) (hwdays : wdays = BitVec.ofNat 7 (fld8 q.pay 2))
    (hon : on = bit (fld8 q.pay 1) 0) (hmatch : on = true → mask ≠ 0 ∧ wdays ≠ 0) :
    Answers (.rtcAlarmSet m) m s (st stOk) (plinthMod (alarmMod (fld8 q.pay 0) (fun a =>
      { a with value := BitVec.ofNat 48 (fld64 q.pay 4), mask := mask, wdays := wdays, enable := on })) s) := by
  have hok : ¬(1 < fld8 q.pay 0 ∨ (on = true ∧ (mask = 0 ∨ wdays = 0))) := by
    rintro (hhigh | ⟨hset, hnever⟩)
    · exact hn.not_gt hhigh
    · exact hnever.elim (hmatch hset).1 (hmatch hset).2
  subst hmask hwdays hon
  exact answers_of_runCommand h rfl (if_neg hok)

/-! ## BACKUP_READ, BACKUP_WRITE (R392) -/

theorem backupRead_reads {m : MbxId} {q : Req} {s : State} (h : InFlight m 0x0806 q s) (hpos : 1 ≤ fld8 q.pay 1)
    (hend : fld8 q.pay 0 + fld8 q.pay 1 ≤ 16) :
    Answers (.backupRead m) m s
      (ok ((List.range' (fld8 q.pay 0) (fld8 q.pay 1)).flatMap fun i => le 4 (vget 0 s.plinth.bkp i).toNat)) s := by
  refine answers_of_runCommand h rfl ?_
  dsimp only
  rw [if_neg (by omega)]

section
variable {m : MbxId} {q : Req} {s : State} (h : InFlight m 0x0807 q s) (hpos : 1 ≤ fld8 q.pay 1) (hmax : fld8 q.pay 1 ≤ 8)
  (hend : fld8 q.pay 0 + fld8 q.pay 1 ≤ 16)
include h hpos hmax hend

theorem backupWrite_writes (hfirst : 8 ≤ fld8 q.pay 0) :
    Answers (.backupWrite m) m s (st stOk)
      (bkpWrites (fld8 q.pay 0) ((List.range (fld8 q.pay 1)).map fun i => fldW q.pay (4 + 4 * i)) s) := by
  refine answers_of_runCommand h rfl ?_
  dsimp only
  rw [if_neg (by omega), if_neg (by omega)]

/-- The words below `BKP_8` are the firmware's (R392). -/
theorem backupWrite_refused (hfirst : fld8 q.pay 0 < 8) : Answers (.backupWrite m) m s (st stRefusedState) s := by
  refine answers_of_runCommand h rfl ?_
  dsimp only
  rw [if_neg (by omega), if_pos hfirst]

end

/-! ## The statement -/

/-- Settles O22: each command by its rule above. -/
theorem timeAndPlinthCommandsAct : Obligations.TimeAndPlinthCommandsAct := by
  refine ⟨fun m q s h => ⟨_, timeGet_reports h⟩, ?step, ?rate, ?rtcSet,
    fun m q s mask wdays on => rtcAlarmSet_sets, fun m q s => backupRead_reads, ?backup⟩
  case step =>
    intro m q s delta h hdelta hnew hne hpass hroom
    have hbegins := timeStep_begins h hdelta hnew hne hpass hroom
    exact ⟨fun halone => beginStep_alone halone _ ▸ hbegins, fun hpair => ⟨_, hbegins, beginStep_paired hpair _⟩⟩
  case rate =>
    intro m q s ppb h hppb hmax hdur hhost
    refine ⟨timeRate_zero h hppb hmax hdur hhost, fun hne => ⟨_, timeRate_changes h hppb hmax hdur hhost hne, ?_⟩⟩
    rw [rateRecorded_time]
    exact ⟨rfl, rfl, rfl⟩
  case rtcSet =>
    rintro m q s t edge h ht rfl hvalid hrange hday hdayPhase
    obtain ⟨u, hu, hplinth⟩ := rtcSet_asks h ht rfl rfl hvalid hrange hday hdayPhase
    refine ⟨u, _, hu, ?_⟩
    rw [hplinth]
    refine ⟨rfl, rfl, fun hle => if_neg (by omega), fun hne => ?_⟩
    rw [rtcAskedCount_of_time hne (hrange hne).2]
    exact ⟨rfl, if_neg hne, if_neg hne⟩
  case backup =>
    intro m q s h hpos hmax hend
    refine ⟨?_, backupWrite_refused h hpos hmax hend⟩
    rintro b hfirst rfl
    exact backupWrite_writes h hpos hmax hend hfirst

end Sys2Proof.Machine

namespace Sys2Proof.Machine

/-! The register `RTC_CTRL` (R10, R386, R387, R397, R398): what a write does while no load is pending and while one is, and its read. -/

/-! ## Writes while no load is pending, and while one is (R386, R387) -/

/-- Without a load bit a write leaves the pending loads, which there are none of, and the wait as they were. -/
theorem rtcCtrl_none_pending {p : Plinth} (hticks : p.pendTicks = false) (hwday : p.pendWday = false)
    (loadTicks loadWday markLost : Bool) :
    rtcCtrl loadTicks loadWday markLost p =
      { p with
        retainLost := p.retainLost || markLost, pendTicks := loadTicks, pendWday := loadWday
        loadWait := if loadTicks || loadWday then 50 else p.loadWait } := by
  cases hload : loadTicks || loadWday with
  | true => rw [rtcCtrl_schedules hticks hwday _ _ _ hload, if_pos rfl]
  | false =>
    obtain ⟨rfl, rfl⟩ := Bool.or_eq_false_iff.mp hload
    simp [rtcCtrl, hticks, hwday]

/-- While a load is pending a load bit only sets `LOAD_COLLISION` (R387). -/
theorem rtcCtrl_pending {p : Plinth} (hpend : p.pendTicks = true ∨ p.pendWday = true) (loadTicks loadWday markLost : Bool) :
    rtcCtrl loadTicks loadWday markLost p =
      { p with retainLost := p.retainLost || markLost, collision := p.collision || loadTicks || loadWday } := by
  have hwaits : (p.pendTicks || p.pendWday) = true := by rwa [Bool.or_eq_true]
  cases hload : loadTicks || loadWday with
  | true => simp [rtcCtrl, hload, hwaits, Bool.or_assoc]
  | false => simp [rtcCtrl, hload, Bool.or_assoc]

/-! ## Accesses to the register (R397, R398) -/

theorem registerWrite_rtcCtrl (v : Word) (s : State) : exec (.registerWrite .plinth 0x020 v) s =
    .next (plinthMod (rtcCtrl (v.getLsbD 0) (v.getLsbD 1) (v.getLsbD 2)) s) := rfl

/-- Its fields are write-only and its other bits are reserved (R398). -/
theorem regRead_rtcCtrl (s : State) : regRead .plinth 0x020 s = (0, s) := rfl

/-- The mask `7#32` keeps the three fields of `RTC_CTRL`. -/
theorem getLsbD_eq_of_and_seven_eq {v w : Word} (h : v &&& 7#32 = w &&& 7#32) {i : Nat} (hi : i < 3) : v.getLsbD i = w.getLsbD i := by
  have hmask : (7#32).getLsbD i = true := by
    interval_cases i <;> rfl
  have hbit := congrArg (BitVec.getLsbD · i) h
  simpa only [BitVec.getLsbD_and, hmask, Bool.and_true] using hbit

theorem registerWrite_rtcCtrl_congr {v w : Word} (h : v &&& 7#32 = w &&& 7#32) (s : State) :
    exec (.registerWrite .plinth 0x020 v) s = exec (.registerWrite .plinth 0x020 w) s := by
  have hfield {i : Nat} (hi : i < 3) := getLsbD_eq_of_and_seven_eq h hi
  rw [registerWrite_rtcCtrl, registerWrite_rtcCtrl, hfield (i := 0) (by decide), hfield (i := 1) (by decide), hfield (i := 2) (by decide)]

/-! ## The statement -/

/-- Settles O53: the writes by whether a load is pending, the reserved bits by the mask of the fields, the read by its rule above. -/
theorem rtcCtrlHasItsFields : Obligations.RtcCtrlHasItsFields := by
  refine ⟨?free, ?pending, fun v w s h => registerWrite_rtcCtrl_congr h s, regRead_rtcCtrl, regRead_rtcCtrl _⟩
  case free =>
    intro v s hticks hwday
    rw [registerWrite_rtcCtrl, plinthMod, rtcCtrl_none_pending hticks hwday]
  case pending =>
    intro v s hpend
    rw [registerWrite_rtcCtrl, plinthMod, rtcCtrl_pending hpend]

end Sys2Proof.Machine

namespace Sys2Proof.Machine

/-! What every command and every step keeps: the frame of each command (`touches`), the queue of waiting commands, the identity, and the
firmware store's invariant (R450, R474, R499, R545, R549). -/

/-! ## Every command's frame -/

/-- A command changes only the parts that `touches` names. -/
theorem exec_within {c : Instr} {s t : State} (h : exec c s = .next t) : Within (touches c) s t := by
  cases c with
  | identGet _ => exact (execIdentGet_within (h := h)).mono rfl
  | statusGet _ => exact (execStatusGet_within (h := h)).mono rfl
  | healthMapGet _ => exact (execHealthMapGet_within (h := h)).mono rfl
  | modeSet _ => exact (execModeSet_within (h := h)).mono rfl
  | modeGet _ => exact (execModeGet_within (h := h)).mono rfl
  | startRequest _ => exact (execStartRequest_within (h := h)).mono rfl
  | cfgSessionOpen _ => exact (execCfgSessionOpen_within (h := h)).mono rfl
  | cfgWrite _ => exact (execCfgWrite_within (h := h)).mono rfl
  | cfgRead _ => exact (execCfgRead_within (h := h)).mono rfl
  | cfgCommit _ => exact (execCfgCommit_within (h := h)).mono rfl
  | cfgAbandon _ => exact (execCfgAbandon_within (h := h)).mono rfl
  | tuneWrite _ => exact (execTuneWrite_within (h := h)).mono rfl
  | groupApply _ => exact (execGroupApply_within (h := h)).mono rfl
  | progLoad _ => exact (execProgLoad_within (h := h)).mono rfl
  | progVerify _ => exact (execProgVerify_within (h := h)).mono rfl
  | progExchange _ => exact (execProgExchange_within (h := h)).mono rfl
  | progStart _ => exact (execProgStart_within (h := h)).mono rfl
  | progStop _ => exact (execProgStop_within (h := h)).mono rfl
  | progHold _ => exact (execProgHold_within (h := h)).mono rfl
  | progStep _ => exact (execProgStep_within (h := h)).mono rfl
  | progResume _ => exact (execProgResume_within (h := h)).mono rfl
  | sigRead _ => exact (execSigRead_within (h := h)).mono rfl
  | sigWrite _ => exact (execSigWrite_within (h := h)).mono rfl
  | sigForce _ => exact (execSigForce_within (h := h)).mono rfl
  | sigUnforce _ => exact (execSigUnforce_within (h := h)).mono rfl
  | sigSubscribe _ => exact (execSigSubscribe_within (h := h)).mono rfl
  | sigBulkRead _ => exact (execSigBulkRead_within (h := h)).mono rfl
  | loopStateGet _ => exact (execLoopStateGet_within (h := h)).mono rfl
  | loopModeSet _ => exact (execLoopModeSet_within (h := h)).mono rfl
  | loopRepReset _ => exact (execLoopRepReset_within (h := h)).mono rfl
  | chanStatusGet _ => exact (execChanStatusGet_within (h := h)).mono rfl
  | chanTest _ _ _ => exact (execChanTest_within (h := h)).mono rfl
  | timeGet _ => exact (execTimeGet_within (h := h)).mono rfl
  | timeStep _ => exact (execTimeStep_within (h := h)).mono rfl
  | timeRate _ => exact (execTimeRate_within (h := h)).mono rfl
  | rtcSet _ => exact (execRtcSet_within (h := h)).mono rfl
  | rtcAlarmSet _ => exact (execRtcAlarmSet_within (h := h)).mono rfl
  | backupRead _ => exact (execBackupRead_within (h := h)).mono rfl
  | backupWrite _ => exact (execBackupWrite_within (h := h)).mono rfl
  | evtRead _ => exact (execEvtRead_within (h := h)).mono rfl
  | evtClear _ => exact (execEvtClear_within (h := h)).mono rfl
  | evtStats _ => exact (execEvtStats_within (h := h)).mono rfl
  | updBegin _ => exact (execUpdBegin_within (h := h)).mono rfl
  | updBlock _ => exact (execUpdBlock_within (h := h)).mono rfl
  | updVerify _ => exact (execUpdVerify_within (h := h)).mono rfl
  | updActivate _ => exact (execUpdActivate_within (h := h)).mono rfl
  | updCancel _ => exact (execUpdCancel_within (h := h)).mono rfl
  | panelUpdate _ => exact (execPanelUpdate_within (h := h)).mono rfl
  | panelStatus _ => exact (execPanelStatus_within (h := h)).mono rfl
  | panelWaveformLoad _ => exact (execPanelWaveformLoad_within (h := h)).mono rfl
  | panelClean _ => exact (execPanelClean_within (h := h)).mono rfl
  | pairStatus _ => exact (execPairStatus_within (h := h)).mono rfl
  | pairSwitchover _ => exact (execPairSwitchover_within (h := h)).mono rfl
  | pairResync _ => exact (execPairResync_within (h := h)).mono rfl
  | authLogin _ => exact (execAuthLogin_within (h := h)).mono rfl
  | authLogout _ => exact (execAuthLogout_within (h := h)).mono rfl
  | safetyPasswordSet _ => exact (execSafetyPasswordSet_within (h := h)).mono rfl
  | changelogRead _ => exact (execChangelogRead_within (h := h)).mono rfl
  | changelogAck _ => exact (execChangelogAck_within (h := h)).mono rfl
  | lifecycleSet _ => exact (execLifecycleSet_within (h := h)).mono rfl
  | ownerLock _ => exact (execOwnerLock_within (h := h)).mono rfl
  | diagRegRead _ => exact (execDiagRegRead_within (h := h)).mono rfl
  | diagRegWrite _ => exact (execDiagRegWrite_within (h := h)).mono rfl
  | bistRun _ _ _ => exact (execBistRun_within (h := h)).mono rfl
  | laneConfigSet _ => exact (execLaneConfigSet_within (h := h)).mono rfl
  | debugAttach _ => exact (execDebugAttach_within (h := h)).mono rfl
  | mbxSubmit _ => exact (execMbxSubmit_within (h := h)).mono rfl
  | mbxAck _ => exact (execMbxAck_within (h := h)).mono rfl
  | hostReset => exact (execHostReset_within (h := h)).mono rfl
  | flagWrite _ _ => exact (execFlagWrite_within (h := h)).mono rfl
  | carriageDataWrite _ _ => exact (execCarriageDataWrite_within (h := h)).mono rfl
  | mailboxBufferWrite _ _ => exact (execMailboxBufferWrite_within (h := h)).mono rfl
  | irqEnableWrite _ => exact (execIrqEnableWrite_within (h := h)).mono rfl
  | hiErrorsRead => exact (execHiErrorsRead_within (h := h)).mono rfl
  | tsnapLoRead => exact (execTsnapLoRead_within (h := h)).mono rfl
  | registerWrite _ _ _ => exact (execRegisterWrite_within (h := h)).mono rfl
  | pcieLinkLoss => exact (execPcieLinkLoss_within (h := h)).mono rfl
  | sessionTimeout _ => exact (execSessionTimeout_within (h := h)).mono rfl
  | tlsConnect _ => exact (execTlsConnect_within (h := h)).mono rfl
  | tlsCommand _ _ _ => exact (execTlsCommand_within (h := h)).mono rfl
  | tlsTransfer _ _ => exact (execTlsTransfer_within (h := h)).mono rfl
  | tlsKeepalive _ _ => exact (execTlsKeepalive_within (h := h)).mono rfl
  | tlsKeepaliveSend _ => exact (execTlsKeepaliveSend_within (h := h)).mono rfl
  | tlsReceiveTimeout _ => exact (execTlsReceiveTimeout_within (h := h)).mono rfl
  | tlsConnectionClosed _ => exact (execTlsConnectionClosed_within (h := h)).mono rfl
  | subscriptionIntervalExpiry _ => exact (execSubscriptionIntervalExpiry_within (h := h)).mono rfl
  | feedUndervoltage _ => exact (execFeedUndervoltage_within (h := h)).mono rfl
  | feedRestored _ => exact (execFeedRestored_within (h := h)).mono rfl
  | powerFail => exact (execPowerFail_within (h := h)).mono rfl
  | holdUpEnd => exact (execHoldUpEnd_within (h := h)).mono rfl
  | refFault _ => exact (execRefFault_within (h := h)).mono rfl
  | laneRailFault _ => exact (execLaneRailFault_within (h := h)).mono rfl
  | laneFault _ => exact (execLaneFault_within (h := h)).mono rfl
  | mgmtClockDemand _ => exact (execMgmtClockDemand_within (h := h)).mono rfl
  | mgmtClockFall => exact (execMgmtClockFall_within (h := h)).mono rfl
  | laneWake _ => exact (execLaneWake_within (h := h)).mono rfl
  | mergeWake => exact (execMergeWake_within (h := h)).mono rfl
  | dieTemperature _ _ => exact (execDieTemperature_within (h := h)).mono rfl
  | dieTempRepeat => exact (execDieTempRepeat_within (h := h)).mono rfl
  | resetN => exact (execResetN_within (h := h)).mono rfl
  | mgmtWatchdogReset => exact (execMgmtWatchdogReset_within (h := h)).mono rfl
  | manoeuvringInput _ => exact (execManoeuvringInput_within (h := h)).mono rfl
  | ownerLockInput _ => exact (execOwnerLockInput_within (h := h)).mono rfl
  | tckWhileClosed => exact (execTckWhileClosed_within (h := h)).mono rfl
  | start _ _ => exact (execStart_within (h := h)).mono rfl
  | startDelayExpiry => exact (execStartDelayExpiry_within (h := h)).mono rfl
  | bistGroupComplete _ _ => exact (execBistGroupComplete_within (h := h)).mono rfl
  | startTimeout => exact (execStartTimeout_within (h := h)).mono rfl
  | pairStartWaitExpiry => exact (execPairStartWaitExpiry_within (h := h)).mono rfl
  | taskRelease _ => exact (execTaskRelease_within (h := h)).mono rfl
  | cp1Agree _ _ _ _ => exact (execCp1Agree_within (h := h)).mono rfl
  | cp2Compare _ _ _ => exact (execCp2Compare_within (h := h)).mono rfl
  | cp3Commit _ _ _ => exact (execCp3Commit_within (h := h)).mono rfl
  | lateLaneCheck _ _ _ => exact (execLateLaneCheck_within (h := h)).mono rfl
  | lagLimitExpiry _ _ _ => exact (execLagLimitExpiry_within (h := h)).mono rfl
  | wcetExceeded _ => exact (execWcetExceeded_within (h := h)).mono rfl
  | deadlineOverrun _ => exact (execDeadlineOverrun_within (h := h)).mono rfl
  | passLimitExpiry _ => exact (execPassLimitExpiry_within (h := h)).mono rfl
  | exclusionCountAgeing _ => exact (execExclusionCountAgeing_within (h := h)).mono rfl
  | resyncHoldExpiry _ => exact (execResyncHoldExpiry_within (h := h)).mono rfl
  | firmwareReloadComplete _ => exact (execFirmwareReloadComplete_within (h := h)).mono rfl
  | dramClearComplete _ => exact (execDramClearComplete_within (h := h)).mono rfl
  | resyncCopyComplete => exact (execResyncCopyComplete_within (h := h)).mono rfl
  | resyncSuspend => exact (execResyncSuspend_within (h := h)).mono rfl
  | resyncResume => exact (execResyncResume_within (h := h)).mono rfl
  | mergeTick _ _ => exact (execMergeTick_within (h := h)).mono rfl
  | pubBlockReceived _ _ => exact (execPubBlockReceived_within (h := h)).mono rfl
  | pubGapHoldExpiry _ => exact (execPubGapHoldExpiry_within (h := h)).mono rfl
  | pubChangeBlockClose => exact (execPubChangeBlockClose_within (h := h)).mono rfl
  | pubKeepalive => exact (execPubKeepalive_within (h := h)).mono rfl
  | refreshBlock => exact (execRefreshBlock_within (h := h)).mono rfl
  | pubSequenceStore => exact (execPubSequenceStore_within (h := h)).mono rfl
  | pubLagWarning => exact (execPubLagWarning_within (h := h)).mono rfl
  | peerTimeout _ => exact (execPeerTimeout_within (h := h)).mono rfl
  | peerLossTime _ => exact (execPeerLossTime_within (h := h)).mono rfl
  | nodeTelegramReceived _ _ _ => exact (execNodeTelegramReceived_within (h := h)).mono rfl
  | signalStaleTimeout _ _ => exact (execSignalStaleTimeout_within (h := h)).mono rfl
  | outputRepeatExpiry _ => exact (execOutputRepeatExpiry_within (h := h)).mono rfl
  | outputHoldoffExpiry _ _ => exact (execOutputHoldoffExpiry_within (h := h)).mono rfl
  | takeoverFlagExpiry _ => exact (execTakeoverFlagExpiry_within (h := h)).mono rfl
  | nodeSilent _ => exact (execNodeSilent_within (h := h)).mono rfl
  | arpRefresh => exact (execArpRefresh_within (h := h)).mono rfl
  | arpFrame _ _ _ _ _ => exact (execArpFrame_within (h := h)).mono rfl
  | igmpQuery _ => exact (execIgmpQuery_within (h := h)).mono rfl
  | icmpEchoRequest _ _ _ => exact (execIcmpEchoRequest_within (h := h)).mono rfl
  | hsrRingFrame _ _ _ _ => exact (execHsrRingFrame_within (h := h)).mono rfl
  | linkChange _ _ _ => exact (execLinkChange_within (h := h)).mono rfl
  | supervisionFrame _ _ _ _ => exact (execSupervisionFrame_within (h := h)).mono rfl
  | supervisionSend => exact (execSupervisionSend_within (h := h)).mono rfl
  | supervisionLoss _ => exact (execSupervisionLoss_within (h := h)).mono rfl
  | dupTableForget _ _ => exact (execDupTableForget_within (h := h)).mono rfl
  | canFrameReceived _ _ => exact (execCanFrameReceived_within (h := h)).mono rfl
  | canLockRelease _ _ => exact (execCanLockRelease_within (h := h)).mono rfl
  | canTxComplete _ _ => exact (execCanTxComplete_within (h := h)).mono rfl
  | canReferenceTime _ => exact (execCanReferenceTime_within (h := h)).mono rfl
  | canWindowStart _ _ => exact (execCanWindowStart_within (h := h)).mono rfl
  | canMasterResume _ => exact (execCanMasterResume_within (h := h)).mono rfl
  | canBusOff _ => exact (execCanBusOff_within (h := h)).mono rfl
  | canBusoffRecovery _ => exact (execCanBusoffRecovery_within (h := h)).mono rfl
  | conversionComplete _ _ _ _ _ => exact (execConversionComplete_within (h := h)).mono rfl
  | cjSample _ _ => exact (execCjSample_within (h := h)).mono rfl
  | ucOpenCircuitDetect _ _ => exact (execUcOpenCircuitDetect_within (h := h)).mono rfl
  | testPulse _ => exact (execTestPulse_within (h := h)).mono rfl
  | testPulseEnd _ _ => exact (execTestPulseEnd_within (h := h)).mono rfl
  | ucComplianceLowDetect _ _ => exact (execUcComplianceLowDetect_within (h := h)).mono rfl
  | ucShortCircuitDetect _ _ => exact (execUcShortCircuitDetect_within (h := h)).mono rfl
  | ucLoopSupplyLimit _ => exact (execUcLoopSupplyLimit_within (h := h)).mono rfl
  | converterRegulationFault _ => exact (execConverterRegulationFault_within (h := h)).mono rfl
  | channelReconfigStep _ => exact (execChannelReconfigStep_within (h := h)).mono rfl
  | digitalTransitionAccepted _ => exact (execDigitalTransitionAccepted_within (h := h)).mono rfl
  | stateWordSend _ => exact (execStateWordSend_within (h := h)).mono rfl
  | digitalAlignment _ => exact (execDigitalAlignment_within (h := h)).mono rfl
  | chatterClear _ => exact (execChatterClear_within (h := h)).mono rfl
  | outputMismatchDetect _ _ => exact (execOutputMismatchDetect_within (h := h)).mono rfl
  | switchShortCircuit _ _ => exact (execSwitchShortCircuit_within (h := h)).mono rfl
  | switchRetry _ => exact (execSwitchRetry_within (h := h)).mono rfl
  | groupOverloadShed _ _ _ => exact (execGroupOverloadShed_within (h := h)).mono rfl
  | openLoadDetect _ _ => exact (execOpenLoadDetect_within (h := h)).mono rfl
  | fsLowDetect _ _ _ => exact (execFsLowDetect_within (h := h)).mono rfl
  | groupConverterFault _ => exact (execGroupConverterFault_within (h := h)).mono rfl
  | encoderIndex _ => exact (execEncoderIndex_within (h := h)).mono rfl
  | encoderRefEdge _ => exact (execEncoderRefEdge_within (h := h)).mono rfl
  | periodEdge _ => exact (execPeriodEdge_within (h := h)).mono rfl
  | countTimeout _ => exact (execCountTimeout_within (h := h)).mono rfl
  | digitalReconfigStep _ => exact (execDigitalReconfigStep_within (h := h)).mono rfl
  | loopSampleTick _ => exact (execLoopSampleTick_within (h := h)).mono rfl
  | loopCopyDelivery _ _ _ _ => exact (execLoopCopyDelivery_within (h := h)).mono rfl
  | loopSampleDeadline _ => exact (execLoopSampleDeadline_within (h := h)).mono rfl
  | loopCheckpointWrite => exact (execLoopCheckpointWrite_within (h := h)).mono rfl
  | loopStateEntryReceived _ => exact (execLoopStateEntryReceived_within (h := h)).mono rfl
  | degradedTimeExpiry _ => exact (execDegradedTimeExpiry_within (h := h)).mono rfl
  | passwordLockoutEnd => exact (execPasswordLockoutEnd_within (h := h)).mono rfl
  | loginLockoutEnd _ => exact (execLoginLockoutEnd_within (h := h)).mono rfl
  | retainedCommitClosed _ => exact (execRetainedCommitClosed_within (h := h)).mono rfl
  | retentionLagWarning => exact (execRetentionLagWarning_within (h := h)).mono rfl
  | preparationCaughtUp => exact (execPreparationCaughtUp_within (h := h)).mono rfl
  | standbyReadyAck => exact (execStandbyReadyAck_within (h := h)).mono rfl
  | castAbandonDeadline => exact (execCastAbandonDeadline_within (h := h)).mono rfl
  | castPoint => exact (execCastPoint_within (h := h)).mono rfl
  | timeWrap => exact (execTimeWrap_within (h := h)).mono rfl
  | timeNsRead => exact (execTimeNsRead_within (h := h)).mono rfl
  | timeIncWrite _ => exact (execTimeIncWrite_within (h := h)).mono rfl
  | timeCtrlStep _ => exact (execTimeCtrlStep_within (h := h)).mono rfl
  | timeCtrlNewSession _ _ => exact (execTimeCtrlNewSession_within (h := h)).mono rfl
  | tempRateExpiry => exact (execTempRateExpiry_within (h := h)).mono rfl
  | ptpAnnounce _ _ => exact (execPtpAnnounce_within (h := h)).mono rfl
  | ptpSync _ _ _ _ _ _ => exact (execPtpSync_within (h := h)).mono rfl
  | ptpFollowUp _ _ _ _ => exact (execPtpFollowUp_within (h := h)).mono rfl
  | ptpDelayResp _ _ _ _ => exact (execPtpDelayResp_within (h := h)).mono rfl
  | syncTimeout => exact (execSyncTimeout_within (h := h)).mono rfl
  | offsetQuiet => exact (execOffsetQuiet_within (h := h)).mono rfl
  | ppsEdge _ => exact (execPpsEdge_within (h := h)).mono rfl
  | ppsMissing => exact (execPpsMissing_within (h := h)).mono rfl
  | ref10Measure _ => exact (execRef10Measure_within (h := h)).mono rfl
  | ppsOutSecond => exact (execPpsOutSecond_within (h := h)).mono rfl
  | plinthReload => exact (execPlinthReload_within (h := h)).mono rfl
  | timeNotValidWarning => exact (execTimeNotValidWarning_within (h := h)).mono rfl
  | drawbarTime _ => exact (execDrawbarTime_within (h := h)).mono rfl
  | timeStreamStop => exact (execTimeStreamStop_within (h := h)).mono rfl
  | rtcTicksLoRead => exact (execRtcTicksLoRead_within (h := h)).mono rfl
  | rtcCtrlLoadTicks => exact (execRtcCtrlLoadTicks_within (h := h)).mono rfl
  | rtcCtrlLoadWday => exact (execRtcCtrlLoadWday_within (h := h)).mono rfl
  | rtcCtrlMarkLost => exact (execRtcCtrlMarkLost_within (h := h)).mono rfl
  | rtcLoadApply => exact (execRtcLoadApply_within (h := h)).mono rfl
  | rtcWrap => exact (execRtcWrap_within (h := h)).mono rfl
  | dayPhaseRollover => exact (execDayPhaseRollover_within (h := h)).mono rfl
  | rtcAlarmMatch _ => exact (execRtcAlarmMatch_within (h := h)).mono rfl
  | cellMeasurement _ => exact (execCellMeasurement_within (h := h)).mono rfl
  | retentionMonitorTrip => exact (execRetentionMonitorTrip_within (h := h)).mono rfl
  | plinthPowerOnReset => exact (execPlinthPowerOnReset_within (h := h)).mono rfl
  | panelFrameStart _ => exact (execPanelFrameStart_within (h := h)).mono rfl
  | panelTempRead _ _ => exact (execPanelTempRead_within (h := h)).mono rfl
  | panelBandHold _ => exact (execPanelBandHold_within (h := h)).mono rfl
  | pwrGoodLow _ => exact (execPwrGoodLow_within (h := h)).mono rfl
  | pwrGoodTimeout _ => exact (execPwrGoodTimeout_within (h := h)).mono rfl
  | panelPowerOff _ => exact (execPanelPowerOff_within (h := h)).mono rfl
  | panelCleanIdle _ => exact (execPanelCleanIdle_within (h := h)).mono rfl
  | panelCheckpointWritten _ _ => exact (execPanelCheckpointWritten_within (h := h)).mono rfl
  | heartbeatSend => exact (execHeartbeatSend_within (h := h)).mono rfl
  | heartbeatReceived _ _ => exact (execHeartbeatReceived_within (h := h)).mono rfl
  | heartbeatLoss => exact (execHeartbeatLoss_within (h := h)).mono rfl
  | pairLiveToggle => exact (execPairLiveToggle_within (h := h)).mono rfl
  | pairLiveStale => exact (execPairLiveStale_within (h := h)).mono rfl
  | pairActIChange _ => exact (execPairActIChange_within (h := h)).mono rfl
  | activityConflict => exact (execActivityConflict_within (h := h)).mono rfl
  | fieldRefreshTimeout => exact (execFieldRefreshTimeout_within (h := h)).mono rfl
  | demoteReceived link => exact (execDemoteReceived_within (i := link) (h := h)).mono rfl
  | demotionTakeoverTimeout => exact (execDemotionTakeoverTimeout_within (h := h)).mono rfl
  | drawbarLinkChange _ _ => exact (execDrawbarLinkChange_within (h := h)).mono rfl
  | drawbarHello link _ => exact (execDrawbarHello_within (i := link) (h := h)).mono rfl
  | agreedInputsReceived _ => exact (execAgreedInputsReceived_within (h := h)).mono rfl
  | agreedInputsTimeout _ => exact (execAgreedInputsTimeout_within (h := h)).mono rfl
  | commitDigestReceived _ _ _ _ => exact (execCommitDigestReceived_within (h := h)).mono rfl
  | pairControlMessage _ => exact (execPairControlMessage_within (h := h)).mono rfl
  | crossfadeStart => exact (execCrossfadeStart_within (h := h)).mono rfl
  | crossfadeStep => exact (execCrossfadeStep_within (h := h)).mono rfl
  | handoverTime => exact (execHandoverTime_within (h := h)).mono rfl
  | handoverEnd => exact (execHandoverEnd_within (h := h)).mono rfl
  | verificationResume => exact (execVerificationResume_within (h := h)).mono rfl
  | catchupPhaseComplete _ => exact (execCatchupPhaseComplete_within (h := h)).mono rfl
  | catchupSuspend _ => exact (execCatchupSuspend_within (h := h)).mono rfl
  | outOfStepRetry => exact (execOutOfStepRetry_within (h := h)).mono rfl
  | reachDemote => exact (execReachDemote_within (h := h)).mono rfl
  | recorderWrite => exact (execRecorderWrite_within (h := h)).mono rfl
  | floodSummary => exact (execFloodSummary_within (h := h)).mono rfl
  | countEdge _ _ _ _ => exact (execCountEdge_within (h := h)).mono rfl
  | digitalInputChange _ _ => exact (execDigitalInputChange_within (h := h)).mono rfl
  | breakpointHalt _ _ => exact (execBreakpointHalt_within (h := h)).mono rfl
  | pairTimeStep => exact (execPairTimeStep_within (h := h)).mono rfl
  | tlsKeyUpdate _ _ => exact (execTlsKeyUpdate_within (h := h)).mono rfl
  | canBusError _ _ _ => exact (execCanBusError_within (h := h)).mono rfl
  | portFrameDiscard _ _ => exact (execPortFrameDiscard_within (h := h)).mono rfl
  | pwrGoodRise _ _ => exact (execPwrGoodRise_within (h := h)).mono rfl
  | perSecondCoalescing => exact (execPerSecondCoalescing_within (h := h)).mono rfl
/-- Settles O10: each row's frame lies within the parts that `touches` names for it. -/
theorem everyCommandKeepsToItsFrame : Obligations.EveryCommandKeepsToItsFrame := by
  unfold Obligations.EveryCommandKeepsToItsFrame
  exact fun _ _ _ => exec_within

/-! ## The queue and the step (R474, R475) -/

/-- Settles O2: each meaning is a next state by definition. -/
theorem noCommandStopsTheBlock : Obligations.NoCommandStopsTheBlock := by
  unfold Obligations.NoCommandStopsTheBlock Safe
  intro c s
  cases c <;> exact ⟨_, rfl⟩

/-- No command may change the queue. -/
theorem touches_pending (c : Instr) : (touches c).contains .pending = false := by
  cases c <;> rfl

theorem exec_pending {c : Instr} {s t : State} (h : exec c s = .next t) : t.pending = s.pending :=
  (exec_within h).same .pending (touches_pending c)

theorem step_cons {c : Instr} {rest : List Instr} {s : State} (h : s.pending = c :: rest) :
    step s = exec c { s with pending := rest } := by
  unfold step
  rw [h]

theorem step_nil {s : State} (h : s.pending = []) : step s = .next (idleTick s) := by
  unfold step
  rw [h]

/-- A step is the front command on the state with the queue's rest, or an idle tick of an empty queue. -/
theorem step_cases {s t : State} (h : step s = .next t) :
    (s.pending = [] ∧ t = idleTick s) ∨ (∃ c rest, s.pending = c :: rest ∧ exec c { s with pending := rest } = .next t) := by
  cases hq : s.pending with
  | nil =>
    rw [step_nil hq] at h
    exact .inl ⟨rfl, (Host.Outcome.next.inj h).symm⟩
  | cons c rest => exact .inr ⟨c, rest, rfl, step_cons hq ▸ h⟩

/-- Settles O1. -/
theorem stepRunsTheFrontCommand : Obligations.StepRunsTheFrontCommand := by
  unfold Obligations.StepRunsTheFrontCommand
  exact ⟨fun _ _ _ => step_cons, fun _ => step_nil⟩

/-- Settles O3: the queue lies outside every command's frame and outside the idle tick's. -/
theorem commandsTakenFirstInFirstOut : Obligations.CommandsTakenFirstInFirstOut := by
  unfold Obligations.CommandsTakenFirstInFirstOut
  refine ⟨fun _ _ _ => exec_pending, fun s t h => ?_⟩
  obtain ⟨hq, rfl⟩ | ⟨c, rest, hq, hc⟩ := step_cases h
  · rw [(idleTick_within s).same .pending rfl, hq]
    rfl
  · rw [exec_pending hc, hq]
    rfl

/-! ## The firmware store goes on as `FirmwareNext` says (R499, R545 to R556) -/

theorem Goes.firmwareNext {s t : State} (h : Goes (kept s) (kept t)) : FirmwareNext s.fw t.fw := h.2.2

/-- A frame without the firmware unit. -/
theorem Within.firmwareNext {ps : List Part} {s t : State} (h : Within ps s t) (c : ps.contains .fw = false) :
    FirmwareNext s.fw t.fw := by
  rw [show t.fw = s.fw from h.same .fw c]
  exact .refl _

/-- The commands of the update and of starts, which may change the firmware store. -/
def movesFirmware : Instr → Bool
  | .updBegin _ | .updBlock _ | .updVerify _ | .updActivate _ | .updCancel _ => true
  | .feedRestored _ | .holdUpEnd | .resetN | .mgmtWatchdogReset | .startDelayExpiry => true
  | .start _ _ | .startTimeout | .pairStartWaitExpiry | .drawbarHello _ _ => true
  | _ => false

theorem touches_fw (c : Instr) : (touches c).contains .fw = movesFirmware c := by
  cases c <;> rfl

theorem exec_firmwareNext {c : Instr} {s t : State} (h : exec c s = .next t) : FirmwareNext s.fw t.fw := by
  cases hc : movesFirmware c with
  | false => exact (exec_within h).firmwareNext ((touches_fw c).trans hc)
  | true =>
    refine Goes.firmwareNext ?_
    cases c with
    | updBegin m => exact execUpdBegin_goes m s t h
    | updBlock m => exact execUpdBlock_goes m s t h
    | updVerify m => exact execUpdVerify_goes m s t h
    | updActivate m => exact execUpdActivate_goes m s t h
    | updCancel m => exact execUpdCancel_goes m s t h
    | feedRestored f => exact execFeedRestored_goes f s t h
    | holdUpEnd => exact execHoldUpEnd_goes s t h
    | resetN => exact execResetN_goes s t h
    | mgmtWatchdogReset => exact execMgmtWatchdogReset_goes s t h
    | startDelayExpiry => exact execStartDelayExpiry_goes s t h
    | start failed lines => exact execStart_goes failed lines s t h
    | startTimeout => exact execStartTimeout_goes s t h
    | pairStartWaitExpiry => exact execPairStartWaitExpiry_goes s t h
    | drawbarHello link hello => exact execDrawbarHello_goes link hello s t h
    | _ => cases hc

theorem step_firmwareNext {s t : State} (h : step s = .next t) : FirmwareNext s.fw t.fw := by
  obtain ⟨-, rfl⟩ | ⟨c, rest, -, hc⟩ := step_cases h
  · exact (idleTick_within s).firmwareNext rfl
  · exact exec_firmwareNext (s := { s with pending := rest }) hc

/-- Settles O4. -/
theorem firmwareInvariantAtReset : Obligations.FirmwareInvariantAtReset := by
  unfold Obligations.FirmwareInvariantAtReset FirmwareInv
  decide

/-- Settles O5: `FirmwareNext` carries the invariant over every step. -/
theorem firmwareInvariantKeptByEveryStep : Obligations.FirmwareInvariantKeptByEveryStep := by
  unfold Obligations.FirmwareInvariantKeptByEveryStep
  intro s t hi h
  obtain ⟨-, -, -, -, keeps⟩ := step_firmwareNext h
  exact keeps hi

/-- Settles O7: `FirmwareNext` keeps the identity over every step. -/
theorem identityNeverChanges : Obligations.IdentityNeverChanges := by
  unfold Obligations.IdentityNeverChanges
  intro s t h
  obtain ⟨-, serial, order, pci, -⟩ := step_firmwareNext h
  exact ⟨serial, order, pci⟩

/-! ## MIN_SECURITY_VERSION (R548) -/

/-- The bank that runs is CONFIRMED, no image is on TRIAL, and MIN_SECURITY_VERSION is that image's SECURITY_VERSION. -/
def ConfirmedAtMinimum (f : Firmware) : Prop := f.trial = false ∧ f.minSecurity = fwImageSecurity f.bank[f.confirmed]

@[simp] theorem record_fw (sev code src data s) : (record sev code src data s).fw = s.fw := (record_within ..).same .fw rfl

@[simp] theorem audit_fw (code src session data s) : (audit code src session data s).fw = s.fw := (audit_within ..).same .fw rfl

theorem fw_of_kept {s t : State} (h : kept t = kept s) : t.fw = s.fw := congrArg (·.2.1) h

theorem trialFailed_minSecurity (s) : (trialFailed s).fw.minSecurity = s.fw.minSecurity := by
  unfold trialFailed
  split
  · simp only [record_fw, audit_fw, fwMod]
  · rfl

theorem accountStart_minSecurity (c s) : (accountStart c s).fw.minSecurity = s.fw.minSecurity := by
  unfold accountStart
  rw [show ∀ a b u, (bkpWrite a b u).fw = u.fw from fun _ _ _ => fw_of_kept (bkpWrite_kept ..)]
  split
  · rw [trialFailed_minSecurity, fw_of_kept (recordFailure_kept s)]
  · rfl

theorem stepOne_minSecurity (s) : (stepOne s).fw.minSecurity = s.fw.minSecurity := by
  unfold stepOne
  extract_lets r lost s1 cold s2
  have h1 : s1.fw = s.fw :=
    fw_of_kept (by simp only [s1, r, startAlarms_kept, plinthCheck_kept, demandClock_kept, firstSample_kept])
  rw [← h1]
  exact accountStart_minSecurity cold s1

theorem enterBoot_minSecurity (p s) : (enterBoot p s).fw.minSecurity = s.fw.minSecurity := stepOne_minSecurity _

theorem failStart_minSecurity (s) : (failStart s).fw.minSecurity = s.fw.minSecurity := by
  unfold failStart
  rw [fw_of_kept (openHost_kept _), fw_of_kept (enterSafe_kept _), fw_of_kept (bkp2Bit_kept ..), fw_of_kept (recordFailure_kept _),
    trialFailed_minSecurity]

theorem copyFirmware_minSecurity (p s) : (copyFirmware p s).fw.minSecurity = s.fw.minSecurity := by
  unfold copyFirmware
  split
  · rfl
  split
  · rw [record_fw]
  · dsimp only
    split
    · rw [audit_fw]; rfl
    · rw [record_fw]; rfl

/-- MIN_SECURITY_VERSION stays, or the image then confirmed is at it (R548). -/
def MinRaised (f g : Firmware) : Prop := g.minSecurity = f.minSecurity ∨ ConfirmedAtMinimum g

theorem MinRaised.of_kept {f : Firmware} {s t : State} (h : kept t = kept s) (k : MinRaised f s.fw) : MinRaised f t.fw := by
  rwa [fw_of_kept h]

theorem MinRaised.of_eq {f g h : Firmware} (e : g.minSecurity = f.minSecurity) (k : MinRaised g h) : MinRaised f h := by
  unfold MinRaised at k ⊢
  rwa [← e]

theorem startComplete_raises (s : State) : MinRaised s.fw (startComplete s).fw := by
  unfold startComplete
  extract_lets m s1 s2
  have h1 : s1.fw = s.fw := (bkp2Bit_within ..).same .fw rfl
  have h2 : s2.fw.minSecurity = s.fw.minSecurity := by rw [← h1]; rfl
  split
  · rw [audit_fw]
    by_cases hm : fwImageSecurity (runImage s2) ≤ s2.fw.minSecurity
    · exact .inl ((max_eq_left hm).trans h2)
    · have hr : runImage s2 = s2.fw.bank[s2.fw.running] := by
        unfold runImage vget
        rw [Vector.getElem?_eq_getElem s2.fw.running.isLt]
        rfl
      exact .inr ⟨rfl, (max_eq_right (by omega)).trans (congrArg fwImageSecurity hr)⟩
  · exact .inl h2

theorem enterTarget_raises (m ps a s) : MinRaised s.fw (enterTarget m ps a s).fw := by
  unfold enterTarget
  extract_lets p r1 r2 r3 r4 u
  have h : MinRaised s.fw u.fw := startComplete_raises _
  clear_value u
  split <;> exact h.of_kept (by simp +zetaDelta)

theorem becomeActive_raises (s) : MinRaised s.fw (becomeActive s).fw := by
  unfold becomeActive
  dsimp only
  split
  · exact (enterTarget_raises ..).of_kept (ownerTakeover_kept _)
  · exact enterTarget_raises ..

theorem becomeStandby_raises (s) : MinRaised s.fw (becomeStandby s).fw :=
  (enterTarget_raises ..).of_kept (beginCatchup_kept _)

theorem decideRole_raises (s) : MinRaised s.fw (decideRole s).fw := by
  unfold decideRole
  split
  · exact enterTarget_raises ..
  split
  · exact becomeActive_raises s
  split
  · exact becomeStandby_raises s
  split
  · exact becomeActive_raises s
  · exact .inl rfl

theorem decideByHello_raises (h s) : MinRaised s.fw (decideByHello h s).fw := by
  unfold decideByHello
  extract_lets mine
  split
  · exact becomeActive_raises s
  · exact becomeStandby_raises s

theorem startRest_raises (c l s) : MinRaised s.fw (startRest c l s).fw := by
  unfold startRest
  extract_lets s1 s2 s3
  have h : kept (openHost (startNetwork (startLanes s3))) = kept s := by simp [s3, s2, s1]
  exact .of_eq (congrArg Firmware.minSecurity (fw_of_kept h)) (decideRole_raises _)

theorem runStart_raises (f l s) : MinRaised s.fw (runStart f l s).fw := by
  unfold runStart
  dsimp only
  generalize hs : ite (s.modes.begun.isSome = true) s _ = s0
  have h0 : s0.fw.minSecurity = s.fw.minSecurity := by
    rw [← hs]
    split
    · rfl
    · exact stepOne_minSecurity _
  generalize hu : loadBank _ = u
  have h1 : u.fw.minSecurity = s.fw.minSecurity := by
    rw [← h0, ← hu]
    rfl
  split
  · exact .of_eq h1 (.of_kept (by simp) (.inl rfl))
  have hb : (bistOutcome f (runBist f (copyFirmware (startPlan s) (recorderScan u)))).1.fw.minSecurity = s.fw.minSecurity := by
    rw [fw_of_kept (bistOutcome_kept ..), fw_of_kept (runBist_kept ..), copyFirmware_minSecurity, fw_of_kept (recorderScan_kept u), h1]
  split
  · exact .inl ((failStart_minSecurity _).trans hb)
  · exact .of_eq hb (startRest_raises ..)

/-! ## MIN_SECURITY_VERSION of the rows -/

/-- The rows that may complete a start. -/
def completesStart : Instr → Bool
  | .start _ _ | .pairStartWaitExpiry | .drawbarHello _ _ => true
  | _ => false

theorem exec_completesStart_raises {c : Instr} {s t : State} (hc : completesStart c = true) (h : exec c s = .next t) :
    MinRaised s.fw t.fw := by
  cases c with
  | start failed lines =>
    cases h
    split
    · exact runStart_raises failed lines s
    · exact .inl rfl
  | pairStartWaitExpiry =>
    cases h
    split
    · split
      · exact .inl rfl
      split
      · exact becomeStandby_raises s
      · exact becomeActive_raises s
    · exact .inl rfl
  | drawbarHello link hello =>
    cases h
    extract_lets u
    have hu : kept u = kept s := by simp [u]
    split
    · exact .inl rfl
    · split
      · exact .of_eq (congrArg Firmware.minSecurity (fw_of_kept hu)) (decideByHello_raises hello (emit .hello u))
      · exact .of_kept hu (.inl rfl)
    · exact .of_kept ((helloStandby_kept hello u).trans hu) (.inl rfl)
    · split
      · exact .of_kept ((emit_kept .hello u).trans hu) (.inl rfl)
      · exact .of_kept hu (.inl rfl)
    · split
      · exact .of_kept ((emit_kept .hello u).trans hu) (.inl rfl)
      · exact .of_kept hu (.inl rfl)
    · split
      · exact .of_kept ((emit_kept .hello u).trans hu) (.inl rfl)
      · exact .of_kept hu (.inl rfl)
    · exact .of_kept hu (.inl rfl)
  | _ => cases hc

theorem runCommand_minSecurity (m k) (f : Req → State → State × Resp) (s) (h : ∀ q, (f q s).1.fw.minSecurity = s.fw.minSecurity) :
    (runCommand k m f s).fw.minSecurity = s.fw.minSecurity := by
  unfold runCommand
  split
  · rfl
  · split
    · exact (congrArg Firmware.minSecurity (fw_of_kept (respond_kept ..))).trans (h _)
    · rfl

theorem exec_minSecurity {c : Instr} {s t : State} (hc : completesStart c = false) (h : exec c s = .next t) :
    t.fw.minSecurity = s.fw.minSecurity := by
  cases hf : movesFirmware c with
  | false => exact congrArg Firmware.minSecurity ((exec_within h).same .fw ((touches_fw c).trans hf))
  | true =>
    cases c with
    | updBegin m | updBlock m | updVerify m | updActivate m | updCancel m =>
      cases h
      refine runCommand_minSecurity _ _ _ _ fun q => ?_
      dsimp -failIfUnchanged only
      repeat' split
      all_goals simp only [audit_fw, fwMod, fwRelease]
    | feedRestored f =>
      cases h
      have restored (u : State) (hu : u.fw = s.fw) :
          (if s.modes.mode = .plinth then enterBoot (plainStart .power) u else u).fw.minSecurity = s.fw.minSecurity := by
        rw [← hu]
        split
        · exact enterBoot_minSecurity _ u
        · rfl
      cases f <;> exact restored _ rfl
    | holdUpEnd =>
      cases h
      have hp : (plinthState (settleWriting s)).fw = s.fw := fw_of_kept (by rw [plinthState_kept, settleWriting_kept])
      split
      · rfl
      extract_lets u
      split
      · exact (enterBoot_minSecurity _ u).trans (congrArg Firmware.minSecurity hp)
      · exact congrArg Firmware.minSecurity hp
    | resetN | mgmtWatchdogReset =>
      cases h
      split
      · exact enterBoot_minSecurity ..
      · rfl
    | startDelayExpiry =>
      cases h
      split
      · split
        · exact enterBoot_minSecurity ..
        · rfl
      · rfl
    | startTimeout =>
      cases h
      split
      · exact failStart_minSecurity s
      · rfl
    | start | pairStartWaitExpiry | drawbarHello => cases hc
    | _ => cases hf

/-- Settles O6: only the completion of a start raises MIN_SECURITY_VERSION, to that of the image it confirms. -/
theorem securityVersionNeverFalls : Obligations.SecurityVersionNeverFalls := by
  unfold Obligations.SecurityVersionNeverFalls
  refine ⟨fun s t h => (step_firmwareNext h).1, fun c s t h hne => ?_⟩
  have hc : completesStart c = true := by
    by_contra hc
    exact hne (exec_minSecurity (Bool.eq_false_iff.mpr hc) h)
  refine ⟨?_, (exec_completesStart_raises hc h).resolve_left hne⟩
  cases c with
  | start failed lines => exact .inl ⟨failed, lines, rfl⟩
  | drawbarHello link hello => exact .inr (.inl ⟨link, hello, rfl⟩)
  | pairStartWaitExpiry => exact .inr (.inr rfl)
  | _ => cases hc

/-! ## The life-cycle state (R429, R461, R462) -/

/-- The commands whose frame holds the life-cycle state: LIFECYCLE_SET, the partner's messages, and the entries to BOOT. -/
def framesLife : Instr → Bool
  | .lifecycleSet _ | .pairControlMessage _ => true
  | .feedRestored _ | .holdUpEnd | .resetN | .mgmtWatchdogReset | .startDelayExpiry => true
  | _ => false

theorem touches_life (c : Instr) : (touches c).contains .life = framesLife c := by
  cases c <;> rfl

/-- A life-cycle message changes the life-cycle state only of a standby, to the state it carries (R429). -/
theorem execPairControlMessage_life {n : Nat} {s t : State} (h : execPairControlMessage (.lifecycle n) s = .next t)
    (hne : t.modes.life ≠ s.modes.life) : s.modes.mode = .standby ∧ lifeOf n = some t.modes.life := by
  cases h
  have hu : (drawbarArrives (pairUnit (fun p => { p with ctrlSeq := p.ctrlSeq + 1 }) s)).modes.life = s.modes.life :=
    congrArg (·.2.2) (show kept _ = kept s by rw [drawbarArrives_kept, pairUnit_kept])
  dsimp only at hne ⊢
  split at hne
  · rename_i hm
    refine ⟨hm, ?_⟩
    rw [if_pos hm]
    unfold applyControl at hne ⊢
    dsimp only at hne ⊢
    cases hl : lifeOf n with
    | some l => rfl
    | none => rw [hl] at hne; exact absurd hu hne
  · exact absurd hu hne

/-- Settles O8: outside the entries to BOOT, which keep it, only LIFECYCLE_SET and the partner's message may change the state. -/
theorem lifecycleMovesOnlyAsListed : Obligations.LifecycleMovesOnlyAsListed := by
  unfold Obligations.LifecycleMovesOnlyAsListed
  intro c s t h hne
  have hc : framesLife c = true := by
    by_contra hc
    exact hne ((exec_within h).same .life ((touches_life c).trans (Bool.eq_false_iff.mpr hc)))
  have keeps (k : Goes (kept s) (kept t)) : False := hne k.2.1
  cases c with
  | lifecycleSet m =>
    obtain ⟨-, -, hl⟩ := execLifecycleSet_goes m s t h
    exact .inl ⟨m, rfl, hl.resolve_left hne⟩
  | pairControlMessage x =>
    by_cases hx : ∃ n, x = .lifecycle n
    · obtain ⟨n, rfl⟩ := hx
      exact .inr ⟨n, rfl, execPairControlMessage_life h hne⟩
    · exact absurd (congrArg (·.2.2) (execPairControlMessage_kept x s t h fun n hn => hx ⟨n, hn⟩)) hne
  | feedRestored f => exact (keeps (execFeedRestored_goes f s t h)).elim
  | holdUpEnd => exact (keeps (execHoldUpEnd_goes s t h)).elim
  | resetN => exact (keeps (execResetN_goes s t h)).elim
  | mgmtWatchdogReset => exact (keeps (execMgmtWatchdogReset_goes s t h)).elim
  | startDelayExpiry => exact (keeps (execStartDelayExpiry_goes s t h)).elim
  | _ => cases hc

end Sys2Proof.Machine

namespace Sys2Proof.Machine

/-! The byte memories (R480, R481, R545), the state at reset (R394, R448, R474, R478), and the row of the catalogue that a mailbox at rest
does not leave alone (R267, R302, R513). -/

/-! ## Byte memories -/

/-- Each byte written reads as written. -/
theorem memRead_writeN (m : Mem) (a : Nat) (bs : List Byte) (h : memWf m = true) {i : Nat} (hi : i < bs.length) :
    memRead (memWriteN m a bs) (a + i) = bs.getD i 0 := by
  induction bs generalizing m a i with
  | nil => cases hi
  | cons v vs ih =>
    cases i with
    | zero => exact (tabGet_setList_below 0 _ vs (Nat.lt_succ_self a)).trans (tabGet_set_same 0 m a v h)
    | succ j =>
      have hj := ih (tabSet 0 m a v) (a + 1) (tabSet_wf 0 m a v h) (Nat.lt_of_succ_lt_succ hi)
      rw [show a + (j + 1) = a + 1 + j by omega]
      exact hj

/-- A canonical table lists what no unlisted index reads as: two that read the same everywhere are equal. -/
theorem tab_ext_from {α : Type} [DecidableEq α] (d : α) {lo : Nat} {m n : Tab α} (hm : tabWfFrom d lo m = true)
    (hn : tabWfFrom d lo n = true) (h : ∀ k, tabGet d m k = tabGet d n k) : m = n := by
  induction m generalizing lo n with
  | nil =>
    cases n with
    | nil => rfl
    | cons q n =>
      simp only [tabWfFrom, Bool.and_eq_true, decide_eq_true_eq] at hn
      exact absurd (by simpa [tabGet] using (h q.1).symm) hn.1.2
  | cons p m ih =>
    simp only [tabWfFrom, Bool.and_eq_true, decide_eq_true_eq] at hm
    obtain ⟨⟨lop, vp⟩, hm⟩ := hm
    cases n with
    | nil => exact absurd (by simpa [tabGet] using h p.1) vp
    | cons q n =>
      simp only [tabWfFrom, Bool.and_eq_true, decide_eq_true_eq] at hn
      obtain ⟨⟨loq, vq⟩, hn⟩ := hn
      have first : p.1 = q.1 := by
        rcases Nat.lt_trichotomy p.1 q.1 with lt | eq | lt
        · have hp := h p.1
          rw [tabGet, if_pos rfl, tabGet, if_neg (by omega), tabGet_below d n hn (by omega)] at hp
          exact absurd hp vp
        · exact eq
        · have hq := h q.1
          rw [tabGet, if_neg (by omega), tabGet_below d m hm (by omega), tabGet, if_pos rfl] at hq
          exact absurd hq.symm vq
      have value : p.2 = q.2 := by simpa [tabGet, first] using h p.1
      have rest : m = n := by
        refine ih hm (first ▸ hn) fun k => ?_
        by_cases hk : p.1 + 1 ≤ k
        · simpa [tabGet, ← first, show p.1 ≠ k by omega] using h k
        · rw [tabGet_below d m hm (by omega), tabGet_below d n hn (by omega)]
      rw [Prod.ext first value, rest]

/-- Settles O55. -/
theorem byteMemoriesReadBackAndStayCanonical : Obligations.ByteMemoriesReadBackAndStayCanonical := by
  unfold Obligations.ByteMemoriesReadBackAndStayCanonical
  refine ⟨fun m a bs h => ⟨memWriteN_wf m a bs h, fun i hi => memRead_writeN m a bs h hi, fun k hk => memRead_writeN_other m a k bs hk,
    memReadN_writeN m a bs h⟩, fun m n hm hn h => ?_⟩
  exact tab_ext_from 0 hm hn h

/-! ## The state at reset -/

/-- Settles O56: the reset value of each field named. -/
theorem resetStateIsAStartInBoot : Obligations.ResetStateIsAStartInBoot := by
  unfold Obligations.ResetStateIsAStartInBoot
  refine ⟨rfl, rfl, rfl, rfl, fun n => ?_, fun t => ?_, fun k => ?_, rfl, rfl, rfl, fun l => ?_⟩
  · simp [State.reset, hostIfReset, mailboxReset]
  · simp [State.reset, hostIfReset]
  · simp [State.reset, hostIfReset]
  · cases l <;> rfl

/-! ## CHAN_TEST in a mailbox at rest (R267, R302) -/

/-- The state after reset with safety function 0 OPERATING on digital output 0, whose output mismatch stands; no mailbox is RUNNING. -/
def mismatchedOutput : State :=
  { State.reset with
    dig := State.reset.dig.set 0 { digReset with mismatch := true }
    safety := { State.reset.safety with
      func := [(0, { funcReset with st := .operating, rcd := zeros 13 ++ [1, 0, 0, 0] })] } }

theorem mismatchedOutput_idle : ¬∃ q, InFlight (.loc 0) 0x0702 q mismatchedOutput := by
  rintro ⟨q, b, hb, hst, -⟩
  cases hb
  exact absurd hst (by decide)

/-- The safety functions react to what stands on their outputs whenever the row runs, whatever its mailbox holds (R302). -/
theorem chanTest_forces_safe :
    exec (.chanTest (.loc 0) true 0) mismatchedOutput = .next (reacting (stepChanTest (.loc 0) true 0) mismatchedOutput) ∧
    (funcAt 0 (reacting (stepChanTest (.loc 0) true 0) mismatchedOutput)).st = .forcedSafe :=
  ⟨rfl, by decide +kernel⟩

/-- Refutes O9: CHAN_TEST of an idle mailbox still lets the safety functions react, and a function OPERATING on an output whose
mismatch stands is forced safe. -/
theorem not_cataloguedCommandIsAnswered : ¬Obligations.CataloguedCommandIsAnswered := by
  unfold Obligations.CataloguedCommandIsAnswered
  intro h
  obtain ⟨-, idle⟩ := h (.chanTest (.loc 0) true 0) (.loc 0) 0x0702 mismatchedOutput rfl
  obtain ⟨runs, forced⟩ := chanTest_forces_safe
  have same := Host.Outcome.next.inj (runs.symm.trans (idle mismatchedOutput_idle))
  rw [same] at forced
  exact absurd forced (by decide)

end Sys2Proof.Machine

namespace Sys2Proof.Machine

/-! What the host interface does with a response, a submitted command, a reset of the local side and a session that ends (R473 to R486). -/

/-! ## Interrupt bits (R471) -/

theorem bit_eq_testBit (v i : Nat) : bit v i = v.testBit i := by
  rw [bit, Nat.testBit_eq_decide_div_mod_eq]
  rfl

/-- A raised interrupt's bit is set. -/
theorem raiseIrq_bit {i : Nat} (hi : i < 32) (s : State) : bit (raiseIrq i s).host.irqStatus.toNat i = true := by
  unfold raiseIrq
  split
  · assumption
  · extract_lets h t
    have ht : bit t.host.irqStatus.toNat i = true := by
      rw [bit_eq_testBit]
      simp [t, Nat.testBit_or, Nat.mod_eq_of_lt (Nat.pow_lt_pow_right (by decide : 1 < 2) hi)]
    split <;> exact ht

/-- An interrupt leaves all of the host interface but its status. -/
theorem raiseIrq_host (i : Nat) (s : State) :
    (raiseIrq i s).host = { s.host with irqStatus := (raiseIrq i s).host.irqStatus } := by
  unfold raiseIrq
  split
  · rfl
  · extract_lets h t
    split <;> rfl

/-! ## The response of a local mailbox (R474, R476, R482) -/

/-- Output and returned carriages of a local mailbox: only the window and the flags change. -/
def OnlyCarriages (s t : State) : Prop := ∃ w f, t = { s with host := { s.host with window := w, flags := f } }

theorem returned_onlyCarriages (n : Fin 16) (lo len : Nat) (ks : List Nat) {s t : State} (h : OnlyCarriages s t) :
    OnlyCarriages s (ks.foldl (fun v k => returnCarriage (.loc n) lo len k v) t) := by
  induction ks generalizing t with
  | nil => exact h
  | cons k ks ih =>
    obtain ⟨w, f, rfl⟩ := h
    exact ih ⟨w, _, rfl⟩

/-- A local mailbox that exists answers by delivering its response, after its output and its carriages. -/
theorem respond_loc (n : Fin 16) (r : Resp) (s : State) : ∃ t, OnlyCarriages s t ∧
    respond (.loc n) r s = deliver (.loc n) (responseBytes s.host.mbx[n].copy r s.host.epoch r.data.length)
      (bit (fld16 s.host.mbx[n].copy 2) 0) t := by
  refine ⟨_, returned_onlyCarriages n _ _ _ ?_, rfl⟩
  split
  · exact ⟨_, _, rfl⟩
  · exact ⟨_, _, rfl⟩

section
variable {n : Fin 16} {bytes : List Byte} {suppress : Bool} {s : State}

/-- The state of a local mailbox's delivery before its interrupt. -/
def delivered (n : Fin 16) (bytes : List Byte) (s : State) : State :=
  { s with host := { s.host with
    buffers := memWriteN s.host.buffers (n.val * 8192 + 4096) bytes
    mbx := vmod s.host.mbx n.val fun b => { b with state := 3 } } }

theorem deliver_loc : deliver (.loc n) bytes suppress s = if suppress then delivered n bytes s else raiseIrq n.val (delivered n bytes s) := rfl

theorem deliver_loc_host : (deliver (.loc n) bytes suppress s).host =
    { (delivered n bytes s).host with irqStatus := (deliver (.loc n) bytes suppress s).host.irqStatus } := by
  rw [deliver_loc]
  split
  · rfl
  · exact raiseIrq_host ..

theorem deliver_loc_within : Within [.host, .out] s (deliver (.loc n) bytes suppress s) := by
  rw [deliver_loc]
  have h : Within [.host, .out] s (delivered n bytes s) := .set_host rfl (.refl _ _)
  split
  · exact h
  · exact .step (raiseIrq_within ..) rfl h

end

/-- Settles O27. -/
theorem responsesAreDelivered : Obligations.ResponsesAreDelivered := by
  unfold Obligations.ResponsesAreDelivered
  rintro n r s u b rfl rfl
  obtain ⟨t, ⟨w, f, rfl⟩, ht⟩ := respond_loc n r s
  rw [ht]
  refine ⟨.step deliver_loc_within rfl (.set_host rfl (.refl _ _)), ?_, ?_, fun k hk => ?_, fun hs => ?_, fun hs => ?_⟩
  · rw [deliver_loc_host]
    rfl
  · rw [deliver_loc_host]
    exact vmod_same _ _ _ n.isLt
  · rw [deliver_loc_host]
    exact vmod_other _ _ _ k.isLt (fun e => hk (Fin.ext e))
  · rw [hs, deliver_loc]
    exact raiseIrq_bit (by omega) _
  · rw [hs, deliver_loc]
    exact ⟨rfl, rfl⟩

/-! ## A submitted command (R474, R478, R482) -/

section
variable {n : Fin 16} {copy : List Byte} {s : State}

theorem admitCommand_refused (hs : s.host.mbx[n].state = 1) (hcopy : s.host.mbx[n].copy = copy) {x d : Nat}
    (h : admission (.loc n) copy s = some (x, d)) :
    admitCommand (.loc n) s = deliver (.loc n) (responseBytes copy (stDetail x d) s.host.epoch 0) (bit (fld16 copy 2) 0) s := by
  subst hcopy
  simp only [admitCommand, mailboxOf, hs, h]
  rfl

theorem admitCommand_admitted (hs : s.host.mbx[n].state = 1) (hcopy : s.host.mbx[n].copy = copy) (h : admission (.loc n) copy s = none)
    {c : Nat} (hc : c = if emptyPanel (fld16 copy 0) (copy.drop 32) then 0 else fld16 copy 18) :
    (admitCommand (.loc n) s).host = { s.host with mbx := vmod s.host.mbx n.val fun b =>
      { b with state := 2, first := if c = 0 then 0 else fld16 b.copy 16, count := c } } := by
  subst hcopy
  simp only [admitCommand, mailboxOf, hs, h, ← hc, ne_eq, not_true_eq_false, if_false]
  cases demandOf (fld16 s.host.mbx[n].copy 0) (s.host.mbx[n].copy.drop 32) <;> rfl

/-- Admission changes no session. -/
theorem admitCommand_sess (hs : s.host.mbx[n].state = 1) : (admitCommand (.loc n) s).host.sess = s.host.sess := by
  cases h : admission (.loc n) s.host.mbx[n].copy s with
  | some xd =>
    obtain ⟨x, d⟩ := xd
    rw [admitCommand_refused hs rfl h, deliver_loc_host]
    rfl
  | none => rw [admitCommand_admitted hs rfl h rfl]

end

/-- The state in which a command copied from a local mailbox waits for its admission. -/
def submitted (n : Fin 16) (copy : List Byte) (s : State) : State :=
  sessionMod (.loc n) (fun x => { x with lastCommand := now s }) (mailboxMod (.loc n) (fun b => { b with state := 1, copy := copy }) s)

section
variable {n : Fin 16} {copy : List Byte} {s : State}

theorem submitted_mbx : (submitted n copy s).host.mbx[n] = { s.host.mbx[n] with state := 1, copy := copy } :=
  vmod_same s.host.mbx n.val _ n.isLt

theorem submitted_lastCommand : (sessionOf (.loc n) (submitted n copy s)).lastCommand = now s :=
  congrArg Session.lastCommand (vmod_same s.host.sess n.val (fun x => { x with lastCommand := now s }) n.isLt)

theorem submit_loc : submit (.loc n) copy s =
    if s.pair.st = .demoting then submitted n copy s else admitCommand (.loc n) (submitted n copy s) := rfl

end

/-- Settles O29. -/
theorem submittedCommandIsAdmittedOrRefused : Obligations.SubmittedCommandIsAdmittedOrRefused := by
  unfold Obligations.SubmittedCommandIsAdmittedOrRefused
  rintro n s t copy - rfl
  have hm := submitted_mbx (n := n) (copy := copy) (s := s)
  have hst : (submitted n copy s).host.mbx[n].state = 1 := by rw [hm]
  have hcopy : (submitted n copy s).host.mbx[n].copy = copy := by rw [hm]
  rw [submit_loc]
  refine ⟨?_, fun hd => ?_, fun w hd hw => ?_⟩
  · split
    · exact submitted_lastCommand
    · rw [sessionOf, admitCommand_sess hst]
      exact submitted_lastCommand
  · rw [if_pos hd, hm]
  · rw [if_neg hd]
    obtain rfl : w = submitted n copy s := hw
    refine ⟨fun x d ha => ?_, fun c ha hc => ?_⟩
    · rw [admitCommand_refused hst hcopy ha]
      rfl
    · rw [admitCommand_admitted hst hcopy ha hc]
      refine (vmod_same _ _ _ n.isLt).trans ?_
      rw [show (submitted n copy s).host.mbx[n.val] = _ from hm]

/-! ## Sessions and local mailboxes through the operations of a reset (R477, R484, R486) -/

/-- Every session, and the local mailboxes, are as they were. -/
structure SessionsKept (s t : State) : Prop where
  /-- The sessions. -/
  sess : ∀ x, sessionOf x t = sessionOf x s
  /-- The local mailboxes. -/
  mbx : t.host.mbx = s.host.mbx

theorem SessionsKept.refl (s : State) : SessionsKept s s := ⟨fun _ => rfl, rfl⟩

theorem SessionsKept.trans {s t u : State} (h : SessionsKept s t) (k : SessionsKept t u) : SessionsKept s u :=
  ⟨fun x => (k.sess x).trans (h.sess x), k.mbx.trans h.mbx⟩

/-- A frame without the host interface. -/
theorem Within.sessionsKept {ps : List Part} {s t : State} (h : Within ps s t) (c : ps.contains .host = false) : SessionsKept s t := by
  have hh : t.host = s.host := h.same .host c
  exact ⟨fun x => by unfold sessionOf; rw [hh], by rw [hh]⟩

theorem SessionsKept.foldl {α : Type} {f : State → α → State} (h : ∀ t a, SessionsKept t (f t a)) (as : List α) (s : State) :
    SessionsKept s (as.foldl f s) := by
  induction as generalizing s with
  | nil => exact .refl s
  | cons a as ih => exact (h s a).trans (ih _)

theorem tlsMod_sessionsKept (t : Fin 8) {f : Tls → Tls} (h : ∀ c, (f c).session = c.session) (s : State) : SessionsKept s (tlsMod t f s) := by
  refine ⟨fun x => ?_, rfl⟩
  cases x with
  | loc n => rfl
  | tls y =>
    by_cases e : y.val = t.val
    · obtain rfl : y = t := Fin.ext e
      simp only [sessionOf, tlsMod]
      rw [show (vmod s.host.tls y.val fun o => o.map f)[y] = _ from vmod_same s.host.tls y.val _ y.isLt]
      cases s.host.tls[y.val] <;> simp [h]
    · simp only [sessionOf, tlsMod]
      rw [show (vmod s.host.tls t.val fun o => o.map f)[y] = _ from vmod_other s.host.tls t.val _ y.isLt e]
      rfl

theorem raiseIrq_sessionsKept (i : Nat) (s : State) : SessionsKept s (raiseIrq i s) := by
  have h := raiseIrq_host i s
  exact ⟨fun x => by unfold sessionOf; rw [h], by rw [h]⟩

theorem tlsSent_sessionsKept (t : Fin 8) (s : State) : SessionsKept s (tlsSent t s) :=
  .trans (tlsMod_sessionsKept t (by exact fun _ => rfl) s) ((demandClock_within ..).sessionsKept rfl)

theorem setFlag_sessionsKept (m : MbxId) (k : Nat) (v : Byte) (s : State) : SessionsKept s (setFlag m k v s) := by
  cases m with
  | loc n => exact ⟨fun x => by cases x <;> rfl, rfl⟩
  | tls t n => exact tlsMod_sessionsKept t (by exact fun _ => rfl) s

theorem poison_sessionsKept (m : MbxId) (k : Nat) (s : State) : SessionsKept s (poison m k s) := by
  refine (setFlag_sessionsKept m k 4 s).trans ?_
  cases m with
  | loc n => exact raiseIrq_sessionsKept 18 _
  | tls c n => exact .trans ((emit_within _ _).sessionsKept rfl) (tlsSent_sessionsKept c _)

theorem poisonAll_sessionsKept (m : MbxId) (s : State) : SessionsKept s (poisonAll m s) := .foldl (fun _ _ => poison_sessionsKept ..) _ s

theorem endSubscriptions_sessionsKept (p : SessId → Bool) (s : State) : SessionsKept s (endSubscriptions p s) := by
  unfold endSubscriptions
  extract_lets gone subs t
  have ht : SessionsKept s t := ⟨fun x => by cases x <;> rfl, rfl⟩
  have hp (m : MbxId) (k : Nat) (w : State) : SessionsKept w (if carriageFlag m k w = 2 then poison m k w else w) := by
    split
    · exact poison_sessionsKept ..
    · exact .refl w
  exact ht.trans (.foldl (fun v u => .foldl (fun w k => hp _ k w) _ v) _ t)

/-- The session that loses its role, before what it holds is given up. -/
def withoutRole (x : SessId) (s : State) : State := sessionMod x (fun c => { c with role := 0, user := [] }) s

theorem loseRole_sessionsKept (x : SessId) (s : State) : SessionsKept (withoutRole x s) (loseRole x s) := by
  unfold loseRole
  extract_lets t m t1 t2 t3
  have h1 : SessionsKept (withoutRole x s) t1 := ⟨fun y => by cases y <;> rfl, rfl⟩
  have h2 : SessionsKept t1 t2 := by
    simp only [t2]
    split
    · split
      · exact (abandonSession_within _).sessionsKept rfl
      · exact .refl _
    · exact .refl _
  have h3 : SessionsKept t2 t3 := by
    simp only [t3]
    split
    · split
      · exact (detachDebugger_within _).sessionsKept rfl
      · exact .refl _
    · exact .refl _
  exact ((h1.trans h2).trans h3).trans (endSubscriptions_sessionsKept ..)

theorem loseRole_mbx (x : SessId) (s : State) : (loseRole x s).host.mbx = s.host.mbx :=
  (loseRole_sessionsKept x s).mbx.trans (by cases x <;> rfl)

/-- A session that loses its role holds none, and no user. -/
theorem loseRole_own {m : MbxId} {b : Mailbox} {s : State} (h : mailboxOf m s = some b) :
    (sessionOf (mbxSession m) (loseRole (mbxSession m) s)).role = 0 ∧ (sessionOf (mbxSession m) (loseRole (mbxSession m) s)).user = [] := by
  rw [(loseRole_sessionsKept _ s).sess, withoutRole, sessionOf_sessionMod h]
  exact ⟨rfl, rfl⟩

theorem loseRole_other {x y : SessId} (h : y ≠ x) (s : State) : sessionOf y (loseRole x s) = sessionOf y s :=
  ((loseRole_sessionsKept x s).sess y).trans (sessionOf_sessionMod_other h _ s)

/-! ## A reset of the local side, timeouts and intervals (R477, R486, R511) -/

theorem loseRoles_mbx (ns : List (Fin 16)) (s : State) : (ns.foldl (fun t n => loseRole (.loc n) t) s).host.mbx = s.host.mbx := by
  induction ns generalizing s with
  | nil => rfl
  | cons n ns ih => exact (ih _).trans (loseRole_mbx ..)

/-- Local sessions that lose their roles one after another hold none. -/
theorem loseRoles_role (ns : List (Fin 16)) {n : Fin 16} {s : State} (h : n ∈ ns ∨ (sessionOf (.loc n) s).role = 0) :
    (sessionOf (.loc n) (ns.foldl (fun t n => loseRole (.loc n) t) s)).role = 0 := by
  induction ns generalizing s with
  | nil => exact h.resolve_left List.not_mem_nil
  | cons k ns ih =>
    by_cases hk : n = k
    · subst hk
      exact ih (.inr (loseRole_own (m := .loc n) rfl).1)
    · refine ih (h.imp (fun hm => (List.mem_cons.mp hm).resolve_left hk) fun hr => ?_)
      rw [loseRole_other (fun e => hk (SessId.loc.inj e)), hr]

/-- A mailbox of the local side once its command is discarded (R486). -/
def discarded (b : Mailbox) : Mailbox := if b.state = 1 ∨ b.state = 2 then idleMailbox b else b

theorem discarded_state (b : Mailbox) : (discarded b).state ≠ 1 ∧ (discarded b).state ≠ 2 := by
  unfold discarded
  split
  · simp [idleMailbox]
  · rename_i h
    exact not_or.mp h

theorem hostReset_mbx (s : State) : (hostReset s).host.mbx = s.host.mbx.map discarded := by
  unfold hostReset
  rw [((tryResync_within _).sessionsKept rfl).mbx, (poisonAll_sessionsKept ..).mbx, loseRoles_mbx]
  rfl

theorem hostReset_role (n : Fin 16) (s : State) : (sessionOf (.loc n) (hostReset s)).role = 0 := by
  unfold hostReset
  rw [((tryResync_within _).sessionsKept rfl).sess, (poisonAll_sessionsKept ..).sess]
  exact loseRoles_role _ (.inl (List.mem_finRange n))

/-- Settles O30. -/
theorem hostResetAndSessionsEnd : Obligations.HostResetAndSessionsEnd := by
  unfold Obligations.HostResetAndSessionsEnd
  refine ⟨fun s hs => ⟨hostReset s, ?_, ?_, fun n => ?_⟩, fun n s hr ht => ?_, fun x s h => ?_, fun k s => rfl, fun k s hk => ?_⟩
  · show execHostReset s = _
    simp only [execHostReset, hs, if_true]
  · show execPcieLinkLoss s = _
    simp only [execPcieLinkLoss, hs, if_true]
  · have hn : (hostReset s).host.mbx[n] = discarded s.host.mbx[n] := by simp [hostReset_mbx]
    rw [hn]
    exact ⟨(discarded_state _).1, (discarded_state _).2, hostReset_role n s⟩
  · refine ⟨tryResync (loseRole (.loc n) s), ?_, ?_⟩
    · show execSessionTimeout (.loc n) s = _
      unfold execSessionTimeout
      rw [if_pos ⟨hr, ht⟩]
    · rw [((tryResync_within _).sessionsKept rfl).sess]
      exact loseRole_own (m := .loc n) rfl
  · show execSessionTimeout x s = _
    unfold execSessionTimeout
    rw [if_neg]
    rintro ⟨hr, ht⟩
    exact h.elim hr fun hlt => absurd ht (by omega)
  · have hv : vget none s.host.subs k.val = none := by simpa [vget] using hk
    show execSubscriptionIntervalExpiry k s = _
    simp only [execSubscriptionIntervalExpiry, subFill, hv]

end Sys2Proof.Machine

namespace Sys2Proof.Machine

/-! What IDENT_GET, STATUS_GET, HEALTH_MAP_GET and MODE_GET answer, field by field (R457, R499, R500). -/

/-! ## Fields of a layout -/

/-- Bytes within part `i` of a layout whose parts have the lengths `ls`. -/
theorem slice_within_part {ps : List (List Byte)} {ls : List Nat} (h : ps.map List.length = ls) {i : Nat} {x : List Byte}
    (hx : ps[i]? = some x) {j n : Nat} (hj : j + n ≤ x.length) : slice ps.flatten ((ls.take i).sum + j) n = slice x j n := by
  obtain ⟨hi, rfl⟩ := List.getElem?_eq_some_iff.mp hx
  have hps : ps.flatten = (ps.take i).flatten ++ (ps[i] ++ (ps.drop (i + 1)).flatten) := by
    rw [← List.flatten_cons, ← List.drop_eq_getElem_cons hi, ← List.flatten_append, List.take_append_drop]
  have hlen : (ps.take i).flatten.length = (ls.take i).sum := by rw [List.length_flatten, List.map_take, h]
  rw [hps, slice_append_right (by omega), hlen, Nat.add_sub_cancel_left, slice_append_left hj]

/-- Part `i` of a layout. -/
theorem slice_part {ps : List (List Byte)} {ls : List Nat} (h : ps.map List.length = ls) (i : Nat) {x : List Byte} {n : Nat}
    (hx : ps[i]? = some x) (hn : ls[i]? = some n) : slice ps.flatten (ls.take i).sum n = x := by
  obtain rfl : x.length = n := by simpa [← h, hx] using hn
  exact (slice_within_part h hx (j := 0) (by omega)).trans (slice_self rfl)

theorem length_flatMap_range {f : Nat → List Byte} {w : Nat} (hf : ∀ k, (f k).length = w) (m : Nat) :
    ((List.range m).flatMap f).length = w * m := by
  simp [hf, Nat.mul_comm]

/-- Entry `u` of a table of entries of `w` bytes. -/
theorem slice_flatMap_range {f : Nat → List Byte} {w : Nat} (hf : ∀ k, (f k).length = w) {m u : Nat} (hu : u < m) :
    slice ((List.range m).flatMap f) (w * u) w = f u := by
  induction m with
  | zero => cases hu
  | succ m ih =>
    have hlen := length_flatMap_range hf m
    rw [List.range_succ, List.flatMap_append, List.flatMap_singleton]
    rcases Nat.lt_succ_iff_lt_or_eq.mp hu with lt | rfl
    · rw [slice_append_left, ih lt]
      rw [hlen]
      calc w * u + w = w * (u + 1) := (Nat.mul_succ w u).symm
        _ ≤ w * m := Nat.mul_le_mul_left w lt
    · rw [slice_append_right (by omega), hlen, Nat.sub_self, slice_self (hf u)]

/-! ## IDENT_GET (R499) -/

/-- The fields of `IDENT_GET` in their order. -/
def identParts (s : State) : List (List Byte) :=
  [slice s.fw.orderCode 0 16, slice s.fw.serial 0 16, macBytes s.net.mac, le 1 (b2n s.pair.position), zeros 1, le 4 (fwVersion s),
    le 2 0x0200, le 1 (ownStation s), le 1 (lifeCode s.modes.life), le 8 s.fw.pciIds.toNat, le 8 (imageId (activeImage s)),
    le 8 s.cfg.configId, le 4 (tableIdOf s.cfg.cur), zeros 4]

@[simp] theorem macBytes_length (m : BitVec 48) : (macBytes m).length = 6 := by simp [macBytes, be]

theorem identParts_lengths (s : State) : (identParts s).map List.length = [16, 16, 6, 1, 1, 4, 2, 1, 1, 8, 8, 8, 4, 4] := by
  simp [identParts]

theorem identGet_reports {m : MbxId} {q : Req} {s : State} (h : InFlight m 0x0101 q s) :
    Answers (.identGet m) m s (ok (identParts s).flatten) s := by
  refine answers_of_runCommand h rfl ?_
  simp only [identParts, List.flatten_cons, List.flatten_nil, List.append_assoc, List.append_nil]

/-! ## STATUS_GET (R500) -/

/-- The fields of `STATUS_GET` in their order. -/
def statusParts (s : State) : List (List Byte) :=
  [le 1 (modeCode s.modes.mode), le 1 (pairCode s.pair.st), le 1 (lifeCode s.modes.life), le 1 (configCode s.cpl.config),
    le 2 (laneCode (laneAt .a s).st + 16 * laneCode (laneAt .b s).st + 256 * laneCode (laneAt .c s).st),
    le 1 (capability s), le 1 (statusInputs s), le 4 (pseqStatus s.power).toNat, le 4 (timeStatus s.time).toNat,
    le 8 (now s), le 4 s.host.epoch.toNat, le 1 (exchCode s.prog.st), le 1 s.fw.st,
    le 2 ((bkpWord 2 s).toNat % 65536), le 8 s.prog.cast, le 4 (taskBits (·.switched) s).toNat,
    le 4 (retentionLag s / us), le 4 (publicationLag s / us), le 4 s.pub.queue.length,
    le 8 (imageId (activeImage s)), le 8 ((slotIn .verified s).elim 0 fun n => imageId (slotImage n s)),
    taskNos.flatMap fun t => le 1 (statusTask t s), le 2 (failedUnits s),
    le 2 (s.loop.loops.filter fun p => p.2.mode == .fallback).length,
    le 2 (s.safety.func.filter fun p => p.2.st == .forcedSafe).length, le 2 s.image.forces.length, zeros 16]

theorem statusParts_lengths (s : State) : (statusParts s).map List.length =
    [1, 1, 1, 1, 2, 1, 1, 4, 4, 8, 4, 1, 1, 2, 8, 4, 4, 4, 4, 8, 8, 32, 2, 2, 2, 2, 16] := by
  simp [statusParts, taskNos]

theorem statusBytes_eq (s : State) : statusBytes s = (statusParts s).flatten := by
  unfold statusBytes statusParts
  simp only [List.flatten_cons, List.flatten_nil, List.append_assoc, List.append_nil]

theorem statusGet_reports {m : MbxId} {q : Req} {s : State} (h : InFlight m 0x0102 q s) :
    Answers (.statusGet m) m s (ok (statusParts s).flatten) s :=
  answers_of_runCommand h rfl (congrArg (fun p => (s, ok p)) (statusBytes_eq s))

/-- The byte of a task in `STATUS_GET`. -/
theorem statusParts_task (t : Fin 32) (s : State) : slice (statusParts s).flatten (72 + t.val) 1 =
    le 1 (if (s.task[t]).defn.isSome then taskCode (s.task[t]).st else 0xFF) := by
  have hpart := slice_within_part (statusParts_lengths s) (i := 21) rfl (j := 1 * t.val) (n := 1)
    (by simp only [taskNos, length_flatMap_range (fun _ => le_length ..)]; omega)
  have hbyte := slice_flatMap_range (f := fun t => le 1 (statusTask t s)) (fun _ => le_length ..) t.isLt
  have htask : taskAt t.val s = some s.task[t] := Vector.getElem?_eq_getElem t.isLt
  rw [Nat.one_mul] at hpart hbyte
  refine (hpart.trans hbyte).trans ?_
  rw [statusTask, htask]

/-! ## HEALTH_MAP_GET (R457) -/

theorem healthEntry_length (s : State) (u : Nat) : (healthEntry u s).length = 16 := by
  unfold healthEntry
  split <;> simp

theorem healthMapGet_reports {m : MbxId} {q : Req} {s : State} (h : InFlight m 0x0103 q s) :
    Answers (.healthMapGet m) m s (ok ((List.range 64).flatMap fun u => healthEntry u s)) s := answers_of_runCommand h rfl rfl

/-! ## The statement -/

/-- Settles O12. -/
theorem identityAndStatusAreReported : Obligations.IdentityAndStatusAreReported := by
  unfold Obligations.IdentityAndStatusAreReported
  refine ⟨fun m q s h => ⟨_, identGet_reports h, ?_⟩, fun m q s h => ⟨_, statusGet_reports h, ?_⟩,
    fun m q s h => ⟨_, healthMapGet_reports h, ?_, fun u hu => ?_⟩, fun m q s h => answers_of_runCommand h rfl rfl⟩
  · have part := @slice_part (identParts s) _ (identParts_lengths s)
    exact ⟨by rw [List.length_flatten, identParts_lengths]; rfl,
      part 0 rfl rfl, part 1 rfl rfl, part 2 rfl rfl, part 3 rfl rfl, part 4 rfl rfl, part 5 rfl rfl, part 6 rfl rfl, part 7 rfl
      rfl, part 8 rfl rfl, part 9 rfl rfl, part 10 rfl rfl, part 11 rfl rfl, part 12 rfl rfl, part 13 rfl rfl⟩
  · have part := @slice_part (statusParts s) _ (statusParts_lengths s)
    exact ⟨by rw [List.length_flatten, statusParts_lengths]; rfl,
      part 0 rfl rfl, part 1 rfl rfl, part 2 rfl rfl, part 3 rfl rfl, part 4 rfl rfl, part 5 rfl rfl, part 6 rfl rfl, part 7 rfl
      rfl, part 8 rfl rfl, part 9 rfl rfl, part 10 rfl rfl, part 11 rfl rfl, part 12 rfl rfl, part 13 rfl rfl, part 14 rfl rfl,
      part 15 rfl rfl, part 16 rfl rfl, part 17 rfl rfl, part 18 rfl rfl, part 19 rfl rfl, part 20 rfl rfl, (statusParts_task · s),
      part 22 rfl rfl, part 23 rfl rfl, part 24 rfl rfl, part 25 rfl rfl, part 26 rfl rfl⟩
  · exact length_flatMap_range (healthEntry_length s) 64
  · exact slice_flatMap_range (healthEntry_length s) hu

end Sys2Proof.Machine

namespace Sys2Proof.Machine

/-! MODE_SET and START_REQUEST act (R450, R451, R453, R460, R501); logins and logouts give and take roles (R464, R477, R526, R578). -/

theorem InFlight.mailbox {m : MbxId} {k : Nat} {q : Req} {s : State} (h : InFlight m k q s) : ∃ b, mailboxOf m s = some b := by
  obtain ⟨b, hb, -⟩ := h
  exact ⟨b, hb⟩

/-- Nothing is asked of a command that restarts no safety task cold (R216). -/
theorem coldAuth_unneeded (q : Req) (pw : List Byte) (s : State) : coldAuth q pw false s = (none, s) := rfl

/-! ## MODE_SET (R450, R451) -/

theorem modeSet_present {m : MbxId} {q : Req} {s : State} (h : InFlight m 0x0201 q s) (hy : modeOf (fld8 q.pay 0) = some s.modes.mode) :
    Answers (.modeSet m) m s (st stOk) s := by
  refine answers_of_runCommand h rfl ?_
  dsimp only
  simp only [hy, if_true]

/-- A transition that MODE_SET makes leaves the mode it names. -/
theorem takeMode_mode {x y : Mode} (h : modeSetListed x y = true) (cold : Bool) (s : State) : (takeMode x y cold s).modes.mode = y := by
  have follow (z : Mode) (u : State) : (followTasks s (tasksFollow z u)).modes.mode = u.modes.mode := by
    rw [(followTasks_within ..).mode_eq rfl, (tasksFollow_within ..).mode_eq rfl]
  cases y with
  | run =>
    unfold takeMode
    rw [follow]
  | stop =>
    unfold takeMode
    rw [follow, (loopsStop_within _).mode_eq rfl]
  | hold =>
    unfold takeMode
    rw [follow]
  | maintenance => exact enterMaintenance_mode s
  | plinth | boot | standby | safe => cases x <;> cases h

/-- Nothing of R451 stands against the transition. -/
theorem modeSetRefused_none {y : Mode} {s : State} (hman : s.modes.manoeuvring = true → y = .run)
    (hlock : y = .maintenance → ownerLocked s = false) (hprog : y = .run → (slotIn .active s).isSome = true)
    (hpend : s.modes.pending = none) (hplan : switchoverPlanned s = false)
    (hexch : y = .maintenance ∨ (y = .run ∧ s.modes.mode = .stop) → s.prog.st ≠ .switching ∧ s.prog.st ≠ .settling) :
    modeSetRefused y s = none := by
  unfold modeSetRefused
  cases y with
  | run =>
    have hslot : (slotIn .active s).isNone = false := by simpa using hprog rfl
    cases hm : s.modes.mode with
    | stop => simp [hslot, hpend, hplan, hexch (.inr ⟨rfl, hm⟩)]
    | _ => simp [hslot, hpend, hplan]
  | _ => simp_all

/-- The state that an accepted MODE_SET leaves. -/
def modeTaken (q : Req) (y : Mode) (s : State) : State :=
  toStandby (.modeChange (modeCode y)) (takeMode s.modes.mode y (s.modes.mode == .stop && y == .run && fld8 q.pay 1 == 1)
    (audit (0x0E00 + modeCode y) (srcUnit 8) (reqSession q s) (le 1 (modeCode s.modes.mode) ++ le 1 (fld8 q.pay 1)) s))

theorem modeTaken_mode {q : Req} {y : Mode} {s : State} (h : modeSetListed s.modes.mode y = true) : (modeTaken q y s).modes.mode = y :=
  ((toStandby_within ..).mode_eq rfl).trans (takeMode_mode h _ _)

theorem modeSet_takes {m : MbxId} {q : Req} {s : State} {y : Mode} (h : InFlight m 0x0201 q s) (hy : modeOf (fld8 q.pay 0) = some y)
    (hne : y ≠ s.modes.mode) (hlisted : modeSetListed s.modes.mode y = true)
    (hrole : roleIncludes (roleOf q s) (modeSetRole s.modes.mode y s) = true)
    (hwarm : ¬(s.modes.mode = .stop ∧ y = .run ∧ fld8 q.pay 1 = 1 ∧ anySafetyTask s = true)) (hfree : modeSetRefused y s = none)
    (hroom : auditRoom s = true) : Answers (.modeSet m) m s (st stAccepted) (modeTaken q y s) := by
  have hsafe : (s.modes.mode == .stop && y == .run && fld8 q.pay 1 == 1 && anySafetyTask s) = false := by
    simpa [and_assoc] using hwarm
  refine answers_of_runCommand h rfl ?_
  dsimp only
  simp only [hy, hne, hlisted, hrole, hsafe, hfree, hroom, coldAuth_unneeded]
  rfl

/-! ## START_REQUEST (R453, R460) -/

/-- The plan that a START_REQUEST asks for (R453, R501). -/
def requestedStart (q : Req) (target : Option Mode) (s : State) : StartPlan :=
  { origin := .request, cold := fld8 q.pay 0 == 1, target := target, at_ := now s + 10 * ms, wasRun := false }

section
variable {m : MbxId} {q : Req} {s : State} {target : Option Mode} (h : InFlight m 0x0203 q s) (htype : fld8 q.pay 0 ≤ 1)
  (htarget : startTargetOf (fld8 q.pay 1) = some target)
  (hman : s.modes.manoeuvring = true → s.modes.mode = .safe ∨ s.modes.mode = .maintenance)
  (hwarm : ¬(fld8 q.pay 0 = 1 ∧ anySafetyTask s = true))
include h htype htarget hman hwarm

/-- A START_REQUEST that its role and the lockout allow plans the start. -/
theorem startRequest_plans (hrole : startLockout s = true → roleIncludes (roleOf q s) 6 = true)
    (hroom : startLockout s = true → auditRoom s = true) :
    Answers (.startRequest m) m s (st stAccepted)
      (let u := if startLockout s then clearLockout q s else s
       { u with modes := { u.modes with plan := some (u.modes.plan.getD (requestedStart q target s)) } }) := by
  have hsafe : (fld8 q.pay 0 == 1 && anySafetyTask s) = false := by simpa using hwarm
  have hcalm : ¬(s.modes.manoeuvring && s.modes.mode != .safe && s.modes.mode != .maintenance) = true := by
    cases hm : s.modes.manoeuvring with
    | false => simp
    | true => rcases hman hm with e | e <;> simp [e]
  refine answers_of_runCommand h rfl ?_
  dsimp only
  simp only [htarget, hsafe, coldAuth_unneeded, if_neg (Nat.not_lt.mpr htype), if_neg hcalm]
  cases hl : startLockout s with
  | false => rfl
  | true =>
    simp only [hrole hl, hroom hl]
    rfl

end

/-- Settles O13. -/
theorem modeSetAndStartRequestAct : Obligations.ModeSetAndStartRequestAct := by
  unfold Obligations.ModeSetAndStartRequestAct
  refine ⟨fun m q s => modeSet_present, ?modeSet, ?start, ?lockout⟩
  case modeSet =>
    intro m q s y h hy hne hlisted hrole hwarm hman hlock hprog hpend hplan hexch hroom
    exact ⟨modeTaken q y s, modeSet_takes h hy hne hlisted hrole hwarm (modeSetRefused_none hman hlock hprog hpend hplan hexch) hroom,
      modeTaken_mode hlisted⟩
  case start =>
    intro m q s target h htype htarget hman hwarm hlock
    have hp := startRequest_plans h htype htarget hman hwarm (by simp [hlock]) (by simp [hlock])
    rwa [hlock] at hp
  case lockout =>
    intro m q s target h htype htarget hman hwarm hlock hrole hroom
    refine ⟨_, startRequest_plans h htype htarget hman hwarm (fun _ => hrole) (fun _ => hroom), ?_⟩
    have hm : (clearLockout q s).modes = s.modes := (clearLockout_within ..).same .modes rfl
    simp only [hlock, if_true, hm]
    rfl

/-! ## AUTH_LOGIN (R464, R526, R578) -/

/-- The fields of R526: METHOD, the ROLE that METHOD 0 and 1 name, and the lengths. -/
def LoginFields (q : Req) : Prop :=
  fld8 q.pay 0 ≤ 2 ∧ (fld8 q.pay 0 = 2 ∨ 1 ≤ fld8 q.pay 1 ∧ fld8 q.pay 1 ≤ 6) ∧ 1 ≤ fld8 q.pay 2 ∧ fld8 q.pay 2 ≤ 32 ∧
    1 ≤ fld8 q.pay 3 ∧ fld8 q.pay 3 ≤ 64

section
variable {m : MbxId} {q : Req} {s : State} {user : List Byte} (h : InFlight m 0x0D01 q s) (hf : LoginFields q)
  (hroom : auditRoom s = true) (huser : user = slice q.pay 4 (fld8 q.pay 2))
include h hf hroom huser

theorem authLogin_grants {r : Nat}
    (hr : loginRole q (fld8 q.pay 0) (fld8 q.pay 1) user (slice q.pay 36 (fld8 q.pay 3)) s = some r) :
    Answers (.authLogin m) m s (ok (le 1 r ++ zeros 3 ++ le 4 (sessionId (mbxSession m) s).toNat))
      (audit 0x0D00 (srcUnit 0x0A) (reqSession q s) user (takeRole q (fld8 q.pay 0) r user s)) := by
  obtain ⟨hmethod, hrole, hu1, hu2, hs1, hs2⟩ := hf
  subst huser
  refine answers_of_runCommand h rfl ?_
  dsimp only
  rw [if_neg (by omega), if_neg (by simp [hroom]), hr]
  simp only [reqSession, h.mbx_eq]

theorem authLogin_fails (hr : loginRole q (fld8 q.pay 0) (fld8 q.pay 1) user (slice q.pay 36 (fld8 q.pay 3)) s = none) :
    Answers (.authLogin m) m s (st stAuthFailed)
      (audit 0x0D31 (srcUnit 0x0A) (reqSession q s) user (countFailure user s)) := by
  obtain ⟨hmethod, hrole, hu1, hu2, hs1, hs2⟩ := hf
  subst huser
  refine answers_of_runCommand h rfl ?_
  dsimp only
  rw [if_neg (by omega), if_neg (by simp [hroom]), hr]

end

/-- A login changes sessions only by giving its own the role. -/
theorem takeRole_host (q : Req) (method role : Nat) (user : List Byte) (s : State) : (takeRole q method role user s).host =
    (sessionMod (mbxSession q.mbx) (fun c => { c with role := BitVec.ofNat 3 role, user := user }) s).host := by
  unfold takeRole
  extract_lets x s1 others m1 s2 m2
  split <;> rfl

theorem takeRole_factory (q : Req) (role : Nat) (user : List Byte) (s : State) :
    (takeRole q 2 role user s).modes.factory.contains (mbxSession q.mbx) = true := by
  simp [takeRole]

theorem sessionOf_of_host {s t : State} (h : t.host = s.host) (x : SessId) : sessionOf x t = sessionOf x s := by
  unfold sessionOf
  rw [h]

/-- A failed login changes no session. -/
theorem countFailure_host (user : List Byte) (s : State) : (countFailure user s).host = s.host := (countFailure_within ..).same .host rfl

/-- The fifth failure within 10 min locks the user out for 15 min (R526). -/
theorem countFailure_locks {user : List Byte} {s : State} (hl : userLocked user s = false) (h : 4 ≤ (userFailures user s).length) :
    (user, now s + 900 * sec) ∈ (countFailure user s).modes.loginLocks := by
  unfold countFailure
  rw [if_neg (by simp [hl])]
  extract_lets ts fails locks
  rw [if_pos (by simp only [ts, List.length_cons]; omega)]
  simp

/-- The three ways in which a login that is not refused succeeds, and the role each grants. -/
theorem loginRole_some {m : MbxId} {q : Req} {s : State} {method role r : Nat} {user secret : List Byte} (hm : q.mbx = m)
    (hfree : userLocked user s = false)
    (h : method = 0 ∧ 1 ≤ role ∧ role ≤ 6 ∧ r = role ∧ s.modes.roleCreds = true ∧ credentialGrants 0 user secret role = true ∨
      method = 1 ∧ (role = 1 ∨ role = 5) ∧ r = role ∧ (∃ n, m = .loc n) ∧ itemsErased s = true ∧
        credentialGrants 1 user secret role = true ∨
      method = 2 ∧ r = 5 ∧ s.modes.life = .manufacture ∧ Config.credentialAllows 2 user secret 5 = true) :
    loginRole q method role user secret s = some r := by
  unfold loginRole
  rw [if_neg (by simp [hfree])]
  obtain ⟨rfl, -, -, rfl, hkept, hgrants⟩ | ⟨rfl, hrole, rfl, ⟨n, hn⟩, herased, hgrants⟩ | ⟨rfl, rfl, hlife, hallows⟩ := h
  · simp [hkept, hgrants]
  · rw [hm, hn]
    simp [hrole, herased, hgrants]
  · simp [hlife, hallows]

/-! ## AUTH_LOGOUT (R477) -/

theorem authLogout_ends {m : MbxId} {q : Req} {s : State} (h : InFlight m 0x0D02 q s) :
    Answers (.authLogout m) m s (ok []) (tryResync (loseRole (mbxSession m) s)) :=
  answers_of_runCommand h rfl (by rw [h.mbx_eq])

/-- Settles O14. -/
theorem sessionsTakeAndLoseRoles : Obligations.SessionsTakeAndLoseRoles := by
  unfold Obligations.SessionsTakeAndLoseRoles
  refine ⟨?granted, ?failed, fun m q s h => ⟨_, authLogout_ends h, ?_⟩⟩
  case granted =>
    intro m q s h hu1 hu2 hs1 hs2 hroom method role user secret hmethod hrole huser hsecret hfree r hr
    have hfields : LoginFields q := by
      rw [hmethod, hrole] at hr
      exact ⟨by omega, by omega, hu1, hu2, hs1, hs2⟩
    have hgrant := loginRole_some h.mbx_eq hfree hr
    subst hmethod hrole hsecret
    refine ⟨_, authLogin_grants h hfields hroom huser hgrant, ?_⟩
    have hsess (y : SessId) := sessionOf_of_host (((audit_within ..).same .host rfl).trans
      (takeRole_host q (fld8 q.pay 0) r user s)) (s := sessionMod _ _ s) (t := audit 0x0D00 (srcUnit 0x0A) (reqSession q s) user _) y
    obtain ⟨b, hb⟩ := h.mailbox
    rw [h.mbx_eq] at hsess
    refine ⟨?_, ?_, fun y hy => ?_, ?_⟩
    · rw [hsess, sessionOf_sessionMod hb]
    · rw [hsess, sessionOf_sessionMod hb]
    · rw [hsess, sessionOf_sessionMod_other hy]
    · by_cases h2 : fld8 q.pay 0 = 2
      · left
        rw [(audit_within ..).same .modes rfl, h2, ← h.mbx_eq, takeRole_factory]
        rfl
      · exact .inr h2
  case failed =>
    intro m q s h hmethod hrole hu1 hu2 hs1 hs2 hroom user huser hnone hfree
    refine ⟨_, authLogin_fails h ⟨hmethod, hrole, hu1, hu2, hs1, hs2⟩ hroom huser hnone, ?_, fun hfour => ?_⟩
    · rw [(audit_within ..).same .host rfl, countFailure_host]
    · rw [(audit_within ..).same .modes rfl]
      exact countFailure_locks hfree hfour
  · obtain ⟨b, hb⟩ := h.mailbox
    rw [((tryResync_within _).sessionsKept rfl).sess]
    exact loseRole_own hb

end Sys2Proof.Machine

namespace Sys2Proof.Machine

/-! The events of a panel (R404, R405, R408, R410, R413 to R418): frame starts, temperature reads, bands, power, idle cleans and
checkpoints. -/

/-! ## The events of a panel, by name -/

theorem exec_panelFrameStart (p : Fin 2) (s : State) : exec (.panelFrameStart p) s = execPanelFrameStart p s := rfl

theorem exec_panelTempRead (p : Fin 2) (r : Option (BitVec 16)) (s : State) : exec (.panelTempRead p r) s = execPanelTempRead p r s := rfl

theorem exec_panelBandHold (p : Fin 2) (s : State) : exec (.panelBandHold p) s = execPanelBandHold p s := rfl

theorem exec_pwrGoodRise (p : Fin 2) (confirmed : Bool) (s : State) : exec (.pwrGoodRise p confirmed) s = execPwrGoodRise p confirmed s := rfl

theorem exec_pwrGoodTimeout (p : Fin 2) (s : State) : exec (.pwrGoodTimeout p) s = execPwrGoodTimeout p s := rfl

theorem exec_pwrGoodLow (p : Fin 2) (s : State) : exec (.pwrGoodLow p) s = execPwrGoodLow p s := rfl

theorem exec_panelPowerOff (p : Fin 2) (s : State) : exec (.panelPowerOff p) s = execPanelPowerOff p s := rfl

theorem exec_panelCleanIdle (p : Fin 2) (s : State) : exec (.panelCleanIdle p) s = execPanelCleanIdle p s := rfl

theorem exec_panelCheckpointWritten (p : Fin 2) (id : Nat) (s : State) : exec (.panelCheckpointWritten p id) s = execPanelCheckpointWritten p id s := rfl

/-! ## One panel -/

@[simp] theorem panelAt_panelMod (p : Fin 2) (f : Panel → Panel) (s : State) : panelAt p (panelMod p f s) = f (panelAt p s) :=
  vget_vmod_same _ _ _ _ p.isLt

theorem panelAt_of_panel {s t : State} (h : t.panel = s.panel) (p : Nat) : panelAt p t = panelAt p s := by
  unfold panelAt
  rw [h]

/-- A frame without the panels. -/
theorem Within.panelAt_eq {ps : List Part} {s t : State} (h : Within ps s t) (c : ps.contains .panel = false) (p : Nat) :
    panelAt p t = panelAt p s := panelAt_of_panel (h.same .panel c) p

@[simp] theorem panelAt_withUpdates (p : Nat) (us : List Update) (s : State) : panelAt p { s with updates := us } = panelAt p s := rfl

@[simp] theorem panelAt_nextFree (p : Nat) (s : State) : panelAt p (nextFree s) = panelAt p s := rfl

@[simp] theorem panelAt_record (p sev code src data s) : panelAt p (record sev code src data s) = panelAt p s :=
  (record_within ..).panelAt_eq rfl p

@[simp] theorem runningOf_panelMod (k : Nat) (f : Panel → Panel) (p : Nat) (s : State) : runningOf k (panelMod p f s) = runningOf k s := rfl

/-! ## Power faults (R415, R416) -/

/-- A panel whose power is removed with a fault. -/
def unpowered (q : Panel) : Panel := { q with pwrEn := false, pwrGood := false, confirmed := false, framing := false, powerFault := true }

theorem panelAt_panelPowerFault (p : Fin 2) (s : State) : panelAt p (panelPowerFault p s) = unpowered (panelAt p s) := by
  unfold panelPowerFault panelOff
  simp only [panelAt_record, panelAt_panelMod]
  rfl

theorem panelPowerFault_updates (p : Nat) (s : State) : (panelPowerFault p s).updates = s.updates :=
  (panelPowerFault_within p s).same .updates rfl

/-- A record about a changed panel leaves all else. -/
theorem record_panelMod_eq (sev code src data) (p : Nat) (f : Panel → Panel) (s : State) :
    record sev code src data (panelMod p f s) = { s with
      panel := (record sev code src data (panelMod p f s)).panel
      recorder := (record sev code src data (panelMod p f s)).recorder } := by
  rw [record_eq]
  rfl

/-! ## Bands (R414, R415) -/

/-- What a change of band leaves of a panel: its power may be removed. -/
def Banded (q r : Panel) : Prop :=
  let x := { q with band := q.meas, held := false, differs := none }
  r = x ∨ r = unpowered x

/-- A change of band of a panel with nothing in flight. -/
theorem changeBand_idle (p : Fin 2) {s : State} (h : runningOf p s = []) :
    Banded (panelAt p s) (panelAt p (changeBand p s)) ∧ (changeBand p s).updates = s.updates := by
  unfold changeBand
  extract_lets q
  rw [if_neg (by simp [h])]
  rename_i t
  have ht : panelAt p t = { q with band := q.meas, held := false, differs := none } := panelAt_panelMod ..
  split
  · exact ⟨.inl ht, rfl⟩
  split
  · exact ⟨.inl ht, rfl⟩
  · refine ⟨.inr ?_, panelPowerFault_updates ..⟩
    rw [panelAt_panelPowerFault, panelAt_nextFree, ht]

/-! ## PANEL_FRAME_START (R404, R416) -/

theorem panelFrameStart_disabled {p : Fin 2} {s : State} (h : panelEnabled (panelAt p s).rcd = false) :
    exec (.panelFrameStart p) s = .next s := by
  simp only [exec_panelFrameStart, execPanelFrameStart]
  rw [if_pos (by simp [h])]

section
variable {p : Fin 2} {s : State}

/-- With nothing in flight, the flights' end changes only pixels. -/
theorem endFlights_idle (h : runningOf p s = []) : endFlights p s =
    panelMod p (fun q => { q with pix := tabMap pixelReset (fun _ x => endFlight x) q.pix }) s := by
  simp only [endFlights, runningOf_panelMod, h, List.foldl_nil]

theorem panelIdleWork_idle (h : runningOf p s = []) (hrcd : (panelAt p s).newRcd = none) : panelIdleWork p s = changeBand p s := by
  simp only [panelIdleWork, h, hrcd]
  rfl

/-- The first frame start of a panel with work, nothing in flight and its power off requests the power. -/
theorem frameStart_powersOn (hoff : (panelAt p s).pwrEn = false) (hrcd : (panelAt p s).newRcd = none) (hidle : runningOf p s = [])
    (hwork : panelWork p s = true) :
    ∃ t, frameStart p s = panelMod p (fun q => { q with pwrEn := true, enabledAt := now s, framing := false }) t ∧
      t.updates = s.updates := by
  have he := endFlights_idle hidle
  have hidle' : runningOf p (endFlights p s) = [] := by rw [he, runningOf_panelMod, hidle]
  have hat : panelAt p (endFlights p s) = { panelAt p s with pix := tabMap pixelReset (fun _ x => endFlight x) (panelAt p s).pix } := by
    rw [he, panelAt_panelMod]
  obtain ⟨hband, hupd⟩ := changeBand_idle p hidle'
  unfold frameStart
  rw [panelIdleWork_idle hidle' (by rw [hat, hrcd])]
  extract_lets t q
  have hupd' : t.updates = s.updates := hupd.trans (by rw [he]; rfl)
  have hen : q.pwrEn = false := by
    rw [hat] at hband
    obtain e | e := hband
    · exact (congrArg Panel.pwrEn e).trans hoff
    · exact congrArg Panel.pwrEn e
  have hwork' : panelWork p t = true := by
    unfold panelWork runningOf updatesOf at hwork ⊢
    rw [hupd', hwork]
  refine ⟨t, ?_, hupd'⟩
  rw [if_neg (by simp [hwork']), if_pos (by simp [hen])]

theorem panelFrameStart_powersOn (hmode : s.modes.mode ≠ .plinth) (hfail : s.power.powerFail = false)
    (hen : panelEnabled (panelAt p s).rcd = true) (hheld : panelHeldDown p.val s = false) (hframe : (panelAt p s).framing = false)
    (hoff : (panelAt p s).pwrEn = false) (hrcd : (panelAt p s).newRcd = none) (hidle : runningOf p s = []) (hwork : panelWork p s = true) :
    ∃ u, exec (.panelFrameStart p) s = .next u ∧ (panelAt p u).pwrEn = true ∧ (panelAt p u).enabledAt = now s ∧
      (panelAt p u).framing = false ∧ u.updates = s.updates := by
  obtain ⟨t, ht, hupd⟩ := frameStart_powersOn hoff hrcd hidle hwork
  refine ⟨frameStart p s, ?_, ?_⟩
  · simp only [exec_panelFrameStart, execPanelFrameStart]
    rw [if_neg (by simp [hmode, hfail, hen, hheld]), if_neg (by simp [hframe])]
  · rw [ht, panelAt_panelMod]
    exact ⟨rfl, rfl, rfl, hupd⟩

end

/-! ## PANEL_TEMP_READ, PANEL_BAND_HOLD (R414, R415) -/

/-- What a reading leaves of the temperature and of the count of failed reads. -/
def heldReading (q : Panel) : BitVec 16 × Option Nat × Bool × Nat := (q.temp, q.tempAt, q.tempFault, q.tempFails)

/-- What the measured band asks for leaves the reading. -/
theorem followBand_heldReading (p : Fin 2) (s : State) : heldReading (panelAt p (followBand p s)) = heldReading (panelAt p s) := by
  unfold followBand
  extract_lets q
  split
  · rw [panelAt_panelMod]; rfl
  split
  · rename_i h
    obtain e | e := (changeBand_idle p h).1 <;> rw [e] <;> rfl
  · rename_i t u v _ _
    have ht : heldReading (panelAt p t) = heldReading (panelAt p s) := by simp only [t, panelAt_panelMod]; rfl
    have hv : heldReading (panelAt p v) = heldReading (panelAt p s) := by
      have hat : panelAt p v = { panelAt p t with excursion := true, held := true } := panelAt_panelMod p _ t
      rw [hat, ← ht]
      rfl
    split
    · exact ht
    split
    · exact hv
    · rw [panelAt_record, hv]

section
variable {p : Fin 2} {s : State} (hmode : s.modes.mode ≠ .plinth) (hen : panelEnabled (panelAt p s).rcd = true)
  (hupd : updatesOf p s ≠ []) (hdue : due (panelAt p s).tempAt sec (now s) = true)
include hmode hen hupd hdue

theorem panelTempRead_holds (v : BitVec 16) : ∃ u, exec (.panelTempRead p (some v)) s = .next u ∧
    heldReading (panelAt p u) = (panelReading (panelAt p s).rcd v, some (now s), false, 0) := by
  simp only [exec_panelTempRead, execPanelTempRead]
  rw [if_neg (by simp [hmode, hen, hupd, hdue])]
  refine ⟨_, rfl, ?_⟩
  rw [followBand_heldReading, panelAt_panelMod]
  rfl

theorem panelTempRead_fails : ∃ u, exec (.panelTempRead p none) s = .next u ∧
    u = { s with panel := u.panel, recorder := u.recorder } ∧
    panelAt p u = { panelAt p s with
      i2cError := true
      tempFails := (panelAt p s).tempFails + 1
      tempFault := (panelAt p s).tempFault || decide (2 ≤ (panelAt p s).tempFails)
      tempAt := some (now s) } := by
  simp only [exec_panelTempRead, execPanelTempRead]
  rw [if_neg (by simp [hmode, hen, hupd, hdue])]
  split
  · refine ⟨_, rfl, record_panelMod_eq .., ?_⟩
    rw [panelAt_record, panelAt_panelMod]
  · exact ⟨_, rfl, rfl, panelAt_panelMod ..⟩

end

/-- What waits for the flights of a panel waits on (R405, R414). -/
theorem panelIdleWork_flying {p : Nat} {s : State} (h : runningOf p s ≠ []) : panelIdleWork p s = s := by
  unfold panelIdleWork
  rw [if_pos (by simpa using h)]

theorem panelBandHold_waits {p : Fin 2} {s : State} {x : Nat} (hx : (panelAt p s).differs = some x) (ht : x + 10 * sec ≤ now s)
    (hrun : runningOf p s ≠ []) : exec (.panelBandHold p) s = .next (panelMod p (fun q => { q with held := true }) s) := by
  simp only [exec_panelBandHold, execPanelBandHold, hx, if_pos ht]
  rw [panelIdleWork_flying (by rwa [runningOf_panelMod])]

/-! ## The panel's power (R416, R417) -/

section
variable {p : Fin 2} {s : State}

theorem pwrGoodRise_confirms (hen : (panelAt p s).pwrEn = true) (hgood : (panelAt p s).pwrGood = false) : exec (.pwrGoodRise p true) s =
    .next (panelMod p (fun q => { q with pwrGood := true, confirmed := true, enabledAt := now s }) s) := by
  simp only [exec_pwrGoodRise, execPwrGoodRise]
  rw [if_neg (by simp [hen, hgood])]
  rfl

theorem pwrGoodRise_removes (hen : (panelAt p s).pwrEn = true) (hgood : (panelAt p s).pwrGood = false) :
    exec (.pwrGoodRise p false) s = .next (panelPowerFault p s) := by
  simp only [exec_pwrGoodRise, execPwrGoodRise]
  rw [if_neg (by simp [hen, hgood])]
  rfl

theorem pwrGoodTimeout_removes (hen : (panelAt p s).pwrEn = true) (hgood : (panelAt p s).pwrGood = false)
    (ht : (panelAt p s).enabledAt + fld16 (panelAt p s).rcd 24 * ms ≤ now s) :
    exec (.pwrGoodTimeout p) s = .next (panelPowerFault p s) := by
  simp only [exec_pwrGoodTimeout, execPwrGoodTimeout]
  rw [if_pos (by simp [hen, hgood, ht])]

/-- The loss of the good line in a frame removes the power with a fault, whatever the updates in flight become. -/
theorem pwrGoodLow_removes (hframe : (panelAt p s).framing = true) (hgood : (panelAt p s).pwrGood = true) :
    ∃ t, exec (.pwrGoodLow p) s = .next (panelPowerFault p t) := by
  simp only [exec_pwrGoodLow, execPwrGoodLow]
  rw [if_neg (by simp [hframe, hgood])]
  exact ⟨_, rfl⟩

theorem pwrGoodRise_good (confirmed : Bool) (hgood : (panelAt p s).pwrGood = true) : exec (.pwrGoodRise p confirmed) s = .next s := by
  simp only [exec_pwrGoodRise, execPwrGoodRise]
  rw [if_pos (.inr hgood)]

theorem pwrGoodTimeout_good (hgood : (panelAt p s).pwrGood = true) : exec (.pwrGoodTimeout p) s = .next s := by
  simp only [exec_pwrGoodTimeout, execPwrGoodTimeout]
  rw [if_neg (by simp [hgood])]

theorem pwrGoodLow_idle (hframe : (panelAt p s).framing = false) : exec (.pwrGoodLow p) s = .next s := by
  simp only [exec_pwrGoodLow, execPwrGoodLow]
  rw [if_pos (by simp [hframe])]

theorem panelPowerOff_idle (hpow : panelPowered (panelAt p s) (now s) = true) (hframe : (panelAt p s).framing = false)
    (ht : max (panelAt p s).lastFrame (panelAt p s).enabledAt + fld16 (panelAt p s).rcd 26 * ms ≤ now s) :
    exec (.panelPowerOff p) s = .next (panelOff p s) := by
  simp only [exec_panelPowerOff, execPanelPowerOff]
  rw [if_pos (by simp only [hpow, hframe, ht]; rfl)]

theorem panelPowerOff_framing (hframe : (panelAt p s).framing = true) : exec (.panelPowerOff p) s = .next s := by
  simp only [exec_panelPowerOff, execPanelPowerOff]
  rw [if_neg (by simp [hframe])]

end

/-! ## PANEL_CLEAN_IDLE (R413) -/

theorem panelCleanIdle_queues {p : Fin 2} {s : State} {x y w h : Nat} (hen : panelEnabled (panelAt p s).rcd = true)
    (hrule : fld16 (panelAt p s).rcd 28 ≠ 0) (ht : (panelAt p s).lastUpdate + fld16 (panelAt p s).rcd 28 * sec ≤ now s)
    (hidle : updatesOf p s = []) (hfree : slotsFull s = false) (hrect : markedRect (panelAt p s) = some (x, y, w, h)) :
    exec (.panelCleanIdle p) s = .next (queueUpdate p 3 x y w h (rectLevels p x y w h s) false s) := by
  simp only [exec_panelCleanIdle, execPanelCleanIdle]
  rw [if_pos ⟨hen, hrule, ht, hidle, by simp [hfree]⟩, hrect]

/-! ## PANEL_CHECKPOINT_WRITTEN (R410, R418) -/

/-- While a retained commit is queued or a loop checkpoint is due, or no update is CHECKPOINTING under the identity, nothing is written. -/
theorem panelCheckpointWritten_waits {p : Fin 2} {s : State} {id : Nat}
    (h : (∀ u ∈ updatesOf p s, u.id ≠ id) ∨ s.retained.queue ≠ [] ∨ s.loop.dirty = true) :
    exec (.panelCheckpointWritten p id) s = .next s := by
  have hnone : (updatesOf p s).find? (fun u => u.id == id && u.st == .checkpointing && s.retained.queue.isEmpty && !s.loop.dirty) = none := by
    rw [List.find?_eq_none]
    intro u hu
    obtain h | h | h := h
    · simp [h u hu]
    · simp [h]
    · simp [h]
  simp only [exec_panelCheckpointWritten, execPanelCheckpointWritten, hnone]

theorem panelCheckpointWritten_ends {p : Fin 2} {s : State} {id : Nat} {v : Update} (hq : s.retained.queue = []) (hd : s.loop.dirty = false)
    (hv : (updatesOf p s).find? (fun u => u.id == id && u.st == .checkpointing) = some v) :
    ∃ u, exec (.panelCheckpointWritten p id) s = .next u ∧ u.updates = s.updates.filter (fun w => w.order != v.order) ∧
      (panelAt p u).completed = ((id, false) :: (panelAt p s).completed).take 32 ∧
      (panelAt p u).intents = (panelAt p s).intents.filter (fun i => i.id != id) ∧
      u = { s with panel := u.panel, updates := u.updates } := by
  have hfind : (updatesOf p s).find? (fun u => u.id == id && u.st == .checkpointing && s.retained.queue.isEmpty && !s.loop.dirty) = some v := by
    simpa [hq, hd] using hv
  simp only [exec_panelCheckpointWritten, execPanelCheckpointWritten, hfind]
  refine ⟨_, rfl, rfl, ?_, ?_, rfl⟩
  · simp only [completeUpdate, panelAt_panelMod, panelAt_withUpdates]
  · simp only [completeUpdate, panelAt_panelMod, panelAt_withUpdates]

/-- Settles O49. -/
theorem panelsAreDrivenPoweredAndCleaned : Obligations.PanelsAreDrivenPoweredAndCleaned := by
  unfold Obligations.PanelsAreDrivenPoweredAndCleaned
  refine ⟨?disabled, ?powersOn, ?reads, ?hold, ?power, ?clean, ?checkpoint, fun p s id => panelCheckpointWritten_waits⟩
  case disabled =>
    intro p s hen
    refine ⟨panelFrameStart_disabled hen, fun r => ?_, ?_⟩
    · simp only [exec_panelTempRead, execPanelTempRead]
      rw [if_pos (by simp [hen])]
    · simp only [exec_panelCleanIdle, execPanelCleanIdle]
      rw [if_neg (by simp [hen])]
  case powersOn =>
    rintro p s q rfl hmode hfail hen hheld hframe hoff hrcd hidle hwork
    exact panelFrameStart_powersOn hmode hfail hen hheld hframe hoff hrcd hidle hwork
  case reads =>
    rintro p s q rfl hmode hen hupd hdue
    refine ⟨fun v => ?_, ?_⟩
    · obtain ⟨u, hu, hread⟩ := panelTempRead_holds hmode hen hupd hdue v
      simp only [heldReading, Prod.mk.injEq] at hread
      exact ⟨u, hu, hread⟩
    · obtain ⟨u, hu, hw, hat⟩ := panelTempRead_fails hmode hen hupd hdue
      exact ⟨u, hu, hw, by rw [hat], by rw [hat], by rw [hat]⟩
  case hold =>
    intro p s x hx
    refine ⟨panelBandHold_waits hx, fun ht => ?_⟩
    simp only [exec_panelBandHold, execPanelBandHold, hx]
    rw [if_neg (by omega)]
  case power =>
    rintro p s q rfl
    refine ⟨fun hen hgood => ⟨pwrGoodRise_confirms hen hgood, ?_, fun ht => ?_⟩, fun hframe hgood => ?_,
      fun hgood => ⟨pwrGoodRise_good true hgood, pwrGoodTimeout_good hgood⟩, pwrGoodLow_idle, panelPowerOff_idle, panelPowerOff_framing⟩
    · refine ⟨_, pwrGoodRise_removes hen hgood, record_panelMod_eq .., ?_, ?_⟩ <;> rw [panelAt_panelPowerFault] <;> rfl
    · refine ⟨_, pwrGoodTimeout_removes hen hgood ht, panelPowerFault_updates .., ?_, ?_⟩ <;> rw [panelAt_panelPowerFault] <;> rfl
    · obtain ⟨t, ht⟩ := pwrGoodLow_removes hframe hgood
      refine ⟨_, ht, ?_, ?_, ?_⟩ <;> rw [panelAt_panelPowerFault] <;> rfl
  case clean =>
    rintro p s q x y w h rfl hen hrule ht hidle hfree hrect
    exact ⟨_, _, panelCleanIdle_queues hen hrule ht hidle hfree hrect, rfl, rfl, rfl, rfl, rfl, rfl, rfl, rfl⟩
  case checkpoint =>
    intro p s id v hq hd hv
    obtain ⟨u, hu, hupd, hcomp, hint, hrest⟩ := panelCheckpointWritten_ends hq hd hv
    refine ⟨u, hu, fun w => ?_, hcomp, fun i hi => ?_, hrest⟩
    · rw [hupd]
      simp
    · rw [hint] at hi
      simpa using (List.mem_filter.mp hi).2

end Sys2Proof.Machine
